-- ==== Sys2Proof/Word.lean ====
section
/-!
DEFINITION. The word of the register fabric and its plainest arithmetic: 32-bit words, 24-bit byte addresses kept as naturals.
-/

namespace Sys2Proof

/-- A word of the register fabric (R276). -/
abbrev Word := BitVec 32

/-- `v` read as a two's complement number of `w` bits. -/
def toSigned (w v : Nat) : Int := if 2 ^ w ≤ 2 * v then (v : Int) - 2 ^ w else v

/-- The two's complement encoding of `i` in `w` bits. -/
def ofSigned (w : Nat) (i : Int) : Nat := (i % 2 ^ w).toNat

/-- `x` limited to `lo`–`hi`. -/
def clampNat (lo hi x : Nat) : Nat := max lo (min hi x)

/-- `x` limited to `lo`–`hi`. -/
def clampInt (lo hi x : Int) : Int := max lo (min hi x)

/-- `x + k`, saturating at `top`. -/
def satAdd (top x k : Nat) : Nat := min top (x + k)

/-- The lowest natural below `n` that satisfies `p`. -/
def lowest (n : Nat) (p : Nat → Bool) : Option Nat := (List.range n).find? p

/-- The highest natural below `n` that satisfies `p`. -/
def highest (n : Nat) (p : Nat → Bool) : Option Nat := (List.range n).reverse.find? p

end Sys2Proof
end

