-- ==== Sys2Proof/Syntax.lean ====
section
/-!
DEFINITION. The commands of the block: one constructor of `Instr` for each row of the opcode table, with the register words, the
received data and the measurements that its rule names as operands.
-/

namespace Sys2Proof

/-- The receive paths, in the order of R23's target code (R26). -/
inductive Path where
  | lf | fm | b3
  deriving DecidableEq, Repr

/-- The two VHF paths, the only ones with a tile mode (R26, R32). -/
inductive Vhf where
  | fm | b3
  deriving DecidableEq, Repr

/-- The LO synthesisers: LOF of the FM path and LOB of the B3 path (R26). -/
inductive Lo where
  | lof | lob
  deriving DecidableEq, Repr

/-- The three loops of chapter 3. -/
inductive Loop where
  | plls | lof | lob
  deriving DecidableEq, Repr

/-- The host ports; an access names the one it came over (R276). -/
inductive Port where
  | spi | twoWire
  deriving DecidableEq, Repr

/-- The survey result windows: one per snapshot kind (R96). -/
inductive MapSel where
  | fm | b3 | lf
  deriving DecidableEq, Repr

/-- What one path measured over the epoch that ends at a boundary (R30, R32, R35, R36, R81, R84). -/
structure PathObs where
  /-- Converter peak in 0.01 dBFS (R30). -/
  peak : Int := -9000
  /-- Samples that clipped (R36). -/
  clips : Nat := 0
  /-- Samples the rank filter replaced (R36). -/
  spikes : Nat := 0
  /-- Saturations of word-length reductions (R84). -/
  sats : Nat := 0
  /-- Wideband detector, 0.25 dBµV (R36). -/
  wideband : Int := 0
  /-- Strongest signal inside the tile, 0.25 dBµV EMF (R32). -/
  inTile : Int := -32768
  /-- Strongest signal at RF_IN on the path, 0.25 dBµV (R35). -/
  strongest : Int := -32768
  /-- Wanted moves of the two offset trims, 1/16 LSB (R81). -/
  trimI : Int := 0
  trimQ : Int := 0
  /-- The raw codes of the path's converters at the ticks of the epoch in order, I and Q (R30, R81); an LF code stands in I. Where the
  environment brings none, `peak`, `clips`, `spikes`, `sats` and `bins` say what came of them. -/
  adc : List (Int × Int) := []
  /-- Power of FFT bins over the epoch's usable transforms (R91): bin, and the sum in units of 2⁻⁴⁶ of a continuous sine at normaliser
  value 1.0, corrected for window energy (R93). -/
  bins : List (Nat × Nat) := []
  deriving DecidableEq, Repr

/-- The audio of one epoch from a decoder (R184, R209) or from a pair of AIP0 (R269), 48 frames: lane 14–19 and selection, or lane 255 and
pair; of a mono service only the left value counts. For lane 0–13 it stands for the lane's audio where no samples are brought. -/
structure AudioObs where
  lane : Nat
  sel : Nat := 0
  mono : Bool := false
  frames : List (Int × Int)
  deriving DecidableEq, Repr

/-- One source's report over an estimator window (R128): lane index, error in ppb, valid frames and SNR in 0.25 dB. -/
structure OfsObs where
  lane : Nat
  err : Int
  frames : Nat
  snr : Int
  deriving DecidableEq, Repr

/-- What an FM full lane measured over the epoch just ended (R144); levels in 0.25 dB, deviations in 0.1 kHz. -/
structure FmObs where
  lane : Nat
  level : Int := -32768
  cnr : Int := 0
  multipath : Nat := 0
  adj : Int := 0
  fofs : Int := 0
  dev : Nat := 0
  pilot : Nat := 0
  /-- Upper streams whose subcarrier detector shows a carrier (R149). -/
  carriers : List Nat := []
  deriving DecidableEq, Repr

/-- What an AM full lane measured over the epoch just ended (R165, R167, R169). -/
structure AmObs where
  lane : Nat
  level : Int := -32768
  cnr : Int := 0
  mod : Nat := 0
  adj : Int := 0
  fofs : Int := 0
  /-- Carrier to noise in ±25 Hz, 0.25 dB (R165). -/
  carrier : Int := -400
  blanks : Nat := 0
  blanked : Nat := 0
  /-- More than 20 % of the epoch's samples would be replaced (R167). -/
  nbOver : Bool := false
  deriving DecidableEq, Repr

/-- What a watch entry measured over the epoch just ended: level (R156), for an AM entry its CNR and carrier to noise (R174). -/
structure WatchObs where
  lane : Nat
  level : Int := -32768
  cnr : Int := 0
  carrier : Int := -400
  deriving DecidableEq, Repr

/-- A received RDS block (R147): the demodulated subcarrier over the first and the second half of each of its 26 bits, first bit first,
and whether its group is of RDS2's type C. -/
structure RdsObs where
  halves : List (Int × Int)
  typeC : Bool := false
  deriving DecidableEq, Repr

/-- Which watch table an ASSIGN register belongs to. -/
inductive WatchTable where
  | rds | fic | am
  deriving DecidableEq, Repr

/-- A received AMSS block (R171): check passed, its information bits and their number, and for an identifier block the service
identifier and language code it carries. -/
structure AmssObs where
  ok : Bool
  bits : Nat := 0
  len : Nat := 0
  ident : Option (Nat × Nat) := none
  deriving DecidableEq, Repr

/-- A service as a DRM multiplex describes it (R181, R191). -/
structure DrmSvcObs where
  shortId : Nat
  sid : Nat
  audio : Bool := true
  ca : Bool := false
  lang : Nat := 0
  pty : Nat := 0
  codec : Nat := 7
  sbr : Bool := false
  ps : Bool := false
  /-- Label, UTF-8 bytes, where the SDC of this frame carried it. -/
  label : Option (List Nat) := none
  deriving DecidableEq, Repr

/-- The channel parameters of the FAC (R190). -/
structure DrmFac where
  mode : Nat
  occ : Nat := 0
  shortIl : Bool := false
  mscQam : Nat := 0
  sdcQam : Nat := 0
  services : Nat := 0
  reconfig : Bool := false
  deriving DecidableEq, Repr

/-- A text message segment set completed, or its toggle changed (R185). -/
structure DrmText where
  shortId : Nat
  toggle : Bool
  /-- The message once every segment has passed its CRC. -/
  bytes : Option (List Nat) := none
  deriving DecidableEq, Repr

/-- A packet-mode data unit or data group: its selection, whether it came in X-PAD, its address of R214, CRC passed, bytes. -/
structure DataObs where
  sel : Nat
  pad : Bool := false
  addr : Nat := 0
  ok : Bool := true
  bytes : List (BitVec 8) := []
  deriving DecidableEq, Repr

/-- One DRM transmission frame (R179 to R182, R185): readings, FAC, SDC and what they carried; `none` where no CRC passed. -/
structure DrmObs where
  /-- A GAP hid the frame's FAC (R122). -/
  gap : Bool := false
  fac : Option DrmFac := none
  /-- An SDC was received: passed its CRC, and carried these services. -/
  sdc : Option (Bool × List DrmSvcObs) := none
  /-- A new configuration applies on this super frame (R181). -/
  newConfig : Bool := false
  /-- AFC correction of this frame as an NCO word delta (R126). -/
  afc : Word := 0
  level : Int := -32768
  mer : Int := 0
  wmer : Int := 0
  fofs : Int := 0
  doppler : Nat := 0
  delay : Nat := 0
  time : Option (Nat × Nat × Nat) := none
  texts : List DrmText := []
  data : List DataObs := []
  deriving DecidableEq, Repr

/-- A sub-channel's organisation (FIG 0/1, R223). -/
structure SubChannel where
  id : Nat
  start : Nat
  size : Nat
  level : Nat := 3
  eep : Bool := true
  eepB : Bool := false
  kbps8 : Nat := 0
  deriving DecidableEq, Repr

/-- A component of a service (FIGs 0/2, 0/3, 0/8): its SCIdS, TMId, ASCTy or DSCTy, sub-channel, CA flag, and for packet mode its
packet address. -/
structure Component where
  scids : Nat := 0
  tmid : Nat := 0
  type : Nat := 63
  subch : Nat := 0
  ca : Bool := false
  packet : Nat := 0
  /-- The DSCTy is one the device knows (R205). -/
  known : Bool := true
  deriving DecidableEq, Repr

/-- A member identifier of a linkage set or PIB class (R224, R232). -/
structure LinkMember where
  id : Nat
  kind : Nat
  ecc : Option Nat := none
  deriving DecidableEq, Repr

/-- The FIGs of R200 that a FIB with a valid CRC can carry. -/
inductive Fig where
  /-- FIG 0/0: EId, Al, change flags, CIF count, and the CIF count at which an announced reconfiguration applies. -/
  | ensemble (eid : Nat) (al : Bool) (flags cif : Nat) (change : Option Nat)
  /-- FIG 0/1, current or next. -/
  | subch (next : Bool) (s : SubChannel)
  /-- FIG 0/2, current or next, with the components of the service (0/3 and 0/8 filled in). -/
  | service (next : Bool) (sid : Nat) (data : Bool) (comps : List Component)
  /-- FIG 0/6: linkage set, its actuator, members and change event indication. -/
  | linkage (lsn : Nat) (hard ils : Bool) (key : Nat) (active cei : Bool) (members : List LinkMember)
  /-- FIG 0/7: services of the configuration and reconfiguration count. -/
  | config (services count : Nat)
  /-- FIG 0/9: ECC and local time offset. -/
  | country (ecc : Nat) (lto : Int)
  /-- FIG 0/10: date and time; seconds and ms in the long form. -/
  | time (mjd hour minute : Nat) (long : Option (Nat × Nat))
  /-- FIG 0/13: user application types of a component. -/
  | userApps (sid scids : Nat) (apps : List Nat)
  /-- FIG 0/14: FEC scheme of a sub-channel in packet mode. -/
  | packetFec (subch scheme : Nat)
  /-- FIG 0/17: programme type. -/
  | pty (sid pty : Nat)
  /-- FIG 0/18: announcement support. -/
  | asu (sid flags : Nat)
  /-- FIG 0/19: announcement switching: cluster, flags, sub-channel. -/
  | asw (cluster flags subch : Nat)
  /-- FIG 1/0: ensemble label. -/
  | ensLabel (charset mask : Nat) (bytes : List Nat)
  /-- FIGs 1/1 and 1/5: service label. -/
  | svcLabel (sid charset mask : Nat) (bytes : List Nat)
  /-- FIG 1/4: component label. -/
  | compLabel (sid scids charset mask : Nat) (bytes : List Nat)
  /-- Any other FIG, which is discarded. -/
  | other
  deriving DecidableEq, Repr

/-- Checks of a packet-mode selection over a frame (R219): packets that passed and failed their CRC, bytes corrected and rows
uncorrectable by packet FEC. -/
structure PacketObs where
  sel : Nat
  ok : Nat := 0
  fail : Nat := 0
  corrected : Nat := 0
  uncorrectable : Nat := 0
  deriving DecidableEq, Repr

/-- One 96 ms frame of a DAB engine or FIC watch entry (R197 to R199). -/
structure DabObs where
  /-- Tick of the first sample of the frame's null symbol. -/
  start : Nat := 0
  null : Bool := true
  /-- CRC outcomes of the frame's FIBs. -/
  fibs : List Bool := []
  /-- AFC correction of the frame as an NCO word delta (R126). -/
  afc : Word := 0
  level : Int := -32768
  snr : Int := 0
  fofs : Int := 0
  cber : Nat := 0
  delay : Nat := 0
  /-- Target FFT window position relative to that at root (R198). -/
  target : Int := 0
  packets : List PacketObs := []
  data : List DataObs := []
  deriving DecidableEq, Repr

/-- A dynamic-label outcome of a frame (R210): segment complete, toggle changed or label removed. -/
inductive DlsObs where
  | label (toggle : Bool) (bytes : List Nat)
  | toggle (toggle : Bool)
  | remove
  deriving DecidableEq, Repr

/-- One DAB+ superframe (R208): the CIF phase it was read at and the firecode there, the RS codewords by their bytes in error and their
erased bytes, access-unit results, its header, label and data. -/
structure SuperframeObs where
  phase : Nat := 0
  firecode : Bool := true
  words : List (Nat × Nat) := []
  /-- CRC outcomes of the access units, in order, and ms of audio in each. -/
  aus : List Bool := []
  auMs : Nat := 40
  rate : Nat := 0
  sbr : Bool := false
  ps : Bool := false
  stereo : Bool := false
  dls : List DlsObs := []
  data : List DataObs := []
  deriving DecidableEq, Repr

/-- What a source's audio showed over the epoch just ended: its entry, whether frames were received in full (AIP0), and in each of the
eight sub-bands its correlation with the best source (× 1000) and its linear SNR estimate (R246). -/
structure SrcObs where
  pgm : Nat
  src : Nat
  whole : Bool := true
  corrs : List Nat := []
  snrs : List Nat := []
  /-- Values of the source's loudness contour formed in the epoch, 0.01 dB, newest first (R236), where its audio is not brought. -/
  contour : List Int := []
  deriving DecidableEq, Repr

/-- A fine search of a source (R237): arrival in 1/256 sample on the slot's scale, correlation × 1000, and drift in 0.1 ppm. -/
structure FineObs where
  pgm : Fin 4
  src : Fin 4
  arrival : Int
  corr : Nat
  drift : Int := 0
  deriving DecidableEq, Repr

/-- What is seen at one frame start of a port (R260, R261, R268, R269, R271): BCLK periods since the previous start; for an output,
whether a frame due at this start stood in the FIFO and how many had to be discarded late; for AIP0, whether the FIFO was full, how
many frames were missing when the converter needed them, and the received slots. -/
structure FrameObs where
  bclks : Nat := 64
  due : Bool := true
  late : Nat := 0
  full : Bool := false
  missing : Nat := 0
  slots : List Word := []
  deriving DecidableEq, Repr

/-- How a two-wire transfer was cut off (R307): by a START or STOP inside a byte, by one after part of a word, or by a repeated START
in the acknowledge slot of a byte that the target chose to NACK. -/
inductive TwtAbort where
  | inByte | inWord | nackRestart
  deriving DecidableEq, Repr

/-- What a two-wire transfer had moved by then: the bytes a write sent after the address byte, or the number a read delivered. -/
inductive TwtDir where
  | write (data : List (BitVec 8))
  | read (count : Nat)
  deriving DecidableEq, Repr

/-- What the auxiliary controller found when it was about to start a work item (R321, R323): the bus was free, it was cleared by
pulses, or SDA stayed low after the pulses. -/
inductive TwcBus where
  | free | cleared | stuck
  deriving DecidableEq, Repr

/-- How a controller transfer ended on the bus (R315, R316): where a NACK came, if one did, and the bytes written and read. -/
structure TwcDoneObs where
  nackAddr : Bool := false
  nackData : Bool := false
  wrDone : Nat := 0
  rdBytes : List (BitVec 8) := []
  deriving DecidableEq, Repr

/-- A record of a BIST result set (R390): unit, instance, kind, row, column. -/
structure BistRecord where
  unit : Nat
  inst : Nat
  kind : Nat := 0
  action : Nat := 0
  runtime : Bool := false
  row : Nat := 0
  col : Nat := 1023
  bootsAgo : Nat := 0
  deriving DecidableEq, Repr

/-- What the environment gives one start-up (R339, R351 to R355): VDDIO present, the straps, the reference frequency counted in Hz
(`none`: no valid reference), the outcomes of the checks of the image in the slot that need arithmetic outside this model, and the
hottest sensor. -/
structure BootObs where
  vddio : Bool := true
  recoveryLow : Bool := false
  addrSel : Nat := 0
  refHz : Option Nat := some 38400000
  /-- SHA-256 of the key matches, and the signature verifies, and the digest of the image (R354). -/
  keyOk : Bool := true
  sigOk : Bool := true
  digest : Nat := 0
  /-- Every block of the image passes its CRC as it is read (R351, R352). -/
  blocksOk : Bool := true
  bootMs : Nat := 40
  /-- Tj, 0.0625 °C, for a start after a thermal trip (R343). -/
  tj : Int := 400
  /-- The fused grade of the device (R2, R349): DX9680-E. -/
  gradeE : Bool := false
  deriving DecidableEq, Repr

/-- What an orderly shutdown finds at its BIST (R387): VCORE in mV, Tj in 0.0625 °C, and the records of the test. -/
structure StopObs where
  vcoreMv : Nat := 750
  tj : Int := 400
  records : List BistRecord := []
  deriving DecidableEq, Repr

/-- What the completion of a state transition needs: converter peaks for the initial gain steps (R436), the shutdown test (R387), and
the start-up that follows where PWR_EN rose during the stop (R337). -/
structure TransObs where
  peakLf : Int := -9000
  peakFm : Int := -9000
  peakB3 : Int := -9000
  stop : StopObs := {}
  boot : BootObs := {}
  deriving DecidableEq, Repr

/-- A telemetry reading (R405): the four sensors in 0.0625 °C, VSYS and rails in mV, power in mW. -/
structure TelObs where
  rf : Int := 400
  fabric : Int := 400
  cores : Int := 400
  pmu : Int := 400
  vsys : Nat := 5000
  power : Nat := 0
  vcore : Nat := 750
  vio18 : Nat := 1800
  deriving DecidableEq, Repr

/-- Outcomes of the image checks of R354 that need arithmetic outside this model. -/
structure VerifyObs where
  keyOk : Bool := true
  sigOk : Bool := true
  digest : Nat := 0
  /-- Blocks whose read-back from NV fails its CRC. -/
  badBlocks : List Nat := []
  deriving DecidableEq, Repr

/-- What a write of settings or a block found in NV (R357, R374, R375): sectors whose page failed its read-back once, or twice. -/
structure NvObs where
  /-- Body sectors of the new generation (R371): the settings format decides them. -/
  body : Nat := 1
  /-- Sectors of the generation, in order, that failed their read-back once. -/
  failed : List Nat := []
  /-- The fresh sector failed too. -/
  failedTwice : Bool := false
  deriving DecidableEq, Repr

/-- The region of SRAM that holds a word with an uncorrectable error (R396), with its owner. -/
inductive Region where
  | code | oldCode | husk | control
  | lane (l : Nat)
  | rings (lanes : List Nat)
  | survey (m : MapSel) (entries : List Nat)
  | pool (pgm src : Nat)
  | buffers
  | queue (q : Nat) (index : Nat)
  deriving DecidableEq, Repr

/-- What the detector of a planted sprout shows at a boundary (R133): its metric in the units of METRIC, and the criterion events
counted. -/
structure SproutObs where
  slot : Nat
  metric : Int
  progress : Nat
  deriving DecidableEq, Repr

/-- The environment's measurements over the epoch that ends at a boundary, and the wanted values the analogue side reports there.
A path, lane or source without an entry keeps its last readings. -/
structure EpochObs where
  lf : PathObs := {}
  fm : PathObs := {}
  b3 : PathObs := {}
  fmLanes : List FmObs := []
  amLanes : List AmObs := []
  watches : List WatchObs := []
  sources : List SrcObs := []
  audio : List AudioObs := []
  sprouts : List SproutObs := []
  /-- Load of each lane, % of its core (R110, R132): lane index and load. -/
  loads : List (Nat × Nat) := []
  /-- Tracking-DAC codes of PLL-S (R71, R78). -/
  dac : Nat := 0
  /-- Tj now, 0.0625 °C (R72, R405). -/
  tj : Int := 0
  /-- The reference met R56 throughout the epoch. -/
  refGood : Bool := true
  /-- Isolated phase-detector cycles of PLL-S whose error lay outside the lock window (R70). -/
  outCycles : Nat := 0
  /-- Aerial feed (R51, R52): in current limit throughout, mA and 10 mV readings. -/
  aerLimit : Bool := false
  aerMa : Nat := 0
  aerVolt : Nat := 500
  /-- Periods of the always-on clock that passed (R348). -/
  aonTicks : Nat := 32
  /-- Frame rate in Hz and deviation in 0.1 ppm of each port that has a clock (R261, R272): port, rate, deviation. -/
  rates : List (Nat × Nat × Int) := []
  /-- Levels that the board sets on GPIO0–GPIO7 (R347). -/
  gpio : Nat := 0
  deriving DecidableEq, Repr

/-- The commands of opcode_table.json, in the table's order. -/
inductive Instr where
  | epochBoundary (obs : EpochObs)
  | schedPlaceFreed
  | overloadClear (p : Path)
  | agcAttack (p : Path)
  | agcRelease (p : Path)
  | agcManStepWrite (port : Port) (v : Word)
  | tileEnter (v : Vhf)
  | tileExit (v : Vhf)
  | glimpseHop (v : Vhf)
  | pathModeWrite (port : Port) (p : Path) (v : Word)
  | tileCentreWrite (port : Port) (p : Vhf) (v : Word)
  | pathTestEnter (port : Port) (p : Path) (v : Word)
  | pathTestReady (p : Path)
  | pathTestExit (port : Port) (p : Path) (v : Word)
  | gainCheckStart (port : Port) (v : Word)
  | gainCheckWindow
  | gainCheckDone (measured : List Int)
  | injEnable (port : Port) (v : Word)
  /-- The computation took `us` µs. -/
  | injMaskCheckDone (us : Nat)
  | injStart
  | injDisable (port : Port) (v : Word)
  | coexGntEdge (high : Bool)
  | coexGrantTimeout
  | coexLimitCut
  | coexActEdge (high : Bool)
  | coexActLong
  | aerLatchOff
  | aerRetry
  | aerThermalCut
  | aerThermalRestore
  | refLost
  | refValid
  | lockAcquired (l : Loop)
  | lockLost (l : Loop)
  | holdoverDegraded
  | phaseRebase (sys lof lob : Int)
  | loSettled (l : Lo) (code : Option Nat)
  | loCalStart (port : Port) (l : Lo) (v : Word)
  | loCalForce (port : Port) (l : Lo) (v : Word)
  | loCalAll (port : Port) (l : Lo) (v : Word)
  | loCalIdlePost (l : Lo)
  | stalenessCheck
  | clkoutCfgWrite (port : Port) (n : Fin 3) (v : Word)
  /-- `readings` are levels in 0.01 dB of entries into which the epochs brought no power. -/
  | snapshotClose (m : MapSel) (readings : List (Nat × Int))
  | snapshotPosted (m : MapSel)
  | ficRotate (e : Fin 16)
  | laneAllocRetry (lane : Fin 20)
  | coreOverloadMigrate (core : Fin 6)
  | sproutSlotFreed
  | sproutCriterionMet (slot : Fin 32) (metric : Int) (pi : Nat)
  | sproutTimeout (slot : Fin 32)
  | sproutReplantTimer (lane : Fin 156)
  | sproutSentinel (slot : Fin 32) (metric : Int) (twice : Bool)
  | migrateCompare (slot : Fin 32) (equal : Bool)
  | ofsWindow (obs : List OfsObs)
  | fmTune (port : Port) (n : Fin 8) (v : Word)
  | fmRelease (port : Port) (n : Fin 8) (v : Word)
  | qualitySummaryPost (lane : Fin 14)
  | captureTriggerExpire (ctx : Fin 104)
  | rdsBlock (ctx : Fin 104) (stream : Fin 4) (obs : RdsObs)
  | alarmOutOfSyncTimeout (lane : Fin 156)
  | rds2Acquire (n : Fin 8) (stream : Fin 4)
  | afVerify
  | groupAck (port : Port) (fifo : Fin 9) (v : Word)
  | watchAssign (port : Port) (t : WatchTable) (v : Word)
  | watchRelease (port : Port) (t : WatchTable) (v : Word)
  | afSelCopy (port : Port) (v : Word)
  | watchAgeTick
  | amTune (port : Port) (n : Fin 6) (v : Word)
  | amRelease (port : Port) (n : Fin 6) (v : Word)
  | amConfigWrite (port : Port) (n : Fin 6) (v : Word)
  | amCarrierLock (n : Fin 6)
  | amCarrierUnlock (n : Fin 6)
  | amssBlock (lane : Fin 30) (obs : AmssObs)
  | amssAck (port : Port) (n : Fin 6) (v : Word)
  | watchCarrierSet (a : Fin 24)
  | watchCarrierClear (a : Fin 24)
  | drmDetectWindow (a : Fin 24) (mode : Option (Fin 4))
  | drmTune (port : Port) (n : Fin 2) (v : Word)
  | drmRelease (port : Port) (n : Fin 2) (v : Word)
  | drmFrame (n : Fin 2) (obs : DrmObs)
  | drmServiceSelect (port : Port) (n : Fin 2) (k : Fin 4) (v : Word)
  | decoderFreed
  | audioFrame (n : Fin 2) (k : Fin 4) (ok : Bool) (ms : Nat)
  | dabTune (port : Port) (n : Fin 4) (v : Word)
  | dabRelease (port : Port) (n : Fin 4) (v : Word)
  | dabFrame (lane : Fin 20) (obs : DabObs)
  | fibReceived (lane : Fin 20) (figs : List Fig)
  | dabAlarmTimeout (lane : Fin 20)
  | dabReconfig (block : Nat)
  | serviceLapse (block sid : Nat)
  | ensembleDelete (block : Nat)
  | linkageLapse (index : Nat)
  | dabSelect (port : Port) (n : Fin 4) (k : Fin 6) (ctrl : Bool) (v : Word)
  | layer2Frame (n : Fin 4) (k : Fin 6) (ok : Bool) (scfErrors ms : Nat) (dls : List DlsObs)
  | dabplusSuperframe (n : Fin 4) (k : Fin 6) (obs : SuperframeObs)
  | queueConfig (port : Port) (q : Fin 16) (v : Word)
  | queueAck (port : Port) (q : Fin 16) (v : Word)
  | slotEnable (port : Port) (n : Fin 4) (v : Word)
  | slotDisable (port : Port) (n : Fin 4) (v : Word)
  | hostMute (port : Port) (n : Fin 4) (v : Word)
  | hostUnmute (port : Port) (n : Fin 4) (v : Word)
  | sourceEntryWrite (port : Port) (n k : Fin 4) (v : Word)
  /-- `entry` is a programme and its source. -/
  | coarseAlignEval (entry : Fin 4 × Fin 4)
  | fineAlignTrack (obs : FineObs)
  | joinRetry (n k : Fin 4)
  | delayLineFilled (n k : Fin 4)
  | slewDone (n : Fin 4)
  | timelineHoldExpire (n : Fin 4)
  | sourceFloorOut (n k : Fin 4)
  | sourceFloorIn (n k : Fin 4)
  | selectionSwitch (n : Fin 4)
  | sumEnter (n : Fin 4)
  | sumLeave (n k : Fin 4)
  | muteRampDone (n : Fin 4)
  | policyPropose (n : Fin 4)
  | policyRelease (n k : Fin 4)
  | pibNew (port : Port) (v : Word)
  | pibAdd (port : Port) (v : Word)
  | pibRemove (port : Port) (v : Word)
  | pibDelete (port : Port) (v : Word)
  | pibCommandDone
  | portEnable (port : Port) (p : Fin 5) (v : Word)
  | portDisable (port : Port) (p : Fin 5) (v : Word)
  | portFormatWrite (port : Port) (p : Fin 5) (v : Word)
  | portFrame (p : Fin 5) (obs : FrameObs)
  | nonaudioRelease (pair : Fin 4)
  | portClockFault (p : Fin 5)
  | portClockOk (p : Fin 5)
  | portLocked (p : Fin 5)
  | aipClockTimeout
  | routeWrite (port : Port) (n : Fin 4) (v : Word)
  | podMembersWrite (port : Port) (m : Fin 2) (v : Word)
  | podStart (port : Port) (m : Fin 2) (v : Word)
  | podStartPost (m : Fin 2)
  | podStop (port : Port) (m : Fin 2) (v : Word)
  | registerWrite (port : Port) (addr : BitVec 24) (v : Word)
  | latchCaptureRead (port : Port) (addr : BitVec 24)
  | resultAck (port : Port) (window : Fin 27) (v : Word)
  | lockkeyOpen (port : Port) (page : Nat)
  | lockkeyClose (port : Port) (page : Nat) (v : Word)
  | keyExpire (page : Nat)
  | eventClear (port : Port) (page : Nat) (v : Word)
  | eventSetTest (port : Port) (page : Nat) (v : Word)
  | eventEnableWrite (port : Port) (page : Nat) (v : Word)
  | accErrClear (port : Port) (v : Word)
  | pauseEnd
  | spiWrite (mode3 : Bool) (addr : BitVec 24) (data : List (BitVec 8))
  | spiWriteQuad (mode3 : Bool) (addr : BitVec 24) (data : List (BitVec 8))
  | spiRead (mode3 : Bool) (addr : BitVec 24) (count : Nat) (crc : BitVec 16)
  | spiReadQuad (mode3 : Bool) (addr : BitVec 24) (count : Nat) (crc : BitVec 16)
  | spiStatus (mode3 : Bool)
  | spiOtherOpcode (mode3 : Bool) (op : BitVec 8)
  | spiCsRise (mode3 quad : Bool) (bits : Nat) (addr : BitVec 24)
  | crcEnableWrite (port : Port) (v : Word)
  | twtWriteTransfer (addr7 : BitVec 7) (data : List (BitVec 8))
  | twtReadTransfer (addr7 : BitVec 7) (count : Nat)
  | twtBusAbort (addr7 : BitVec 7) (dir : TwtDir) (why : TwtAbort)
  | twtTimeout (addr7 : BitVec 7) (dir : TwtDir)
  | twtStretchLimit (addr7 : BitVec 7) (dir : TwtDir)
  | twtWakeMatch (addr7 : BitVec 7) (obs : BootObs)
  | twtComparatorWrite (port : Port) (k : Fin 2) (v : Word)
  | twtMaskWrite (port : Port) (v : Word)
  | twcHostTransfer (port : Port) (v : Word)
  | scriptRunCmd (port : Port) (v : Word)
  | twcWorkStart (bus : TwcBus)
  | twcTransferDone (obs : TwcDoneObs)
  | scriptWaitEnd
  | arbitrationLost
  | twcBusBusyTimeout
  | twcStuckScl (wrDone rdDone : Nat)
  | twcReset (port : Port) (v : Word)
  | twcReenable (port : Port) (v : Word)
  | requestQuiet (port : Port)
  | requestWatch (port : Port)
  | requestFull (port : Port)
  | requestHold (port : Port)
  | requestSleep (port : Port)
  | requestOff (port : Port)
  | requestInvalid (port : Port) (v : Word)
  | transitionComplete (obs : TransObs)
  | leaveFullCommit
  | cfgCommit (port : Port) (v : Word)
  | cfgCheckDone
  | pwrEnRise (obs : BootObs)
  | refClassifyRetry (obs : BootObs)
  | booted
  | vddioPresent (obs : BootObs)
  | pwrEnFall
  | resetAssert
  | resetRelease (obs : BootObs)
  | vsysLow
  | uvlo
  | railFault
  | tjWarn
  | thermalTrip
  | vsysLost
  | vsysReturn (obs : BootObs)
  | telemetrySnapshot (obs : TelObs)
  | governorLevel
  | wakePulseEnd
  | gpioConfigWrite (port : Port) (n : Fin 8) (v : Word)
  | aonClockSwitch
  | fwuBegin (port : Port) (v : Word)
  | fwuVerify (port : Port) (v : Word)
  | verifyDone (obs : VerifyObs)
  | fwuActivate (port : Port) (v : Word) (obs : BootObs)
  | stagingDone (badBlock : Option Nat)
  | handoverDone (accepted : Bool)
  | coreSwapStep
  | fwuConfirm (port : Port) (v : Word)
  | fwuRevert (port : Port) (v : Word)
  | fwuInvalidOp (port : Port) (v : Word)
  | heartbeatMiss
  | trialWindowExpire
  | blockHandoff (port : Port) (slot : Fin 16) (v : Word)
  | blockWritten (nvFail : Bool)
  | nvStore (port : Port) (v : Word)
  | storeDone (obs : NvObs)
  | nvRestore (port : Port) (v : Word)
  | nvDefaults (port : Port) (v : Word)
  | nvInvalidOp (port : Port) (v : Word)
  | wearManagement (sector : Nat) (failing : Bool)
  | rglLimitWrite (port : Port) (r : Fin 4) (v : Word)
  | seal (port : Port) (v : Word)
  | sealDone
  | unseal (port : Port) (v : Word)
  | unsealCheckDone (valid : Bool)
  | watchdogExpiry
  | bistStart (port : Port) (v : Word)
  | bistRun
  | bistDone (pass : Bool) (us : Nat) (records : List BistRecord)
  | scrubPassDone (ms : Nat)
  | eccCorrected (word : Nat)
  | eccUncorrected (word : Nat) (region : Region)
  | coreHang (core : Fin 6) (exception : Bool)
  | accelFault (unit inst : Nat)
  | unitResetDone (unit inst : Nat)
  | recoveringEnd (unit inst : Nat)
  | deviceRecoveryReset
  | deviceRecoveryDone
  | safeEntry
  | faultLogClear (port : Port) (v : Word)
  | railRestart (obs : BootObs)
  | vddioAbsent
  | vsysLowClear
  | tjWarnClear
  deriving DecidableEq, Repr


end Sys2Proof
end

