-- ==== Sys2Proof/Decode.lean ====
section
/-!
DEFINITION. The command that a word of opcode_table.json's bits spells. No row of the table gives bits: the block takes commands
from its ports, pins and clocks, so no word spells one.
-/

namespace Sys2Proof

/-- The command spelled by `nbits` bits `w` of the table: none, since no row gives bits. -/
def decodeTableWord (_nbits _w : Nat) : Option Instr := none

end Sys2Proof
end

