-- ==== Sys2Proof/Config.lean ====
section
/-!
DEFINITION. What one device fixes and what the manual leaves open. An opaque constant has no body, so no proof can see its value.
-/

namespace Sys2Proof.Config

/-- A value the manual leaves open: the `n`-th one used, `w` bits wide. DESIGN CHOICE (log entry 3): free, safe. -/
opaque freeValue (w : Nat) (n : Nat) : BitVec w

/-- Which way a quotient that falls exactly between two integers is rounded, where the manual says "rounded" and no more.
`true`: towards +∞. DESIGN CHOICE (log entry 4): free, safe. -/
opaque tieUp : Int → Bool

/-- The error correction of an RDS watch entry, as `CTRL.ECC` codes it: the watch page has no such field (R147, R161).
DESIGN CHOICE (log entry 41): free, safe. -/
opaque watchEcc : Fin 3

/-- Whether RDS watch entries treat offset E as RBDS does (R146, R147, R161). DESIGN CHOICE (log entry 41): free, safe. -/
opaque watchRbds : Bool

/-- Whether `SDQ.QHEAD.FILL` counts a 32-byte unit that is filled in part (R225 does not say). DESIGN CHOICE (log entry 80): free, safe. -/
opaque fillUp : Bool

/-! ## Signal processing that the manual names but does not give (log entry 117): free, safe -/

/-- Coefficient `k` of FIR `filter`, 18 bits, 2¹⁷ for 1.0 (R81, R87, R237). -/
opaque tap (filter k : Nat) : BitVec 18

/-- The output of filter `filter` for its latest inputs, where the manual gives no structure (R139, R165, R236, R246). -/
opaque shaped (filter : Nat) (window : List Int) : Int

/-- The 18-bit sine table of the NCOs and loops, by phase (R87). -/
opaque sine (phase : BitVec 32) : BitVec 18

/-- The correction of a tracking loop after one sample, from the one before and the phase error (R139, R165). -/
opaque loopStep (loop : Nat) (corr err : Int) : Int

/-- The feedback coefficients of the high cut at a corner, times 2³⁰ (R142). -/
opaque highCut (corner : Nat) : Int × Int

/-- The level in 0.01 dB of a map entry into which no power at all fell, whose logarithm R93 does not give (log entry 116): free, safe. -/
opaque noPower (path entry : Nat) : Int

/-- The nominal response of the tile filter at an offset in kHz beyond 4.4 MHz, 0.01 dB, which the levels are corrected for (R93). -/
opaque tileResponse (khz : Nat) : Int

end Sys2Proof.Config
end

