-- ==== Sys2Proof/Machine/Arith.lean ====
section
/-!
DEFINITION. Arithmetic that the rules call for beyond integers: cosines in fixed point, and the responses of filters.
-/

namespace Sys2Proof.Machine

/-! ## Cosines -/

/-- π · 2⁸⁰, rounded. -/
def piFix : Int := 3797952473636338580787994

/-- The sum of the cosine's series from a term on, for an angle whose square is `x2`, all times 2⁸⁰: `n` terms more, the next factor
having the denominator (2j + 1)(2j + 2). -/
def cosSeries (x2 : Int) : Nat → Nat → Int → Int
  | 0, _, _ => 0
  | n + 1, j, term => term + cosSeries x2 n (j + 1) (-(term * x2 / 2 ^ 80) / ((2 * j + 1) * (2 * j + 2) : Nat))

/-- cos(2π · m / n) · 2⁸⁰ by its series; the error lies below 2⁻⁶⁰ (DESIGN CHOICE, log entry 105). -/
def cosFix (m n : Nat) : Int :=
  let k := m % n
  let x := 2 * piFix * (min k (n - k) : Nat) / n
  cosSeries (x * x / 2 ^ 80) 30 0 (2 ^ 80)

/-! ## FIR responses (R44) -/

/-- The autocorrelation of a list of coefficients at `lag`. -/
def autocorr (c : List Int) (lag : Nat) : Int := ((c.zip (c.drop lag)).map (fun x => x.1 * x.2)).sum

/-- The lags at which a list of coefficients correlates with itself, each with its factor in the power response. -/
def autocorrs (c : List Int) : List (Nat × Int) :=
  ((List.range c.length).map (fun l => (l, if l = 0 then autocorr c 0 else 2 * autocorr c l))).filter (fun x => x.2 != 0)

/-- |H|² · 2⁸⁰ of an FIR at point `k` of an `n`-point grid, from its autocorrelation. -/
def firPower (r : List (Nat × Int)) (k n : Nat) : Int := (r.map (fun x => x.2 * cosFix (k * x.1) n)).sum

end Sys2Proof.Machine
end

