-- ==== Sys2Proof/Machine/Fields.lean ====
section
/-!
DEFINITION. Names for the register fields, registers and events the block's operations use, at the places that the chapters' tables
and R434 give them. Instance pages take the instance number first, register arrays and records then their index.
-/

namespace Sys2Proof.Machine

/-- A field: the byte address of its register, its lowest bit and its width. -/
structure Field where
  addr : Nat
  lo : Nat
  width : Nat
  deriving DecidableEq, Repr

namespace Fld

/-- `AGC.CTRL.FM` (R31). -/
def AGC.CTRL.FM : Field := ⟨0x00B008, 2, 2⟩
/-- `AGC.GAIN.GAIN` (R31). -/
def AGC.GAIN.GAIN (k : Nat) : Field := ⟨0x00B044 + 4 * k, 8, 17⟩
/-- `AGC.GAIN.STEP` (R31). -/
def AGC.GAIN.STEP (k : Nat) : Field := ⟨0x00B044 + 4 * k, 0, 5⟩
/-- `AGC.TABLE_B3.GAIN` (R31). -/
def AGC.TABLE_B3.GAIN (k : Nat) : Field := ⟨0x00B200 + 4 * k, 0, 16⟩
/-- `AGC.TABLE_FM.GAIN` (R31). -/
def AGC.TABLE_FM.GAIN (k : Nat) : Field := ⟨0x00B180 + 4 * k, 0, 16⟩
/-- `AGC.TABLE_LF.GAIN` (R31). -/
def AGC.TABLE_LF.GAIN (k : Nat) : Field := ⟨0x00B100 + 4 * k, 0, 16⟩
/-- `AIP.CTRL.FORMAT` (R272). -/
def AIP.CTRL.FORMAT : Field := ⟨0x054008, 1, 2⟩
/-- `AIP.CTRL.ND_EN` (R272). -/
def AIP.CTRL.ND_EN : Field := ⟨0x054008, 16, 1⟩
/-- `AIP.CTRL.SLOTS` (R272). -/
def AIP.CTRL.SLOTS : Field := ⟨0x054008, 3, 2⟩
/-- `AIP.ND_CNT.COUNT` (R272). -/
def AIP.ND_CNT.COUNT : Field := ⟨0x054064, 0, 32⟩
/-- `AIP.OVERRUN_CNT.COUNT` (R272). -/
def AIP.OVERRUN_CNT.COUNT : Field := ⟨0x05404C, 0, 32⟩
/-- `AIP.STAT.NONAUDIO` (R272). -/
def AIP.STAT.NONAUDIO : Field := ⟨0x05400C, 8, 4⟩
/-- `AIP.STAT.STATE` (R272). -/
def AIP.STAT.STATE : Field := ⟨0x05400C, 0, 3⟩
/-- `AIP.UNDERRUN_CNT.COUNT` (R272). -/
def AIP.UNDERRUN_CNT.COUNT : Field := ⟨0x054048, 0, 32⟩
/-- `AIP.ZERO_CNT.COUNT` (R272). -/
def AIP.ZERO_CNT.COUNT : Field := ⟨0x054050, 0, 32⟩
/-- `AMF.AMSS_CFG.THRESH` (R186). -/
def AMF.AMSS_CFG.THRESH (n : Nat) : Field := ⟨0x028204 + 4096 * n, 0, 5⟩
/-- `AMF.AMSS_DROP.COUNT` (R186). -/
def AMF.AMSS_DROP.COUNT (n : Nat) : Field := ⟨0x02820C + 4096 * n, 0, 32⟩
/-- `AMF.AMSS_STAT.OVERFLOW` (R186). -/
def AMF.AMSS_STAT.OVERFLOW (n : Nat) : Field := ⟨0x028200 + 4096 * n, 16, 1⟩
/-- `AMF.BLANK_CNT.COUNT` (R186). -/
def AMF.BLANK_CNT.COUNT (n : Nat) : Field := ⟨0x028054 + 4096 * n, 0, 32⟩
/-- `AMF.CHG.AMSS_SYNC` (R186). -/
def AMF.CHG.AMSS_SYNC (n : Nat) : Field := ⟨0x0280A0 + 4096 * n, 3, 1⟩
/-- `AMF.CHG.LOCK` (R186). -/
def AMF.CHG.LOCK (n : Nat) : Field := ⟨0x0280A0 + 4096 * n, 2, 1⟩
/-- `AMF.CHG.REFUSED` (R186). -/
def AMF.CHG.REFUSED (n : Nat) : Field := ⟨0x0280A0 + 4096 * n, 1, 1⟩
/-- `AMF.CHG.SI` (R186). -/
def AMF.CHG.SI (n : Nat) : Field := ⟨0x0280A0 + 4096 * n, 4, 1⟩
/-- `AMF.CHG.SI_CHANGE` (R186). -/
def AMF.CHG.SI_CHANGE (n : Nat) : Field := ⟨0x0280A0 + 4096 * n, 5, 1⟩
/-- `AMF.CHG.TUNED` (R186). -/
def AMF.CHG.TUNED (n : Nat) : Field := ⟨0x0280A0 + 4096 * n, 0, 1⟩
/-- `AMF.CONCEAL_CNT.COUNT` (R186). -/
def AMF.CONCEAL_CNT.COUNT (n : Nat) : Field := ⟨0x028058 + 4096 * n, 0, 32⟩
/-- `AMF.CTRL.AMSS_EN` (R186). -/
def AMF.CTRL.AMSS_EN (n : Nat) : Field := ⟨0x028008 + 4096 * n, 14, 1⟩
/-- `AMF.CTRL.BW` (R186). -/
def AMF.CTRL.BW (n : Nat) : Field := ⟨0x028008 + 4096 * n, 8, 5⟩
/-- `AMF.CTRL.DET` (R186). -/
def AMF.CTRL.DET (n : Nat) : Field := ⟨0x028008 + 4096 * n, 0, 3⟩
/-- `AMF.CTRL.NB_EN` (R186). -/
def AMF.CTRL.NB_EN (n : Nat) : Field := ⟨0x028008 + 4096 * n, 13, 1⟩
/-- `AMF.NB_CFG.LEN` (R186). -/
def AMF.NB_CFG.LEN (n : Nat) : Field := ⟨0x028044 + 4096 * n, 8, 4⟩
/-- `AMF.NB_CFG.THR` (R186). -/
def AMF.NB_CFG.THR (n : Nat) : Field := ⟨0x028044 + 4096 * n, 0, 8⟩
/-- `AMF.STAT.CONCEALED` (R186). -/
def AMF.STAT.CONCEALED (n : Nat) : Field := ⟨0x02800C + 4096 * n, 7, 1⟩
/-- `AMF.STAT.LOCK` (R186). -/
def AMF.STAT.LOCK (n : Nat) : Field := ⟨0x02800C + 4096 * n, 3, 1⟩
/-- `AMF.STAT.NB_SAT` (R186). -/
def AMF.STAT.NB_SAT (n : Nat) : Field := ⟨0x02800C + 4096 * n, 5, 1⟩
/-- `AMF.STAT.SYNC_FALLBACK` (R186). -/
def AMF.STAT.SYNC_FALLBACK (n : Nat) : Field := ⟨0x02800C + 4096 * n, 4, 1⟩
/-- `AMF.TUNE.FREQ_KHZ` (R186). -/
def AMF.TUNE.FREQ_KHZ (n : Nat) : Field := ⟨0x028040 + 4096 * n, 0, 15⟩
/-- `AOP.CTRL.EN` (R272). -/
def AOP.CTRL.EN (n : Nat) : Field := ⟨0x050008 + 4096 * n, 0, 1⟩
/-- `AOP.CTRL.FS_NOM` (R272). -/
def AOP.CTRL.FS_NOM (n : Nat) : Field := ⟨0x050008 + 4096 * n, 9, 4⟩
/-- `AOP.CTRL.SLOTS` (R272). -/
def AOP.CTRL.SLOTS (n : Nat) : Field := ⟨0x050008 + 4096 * n, 3, 2⟩
/-- `AOP.CTRL.SLOT_BITS` (R272). -/
def AOP.CTRL.SLOT_BITS (n : Nat) : Field := ⟨0x050008 + 4096 * n, 5, 2⟩
/-- `AOP.CTRL.WORD_BITS` (R272). -/
def AOP.CTRL.WORD_BITS (n : Nat) : Field := ⟨0x050008 + 4096 * n, 7, 2⟩
/-- `AOP.FRAME_CNT.COUNT` (R272). -/
def AOP.FRAME_CNT.COUNT (n : Nat) : Field := ⟨0x050060 + 4096 * n, 0, 32⟩
/-- `AOP.FRAME_ERR.COUNT` (R272). -/
def AOP.FRAME_ERR.COUNT (n : Nat) : Field := ⟨0x050054 + 4096 * n, 0, 32⟩
/-- `AOP.FS_MEAS.HZ` (R272). -/
def AOP.FS_MEAS.HZ (n : Nat) : Field := ⟨0x050040 + 4096 * n, 0, 18⟩
/-- `AOP.LATE_CNT.COUNT` (R272). -/
def AOP.LATE_CNT.COUNT (n : Nat) : Field := ⟨0x05004C + 4096 * n, 0, 32⟩
/-- `AOP.PPM.PPM` (R272). -/
def AOP.PPM.PPM (n : Nat) : Field := ⟨0x050044 + 4096 * n, 0, 16⟩
/-- `AOP.START_EPOCH.EPOCH` (R272). -/
def AOP.START_EPOCH.EPOCH (n : Nat) : Field := ⟨0x05005C + 4096 * n, 0, 32⟩
/-- `AOP.STAT.CFG_ERR` (R272). -/
def AOP.STAT.CFG_ERR (n : Nat) : Field := ⟨0x05000C + 4096 * n, 7, 1⟩
/-- `AOP.STAT.CLK_OK` (R272). -/
def AOP.STAT.CLK_OK (n : Nat) : Field := ⟨0x05000C + 4096 * n, 3, 1⟩
/-- `AOP.STAT.IN_POD` (R272). -/
def AOP.STAT.IN_POD (n : Nat) : Field := ⟨0x05000C + 4096 * n, 5, 1⟩
/-- `AOP.STAT.LOCKED` (R272). -/
def AOP.STAT.LOCKED (n : Nat) : Field := ⟨0x05000C + 4096 * n, 4, 1⟩
/-- `AOP.STAT.POD_ID` (R272). -/
def AOP.STAT.POD_ID (n : Nat) : Field := ⟨0x05000C + 4096 * n, 6, 1⟩
/-- `AOP.STAT.STATE` (R272). -/
def AOP.STAT.STATE (n : Nat) : Field := ⟨0x05000C + 4096 * n, 0, 3⟩
/-- `AOP.UNDERRUN_CNT.COUNT` (R272). -/
def AOP.UNDERRUN_CNT.COUNT (n : Nat) : Field := ⟨0x050048 + 4096 * n, 0, 32⟩
/-- `AOP.ZERO_CNT.COUNT` (R272). -/
def AOP.ZERO_CNT.COUNT (n : Nat) : Field := ⟨0x050050 + 4096 * n, 0, 32⟩
/-- `BST.BANKS_RETIRED.BANKS` (R402). -/
def BST.BANKS_RETIRED.BANKS : Field := ⟨0x0700C4, 0, 18⟩
/-- `BST.CFG.LOGIC` (R402). -/
def BST.CFG.LOGIC : Field := ⟨0x070044, 1, 1⟩
/-- `BST.CFG.SHUTDOWN_TEST` (R402). -/
def BST.CFG.SHUTDOWN_TEST : Field := ⟨0x070044, 0, 1⟩
/-- `BST.STAT.MIGRATING` (R402). -/
def BST.STAT.MIGRATING : Field := ⟨0x07000C, 1, 1⟩
/-- `BST.VIEW.RECORD` (R402). -/
def BST.VIEW.RECORD : Field := ⟨0x0700D0, 0, 10⟩
/-- `CH.DDC_W0.NCO` (R99). -/
def CH.DDC_W0.NCO (n : Nat) (k : Nat) : Field := ⟨0x010100 + 4096 * n + 8 * k, 0, 32⟩
/-- `CH.DDC_W1.LANE` (R99). -/
def CH.DDC_W1.LANE (n : Nat) (k : Nat) : Field := ⟨0x010104 + 4096 * n + 8 * k, 0, 8⟩
/-- `CH.DDC_W1.SPROUT` (R99). -/
def CH.DDC_W1.SPROUT (n : Nat) (k : Nat) : Field := ⟨0x010104 + 4096 * n + 8 * k, 8, 5⟩
/-- `CH.DDC_W1.USE` (R99). -/
def CH.DDC_W1.USE (n : Nat) (k : Nat) : Field := ⟨0x010104 + 4096 * n + 8 * k, 13, 2⟩
/-- `CH.NORM.M` (R98). -/
def CH.NORM.M (n : Nat) : Field := ⟨0x010044 + 4096 * n, 0, 18⟩
/-- `CH.NORM.S` (R98). -/
def CH.NORM.S (n : Nat) : Field := ⟨0x010044 + 4096 * n, 18, 4⟩
/-- `CH.OFFSET.TRIM_I` (R98). -/
def CH.OFFSET.TRIM_I (n : Nat) : Field := ⟨0x010048 + 4096 * n, 0, 16⟩
/-- `CH.OFFSET.TRIM_Q` (R98). -/
def CH.OFFSET.TRIM_Q (n : Nat) : Field := ⟨0x010048 + 4096 * n, 16, 16⟩
/-- `CH.RANK_CFG.K_AGGR` (R98). -/
def CH.RANK_CFG.K_AGGR (n : Nat) : Field := ⟨0x01004C + 4096 * n, 8, 8⟩
/-- `CH.RANK_CFG.K_NORM` (R98). -/
def CH.RANK_CFG.K_NORM (n : Nat) : Field := ⟨0x01004C + 4096 * n, 0, 8⟩
/-- `CH.RANK_CFG.THR_OFF` (R98). -/
def CH.RANK_CFG.THR_OFF (n : Nat) : Field := ⟨0x01004C + 4096 * n, 16, 1⟩
/-- `CH.SAT_CNT.COUNT` (R98). -/
def CH.SAT_CNT.COUNT (n : Nat) : Field := ⟨0x010040 + 4096 * n, 0, 32⟩
/-- `CH.STAT.SAT_EPOCH` (R98). -/
def CH.STAT.SAT_EPOCH (n : Nat) : Field := ⟨0x01000C + 4096 * n, 16, 1⟩
/-- `CLK.CLKOUT_CFG.CLAMPED` (R78). -/
def CLK.CLKOUT_CFG.CLAMPED (k : Nat) : Field := ⟨0x002060 + 4 * k, 31, 1⟩
/-- `CLK.CLKOUT_CFG.DIV` (R78). -/
def CLK.CLKOUT_CFG.DIV (k : Nat) : Field := ⟨0x002060 + 4 * k, 0, 12⟩
/-- `CLK.CLKOUT_CFG.SRC` (R78). -/
def CLK.CLKOUT_CFG.SRC (k : Nat) : Field := ⟨0x002060 + 4 * k, 12, 1⟩
/-- `CLK.COAST_DTJ.DTJ` (R78). -/
def CLK.COAST_DTJ.DTJ : Field := ⟨0x002050, 0, 16⟩
/-- `CLK.COAST_EPOCHS.COUNT` (R78). -/
def CLK.COAST_EPOCHS.COUNT : Field := ⟨0x00204C, 0, 32⟩
/-- `CLK.DAC.CODE` (R78). -/
def CLK.DAC.CODE : Field := ⟨0x002058, 0, 16⟩
/-- `CLK.FRAC.F` (R78). -/
def CLK.FRAC.F : Field := ⟨0x002048, 0, 32⟩
/-- `CLK.INT.N` (R78). -/
def CLK.INT.N : Field := ⟨0x002044, 0, 8⟩
/-- `CLK.REBASE_ERR.PPB` (R78). -/
def CLK.REBASE_ERR.PPB : Field := ⟨0x002054, 0, 32⟩
/-- `CLK.REF_CFG.REFDIV` (R78). -/
def CLK.REF_CFG.REFDIV : Field := ⟨0x002040, 4, 2⟩
/-- `CLK.REF_CFG.REF_FREQ` (R78). -/
def CLK.REF_CFG.REF_FREQ : Field := ⟨0x002040, 0, 3⟩
/-- `CLK.STAT.COAST` (R78). -/
def CLK.STAT.COAST : Field := ⟨0x00200C, 1, 1⟩
/-- `CLK.STAT.CORRECTING` (R78). -/
def CLK.STAT.CORRECTING : Field := ⟨0x00200C, 4, 1⟩
/-- `CLK.STAT.HOLDOVER_DEGRADED` (R78). -/
def CLK.STAT.HOLDOVER_DEGRADED : Field := ⟨0x00200C, 3, 1⟩
/-- `CLK.STAT.LOCKED` (R78). -/
def CLK.STAT.LOCKED : Field := ⟨0x00200C, 0, 1⟩
/-- `CLK.STAT.REF_VALID` (R78). -/
def CLK.STAT.REF_VALID : Field := ⟨0x00200C, 2, 1⟩
/-- `COX.CTRL.ACT_PATHS` (R49). -/
def COX.CTRL.ACT_PATHS : Field := ⟨0x00D008, 4, 3⟩
/-- `COX.CTRL.ACT_POL` (R49). -/
def COX.CTRL.ACT_POL : Field := ⟨0x00D008, 2, 1⟩
/-- `COX.CTRL.GNT_POL` (R49). -/
def COX.CTRL.GNT_POL : Field := ⟨0x00D008, 1, 1⟩
/-- `COX.CTRL.GNT_TIMEOUT` (R49). -/
def COX.CTRL.GNT_TIMEOUT : Field := ⟨0x00D008, 8, 8⟩
/-- `COX.CTRL.GNT_USE` (R49). -/
def COX.CTRL.GNT_USE : Field := ⟨0x00D008, 3, 1⟩
/-- `COX.CTRL.REQ_POL` (R49). -/
def COX.CTRL.REQ_POL : Field := ⟨0x00D008, 0, 1⟩
/-- `COX.STAT.REQ` (R49). -/
def COX.STAT.REQ : Field := ⟨0x00D00C, 0, 1⟩
/-- `DAB.CHG.DLS` (R218). -/
def DAB.CHG.DLS (n : Nat) : Field := ⟨0x0300A0 + 4096 * n, 6, 1⟩
/-- `DAB.CHG.LIMIT` (R218). -/
def DAB.CHG.LIMIT (n : Nat) : Field := ⟨0x0300A0 + 4096 * n, 8, 1⟩
/-- `DAB.CHG.LOST` (R218). -/
def DAB.CHG.LOST (n : Nat) : Field := ⟨0x0300A0 + 4096 * n, 3, 1⟩
/-- `DAB.CHG.RECONFIG` (R218). -/
def DAB.CHG.RECONFIG (n : Nat) : Field := ⟨0x0300A0 + 4096 * n, 4, 1⟩
/-- `DAB.CHG.REFUSED` (R218). -/
def DAB.CHG.REFUSED (n : Nat) : Field := ⟨0x0300A0 + 4096 * n, 1, 1⟩
/-- `DAB.CHG.SERVICES` (R218). -/
def DAB.CHG.SERVICES (n : Nat) : Field := ⟨0x0300A0 + 4096 * n, 5, 1⟩
/-- `DAB.CHG.SYNC` (R218). -/
def DAB.CHG.SYNC (n : Nat) : Field := ⟨0x0300A0 + 4096 * n, 2, 1⟩
/-- `DAB.CHG.TIMING` (R218). -/
def DAB.CHG.TIMING (n : Nat) : Field := ⟨0x0300A0 + 4096 * n, 7, 1⟩
/-- `DAB.CHG.TUNED` (R218). -/
def DAB.CHG.TUNED (n : Nat) : Field := ⟨0x0300A0 + 4096 * n, 0, 1⟩
/-- `DAB.CTRL.DATA_EN` (R218). -/
def DAB.CTRL.DATA_EN (n : Nat) : Field := ⟨0x030008 + 4096 * n, 0, 1⟩
/-- `DAB.CTRL.DLS_EN` (R218). -/
def DAB.CTRL.DLS_EN (n : Nat) : Field := ⟨0x030008 + 4096 * n, 2, 1⟩
/-- `DAB.CTRL.PAD_EN` (R218). -/
def DAB.CTRL.PAD_EN (n : Nat) : Field := ⟨0x030008 + 4096 * n, 1, 1⟩
/-- `DAB.DLS_STAT.TOGGLE` (R218). -/
def DAB.DLS_STAT.TOGGLE (n : Nat) (k : Nat) : Field := ⟨0x030200 + 4096 * n + 4 * k, 9, 1⟩
/-- `DAB.DLS_STAT.VALID` (R218). -/
def DAB.DLS_STAT.VALID (n : Nat) (k : Nat) : Field := ⟨0x030200 + 4096 * n + 4 * k, 8, 1⟩
/-- `DAB.ERR_W0.UNIT_FAIL` (R219). -/
def DAB.ERR_W0.UNIT_FAIL (n : Nat) (k : Nat) : Field := ⟨0x030100 + 4096 * n + 16 * k, 16, 16⟩
/-- `DAB.ERR_W0.UNIT_OK` (R219). -/
def DAB.ERR_W0.UNIT_OK (n : Nat) (k : Nat) : Field := ⟨0x030100 + 4096 * n + 16 * k, 0, 16⟩
/-- `DAB.ERR_W1.RS_CORR` (R219). -/
def DAB.ERR_W1.RS_CORR (n : Nat) (k : Nat) : Field := ⟨0x030104 + 4096 * n + 16 * k, 0, 16⟩
/-- `DAB.ERR_W1.RS_FAIL` (R219). -/
def DAB.ERR_W1.RS_FAIL (n : Nat) (k : Nat) : Field := ⟨0x030104 + 4096 * n + 16 * k, 16, 16⟩
/-- `DAB.ERR_W2.AU_FAIL` (R219). -/
def DAB.ERR_W2.AU_FAIL (n : Nat) (k : Nat) : Field := ⟨0x030108 + 4096 * n + 16 * k, 16, 16⟩
/-- `DAB.ERR_W2.AU_OK` (R219). -/
def DAB.ERR_W2.AU_OK (n : Nat) (k : Nat) : Field := ⟨0x030108 + 4096 * n + 16 * k, 0, 16⟩
/-- `DAB.ERR_W3.CONCEALED` (R219). -/
def DAB.ERR_W3.CONCEALED (n : Nat) (k : Nat) : Field := ⟨0x03010C + 4096 * n + 16 * k, 0, 16⟩
/-- `DAB.FIB_CNT.ERR` (R218). -/
def DAB.FIB_CNT.ERR (n : Nat) : Field := ⟨0x0300BC + 4096 * n, 16, 16⟩
/-- `DAB.FIB_CNT.OK` (R218). -/
def DAB.FIB_CNT.OK (n : Nat) : Field := ⟨0x0300BC + 4096 * n, 0, 16⟩
/-- `DAB.SEL_CTRL.EN` (R218). -/
def DAB.SEL_CTRL.EN (n : Nat) (k : Nat) : Field := ⟨0x030048 + 4096 * n + 8 * k, 4, 1⟩
/-- `DAB.SEL_CTRL.SCIDS` (R218). -/
def DAB.SEL_CTRL.SCIDS (n : Nat) (k : Nat) : Field := ⟨0x030048 + 4096 * n + 8 * k, 0, 4⟩
/-- `DAB.SEL_SID.SID` (R218). -/
def DAB.SEL_SID.SID (n : Nat) (k : Nat) : Field := ⟨0x030044 + 4096 * n + 8 * k, 0, 32⟩
/-- `DAB.SEL_STAT.AUDIO` (R218). -/
def DAB.SEL_STAT.AUDIO (n : Nat) (k : Nat) : Field := ⟨0x030080 + 4096 * n + 4 * k, 7, 1⟩
/-- `DAB.SEL_STAT.DABPLUS` (R218). -/
def DAB.SEL_STAT.DABPLUS (n : Nat) (k : Nat) : Field := ⟨0x030080 + 4096 * n + 4 * k, 8, 1⟩
/-- `DAB.SEL_STAT.DECODING` (R218). -/
def DAB.SEL_STAT.DECODING (n : Nat) (k : Nat) : Field := ⟨0x030080 + 4096 * n + 4 * k, 10, 1⟩
/-- `DAB.SEL_STAT.DUP` (R218). -/
def DAB.SEL_STAT.DUP (n : Nat) (k : Nat) : Field := ⟨0x030080 + 4096 * n + 4 * k, 13, 1⟩
/-- `DAB.SEL_STAT.LIMIT` (R218). -/
def DAB.SEL_STAT.LIMIT (n : Nat) (k : Nat) : Field := ⟨0x030080 + 4096 * n + 4 * k, 12, 1⟩
/-- `DAB.SEL_STAT.NO_DEC` (R218). -/
def DAB.SEL_STAT.NO_DEC (n : Nat) (k : Nat) : Field := ⟨0x030080 + 4096 * n + 4 * k, 11, 1⟩
/-- `DAB.SEL_STAT.PRESENT` (R218). -/
def DAB.SEL_STAT.PRESENT (n : Nat) (k : Nat) : Field := ⟨0x030080 + 4096 * n + 4 * k, 6, 1⟩
/-- `DAB.SEL_STAT.PS` (R218). -/
def DAB.SEL_STAT.PS (n : Nat) (k : Nat) : Field := ⟨0x030080 + 4096 * n + 4 * k, 19, 1⟩
/-- `DAB.SEL_STAT.RATE` (R218). -/
def DAB.SEL_STAT.RATE (n : Nat) (k : Nat) : Field := ⟨0x030080 + 4096 * n + 4 * k, 21, 2⟩
/-- `DAB.SEL_STAT.SBR` (R218). -/
def DAB.SEL_STAT.SBR (n : Nat) (k : Nat) : Field := ⟨0x030080 + 4096 * n + 4 * k, 18, 1⟩
/-- `DAB.SEL_STAT.SF_SYNC` (R218). -/
def DAB.SEL_STAT.SF_SYNC (n : Nat) (k : Nat) : Field := ⟨0x030080 + 4096 * n + 4 * k, 23, 1⟩
/-- `DAB.SEL_STAT.STEREO` (R218). -/
def DAB.SEL_STAT.STEREO (n : Nat) (k : Nat) : Field := ⟨0x030080 + 4096 * n + 4 * k, 20, 1⟩
/-- `DAB.SEL_STAT.UNSUPPORTED` (R218). -/
def DAB.SEL_STAT.UNSUPPORTED (n : Nat) (k : Nat) : Field := ⟨0x030080 + 4096 * n + 4 * k, 14, 1⟩
/-- `DAB.STAT.CU` (R218). -/
def DAB.STAT.CU (n : Nat) : Field := ⟨0x03000C + 4096 * n, 13, 10⟩
/-- `DAB.STAT.SUBCH` (R218). -/
def DAB.STAT.SUBCH (n : Nat) : Field := ⟨0x03000C + 4096 * n, 10, 3⟩
/-- `DAB.TUNE.EN` (R218). -/
def DAB.TUNE.EN (n : Nat) : Field := ⟨0x030040 + 4096 * n, 7, 1⟩
/-- `DRM.CHG.LOST` (R190). -/
def DRM.CHG.LOST (n : Nat) : Field := ⟨0x0340A0 + 4096 * n, 3, 1⟩
/-- `DRM.CHG.RECONFIG` (R190). -/
def DRM.CHG.RECONFIG (n : Nat) : Field := ⟨0x0340A0 + 4096 * n, 4, 1⟩
/-- `DRM.CHG.REFUSED` (R190). -/
def DRM.CHG.REFUSED (n : Nat) : Field := ⟨0x0340A0 + 4096 * n, 1, 1⟩
/-- `DRM.CHG.SERVICES` (R190). -/
def DRM.CHG.SERVICES (n : Nat) : Field := ⟨0x0340A0 + 4096 * n, 5, 1⟩
/-- `DRM.CHG.SYNC` (R190). -/
def DRM.CHG.SYNC (n : Nat) : Field := ⟨0x0340A0 + 4096 * n, 2, 1⟩
/-- `DRM.CHG.TEXT` (R190). -/
def DRM.CHG.TEXT (n : Nat) : Field := ⟨0x0340A0 + 4096 * n, 6, 1⟩
/-- `DRM.CHG.TIME` (R190). -/
def DRM.CHG.TIME (n : Nat) : Field := ⟨0x0340A0 + 4096 * n, 7, 1⟩
/-- `DRM.CHG.TUNED` (R190). -/
def DRM.CHG.TUNED (n : Nat) : Field := ⟨0x0340A0 + 4096 * n, 0, 1⟩
/-- `DRM.CTRL.DATA_EN` (R190). -/
def DRM.CTRL.DATA_EN (n : Nat) : Field := ⟨0x034008 + 4096 * n, 1, 1⟩
/-- `DRM.CTRL.TEXT_EN` (R190). -/
def DRM.CTRL.TEXT_EN (n : Nat) : Field := ⟨0x034008 + 4096 * n, 0, 1⟩
/-- `DRM.FAC_CNT.ERR` (R190). -/
def DRM.FAC_CNT.ERR (n : Nat) : Field := ⟨0x034080 + 4096 * n, 16, 16⟩
/-- `DRM.FAC_CNT.OK` (R190). -/
def DRM.FAC_CNT.OK (n : Nat) : Field := ⟨0x034080 + 4096 * n, 0, 16⟩
/-- `DRM.SDC_CNT.ERR` (R190). -/
def DRM.SDC_CNT.ERR (n : Nat) : Field := ⟨0x034084 + 4096 * n, 16, 16⟩
/-- `DRM.SDC_CNT.OK` (R190). -/
def DRM.SDC_CNT.OK (n : Nat) : Field := ⟨0x034084 + 4096 * n, 0, 16⟩
/-- `DRM.STAT.ROBUST` (R190). -/
def DRM.STAT.ROBUST (n : Nat) : Field := ⟨0x03400C + 4096 * n, 3, 3⟩
/-- `DRM.STAT.SDC_VALID` (R190). -/
def DRM.STAT.SDC_VALID (n : Nat) : Field := ⟨0x03400C + 4096 * n, 16, 1⟩
/-- `DRM.STAT.UNSUPPORTED` (R190). -/
def DRM.STAT.UNSUPPORTED (n : Nat) : Field := ⟨0x03400C + 4096 * n, 17, 1⟩
/-- `DRM.SVC_AUD.ERR` (R190). -/
def DRM.SVC_AUD.ERR (n : Nat) (k : Nat) : Field := ⟨0x034064 + 4096 * n + 4 * k, 16, 16⟩
/-- `DRM.SVC_AUD.OK` (R190). -/
def DRM.SVC_AUD.OK (n : Nat) (k : Nat) : Field := ⟨0x034064 + 4096 * n + 4 * k, 0, 16⟩
/-- `DRM.SVC_INFO_W1.LABEL_LEN` (R191). -/
def DRM.SVC_INFO_W1.LABEL_LEN (n : Nat) (k : Nat) : Field := ⟨0x034104 + 4096 * n + 32 * k, 11, 5⟩
/-- `DRM.SVC_INFO_W1.TRUNC` (R191). -/
def DRM.SVC_INFO_W1.TRUNC (n : Nat) (k : Nat) : Field := ⟨0x034104 + 4096 * n + 32 * k, 10, 1⟩
/-- `DRM.SVC_SEL.EN` (R190). -/
def DRM.SVC_SEL.EN (n : Nat) (k : Nat) : Field := ⟨0x034044 + 4096 * n + 4 * k, 24, 1⟩
/-- `DRM.SVC_SEL.SID` (R190). -/
def DRM.SVC_SEL.SID (n : Nat) (k : Nat) : Field := ⟨0x034044 + 4096 * n + 4 * k, 0, 24⟩
/-- `DRM.SVC_STAT.DECODING` (R190). -/
def DRM.SVC_STAT.DECODING (n : Nat) (k : Nat) : Field := ⟨0x034054 + 4096 * n + 4 * k, 4, 1⟩
/-- `DRM.SVC_STAT.DUP` (R190). -/
def DRM.SVC_STAT.DUP (n : Nat) (k : Nat) : Field := ⟨0x034054 + 4096 * n + 4 * k, 7, 1⟩
/-- `DRM.SVC_STAT.NO_DEC` (R190). -/
def DRM.SVC_STAT.NO_DEC (n : Nat) (k : Nat) : Field := ⟨0x034054 + 4096 * n + 4 * k, 5, 1⟩
/-- `DRM.SVC_STAT.PRESENT` (R190). -/
def DRM.SVC_STAT.PRESENT (n : Nat) (k : Nat) : Field := ⟨0x034054 + 4096 * n + 4 * k, 2, 1⟩
/-- `DRM.SVC_STAT.UNSUPPORTED` (R190). -/
def DRM.SVC_STAT.UNSUPPORTED (n : Nat) (k : Nat) : Field := ⟨0x034054 + 4096 * n + 4 * k, 6, 1⟩
/-- `DRM.TEXT_STAT.TOGGLE` (R190). -/
def DRM.TEXT_STAT.TOGGLE (n : Nat) (k : Nat) : Field := ⟨0x034400 + 4096 * n + 4 * k, 9, 1⟩
/-- `DRM.TEXT_STAT.VALID` (R190). -/
def DRM.TEXT_STAT.VALID (n : Nat) (k : Nat) : Field := ⟨0x034400 + 4096 * n + 4 * k, 8, 1⟩
/-- `DRM.TIME0.TIME_VALID` (R190). -/
def DRM.TIME0.TIME_VALID (n : Nat) : Field := ⟨0x034088 + 4096 * n, 28, 1⟩
/-- `DRM.TUNE.FREQ_KHZ` (R190). -/
def DRM.TUNE.FREQ_KHZ (n : Nat) : Field := ⟨0x034040 + 4096 * n, 0, 17⟩
/-- `ECC.CE_CNT.COUNT` (R406). -/
def ECC.CE_CNT.COUNT : Field := ⟨0x073040, 0, 32⟩
/-- `ECC.PASS_CNT.COUNT` (R406). -/
def ECC.PASS_CNT.COUNT : Field := ⟨0x07304C, 0, 32⟩
/-- `ECC.PASS_MS.MS` (R406). -/
def ECC.PASS_MS.MS : Field := ⟨0x073050, 0, 16⟩
/-- `ECC.UE_CNT.COUNT` (R406). -/
def ECC.UE_CNT.COUNT : Field := ⟨0x073044, 0, 32⟩
/-- `FE.CLIP_CNT.COUNT` (R36). -/
def FE.CLIP_CNT.COUNT (n : Nat) : Field := ⟨0x00804C + 4096 * n, 0, 32⟩
/-- `FE.CTRL.FORCE` (R36). -/
def FE.CTRL.FORCE (n : Nat) : Field := ⟨0x008008 + 4096 * n, 3, 1⟩
/-- `FE.CTRL.GLIMPSE_EN` (R36). -/
def FE.CTRL.GLIMPSE_EN (n : Nat) : Field := ⟨0x008008 + 4096 * n, 4, 1⟩
/-- `FE.CTRL.MODE` (R36). -/
def FE.CTRL.MODE (n : Nat) : Field := ⟨0x008008 + 4096 * n, 0, 2⟩
/-- `FE.CTRL.TEST` (R36). -/
def FE.CTRL.TEST (n : Nat) : Field := ⟨0x008008 + 4096 * n, 2, 1⟩
/-- `FE.SPIKE_CNT.COUNT` (R36). -/
def FE.SPIKE_CNT.COUNT (n : Nat) : Field := ⟨0x008050 + 4096 * n, 0, 32⟩
/-- `FE.STAT.GAIN_STEP` (R36). -/
def FE.STAT.GAIN_STEP (n : Nat) : Field := ⟨0x00800C + 4096 * n, 8, 5⟩
/-- `FE.STAT.MODE_NOW` (R36). -/
def FE.STAT.MODE_NOW (n : Nat) : Field := ⟨0x00800C + 4096 * n, 0, 2⟩
/-- `FE.STAT.OVERLOAD` (R36). -/
def FE.STAT.OVERLOAD (n : Nat) : Field := ⟨0x00800C + 4096 * n, 3, 1⟩
/-- `FE.STAT.TILE_CONFLICT` (R36). -/
def FE.STAT.TILE_CONFLICT (n : Nat) : Field := ⟨0x00800C + 4096 * n, 4, 1⟩
/-- `FE.TILE_CENTRE.KHZ` (R36). -/
def FE.TILE_CENTRE.KHZ (n : Nat) : Field := ⟨0x008040 + 4096 * n, 0, 18⟩
/-- `FE.TILE_NOW.KHZ` (R36). -/
def FE.TILE_NOW.KHZ (n : Nat) : Field := ⟨0x008044 + 4096 * n, 0, 18⟩
/-- `FE.WIDEBAND.LEVEL` (R36). -/
def FE.WIDEBAND.LEVEL (n : Nat) : Field := ⟨0x008048 + 4096 * n, 0, 16⟩
/-- `FLT.ESCALATE_CNT.COUNT` (R403). -/
def FLT.ESCALATE_CNT.COUNT : Field := ⟨0x071048, 0, 16⟩
/-- `FLT.PERMANENT_CNT.COUNT` (R403). -/
def FLT.PERMANENT_CNT.COUNT : Field := ⟨0x071044, 0, 16⟩
/-- `FLT.STAT.RECOVERING` (R403). -/
def FLT.STAT.RECOVERING : Field := ⟨0x07100C, 0, 1⟩
/-- `FLT.STAT.SAFE_WHY` (R403). -/
def FLT.STAT.SAFE_WHY : Field := ⟨0x07100C, 2, 3⟩
/-- `FLT.TRANSIENT_CNT.COUNT` (R403). -/
def FLT.TRANSIENT_CNT.COUNT : Field := ⟨0x071040, 0, 16⟩
/-- `FMF.BLEND.MP_LIMIT` (R160). -/
def FMF.BLEND.MP_LIMIT (n : Nat) : Field := ⟨0x020044 + 4096 * n, 16, 8⟩
/-- `FMF.BLEND.ST_FULL` (R160). -/
def FMF.BLEND.ST_FULL (n : Nat) : Field := ⟨0x020044 + 4096 * n, 0, 8⟩
/-- `FMF.BLEND.ST_MONO` (R160). -/
def FMF.BLEND.ST_MONO (n : Nat) : Field := ⟨0x020044 + 4096 * n, 8, 8⟩
/-- `FMF.CHG.AF` (R160). -/
def FMF.CHG.AF (n : Nat) : Field := ⟨0x0200A0 + 4096 * n, 9, 1⟩
/-- `FMF.CHG.ALARM_OFF` (R160). -/
def FMF.CHG.ALARM_OFF (n : Nat) : Field := ⟨0x0200A0 + 4096 * n, 12, 1⟩
/-- `FMF.CHG.ALARM_ON` (R160). -/
def FMF.CHG.ALARM_ON (n : Nat) : Field := ⟨0x0200A0 + 4096 * n, 11, 1⟩
/-- `FMF.CHG.CAPTURE` (R160). -/
def FMF.CHG.CAPTURE (n : Nat) : Field := ⟨0x0200A0 + 4096 * n, 13, 1⟩
/-- `FMF.CHG.CT` (R160). -/
def FMF.CHG.CT (n : Nat) : Field := ⟨0x0200A0 + 4096 * n, 10, 1⟩
/-- `FMF.CHG.PI_CHANGE` (R160). -/
def FMF.CHG.PI_CHANGE (n : Nat) : Field := ⟨0x0200A0 + 4096 * n, 4, 1⟩
/-- `FMF.CHG.PS` (R160). -/
def FMF.CHG.PS (n : Nat) : Field := ⟨0x0200A0 + 4096 * n, 5, 1⟩
/-- `FMF.CHG.PTY` (R160). -/
def FMF.CHG.PTY (n : Nat) : Field := ⟨0x0200A0 + 4096 * n, 7, 1⟩
/-- `FMF.CHG.RDS2` (R160). -/
def FMF.CHG.RDS2 (n : Nat) : Field := ⟨0x0200A0 + 4096 * n, 15, 1⟩
/-- `FMF.CHG.RDS_LOST` (R160). -/
def FMF.CHG.RDS_LOST (n : Nat) : Field := ⟨0x0200A0 + 4096 * n, 3, 1⟩
/-- `FMF.CHG.RDS_ROOT` (R160). -/
def FMF.CHG.RDS_ROOT (n : Nat) : Field := ⟨0x0200A0 + 4096 * n, 2, 1⟩
/-- `FMF.CHG.REFUSED` (R160). -/
def FMF.CHG.REFUSED (n : Nat) : Field := ⟨0x0200A0 + 4096 * n, 1, 1⟩
/-- `FMF.CHG.RT` (R160). -/
def FMF.CHG.RT (n : Nat) : Field := ⟨0x0200A0 + 4096 * n, 6, 1⟩
/-- `FMF.CHG.STEREO` (R160). -/
def FMF.CHG.STEREO (n : Nat) : Field := ⟨0x0200A0 + 4096 * n, 14, 1⟩
/-- `FMF.CHG.TA` (R160). -/
def FMF.CHG.TA (n : Nat) : Field := ⟨0x0200A0 + 4096 * n, 8, 1⟩
/-- `FMF.CHG.TUNED` (R160). -/
def FMF.CHG.TUNED (n : Nat) : Field := ⟨0x0200A0 + 4096 * n, 0, 1⟩
/-- `FMF.CONCEAL_CNT.COUNT` (R160). -/
def FMF.CONCEAL_CNT.COUNT (n : Nat) : Field := ⟨0x02005C + 4096 * n, 0, 32⟩
/-- `FMF.CTRL.DEEMPH` (R160). -/
def FMF.CTRL.DEEMPH (n : Nat) : Field := ⟨0x020008 + 4096 * n, 0, 1⟩
/-- `FMF.CTRL.ECC` (R160). -/
def FMF.CTRL.ECC (n : Nat) : Field := ⟨0x020008 + 4096 * n, 4, 2⟩
/-- `FMF.CTRL.HICUT_EN` (R160). -/
def FMF.CTRL.HICUT_EN (n : Nat) : Field := ⟨0x020008 + 4096 * n, 6, 1⟩
/-- `FMF.CTRL.MONO` (R160). -/
def FMF.CTRL.MONO (n : Nat) : Field := ⟨0x020008 + 4096 * n, 2, 1⟩
/-- `FMF.CTRL.RBDS` (R160). -/
def FMF.CTRL.RBDS (n : Nat) : Field := ⟨0x020008 + 4096 * n, 1, 1⟩
/-- `FMF.CTRL.RDS2_EN` (R160). -/
def FMF.CTRL.RDS2_EN (n : Nat) : Field := ⟨0x020008 + 4096 * n, 3, 1⟩
/-- `FMF.GRP_CFG.STREAMS` (R160). -/
def FMF.GRP_CFG.STREAMS (n : Nat) : Field := ⟨0x020204 + 4096 * n, 0, 4⟩
/-- `FMF.GRP_CFG.THRESH` (R160). -/
def FMF.GRP_CFG.THRESH (n : Nat) : Field := ⟨0x020204 + 4096 * n, 8, 8⟩
/-- `FMF.GRP_CFG.TYPE_C_EN` (R160). -/
def FMF.GRP_CFG.TYPE_C_EN (n : Nat) : Field := ⟨0x020204 + 4096 * n, 16, 1⟩
/-- `FMF.GRP_DROP.COUNT` (R160). -/
def FMF.GRP_DROP.COUNT (n : Nat) : Field := ⟨0x02020C + 4096 * n, 0, 32⟩
/-- `FMF.GRP_FILT.MASK` (R160). -/
def FMF.GRP_FILT.MASK (n : Nat) : Field := ⟨0x020200 + 4096 * n, 0, 32⟩
/-- `FMF.GRP_STAT.OVERFLOW` (R160). -/
def FMF.GRP_STAT.OVERFLOW (n : Nat) : Field := ⟨0x020208 + 4096 * n, 16, 1⟩
/-- `FMF.HICUT_CFG.HC_FULL` (R160). -/
def FMF.HICUT_CFG.HC_FULL (n : Nat) : Field := ⟨0x020048 + 4096 * n, 8, 8⟩
/-- `FMF.HICUT_CFG.HC_MIN` (R160). -/
def FMF.HICUT_CFG.HC_MIN (n : Nat) : Field := ⟨0x020048 + 4096 * n, 16, 8⟩
/-- `FMF.HICUT_CFG.HC_START` (R160). -/
def FMF.HICUT_CFG.HC_START (n : Nat) : Field := ⟨0x020048 + 4096 * n, 0, 8⟩
/-- `FMF.STAT.CONCEALED` (R160). -/
def FMF.STAT.CONCEALED (n : Nat) : Field := ⟨0x02000C + 4096 * n, 8, 1⟩
/-- `FMF.STAT.STEREO` (R160). -/
def FMF.STAT.STEREO (n : Nat) : Field := ⟨0x02000C + 4096 * n, 3, 1⟩
/-- `FMF.STAT.SUSPECT` (R160). -/
def FMF.STAT.SUSPECT (n : Nat) : Field := ⟨0x02000C + 4096 * n, 11, 1⟩
/-- `FMF.TUNE.FREQ_KHZ` (R160). -/
def FMF.TUNE.FREQ_KHZ (n : Nat) : Field := ⟨0x020040 + 4096 * n, 0, 17⟩
/-- `FWU.BLOCK_ERR.VALID` (R367). -/
def FWU.BLOCK_ERR.VALID : Field := ⟨0x06A054, 31, 1⟩
/-- `FWU.CFG.WINDOW_MIN` (R367). -/
def FWU.CFG.WINDOW_MIN : Field := ⟨0x06A044, 0, 11⟩
/-- `FWU.DL_BASE.BASE` (R367). -/
def FWU.DL_BASE.BASE : Field := ⟨0x06A048, 0, 9⟩
/-- `FWU.RECOVERY_WHY.WHY` (R367). -/
def FWU.RECOVERY_WHY.WHY : Field := ⟨0x06A098, 0, 4⟩
/-- `FWU.RES0.ERR` (R367). -/
def FWU.RES0.ERR : Field := ⟨0x06A080, 16, 8⟩
/-- `FWU.RES0.OP` (R367). -/
def FWU.RES0.OP : Field := ⟨0x06A080, 12, 4⟩
/-- `FWU.RUN_VER.VERSION` (R367). -/
def FWU.RUN_VER.VERSION : Field := ⟨0x06A090, 0, 32⟩
/-- `FWU.RX_COUNT.EXPECTED` (R367). -/
def FWU.RX_COUNT.EXPECTED : Field := ⟨0x06A050, 16, 9⟩
/-- `FWU.SLOT_BUSY.BUSY` (R367). -/
def FWU.SLOT_BUSY.BUSY : Field := ⟨0x06A04C, 0, 16⟩
/-- `FWU.STAT.FAULTS` (R367). -/
def FWU.STAT.FAULTS : Field := ⟨0x06A00C, 8, 2⟩
/-- `FWU.STAT.STAGE` (R367). -/
def FWU.STAT.STAGE : Field := ⟨0x06A00C, 0, 3⟩
/-- `FWU.STAT.SWAPPING` (R367). -/
def FWU.STAT.SWAPPING : Field := ⟨0x06A00C, 7, 1⟩
/-- `HSP.CRC_ERR_CNT.COUNT` (R310). -/
def HSP.CRC_ERR_CNT.COUNT : Field := ⟨0x060040, 0, 16⟩
/-- `HSP.CTRL.CRC_EN` (R310). -/
def HSP.CTRL.CRC_EN : Field := ⟨0x060008, 0, 1⟩
/-- `HSP.FRAME_ERR_CNT.COUNT` (R310). -/
def HSP.FRAME_ERR_CNT.COUNT : Field := ⟨0x060044, 0, 16⟩
/-- `HSP.STAT.CRC_NOW` (R310). -/
def HSP.STAT.CRC_NOW : Field := ⟨0x06000C, 0, 1⟩
/-- `HSP.STAT.MODE3` (R310). -/
def HSP.STAT.MODE3 : Field := ⟨0x06000C, 1, 1⟩
/-- `HSP.STAT.QUAD` (R310). -/
def HSP.STAT.QUAD : Field := ⟨0x06000C, 2, 1⟩
/-- `INJ.COEF.C` (R45). -/
def INJ.COEF.C (k : Nat) : Field := ⟨0x00C100 + 4 * k, 0, 16⟩
/-- `INJ.CTRL.ENABLE` (R45). -/
def INJ.CTRL.ENABLE : Field := ⟨0x00C008, 0, 1⟩
/-- `INJ.CTRL.LEVEL` (R45). -/
def INJ.CTRL.LEVEL : Field := ⟨0x00C008, 8, 5⟩
/-- `INJ.CTRL.SHAPED` (R45). -/
def INJ.CTRL.SHAPED : Field := ⟨0x00C008, 16, 1⟩
/-- `INJ.CTRL.ZONE` (R45). -/
def INJ.CTRL.ZONE : Field := ⟨0x00C008, 1, 2⟩
/-- `INJ.FREQ.W` (R45). -/
def INJ.FREQ.W : Field := ⟨0x00C040, 0, 32⟩
/-- `INJ.SHAPE_BW.KHZ` (R45). -/
def INJ.SHAPE_BW.KHZ : Field := ⟨0x00C044, 0, 16⟩
/-- `INJ.STAT.ACTIVE` (R45). -/
def INJ.STAT.ACTIVE : Field := ⟨0x00C00C, 0, 1⟩
/-- `INJ.STAT.CLAMPED` (R45). -/
def INJ.STAT.CLAMPED : Field := ⟨0x00C00C, 1, 1⟩
/-- `INJ.STAT.LEVEL_NOW` (R45). -/
def INJ.STAT.LEVEL_NOW : Field := ⟨0x00C00C, 8, 5⟩
/-- `INJ.STAT.MASK_OK` (R45). -/
def INJ.STAT.MASK_OK : Field := ⟨0x00C00C, 3, 1⟩
/-- `INJ.STAT.REASON` (R45). -/
def INJ.STAT.REASON : Field := ⟨0x00C00C, 20, 4⟩
/-- `LNM.CAPACITY.COUNT` (R132). -/
def LNM.CAPACITY.COUNT (k : Nat) : Field := ⟨0x018040 + 4 * k, 0, 8⟩
/-- `LNM.CORE_STAT.HEALTHY` (R132). -/
def LNM.CORE_STAT.HEALTHY (k : Nat) : Field := ⟨0x018080 + 4 * k, 8, 1⟩
/-- `LNM.CORE_STAT.IN_TEST` (R132). -/
def LNM.CORE_STAT.IN_TEST (k : Nat) : Field := ⟨0x018080 + 4 * k, 10, 1⟩
/-- `LNM.CORE_STAT.LOAD` (R132). -/
def LNM.CORE_STAT.LOAD (k : Nat) : Field := ⟨0x018080 + 4 * k, 0, 8⟩
/-- `LNM.CORE_STAT.RETIRED` (R132). -/
def LNM.CORE_STAT.RETIRED (k : Nat) : Field := ⟨0x018080 + 4 * k, 9, 1⟩
/-- `LNM.CTRL.AUTO_AM` (R132). -/
def LNM.CTRL.AUTO_AM : Field := ⟨0x018008, 2, 1⟩
/-- `LNM.CTRL.AUTO_FIC` (R132). -/
def LNM.CTRL.AUTO_FIC : Field := ⟨0x018008, 1, 1⟩
/-- `LNM.CTRL.AUTO_RDS` (R132). -/
def LNM.CTRL.AUTO_RDS : Field := ⟨0x018008, 0, 1⟩
/-- `LNM.CTRL.ROTATE_FIC` (R132). -/
def LNM.CTRL.ROTATE_FIC : Field := ⟨0x018008, 3, 1⟩
/-- `LNM.FIC_DWELL.EPOCHS` (R132). -/
def LNM.FIC_DWELL.EPOCHS : Field := ⟨0x018064, 0, 16⟩
/-- `LNM.WATCH_THR.AM_THR` (R132). -/
def LNM.WATCH_THR.AM_THR : Field := ⟨0x018060, 16, 8⟩
/-- `LNM.WATCH_THR.FIC_THR` (R132). -/
def LNM.WATCH_THR.FIC_THR : Field := ⟨0x018060, 8, 8⟩
/-- `LNM.WATCH_THR.HYST` (R132). -/
def LNM.WATCH_THR.HYST : Field := ⟨0x018060, 24, 8⟩
/-- `LNM.WATCH_THR.RDS_THR` (R132). -/
def LNM.WATCH_THR.RDS_THR : Field := ⟨0x018060, 0, 8⟩
/-- `LO.CTRL.STALE_RESEARCH` (R79). -/
def LO.CTRL.STALE_RESEARCH (n : Nat) : Field := ⟨0x003008 + 4096 * n, 0, 1⟩
/-- `LO.FRAC.F` (R79). -/
def LO.FRAC.F (n : Nat) : Field := ⟨0x003044 + 4096 * n, 0, 32⟩
/-- `LO.FREQ_HZ.HZ` (R79). -/
def LO.FREQ_HZ.HZ (n : Nat) : Field := ⟨0x00304C + 4096 * n, 0, 32⟩
/-- `LO.HOP_W0.FREQ_HZ` (R63). -/
def LO.HOP_W0.FREQ_HZ (n : Nat) (k : Nat) : Field := ⟨0x003100 + 4096 * n + 16 * k, 0, 32⟩
/-- `LO.HOP_W1.STALE` (R63). -/
def LO.HOP_W1.STALE (n : Nat) (k : Nat) : Field := ⟨0x003104 + 4096 * n + 16 * k, 7, 1⟩
/-- `LO.HOP_W1.SUBBAND` (R63). -/
def LO.HOP_W1.SUBBAND (n : Nat) (k : Nat) : Field := ⟨0x003104 + 4096 * n + 16 * k, 0, 6⟩
/-- `LO.HOP_W1.VALID` (R63). -/
def LO.HOP_W1.VALID (n : Nat) (k : Nat) : Field := ⟨0x003104 + 4096 * n + 16 * k, 6, 1⟩
/-- `LO.HOP_W2.TJ_CAL` (R63). -/
def LO.HOP_W2.TJ_CAL (n : Nat) (k : Nat) : Field := ⟨0x003108 + 4096 * n + 16 * k, 0, 16⟩
/-- `LO.HOP_W3.CAL_EPOCH` (R63). -/
def LO.HOP_W3.CAL_EPOCH (n : Nat) (k : Nat) : Field := ⟨0x00310C + 4096 * n + 16 * k, 0, 32⟩
/-- `LO.INT.N` (R79). -/
def LO.INT.N (n : Nat) : Field := ⟨0x003040 + 4096 * n, 0, 8⟩
/-- `LO.NEXT_EPOCH.EPOCH` (R79). -/
def LO.NEXT_EPOCH.EPOCH (n : Nat) : Field := ⟨0x00305C + 4096 * n, 0, 32⟩
/-- `LO.NEXT_FRAC.F` (R79). -/
def LO.NEXT_FRAC.F (n : Nat) : Field := ⟨0x003054 + 4096 * n, 0, 32⟩
/-- `LO.NEXT_INT.N` (R79). -/
def LO.NEXT_INT.N (n : Nat) : Field := ⟨0x003050 + 4096 * n, 0, 8⟩
/-- `LO.NEXT_ODIV.D` (R79). -/
def LO.NEXT_ODIV.D (n : Nat) : Field := ⟨0x003058 + 4096 * n, 0, 6⟩
/-- `LO.ODIV.D` (R79). -/
def LO.ODIV.D (n : Nat) : Field := ⟨0x003048 + 4096 * n, 0, 6⟩
/-- `LO.STAT.CALIBRATING` (R79). -/
def LO.STAT.CALIBRATING (n : Nat) : Field := ⟨0x00300C + 4096 * n, 2, 1⟩
/-- `LO.STAT.CAL_PENDING` (R79). -/
def LO.STAT.CAL_PENDING (n : Nat) : Field := ⟨0x00300C + 4096 * n, 5, 1⟩
/-- `LO.STAT.COAST` (R79). -/
def LO.STAT.COAST (n : Nat) : Field := ⟨0x00300C + 4096 * n, 3, 1⟩
/-- `LO.STAT.ENTRY` (R79). -/
def LO.STAT.ENTRY (n : Nat) : Field := ⟨0x00300C + 4096 * n, 16, 5⟩
/-- `LO.STAT.LOCKED` (R79). -/
def LO.STAT.LOCKED (n : Nat) : Field := ⟨0x00300C + 4096 * n, 0, 1⟩
/-- `LO.STAT.QUEUED` (R79). -/
def LO.STAT.QUEUED (n : Nat) : Field := ⟨0x00300C + 4096 * n, 4, 1⟩
/-- `LO.STAT.SETTLING` (R79). -/
def LO.STAT.SETTLING (n : Nat) : Field := ⟨0x00300C + 4096 * n, 1, 1⟩
/-- `LO.STAT.SUBBAND` (R79). -/
def LO.STAT.SUBBAND (n : Nat) : Field := ⟨0x00300C + 4096 * n, 8, 6⟩
/-- `LO.SUPERSEDED_CNT.COUNT` (R79). -/
def LO.SUPERSEDED_CNT.COUNT (n : Nat) : Field := ⟨0x003064 + 4096 * n, 0, 16⟩
/-- `NVS.GEN_NOW.FORMAT` (R383). -/
def NVS.GEN_NOW.FORMAT : Field := ⟨0x068050, 0, 16⟩
/-- `NVS.GEN_NOW.GEN_LO` (R383). -/
def NVS.GEN_NOW.GEN_LO : Field := ⟨0x068050, 16, 16⟩
/-- `NVS.RESULT.ERR` (R383). -/
def NVS.RESULT.ERR : Field := ⟨0x068044, 16, 4⟩
/-- `NVS.RESULT.OP` (R383). -/
def NVS.RESULT.OP : Field := ⟨0x068044, 12, 4⟩
/-- `NVS.WEAR.G` (R383). -/
def NVS.WEAR.G : Field := ⟨0x068054, 17, 7⟩
/-- `NVS.WEAR.MAX_ERASE` (R383). -/
def NVS.WEAR.MAX_ERASE : Field := ⟨0x068054, 0, 17⟩
/-- `NVS.WEAR.RETIRED` (R383). -/
def NVS.WEAR.RETIRED : Field := ⟨0x068054, 24, 8⟩
/-- `OFS.CORR_PPB.PPB` (R135). -/
def OFS.CORR_PPB.PPB : Field := ⟨0x040048, 0, 32⟩
/-- `OFS.CTRL.DRM_USE` (R135). -/
def OFS.CTRL.DRM_USE : Field := ⟨0x040008, 2, 1⟩
/-- `OFS.CTRL.FIC_USE` (R135). -/
def OFS.CTRL.FIC_USE : Field := ⟨0x040008, 3, 1⟩
/-- `OFS.CTRL.MODE` (R135). -/
def OFS.CTRL.MODE : Field := ⟨0x040008, 0, 2⟩
/-- `OFS.EPOCH_PLAN.EPOCH` (R135). -/
def OFS.EPOCH_PLAN.EPOCH : Field := ⟨0x040044, 0, 32⟩
/-- `OFS.EST_PPB.PPB` (R135). -/
def OFS.EST_PPB.PPB : Field := ⟨0x040040, 0, 32⟩
/-- `OFS.LAST_EPOCH.EPOCH` (R135). -/
def OFS.LAST_EPOCH.EPOCH : Field := ⟨0x040058, 0, 32⟩
/-- `OFS.MAN_PPB.PPB` (R135). -/
def OFS.MAN_PPB.PPB : Field := ⟨0x040050, 0, 32⟩
/-- `OFS.STAT.AT_LIMIT` (R135). -/
def OFS.STAT.AT_LIMIT : Field := ⟨0x04000C, 2, 1⟩
/-- `OFS.STAT.CONVERGED` (R135). -/
def OFS.STAT.CONVERGED : Field := ⟨0x04000C, 0, 1⟩
/-- `OFS.STAT.NO_SOURCE` (R135). -/
def OFS.STAT.NO_SOURCE : Field := ⟨0x04000C, 1, 1⟩
/-- `OFS.STAT.SOURCES` (R135). -/
def OFS.STAT.SOURCES : Field := ⟨0x04000C, 8, 8⟩
/-- `OFS.STEP_PPB.PPB` (R135). -/
def OFS.STEP_PPB.PPB : Field := ⟨0x04004C, 0, 16⟩
/-- `PGM.BLEND.FLOOR` (R253). -/
def PGM.BLEND.FLOOR (n : Nat) : Field := ⟨0x048054 + 4096 * n, 0, 7⟩
/-- `PGM.BLEND.HYST` (R253). -/
def PGM.BLEND.HYST (n : Nat) : Field := ⟨0x048054 + 4096 * n, 8, 7⟩
/-- `PGM.BLEND.SLEW` (R253). -/
def PGM.BLEND.SLEW (n : Nat) : Field := ⟨0x048054 + 4096 * n, 16, 6⟩
/-- `PGM.BLEND.SUM_EN` (R253). -/
def PGM.BLEND.SUM_EN (n : Nat) : Field := ⟨0x048054 + 4096 * n, 24, 1⟩
/-- `PGM.CTRL.EN` (R253). -/
def PGM.CTRL.EN (n : Nat) : Field := ⟨0x048008 + 4096 * n, 0, 1⟩
/-- `PGM.CTRL.MUTE` (R253). -/
def PGM.CTRL.MUTE (n : Nat) : Field := ⟨0x048008 + 4096 * n, 1, 1⟩
/-- `PGM.POLICY.MAX` (R253). -/
def PGM.POLICY.MAX (n : Nat) : Field := ⟨0x048050 + 4096 * n, 3, 2⟩
/-- `PGM.POLICY.MODE` (R253). -/
def PGM.POLICY.MODE (n : Nat) : Field := ⟨0x048050 + 4096 * n, 0, 2⟩
/-- `PGM.POLICY.REGIONAL` (R253). -/
def PGM.POLICY.REGIONAL (n : Nat) : Field := ⟨0x048050 + 4096 * n, 2, 1⟩
/-- `PGM.POOL.FREE` (R253). -/
def PGM.POOL.FREE (n : Nat) : Field := ⟨0x048058 + 4096 * n, 16, 16⟩
/-- `PGM.POOL.SLOT_BLOCKS` (R253). -/
def PGM.POOL.SLOT_BLOCKS (n : Nat) : Field := ⟨0x048058 + 4096 * n, 0, 14⟩
/-- `PGM.POOL_TOTAL.TOTAL` (R253). -/
def PGM.POOL_TOTAL.TOTAL (n : Nat) : Field := ⟨0x04805C + 4096 * n, 0, 16⟩
/-- `PGM.SRC.BIAS` (R228). -/
def PGM.SRC.BIAS (n : Nat) (k : Nat) : Field := ⟨0x048040 + 4096 * n + 4 * k, 16, 7⟩
/-- `PGM.SRC.INST` (R228). -/
def PGM.SRC.INST (n : Nat) (k : Nat) : Field := ⟨0x048040 + 4096 * n + 4 * k, 3, 3⟩
/-- `PGM.SRC.KIND` (R228). -/
def PGM.SRC.KIND (n : Nat) (k : Nat) : Field := ⟨0x048040 + 4096 * n + 4 * k, 0, 3⟩
/-- `PGM.SRC.OWNER` (R228). -/
def PGM.SRC.OWNER (n : Nat) (k : Nat) : Field := ⟨0x048040 + 4096 * n + 4 * k, 24, 1⟩
/-- `PGM.SRC.SEL` (R228). -/
def PGM.SRC.SEL (n : Nat) (k : Nat) : Field := ⟨0x048040 + 4096 * n + 4 * k, 6, 3⟩
/-- `PGM.SRC.TRUST` (R228). -/
def PGM.SRC.TRUST (n : Nat) (k : Nat) : Field := ⟨0x048040 + 4096 * n + 4 * k, 9, 1⟩
/-- `PGM.SRC_STAT.BLOCKS` (R253). -/
def PGM.SRC_STAT.BLOCKS (n : Nat) (k : Nat) : Field := ⟨0x048060 + 4096 * n + 4 * k, 20, 12⟩
/-- `PGM.SRC_STAT.GAIN_LIMIT` (R253). -/
def PGM.SRC_STAT.GAIN_LIMIT (n : Nat) (k : Nat) : Field := ⟨0x048060 + 4096 * n + 4 * k, 17, 1⟩
/-- `PGM.SRC_STAT.IN_SUM` (R253). -/
def PGM.SRC_STAT.IN_SUM (n : Nat) (k : Nat) : Field := ⟨0x048060 + 4096 * n + 4 * k, 15, 1⟩
/-- `PGM.SRC_STAT.PATCHED` (R253). -/
def PGM.SRC_STAT.PATCHED (n : Nat) (k : Nat) : Field := ⟨0x048060 + 4096 * n + 4 * k, 16, 1⟩
/-- `PGM.SRC_STAT.Q` (R253). -/
def PGM.SRC_STAT.Q (n : Nat) (k : Nat) : Field := ⟨0x048060 + 4096 * n + 4 * k, 8, 7⟩
/-- `PGM.SRC_STAT.REASON` (R253). -/
def PGM.SRC_STAT.REASON (n : Nat) (k : Nat) : Field := ⟨0x048060 + 4096 * n + 4 * k, 3, 4⟩
/-- `PGM.SRC_STAT.STATE` (R253). -/
def PGM.SRC_STAT.STATE (n : Nat) (k : Nat) : Field := ⟨0x048060 + 4096 * n + 4 * k, 0, 3⟩
/-- `PGM.STAT.ANCHOR` (R253). -/
def PGM.STAT.ANCHOR (n : Nat) : Field := ⟨0x04800C + 4096 * n, 10, 2⟩
/-- `PGM.STAT.CLASS` (R253). -/
def PGM.STAT.CLASS (n : Nat) : Field := ⟨0x04800C + 4096 * n, 12, 7⟩
/-- `PGM.STAT.MODE_NOW` (R253). -/
def PGM.STAT.MODE_NOW (n : Nat) : Field := ⟨0x04800C + 4096 * n, 0, 2⟩
/-- `PGM.STAT.MUTED` (R253). -/
def PGM.STAT.MUTED (n : Nat) : Field := ⟨0x04800C + 4096 * n, 3, 1⟩
/-- `PGM.STAT.REF` (R253). -/
def PGM.STAT.REF (n : Nat) : Field := ⟨0x04800C + 4096 * n, 8, 2⟩
/-- `PGM.STAT.SELECTED` (R253). -/
def PGM.STAT.SELECTED (n : Nat) : Field := ⟨0x04800C + 4096 * n, 4, 2⟩
/-- `PGM.STAT.SLEWING` (R253). -/
def PGM.STAT.SLEWING (n : Nat) : Field := ⟨0x04800C + 4096 * n, 6, 1⟩
/-- `PGM.STAT.SOFT_MUTE` (R253). -/
def PGM.STAT.SOFT_MUTE (n : Nat) : Field := ⟨0x04800C + 4096 * n, 2, 1⟩
/-- `PGM.STAT.TIMELINE_HELD` (R253). -/
def PGM.STAT.TIMELINE_HELD (n : Nat) : Field := ⟨0x04800C + 4096 * n, 7, 1⟩
/-- `PIB.AIP_ID.VALID` (R254). -/
def PIB.AIP_ID.VALID (k : Nat) : Field := ⟨0x04C050 + 4 * k, 31, 1⟩
/-- `PIB.CMD_RES.CLASS` (R254). -/
def PIB.CMD_RES.CLASS : Field := ⟨0x04C048, 0, 6⟩
/-- `PIB.CTRL.LINK_EN` (R254). -/
def PIB.CTRL.LINK_EN : Field := ⟨0x04C008, 0, 1⟩
/-- `PIB.CTRL.SOFT_OK` (R254). -/
def PIB.CTRL.SOFT_OK : Field := ⟨0x04C008, 1, 1⟩
/-- `PIB.STAT.BUSY` (R254). -/
def PIB.STAT.BUSY : Field := ⟨0x04C00C, 8, 1⟩
/-- `PIB.STAT.CLASSES` (R254). -/
def PIB.STAT.CLASSES : Field := ⟨0x04C00C, 0, 7⟩
/-- `PIB.STAT.ERR` (R254). -/
def PIB.STAT.ERR : Field := ⟨0x04C00C, 9, 3⟩
/-- `PIB.STAT.FULL` (R254). -/
def PIB.STAT.FULL : Field := ⟨0x04C00C, 7, 1⟩
/-- `PIB.VIEW.CLASS` (R254). -/
def PIB.VIEW.CLASS : Field := ⟨0x04C060, 0, 6⟩
/-- `PMU.AER_CTRL.EN` (R52). -/
def PMU.AER_CTRL.EN : Field := ⟨0x0010C0, 0, 1⟩
/-- `PMU.AER_CTRL.ILIM` (R52). -/
def PMU.AER_CTRL.ILIM : Field := ⟨0x0010C0, 8, 5⟩
/-- `PMU.AER_SHORT_CNT.COUNT` (R52). -/
def PMU.AER_SHORT_CNT.COUNT : Field := ⟨0x0010C8, 0, 16⟩
/-- `PMU.AER_STAT.CURRENT_MA` (R52). -/
def PMU.AER_STAT.CURRENT_MA : Field := ⟨0x0010C4, 8, 8⟩
/-- `PMU.AER_STAT.LATCHED_OFF` (R52). -/
def PMU.AER_STAT.LATCHED_OFF : Field := ⟨0x0010C4, 2, 1⟩
/-- `PMU.AER_STAT.LIMITING` (R52). -/
def PMU.AER_STAT.LIMITING : Field := ⟨0x0010C4, 1, 1⟩
/-- `PMU.AER_STAT.THERMAL` (R52). -/
def PMU.AER_STAT.THERMAL : Field := ⟨0x0010C4, 3, 1⟩
/-- `PMU.AER_STAT.VOLT_10MV` (R52). -/
def PMU.AER_STAT.VOLT_10MV : Field := ⟨0x0010C4, 16, 10⟩
/-- `PMU.GOV_CFG.THETA` (R349). -/
def PMU.GOV_CFG.THETA : Field := ⟨0x00104C, 16, 12⟩
/-- `PMU.GOV_CFG.TJ_EN` (R349). -/
def PMU.GOV_CFG.TJ_EN : Field := ⟨0x00104C, 0, 1⟩
/-- `PMU.GOV_CFG.TJ_GOV` (R349). -/
def PMU.GOV_CFG.TJ_GOV : Field := ⟨0x00104C, 8, 8⟩
/-- `PMU.GOV_STAT.AMBIENT` (R349). -/
def PMU.GOV_STAT.AMBIENT : Field := ⟨0x001050, 2, 1⟩
/-- `PMU.GOV_STAT.LEVEL` (R349). -/
def PMU.GOV_STAT.LEVEL : Field := ⟨0x001050, 0, 2⟩
/-- `PMU.GOV_STAT.TA_EST` (R349). -/
def PMU.GOV_STAT.TA_EST : Field := ⟨0x001050, 16, 16⟩
/-- `PMU.POWER.MW` (R349). -/
def PMU.POWER.MW : Field := ⟨0x001044, 0, 16⟩
/-- `PMU.STAT.GRADE_E` (R349). -/
def PMU.STAT.GRADE_E : Field := ⟨0x00100C, 2, 1⟩
/-- `PMU.STAT.TJ_WARN` (R349). -/
def PMU.STAT.TJ_WARN : Field := ⟨0x00100C, 1, 1⟩
/-- `PMU.STAT.VSYS_LOW` (R349). -/
def PMU.STAT.VSYS_LOW : Field := ⟨0x00100C, 0, 1⟩
/-- `PMU.TJ.TJ` (R349). -/
def PMU.TJ.TJ : Field := ⟨0x001048, 0, 16⟩
/-- `PMU.VSYS.MV` (R349). -/
def PMU.VSYS.MV : Field := ⟨0x001040, 0, 16⟩
/-- `POD.POD_CFG.MEMBERS` (R273). -/
def POD.POD_CFG.MEMBERS (k : Nat) : Field := ⟨0x055040 + 16 * k, 0, 4⟩
/-- `POD.POD_EPOCH.EPOCH` (R273). -/
def POD.POD_EPOCH.EPOCH (k : Nat) : Field := ⟨0x05504C + 16 * k, 0, 32⟩
/-- `POD.POD_STAT.MISMATCH` (R273). -/
def POD.POD_STAT.MISMATCH (k : Nat) : Field := ⟨0x055048 + 16 * k, 4, 4⟩
/-- `POD.POD_STAT.STATE` (R273). -/
def POD.POD_STAT.STATE (k : Nat) : Field := ⟨0x055048 + 16 * k, 0, 2⟩
/-- `POD.POD_STAT.WAITING` (R273). -/
def POD.POD_STAT.WAITING (k : Nat) : Field := ⟨0x055048 + 16 * k, 8, 4⟩
/-- `POD.STAT.CFG_ERR` (R273). -/
def POD.STAT.CFG_ERR : Field := ⟨0x05500C, 0, 1⟩
/-- `RGL.AER_ILIM_CEIL.STEPS` (R384). -/
def RGL.AER_ILIM_CEIL.STEPS : Field := ⟨0x069050, 0, 5⟩
/-- `RGL.BAND_PLAN.BANDS` (R384). -/
def RGL.BAND_PLAN.BANDS : Field := ⟨0x069044, 0, 8⟩
/-- `RGL.COEX_DUTY_CEIL.DUTY` (R384). -/
def RGL.COEX_DUTY_CEIL.DUTY : Field := ⟨0x06904C, 0, 6⟩
/-- `RGL.INJ_CEIL.LEVEL` (R384). -/
def RGL.INJ_CEIL.LEVEL : Field := ⟨0x069048, 0, 5⟩
/-- `RGL.SEAL.SEALED` (R384). -/
def RGL.SEAL.SEALED : Field := ⟨0x069040, 1, 1⟩
/-- `RGL.STAT.BLOCK_LOST` (R384). -/
def RGL.STAT.BLOCK_LOST : Field := ⟨0x06900C, 0, 1⟩
/-- `RGL.STAT.NOT_HOLD` (R384). -/
def RGL.STAT.NOT_HOLD : Field := ⟨0x06900C, 1, 1⟩
/-- `RGL.UNSEAL.BUSY` (R384). -/
def RGL.UNSEAL.BUSY : Field := ⟨0x069054, 1, 1⟩
/-- `RGL.UNSEAL.ERR` (R384). -/
def RGL.UNSEAL.ERR : Field := ⟨0x069054, 2, 1⟩
/-- `SDQ.QCFG.SIZE` (R225). -/
def SDQ.QCFG.SIZE (k : Nat) : Field := ⟨0x058080 + 4 * k, 8, 9⟩
/-- `SDQ.QDROP.CRC` (R225). -/
def SDQ.QDROP.CRC (k : Nat) : Field := ⟨0x058180 + 4 * k, 16, 16⟩
/-- `SDQ.QDROP.FULL` (R225). -/
def SDQ.QDROP.FULL (k : Nat) : Field := ⟨0x058180 + 4 * k, 0, 16⟩
/-- `SDQ.QSTAT.OVERFLOW` (R225). -/
def SDQ.QSTAT.OVERFLOW (k : Nat) : Field := ⟨0x0580C0 + 4 * k, 16, 1⟩
/-- `SDQ.STAT.CFG_ERR` (R225). -/
def SDQ.STAT.CFG_ERR : Field := ⟨0x05800C, 0, 1⟩
/-- `SDQ.WIN_SEL.QUEUE` (R225). -/
def SDQ.WIN_SEL.QUEUE : Field := ⟨0x058040, 0, 4⟩
/-- `SRV.VIEW.BLOCK` (R100). -/
def SRV.VIEW.BLOCK : Field := ⟨0x0140C0, 16, 5⟩
/-- `SRV.VIEW.MAP` (R100). -/
def SRV.VIEW.MAP : Field := ⟨0x0140C0, 0, 2⟩
/-- `SYS.ACC_CNT.COUNT` (R291). -/
def SYS.ACC_CNT.COUNT : Field := ⟨0x0000AC, 0, 16⟩
/-- `SYS.ACC_ERR.VALID` (R291). -/
def SYS.ACC_ERR.VALID : Field := ⟨0x0000A8, 31, 1⟩
/-- `SYS.BOOT_CFG.AUTO_COMMIT` (R348). -/
def SYS.BOOT_CFG.AUTO_COMMIT : Field := ⟨0x000068, 0, 1⟩
/-- `SYS.BOOT_CFG.TARGET` (R348). -/
def SYS.BOOT_CFG.TARGET : Field := ⟨0x000068, 8, 8⟩
/-- `SYS.BOOT_STAT.CAUSE` (R348). -/
def SYS.BOOT_STAT.CAUSE : Field := ⟨0x00006C, 0, 3⟩
/-- `SYS.BOOT_STAT.LAST_STOP` (R348). -/
def SYS.BOOT_STAT.LAST_STOP : Field := ⟨0x00006C, 4, 3⟩
/-- `SYS.CFG_STATUS.CHECKING` (R348). -/
def SYS.CFG_STATUS.CHECKING : Field := ⟨0x00004C, 16, 1⟩
/-- `SYS.CFG_STATUS.COMMITTED` (R348). -/
def SYS.CFG_STATUS.COMMITTED : Field := ⟨0x00004C, 17, 1⟩
/-- `SYS.CFG_STATUS.DETAIL` (R348). -/
def SYS.CFG_STATUS.DETAIL : Field := ⟨0x00004C, 8, 8⟩
/-- `SYS.CFG_STATUS.REASON` (R348). -/
def SYS.CFG_STATUS.REASON : Field := ⟨0x00004C, 0, 8⟩
/-- `SYS.GPIO_CFG.FUNC` (R348). -/
def SYS.GPIO_CFG.FUNC (k : Nat) : Field := ⟨0x0000C0 + 4 * k, 0, 2⟩
/-- `SYS.GPIO_CFG.OD` (R348). -/
def SYS.GPIO_CFG.OD (k : Nat) : Field := ⟨0x0000C0 + 4 * k, 2, 1⟩
/-- `SYS.GPIO_CFG.OUT` (R348). -/
def SYS.GPIO_CFG.OUT (k : Nat) : Field := ⟨0x0000C0 + 4 * k, 4, 1⟩
/-- `SYS.GPIO_CFG.POL` (R348). -/
def SYS.GPIO_CFG.POL (k : Nat) : Field := ⟨0x0000C0 + 4 * k, 3, 1⟩
/-- `SYS.IRQ_CTRL.EN` (R291). -/
def SYS.IRQ_CTRL.EN : Field := ⟨0x0000A0, 0, 1⟩
/-- `SYS.IRQ_CTRL.FORCE` (R291). -/
def SYS.IRQ_CTRL.FORCE : Field := ⟨0x0000A0, 1, 1⟩
/-- `SYS.SCHED_STAT.CANCELLED` (R23). -/
def SYS.SCHED_STAT.CANCELLED : Field := ⟨0x0000A4, 16, 8⟩
/-- `SYS.SCHED_STAT.DEFERRED` (R23). -/
def SYS.SCHED_STAT.DEFERRED : Field := ⟨0x0000A4, 8, 8⟩
/-- `SYS.STATE_REQ.CODE` (R348). -/
def SYS.STATE_REQ.CODE : Field := ⟨0x000044, 0, 8⟩
/-- `SYS.WAKE_CFG.ASSERTED` (R348). -/
def SYS.WAKE_CFG.ASSERTED : Field := ⟨0x0000B0, 16, 1⟩
/-- `SYS.WAKE_CFG.PULSE_MS` (R348). -/
def SYS.WAKE_CFG.PULSE_MS : Field := ⟨0x0000B0, 0, 16⟩
/-- `TEL.CTRL.EN` (R405). -/
def TEL.CTRL.EN : Field := ⟨0x072008, 0, 1⟩
/-- `TEL.TJ_THR.DEG_C` (R405). -/
def TEL.TJ_THR.DEG_C : Field := ⟨0x072040, 0, 8⟩
/-- `TWC.ARB_CNT.COUNT` (R327). -/
def TWC.ARB_CNT.COUNT : Field := ⟨0x062090, 0, 16⟩
/-- `TWC.CTRL.ARB_RETRY` (R327). -/
def TWC.CTRL.ARB_RETRY : Field := ⟨0x062008, 8, 4⟩
/-- `TWC.CTRL.EN` (R327). -/
def TWC.CTRL.EN : Field := ⟨0x062008, 0, 1⟩
/-- `TWC.RES0.CAUSE` (R327). -/
def TWC.RES0.CAUSE : Field := ⟨0x062080, 12, 4⟩
/-- `TWC.RES1.RD_DONE` (R327). -/
def TWC.RES1.RD_DONE : Field := ⟨0x062088, 16, 6⟩
/-- `TWC.RES1.WR_DONE` (R327). -/
def TWC.RES1.WR_DONE : Field := ⟨0x062088, 8, 6⟩
/-- `TWC.SCR_CFG.EN` (R327). -/
def TWC.SCR_CFG.EN (k : Nat) : Field := ⟨0x062100 + 4 * k, 8, 1⟩
/-- `TWC.SCR_CFG.EVENT` (R327). -/
def TWC.SCR_CFG.EVENT (k : Nat) : Field := ⟨0x062100 + 4 * k, 0, 8⟩
/-- `TWC.SCR_CFG.NOTIFY` (R327). -/
def TWC.SCR_CFG.NOTIFY (k : Nat) : Field := ⟨0x062100 + 4 * k, 24, 1⟩
/-- `TWC.SCR_CFG.START` (R327). -/
def TWC.SCR_CFG.START (k : Nat) : Field := ⟨0x062100 + 4 * k, 16, 8⟩
/-- `TWC.SKIP_CNT.COUNT` (R327). -/
def TWC.SKIP_CNT.COUNT : Field := ⟨0x062094, 0, 16⟩
/-- `TWC.STAT.DISABLED` (R327). -/
def TWC.STAT.DISABLED : Field := ⟨0x06200C, 1, 1⟩
/-- `TWT.CMP.ADDR` (R311). -/
def TWT.CMP.ADDR (k : Nat) : Field := ⟨0x061040 + 4 * k, 0, 7⟩
/-- `TWT.CMP.EN` (R311). -/
def TWT.CMP.EN (k : Nat) : Field := ⟨0x061040 + 4 * k, 8, 1⟩
/-- `TWT.CMP.WINDOW` (R311). -/
def TWT.CMP.WINDOW (k : Nat) : Field := ⟨0x061040 + 4 * k, 9, 1⟩
/-- `TWT.CTRL.MASK` (R311). -/
def TWT.CTRL.MASK : Field := ⟨0x061008, 1, 7⟩
/-- `TWT.CTRL.MASK_EN` (R311). -/
def TWT.CTRL.MASK_EN : Field := ⟨0x061008, 0, 1⟩
/-- `TWT.CTRL.STRETCH_EN` (R311). -/
def TWT.CTRL.STRETCH_EN : Field := ⟨0x061008, 8, 1⟩
/-- `TWT.POINTER0.PTR` (R311). -/
def TWT.POINTER0.PTR : Field := ⟨0x061050, 0, 24⟩
/-- `TWT.PROTO_CNT.COUNT` (R311). -/
def TWT.PROTO_CNT.COUNT : Field := ⟨0x061048, 0, 16⟩
/-- `TWT.STAT.ADDR_SEL` (R311). -/
def TWT.STAT.ADDR_SEL : Field := ⟨0x06100C, 0, 2⟩
/-- `TWT.STAT.BASE` (R311). -/
def TWT.STAT.BASE : Field := ⟨0x06100C, 2, 7⟩
/-- `TWT.STAT.CFG_ERR` (R311). -/
def TWT.STAT.CFG_ERR : Field := ⟨0x06100C, 9, 1⟩
/-- `TWT.STAT.LAST_CMP` (R311). -/
def TWT.STAT.LAST_CMP : Field := ⟨0x06100C, 10, 2⟩
/-- `WAM.A_W0.AGE` (R189). -/
def WAM.A_W0.AGE (k : Nat) : Field := ⟨0x03A400 + 16 * k, 24, 8⟩
/-- `WAM.A_W0.CARRIER` (R189). -/
def WAM.A_W0.CARRIER (k : Nat) : Field := ⟨0x03A400 + 16 * k, 19, 1⟩
/-- `WAM.A_W0.DRM` (R189). -/
def WAM.A_W0.DRM (k : Nat) : Field := ⟨0x03A400 + 16 * k, 20, 1⟩
/-- `WAM.A_W0.DRM_MODE` (R189). -/
def WAM.A_W0.DRM_MODE (k : Nat) : Field := ⟨0x03A400 + 16 * k, 21, 3⟩
/-- `WAM.FOUND_SRC.LANE` (R188). -/
def WAM.FOUND_SRC.LANE : Field := ⟨0x03A044, 0, 8⟩
/-- `WAM.STAT.ASSIGN_ERR` (R188). -/
def WAM.STAT.ASSIGN_ERR : Field := ⟨0x03A00C, 0, 1⟩
/-- `WFC.CHG_DB1.LINK` (R220). -/
def WFC.CHG_DB1.LINK : Field := ⟨0x0390A8, 8, 1⟩
/-- `WFC.DB_HOLD.SECONDS` (R220). -/
def WFC.DB_HOLD.SECONDS : Field := ⟨0x03904C, 0, 16⟩
/-- `WFC.F_W4.VISIT_EPOCH` (R221). -/
def WFC.F_W4.VISIT_EPOCH (k : Nat) : Field := ⟨0x039110 + 32 * k, 0, 32⟩
/-- `WFC.STAT.ASSIGN_ERR` (R220). -/
def WFC.STAT.ASSIGN_ERR : Field := ⟨0x03900C, 0, 1⟩
/-- `WFC.STAT.DB_FULL` (R220). -/
def WFC.STAT.DB_FULL : Field := ⟨0x03900C, 13, 1⟩
/-- `WFC.VIEW.BLOCK` (R220). -/
def WFC.VIEW.BLOCK : Field := ⟨0x039044, 0, 6⟩
/-- `WFC.VIEW.LS_BLOCK` (R220). -/
def WFC.VIEW.LS_BLOCK : Field := ⟨0x039044, 16, 4⟩
/-- `WFC.VIEW.SVC_BLOCK` (R220). -/
def WFC.VIEW.SVC_BLOCK : Field := ⟨0x039044, 8, 2⟩
/-- `WFC.WAKE_CFG.EN` (R220). -/
def WFC.WAKE_CFG.EN : Field := ⟨0x0390C0, 0, 1⟩
/-- `WFC.WAKE_CFG.FILT_EN` (R220). -/
def WFC.WAKE_CFG.FILT_EN : Field := ⟨0x0390C0, 1, 1⟩
/-- `WFC.WAKE_EID.EID` (R220). -/
def WFC.WAKE_EID.EID (k : Nat) : Field := ⟨0x0390C4 + 4 * k, 0, 16⟩
/-- `WFC.WAKE_EID.MASK` (R220). -/
def WFC.WAKE_EID.MASK (k : Nat) : Field := ⟨0x0390C4 + 4 * k, 16, 16⟩
/-- `WFC.WAKE_SUBCH.SUBCH` (R220). -/
def WFC.WAKE_SUBCH.SUBCH : Field := ⟨0x0390D8, 0, 6⟩
/-- `WRD.AF_SEL.ENTRY` (R161). -/
def WRD.AF_SEL.ENTRY : Field := ⟨0x038058, 0, 7⟩
/-- `WRD.GRP_CFG.THRESH` (R161). -/
def WRD.GRP_CFG.THRESH : Field := ⟨0x038048, 0, 9⟩
/-- `WRD.GRP_DROP.COUNT` (R161). -/
def WRD.GRP_DROP.COUNT : Field := ⟨0x038050, 0, 32⟩
/-- `WRD.GRP_FILT.MASK` (R161). -/
def WRD.GRP_FILT.MASK : Field := ⟨0x038044, 0, 32⟩
/-- `WRD.GRP_STAT.OVERFLOW` (R161). -/
def WRD.GRP_STAT.OVERFLOW : Field := ⟨0x03804C, 24, 1⟩
/-- `WRD.STAT.ASSIGN_ERR` (R161). -/
def WRD.STAT.ASSIGN_ERR : Field := ⟨0x03800C, 0, 1⟩
/-- `WRD.WAKE_CFG.EN` (R161). -/
def WRD.WAKE_CFG.EN : Field := ⟨0x0380C0, 0, 1⟩
/-- `WRD.WAKE_CFG.FILT_EN` (R161). -/
def WRD.WAKE_CFG.FILT_EN : Field := ⟨0x0380C0, 1, 1⟩
/-- `WRD.WAKE_PI.MASK` (R161). -/
def WRD.WAKE_PI.MASK (k : Nat) : Field := ⟨0x0380C4 + 4 * k, 16, 16⟩
/-- `WRD.WAKE_PI.PI` (R161). -/
def WRD.WAKE_PI.PI (k : Nat) : Field := ⟨0x0380C4 + 4 * k, 0, 16⟩

end Fld

namespace Reg

/-- Address of `AGC.CHECK_CMD` (R31). -/
def AGC.CHECK_CMD : Nat := 0x00B050
/-- Address of `AGC.CHECK_RES0` (R31). -/
def AGC.CHECK_RES0 : Nat := 0x00B080
/-- Address of `AGC.CHECK_RES1` (R31). -/
def AGC.CHECK_RES1 : Nat := 0x00B084
/-- Address of `AGC.CTRL` (R31). -/
def AGC.CTRL : Nat := 0x00B008
/-- Address of `AGC.GAIN` (R31). -/
def AGC.GAIN (k : Nat) : Nat := 0x00B044 + 4 * k
/-- Address of `AGC.MAN_STEP` (R31). -/
def AGC.MAN_STEP : Nat := 0x00B040
/-- Address of `AIP.FRAME_ERR` (R272). -/
def AIP.FRAME_ERR : Nat := 0x054054
/-- Address of `AIP.ND_CNT` (R272). -/
def AIP.ND_CNT : Nat := 0x054064
/-- Address of `AIP.OVERRUN_CNT` (R272). -/
def AIP.OVERRUN_CNT : Nat := 0x05404C
/-- Address of `AIP.STAT` (R272). -/
def AIP.STAT : Nat := 0x05400C
/-- Address of `AIP.UNDERRUN_CNT` (R272). -/
def AIP.UNDERRUN_CNT : Nat := 0x054048
/-- Address of `AMF.AMSS_ACK` (R186). -/
def AMF.AMSS_ACK (n : Nat) : Nat := 0x028208 + 4096 * n
/-- Address of `AMF.AMSS_DROP` (R186). -/
def AMF.AMSS_DROP (n : Nat) : Nat := 0x02820C + 4096 * n
/-- Address of `AMF.AMSS_SI` (R186). -/
def AMF.AMSS_SI (n : Nat) : Nat := 0x0280B0 + 4096 * n
/-- Address of `AMF.AMSS_STAT` (R186). -/
def AMF.AMSS_STAT (n : Nat) : Nat := 0x028200 + 4096 * n
/-- Address of `AMF.CHG` (R186). -/
def AMF.CHG (n : Nat) : Nat := 0x0280A0 + 4096 * n
/-- Address of `AMF.CHG_EN` (R186). -/
def AMF.CHG_EN (n : Nat) : Nat := 0x0280A4 + 4096 * n
/-- Address of `AMF.CTRL` (R186). -/
def AMF.CTRL (n : Nat) : Nat := 0x028008 + 4096 * n
/-- Address of `AMF.QRES1` (R186). -/
def AMF.QRES1 (n : Nat) : Nat := 0x028084 + 4096 * n
/-- Address of `AMF.QRES2` (R186). -/
def AMF.QRES2 (n : Nat) : Nat := 0x028088 + 4096 * n
/-- Address of `AMF.QRES3` (R186). -/
def AMF.QRES3 (n : Nat) : Nat := 0x028094 + 4096 * n
/-- Address of `AMF.QRES_EPOCH` (R186). -/
def AMF.QRES_EPOCH (n : Nat) : Nat := 0x02808C + 4096 * n
/-- Address of `AMF.QUAL` (R186). -/
def AMF.QUAL (n : Nat) (k : Nat) : Nat := 0x028048 + 4096 * n + 4 * k
/-- Address of `AMF.STAT` (R186). -/
def AMF.STAT (n : Nat) : Nat := 0x02800C + 4096 * n
/-- Address of `AMF.TUNE` (R186). -/
def AMF.TUNE (n : Nat) : Nat := 0x028040 + 4096 * n
/-- Address of `AOP.CTRL` (R272). -/
def AOP.CTRL (n : Nat) : Nat := 0x050008 + 4096 * n
/-- Address of `AOP.FRAME_CNT` (R272). -/
def AOP.FRAME_CNT (n : Nat) : Nat := 0x050060 + 4096 * n
/-- Address of `AOP.FRAME_ERR` (R272). -/
def AOP.FRAME_ERR (n : Nat) : Nat := 0x050054 + 4096 * n
/-- Address of `AOP.LATE_CNT` (R272). -/
def AOP.LATE_CNT (n : Nat) : Nat := 0x05004C + 4096 * n
/-- Address of `AOP.STAT` (R272). -/
def AOP.STAT (n : Nat) : Nat := 0x05000C + 4096 * n
/-- Address of `AOP.UNDERRUN_CNT` (R272). -/
def AOP.UNDERRUN_CNT (n : Nat) : Nat := 0x050048 + 4096 * n
/-- Address of `BST.CMD` (R402). -/
def BST.CMD : Nat := 0x070040
/-- Address of `BST.LAST` (R402). -/
def BST.LAST : Nat := 0x0700C0
/-- Address of `BST.RES0` (R402). -/
def BST.RES0 : Nat := 0x070080
/-- Address of `BST.RES1` (R402). -/
def BST.RES1 : Nat := 0x070088
/-- Address of `BST.STAT` (R402). -/
def BST.STAT : Nat := 0x07000C
/-- Address of `CH.DDC_W0` (R99). -/
def CH.DDC_W0 (n : Nat) (k : Nat) : Nat := 0x010100 + 4096 * n + 8 * k
/-- Address of `CH.DDC_W1` (R99). -/
def CH.DDC_W1 (n : Nat) (k : Nat) : Nat := 0x010104 + 4096 * n + 8 * k
/-- Address of `CH.NORM` (R98). -/
def CH.NORM (n : Nat) : Nat := 0x010044 + 4096 * n
/-- Address of `CLK.CLKOUT_CFG` (R78). -/
def CLK.CLKOUT_CFG (k : Nat) : Nat := 0x002060 + 4 * k
/-- Address of `CLK.COAST_DTJ` (R78). -/
def CLK.COAST_DTJ : Nat := 0x002050
/-- Address of `CLK.COAST_EPOCHS` (R78). -/
def CLK.COAST_EPOCHS : Nat := 0x00204C
/-- Address of `CLK.FRAC` (R78). -/
def CLK.FRAC : Nat := 0x002048
/-- Address of `CLK.INT` (R78). -/
def CLK.INT : Nat := 0x002044
/-- Address of `CLK.REBASE_ERR` (R78). -/
def CLK.REBASE_ERR : Nat := 0x002054
/-- Address of `CLK.STAT` (R78). -/
def CLK.STAT : Nat := 0x00200C
/-- Address of `COX.CTRL` (R49). -/
def COX.CTRL : Nat := 0x00D008
/-- Address of `COX.STAT` (R49). -/
def COX.STAT : Nat := 0x00D00C
/-- Address of `DAB.CHG` (R218). -/
def DAB.CHG (n : Nat) : Nat := 0x0300A0 + 4096 * n
/-- Address of `DAB.CHG_EN` (R218). -/
def DAB.CHG_EN (n : Nat) : Nat := 0x0300A4 + 4096 * n
/-- Address of `DAB.CTRL` (R218). -/
def DAB.CTRL (n : Nat) : Nat := 0x030008 + 4096 * n
/-- Address of `DAB.DLS` (R218). -/
def DAB.DLS (n : Nat) (k : Nat) : Nat := 0x030400 + 4096 * n + 4 * k
/-- Address of `DAB.DLS_STAT` (R218). -/
def DAB.DLS_STAT (n : Nat) (k : Nat) : Nat := 0x030200 + 4096 * n + 4 * k
/-- Address of `DAB.ERR_W0` (R219). -/
def DAB.ERR_W0 (n : Nat) (k : Nat) : Nat := 0x030100 + 4096 * n + 16 * k
/-- Address of `DAB.ERR_W1` (R219). -/
def DAB.ERR_W1 (n : Nat) (k : Nat) : Nat := 0x030104 + 4096 * n + 16 * k
/-- Address of `DAB.ERR_W2` (R219). -/
def DAB.ERR_W2 (n : Nat) (k : Nat) : Nat := 0x030108 + 4096 * n + 16 * k
/-- Address of `DAB.ERR_W3` (R219). -/
def DAB.ERR_W3 (n : Nat) (k : Nat) : Nat := 0x03010C + 4096 * n + 16 * k
/-- Address of `DAB.QUAL0` (R218). -/
def DAB.QUAL0 (n : Nat) : Nat := 0x0300B0 + 4096 * n
/-- Address of `DAB.QUAL1` (R218). -/
def DAB.QUAL1 (n : Nat) : Nat := 0x0300B4 + 4096 * n
/-- Address of `DAB.QUAL2` (R218). -/
def DAB.QUAL2 (n : Nat) : Nat := 0x0300B8 + 4096 * n
/-- Address of `DAB.SEL_CTRL` (R218). -/
def DAB.SEL_CTRL (n : Nat) (k : Nat) : Nat := 0x030048 + 4096 * n + 8 * k
/-- Address of `DAB.SEL_SID` (R218). -/
def DAB.SEL_SID (n : Nat) (k : Nat) : Nat := 0x030044 + 4096 * n + 8 * k
/-- Address of `DAB.SEL_STAT` (R218). -/
def DAB.SEL_STAT (n : Nat) (k : Nat) : Nat := 0x030080 + 4096 * n + 4 * k
/-- Address of `DAB.STAT` (R218). -/
def DAB.STAT (n : Nat) : Nat := 0x03000C + 4096 * n
/-- Address of `DAB.TUNE` (R218). -/
def DAB.TUNE (n : Nat) : Nat := 0x030040 + 4096 * n
/-- Address of `DRM.CHG` (R190). -/
def DRM.CHG (n : Nat) : Nat := 0x0340A0 + 4096 * n
/-- Address of `DRM.CHG_EN` (R190). -/
def DRM.CHG_EN (n : Nat) : Nat := 0x0340A4 + 4096 * n
/-- Address of `DRM.CTRL` (R190). -/
def DRM.CTRL (n : Nat) : Nat := 0x034008 + 4096 * n
/-- Address of `DRM.QUAL0` (R190). -/
def DRM.QUAL0 (n : Nat) : Nat := 0x034074 + 4096 * n
/-- Address of `DRM.QUAL1` (R190). -/
def DRM.QUAL1 (n : Nat) : Nat := 0x034078 + 4096 * n
/-- Address of `DRM.QUAL2` (R190). -/
def DRM.QUAL2 (n : Nat) : Nat := 0x03407C + 4096 * n
/-- Address of `DRM.STAT` (R190). -/
def DRM.STAT (n : Nat) : Nat := 0x03400C + 4096 * n
/-- Address of `DRM.SVC_AUD` (R190). -/
def DRM.SVC_AUD (n : Nat) (k : Nat) : Nat := 0x034064 + 4096 * n + 4 * k
/-- Address of `DRM.SVC_INFO_W0` (R191). -/
def DRM.SVC_INFO_W0 (n : Nat) (k : Nat) : Nat := 0x034100 + 4096 * n + 32 * k
/-- Address of `DRM.SVC_INFO_W1` (R191). -/
def DRM.SVC_INFO_W1 (n : Nat) (k : Nat) : Nat := 0x034104 + 4096 * n + 32 * k
/-- Address of `DRM.SVC_INFO_W2` (R191). -/
def DRM.SVC_INFO_W2 (n : Nat) (k : Nat) : Nat := 0x034108 + 4096 * n + 32 * k
/-- Address of `DRM.SVC_SEL` (R190). -/
def DRM.SVC_SEL (n : Nat) (k : Nat) : Nat := 0x034044 + 4096 * n + 4 * k
/-- Address of `DRM.SVC_STAT` (R190). -/
def DRM.SVC_STAT (n : Nat) (k : Nat) : Nat := 0x034054 + 4096 * n + 4 * k
/-- Address of `DRM.TEXT` (R190). -/
def DRM.TEXT (n : Nat) (k : Nat) : Nat := 0x034200 + 4096 * n + 4 * k
/-- Address of `DRM.TEXT_STAT` (R190). -/
def DRM.TEXT_STAT (n : Nat) (k : Nat) : Nat := 0x034400 + 4096 * n + 4 * k
/-- Address of `DRM.TIME0` (R190). -/
def DRM.TIME0 (n : Nat) : Nat := 0x034088 + 4096 * n
/-- Address of `DRM.TIME_EPOCH` (R190). -/
def DRM.TIME_EPOCH (n : Nat) : Nat := 0x03408C + 4096 * n
/-- Address of `DRM.TUNE` (R190). -/
def DRM.TUNE (n : Nat) : Nat := 0x034040 + 4096 * n
/-- Address of `ECC.CE_CNT` (R406). -/
def ECC.CE_CNT : Nat := 0x073040
/-- Address of `ECC.LAST` (R406). -/
def ECC.LAST : Nat := 0x073048
/-- Address of `ECC.PASS_CNT` (R406). -/
def ECC.PASS_CNT : Nat := 0x07304C
/-- Address of `ECC.PASS_MS` (R406). -/
def ECC.PASS_MS : Nat := 0x073050
/-- Address of `ECC.UE_CNT` (R406). -/
def ECC.UE_CNT : Nat := 0x073044
/-- Address of `FE.CTRL` (R36). -/
def FE.CTRL (n : Nat) : Nat := 0x008008 + 4096 * n
/-- Address of `FE.STAT` (R36). -/
def FE.STAT (n : Nat) : Nat := 0x00800C + 4096 * n
/-- Address of `FE.TILE_CENTRE` (R36). -/
def FE.TILE_CENTRE (n : Nat) : Nat := 0x008040 + 4096 * n
/-- Address of `FLT.ESCALATE_CNT` (R403). -/
def FLT.ESCALATE_CNT : Nat := 0x071048
/-- Address of `FLT.LOG_CLR` (R403). -/
def FLT.LOG_CLR : Nat := 0x071050
/-- Address of `FLT.PERMANENT_CNT` (R403). -/
def FLT.PERMANENT_CNT : Nat := 0x071044
/-- Address of `FLT.STAT` (R403). -/
def FLT.STAT : Nat := 0x07100C
/-- Address of `FLT.TRANSIENT_CNT` (R403). -/
def FLT.TRANSIENT_CNT : Nat := 0x071040
/-- Address of `FMF.CHG` (R160). -/
def FMF.CHG (n : Nat) : Nat := 0x0200A0 + 4096 * n
/-- Address of `FMF.CHG_EN` (R160). -/
def FMF.CHG_EN (n : Nat) : Nat := 0x0200A4 + 4096 * n
/-- Address of `FMF.GRP_ACK` (R160). -/
def FMF.GRP_ACK (n : Nat) : Nat := 0x020210 + 4096 * n
/-- Address of `FMF.QRES1` (R160). -/
def FMF.QRES1 (n : Nat) : Nat := 0x020084 + 4096 * n
/-- Address of `FMF.QRES2` (R160). -/
def FMF.QRES2 (n : Nat) : Nat := 0x020088 + 4096 * n
/-- Address of `FMF.QRES_EPOCH` (R160). -/
def FMF.QRES_EPOCH (n : Nat) : Nat := 0x02008C + 4096 * n
/-- Address of `FMF.QUAL` (R160). -/
def FMF.QUAL (n : Nat) (k : Nat) : Nat := 0x02004C + 4096 * n + 4 * k
/-- Address of `FMF.TUNE` (R160). -/
def FMF.TUNE (n : Nat) : Nat := 0x020040 + 4096 * n
/-- Address of `FWU.BLOCK_ERR` (R367). -/
def FWU.BLOCK_ERR : Nat := 0x06A054
/-- Address of `FWU.CMD` (R367). -/
def FWU.CMD : Nat := 0x06A040
/-- Address of `FWU.RES0` (R367). -/
def FWU.RES0 : Nat := 0x06A080
/-- Address of `FWU.RES1` (R367). -/
def FWU.RES1 : Nat := 0x06A088
/-- Address of `FWU.RUN_VER` (R367). -/
def FWU.RUN_VER : Nat := 0x06A090
/-- Address of `FWU.RX_COUNT` (R367). -/
def FWU.RX_COUNT : Nat := 0x06A050
/-- Address of `FWU.SLOT_BUSY` (R367). -/
def FWU.SLOT_BUSY : Nat := 0x06A04C
/-- Address of `FWU.STAT` (R367). -/
def FWU.STAT : Nat := 0x06A00C
/-- Address of `HSP.CRC_ERR_CNT` (R310). -/
def HSP.CRC_ERR_CNT : Nat := 0x060040
/-- Address of `HSP.CTRL` (R310). -/
def HSP.CTRL : Nat := 0x060008
/-- Address of `HSP.FRAME_ERR_CNT` (R310). -/
def HSP.FRAME_ERR_CNT : Nat := 0x060044
/-- Address of `HSP.LAST_ERR` (R310). -/
def HSP.LAST_ERR : Nat := 0x060048
/-- Address of `HSP.STAT` (R310). -/
def HSP.STAT : Nat := 0x06000C
/-- Address of `INJ.CTRL` (R45). -/
def INJ.CTRL : Nat := 0x00C008
/-- Address of `INJ.STAT` (R45). -/
def INJ.STAT : Nat := 0x00C00C
/-- Address of `LNM.ACCEL_STAT` (R132). -/
def LNM.ACCEL_STAT : Nat := 0x0180A0
/-- Address of `LNM.CORE_STAT` (R132). -/
def LNM.CORE_STAT (k : Nat) : Nat := 0x018080 + 4 * k
/-- Address of `LNM.CTRL` (R132). -/
def LNM.CTRL : Nat := 0x018008
/-- Address of `LNM.FULL_OWN` (R132). -/
def LNM.FULL_OWN : Nat := 0x018068
/-- Address of `LO.CAL_CMD` (R79). -/
def LO.CAL_CMD (n : Nat) : Nat := 0x003060 + 4096 * n
/-- Address of `LO.FRAC` (R79). -/
def LO.FRAC (n : Nat) : Nat := 0x003044 + 4096 * n
/-- Address of `LO.FREQ_HZ` (R79). -/
def LO.FREQ_HZ (n : Nat) : Nat := 0x00304C + 4096 * n
/-- Address of `LO.HOP_W0` (R63). -/
def LO.HOP_W0 (n : Nat) (k : Nat) : Nat := 0x003100 + 4096 * n + 16 * k
/-- Address of `LO.HOP_W1` (R63). -/
def LO.HOP_W1 (n : Nat) (k : Nat) : Nat := 0x003104 + 4096 * n + 16 * k
/-- Address of `LO.HOP_W2` (R63). -/
def LO.HOP_W2 (n : Nat) (k : Nat) : Nat := 0x003108 + 4096 * n + 16 * k
/-- Address of `LO.HOP_W3` (R63). -/
def LO.HOP_W3 (n : Nat) (k : Nat) : Nat := 0x00310C + 4096 * n + 16 * k
/-- Address of `LO.INT` (R79). -/
def LO.INT (n : Nat) : Nat := 0x003040 + 4096 * n
/-- Address of `LO.ODIV` (R79). -/
def LO.ODIV (n : Nat) : Nat := 0x003048 + 4096 * n
/-- Address of `LO.STAT` (R79). -/
def LO.STAT (n : Nat) : Nat := 0x00300C + 4096 * n
/-- Address of `LO.SUPERSEDED_CNT` (R79). -/
def LO.SUPERSEDED_CNT (n : Nat) : Nat := 0x003064 + 4096 * n
/-- Address of `NVS.CMD` (R383). -/
def NVS.CMD : Nat := 0x068040
/-- Address of `NVS.GEN_NOW` (R383). -/
def NVS.GEN_NOW : Nat := 0x068050
/-- Address of `NVS.RESULT` (R383). -/
def NVS.RESULT : Nat := 0x068044
/-- Address of `NVS.RESULT1` (R383). -/
def NVS.RESULT1 : Nat := 0x06804C
/-- Address of `NVS.WEAR` (R383). -/
def NVS.WEAR : Nat := 0x068054
/-- Address of `OFS.BOOT_PPB` (R135). -/
def OFS.BOOT_PPB : Nat := 0x040054
/-- Address of `OFS.CORR_PPB` (R135). -/
def OFS.CORR_PPB : Nat := 0x040048
/-- Address of `OFS.EPOCH_PLAN` (R135). -/
def OFS.EPOCH_PLAN : Nat := 0x040044
/-- Address of `OFS.EST_PPB` (R135). -/
def OFS.EST_PPB : Nat := 0x040040
/-- Address of `OFS.STAT` (R135). -/
def OFS.STAT : Nat := 0x04000C
/-- Address of `OFS.STEP_PPB` (R135). -/
def OFS.STEP_PPB : Nat := 0x04004C
/-- Address of `PGM.ALIGN_EPOCH` (R253). -/
def PGM.ALIGN_EPOCH (n : Nat) : Nat := 0x048088 + 4096 * n
/-- Address of `PGM.ALIGN_RES` (R253). -/
def PGM.ALIGN_RES (n : Nat) : Nat := 0x048080 + 4096 * n
/-- Address of `PGM.ALIGN_SLEW` (R253). -/
def PGM.ALIGN_SLEW (n : Nat) : Nat := 0x04808C + 4096 * n
/-- Address of `PGM.ALIGN_SRC_W0` (R253). -/
def PGM.ALIGN_SRC_W0 (n : Nat) (k : Nat) : Nat := 0x048090 + 4096 * n + 8 * k
/-- Address of `PGM.ALIGN_SRC_W1` (R253). -/
def PGM.ALIGN_SRC_W1 (n : Nat) (k : Nat) : Nat := 0x048094 + 4096 * n + 8 * k
/-- Address of `PGM.BLEND` (R253). -/
def PGM.BLEND (n : Nat) : Nat := 0x048054 + 4096 * n
/-- Address of `PGM.CTRL` (R253). -/
def PGM.CTRL (n : Nat) : Nat := 0x048008 + 4096 * n
/-- Address of `PGM.SRC` (R228). -/
def PGM.SRC (n : Nat) (k : Nat) : Nat := 0x048040 + 4096 * n + 4 * k
/-- Address of `PGM.SRC_STAT` (R253). -/
def PGM.SRC_STAT (n : Nat) (k : Nat) : Nat := 0x048060 + 4096 * n + 4 * k
/-- Address of `PGM.STAT` (R253). -/
def PGM.STAT (n : Nat) : Nat := 0x04800C + 4096 * n
/-- Address of `PIB.AIP_ID` (R254). -/
def PIB.AIP_ID (k : Nat) : Nat := 0x04C050 + 4 * k
/-- Address of `PIB.ARG` (R254). -/
def PIB.ARG : Nat := 0x04C044
/-- Address of `PIB.CMD` (R254). -/
def PIB.CMD : Nat := 0x04C040
/-- Address of `PIB.CMD_RES` (R254). -/
def PIB.CMD_RES : Nat := 0x04C048
/-- Address of `PIB.CTRL` (R254). -/
def PIB.CTRL : Nat := 0x04C008
/-- Address of `PIB.STAT` (R254). -/
def PIB.STAT : Nat := 0x04C00C
/-- Address of `PMU.AER_SHORT_CNT` (R52). -/
def PMU.AER_SHORT_CNT : Nat := 0x0010C8
/-- Address of `PMU.AER_STAT` (R52). -/
def PMU.AER_STAT : Nat := 0x0010C4
/-- Address of `PMU.GOV_STAT` (R349). -/
def PMU.GOV_STAT : Nat := 0x001050
/-- Address of `PMU.POWER` (R349). -/
def PMU.POWER : Nat := 0x001044
/-- Address of `PMU.STAT` (R349). -/
def PMU.STAT : Nat := 0x00100C
/-- Address of `PMU.TJ` (R349). -/
def PMU.TJ : Nat := 0x001048
/-- Address of `PMU.VSYS` (R349). -/
def PMU.VSYS : Nat := 0x001040
/-- Address of `POD.POD_CFG` (R273). -/
def POD.POD_CFG (k : Nat) : Nat := 0x055040 + 16 * k
/-- Address of `POD.POD_CMD` (R273). -/
def POD.POD_CMD (k : Nat) : Nat := 0x055044 + 16 * k
/-- Address of `POD.POD_STAT` (R273). -/
def POD.POD_STAT (k : Nat) : Nat := 0x055048 + 16 * k
/-- Address of `POD.ROUTE` (R273). -/
def POD.ROUTE (k : Nat) : Nat := 0x055080 + 4 * k
/-- Address of `POD.STAT` (R273). -/
def POD.STAT : Nat := 0x05500C
/-- Address of `RGL.AER_ILIM_CEIL` (R384). -/
def RGL.AER_ILIM_CEIL : Nat := 0x069050
/-- Address of `RGL.BAND_PLAN` (R384). -/
def RGL.BAND_PLAN : Nat := 0x069044
/-- Address of `RGL.COEX_DUTY_CEIL` (R384). -/
def RGL.COEX_DUTY_CEIL : Nat := 0x06904C
/-- Address of `RGL.INJ_CEIL` (R384). -/
def RGL.INJ_CEIL : Nat := 0x069048
/-- Address of `RGL.SEAL` (R384). -/
def RGL.SEAL : Nat := 0x069040
/-- Address of `RGL.SEAL_COUNT` (R384). -/
def RGL.SEAL_COUNT : Nat := 0x069058
/-- Address of `RGL.STAT` (R384). -/
def RGL.STAT : Nat := 0x06900C
/-- Address of `RGL.UNSEAL` (R384). -/
def RGL.UNSEAL : Nat := 0x069054
/-- Address of `SDQ.QACK` (R225). -/
def SDQ.QACK (k : Nat) : Nat := 0x058140 + 4 * k
/-- Address of `SDQ.QCFG` (R225). -/
def SDQ.QCFG (k : Nat) : Nat := 0x058080 + 4 * k
/-- Address of `SDQ.QSTAT` (R225). -/
def SDQ.QSTAT (k : Nat) : Nat := 0x0580C0 + 4 * k
/-- Address of `SDQ.STAT` (R225). -/
def SDQ.STAT : Nat := 0x05800C
/-- Address of `SRV.CTRL` (R100). -/
def SRV.CTRL : Nat := 0x014008
/-- Address of `SRV.FM_EPOCH` (R100). -/
def SRV.FM_EPOCH : Nat := 0x0140A0
/-- Address of `SRV.STAT` (R100). -/
def SRV.STAT : Nat := 0x01400C
/-- Address of `SYS.ACC_CNT` (R291). -/
def SYS.ACC_CNT : Nat := 0x0000AC
/-- Address of `SYS.ACC_ERR` (R291). -/
def SYS.ACC_ERR : Nat := 0x0000A8
/-- Address of `SYS.BOOT_STAT` (R348). -/
def SYS.BOOT_STAT : Nat := 0x00006C
/-- Address of `SYS.CFG_COMMIT` (R348). -/
def SYS.CFG_COMMIT : Nat := 0x000048
/-- Address of `SYS.CFG_STATUS` (R348). -/
def SYS.CFG_STATUS : Nat := 0x00004C
/-- Address of `SYS.GPIO_CFG` (R348). -/
def SYS.GPIO_CFG (k : Nat) : Nat := 0x0000C0 + 4 * k
/-- Address of `SYS.SCHED_STAT` (R23). -/
def SYS.SCHED_STAT : Nat := 0x0000A4
/-- Address of `SYS.STATE_REQ` (R348). -/
def SYS.STATE_REQ : Nat := 0x000044
/-- Address of `SYS.TIME_LO` (R14). -/
def SYS.TIME_LO : Nat := 0x000050
/-- Address of `SYS.UNIT_ID_HI` (R348). -/
def SYS.UNIT_ID_HI : Nat := 0x000064
/-- Address of `SYS.UNIT_ID_LO` (R348). -/
def SYS.UNIT_ID_LO : Nat := 0x000060
/-- Address of `SYS.WAKE_CFG` (R348). -/
def SYS.WAKE_CFG : Nat := 0x0000B0
/-- Address of `TEL.EPOCH` (R405). -/
def TEL.EPOCH : Nat := 0x072088
/-- Address of `TEL.LOAD` (R405). -/
def TEL.LOAD : Nat := 0x0720A0
/-- Address of `TEL.RAILS` (R405). -/
def TEL.RAILS : Nat := 0x07209C
/-- Address of `TEL.RES0` (R405). -/
def TEL.RES0 : Nat := 0x072080
/-- Address of `TEL.SUPPLY` (R405). -/
def TEL.SUPPLY : Nat := 0x072098
/-- Address of `TEL.TJ0` (R405). -/
def TEL.TJ0 : Nat := 0x07208C
/-- Address of `TEL.TJ1` (R405). -/
def TEL.TJ1 : Nat := 0x072090
/-- Address of `TEL.TJ_MAX` (R405). -/
def TEL.TJ_MAX : Nat := 0x072094
/-- Address of `TWC.ARB_CNT` (R327). -/
def TWC.ARB_CNT : Nat := 0x062090
/-- Address of `TWC.CMD` (R327). -/
def TWC.CMD : Nat := 0x062040
/-- Address of `TWC.CMD_RUN` (R327). -/
def TWC.CMD_RUN : Nat := 0x062044
/-- Address of `TWC.CTRL` (R327). -/
def TWC.CTRL : Nat := 0x062008
/-- Address of `TWC.RES0` (R327). -/
def TWC.RES0 : Nat := 0x062080
/-- Address of `TWC.RES1` (R327). -/
def TWC.RES1 : Nat := 0x062088
/-- Address of `TWC.RX` (R327). -/
def TWC.RX (k : Nat) : Nat := 0x0620A0 + 4 * k
/-- Address of `TWC.SKIP_CNT` (R327). -/
def TWC.SKIP_CNT : Nat := 0x062094
/-- Address of `TWC.STAT` (R327). -/
def TWC.STAT : Nat := 0x06200C
/-- Address of `TWC.STEP` (R327). -/
def TWC.STEP (k : Nat) : Nat := 0x062400 + 4 * k
/-- Address of `TWC.TX` (R327). -/
def TWC.TX (k : Nat) : Nat := 0x062060 + 4 * k
/-- Address of `TWT.CMP` (R311). -/
def TWT.CMP (k : Nat) : Nat := 0x061040 + 4 * k
/-- Address of `TWT.CTRL` (R311). -/
def TWT.CTRL : Nat := 0x061008
/-- Address of `TWT.LAST_PROTO` (R311). -/
def TWT.LAST_PROTO : Nat := 0x06104C
/-- Address of `TWT.POINTER0` (R311). -/
def TWT.POINTER0 : Nat := 0x061050
/-- Address of `TWT.PROTO_CNT` (R311). -/
def TWT.PROTO_CNT : Nat := 0x061048
/-- Address of `TWT.STAT` (R311). -/
def TWT.STAT : Nat := 0x06100C
/-- Address of `WAM.ASSIGN` (R188). -/
def WAM.ASSIGN : Nat := 0x03A040
/-- Address of `WAM.A_W0` (R189). -/
def WAM.A_W0 (k : Nat) : Nat := 0x03A400 + 16 * k
/-- Address of `WAM.A_W1` (R189). -/
def WAM.A_W1 (k : Nat) : Nat := 0x03A404 + 16 * k
/-- Address of `WAM.A_W2` (R189). -/
def WAM.A_W2 (k : Nat) : Nat := 0x03A408 + 16 * k
/-- Address of `WAM.A_W3` (R189). -/
def WAM.A_W3 (k : Nat) : Nat := 0x03A40C + 16 * k
/-- Address of `WAM.CHG0` (R188). -/
def WAM.CHG0 : Nat := 0x03A0A0
/-- Address of `WAM.FOUND_SRC` (R188). -/
def WAM.FOUND_SRC : Nat := 0x03A044
/-- Address of `WFC.ASSIGN` (R220). -/
def WFC.ASSIGN : Nat := 0x039040
/-- Address of `WFC.CHG0` (R220). -/
def WFC.CHG0 : Nat := 0x0390A0
/-- Address of `WFC.CHG_DB0` (R220). -/
def WFC.CHG_DB0 : Nat := 0x0390A4
/-- Address of `WFC.CHG_DB1` (R220). -/
def WFC.CHG_DB1 : Nat := 0x0390A8
/-- Address of `WFC.F_W0` (R221). -/
def WFC.F_W0 (k : Nat) : Nat := 0x039100 + 32 * k
/-- Address of `WFC.F_W2` (R221). -/
def WFC.F_W2 (k : Nat) : Nat := 0x039108 + 32 * k
/-- Address of `WFC.WAKE_SRC` (R220). -/
def WFC.WAKE_SRC : Nat := 0x0390D4
/-- Address of `WRD.AF_SEL` (R161). -/
def WRD.AF_SEL : Nat := 0x038058
/-- Address of `WRD.AF_STAT` (R161). -/
def WRD.AF_STAT : Nat := 0x03805C
/-- Address of `WRD.AF_VIEW` (R161). -/
def WRD.AF_VIEW (k : Nat) : Nat := 0x038060 + 4 * k
/-- Address of `WRD.ASSIGN` (R161). -/
def WRD.ASSIGN : Nat := 0x038040
/-- Address of `WRD.CHG` (R161). -/
def WRD.CHG (k : Nat) : Nat := 0x0380A0 + 4 * k
/-- Address of `WRD.GRP_ACK` (R161). -/
def WRD.GRP_ACK : Nat := 0x038054
/-- Address of `WRD.WAKE_SRC` (R161). -/
def WRD.WAKE_SRC : Nat := 0x0380D4

end Reg

namespace Ev

/-- Event `AGC.CHECK_ABANDONED` (R434). -/
def AGC.CHECK_ABANDONED : Nat := 66
/-- Event `AGC.CHECK_DONE` (R434). -/
def AGC.CHECK_DONE : Nat := 65
/-- Event `AGC.TABLE_DRIFT` (R434). -/
def AGC.TABLE_DRIFT : Nat := 64
/-- Event `AIP.AUDIO` (R434). -/
def AIP.AUDIO : Nat := 209
/-- Event `AIP.NONAUDIO` (R434). -/
def AIP.NONAUDIO : Nat := 208
/-- Event `AIP.SLIP` (R434). -/
def AIP.SLIP : Nat := 210
/-- Event `AIP.STATE` (R434). -/
def AIP.STATE : Nat := 211
/-- Event `AMFn.AMSS` (R434). -/
def AMF.AMSS (n : Nat) : Nat := 128 + 2 * n
/-- Event `AMFn.CHANGE` (R434). -/
def AMF.CHANGE (n : Nat) : Nat := 129 + 2 * n
/-- Event `AOPn.STATE` (R434). -/
def AOP.STATE (n : Nat) : Nat := 201 + 2 * n
/-- Event `AOPn.UNDERRUN` (R434). -/
def AOP.UNDERRUN (n : Nat) : Nat := 200 + 2 * n
/-- Event `BST.AGED` (R434). -/
def BST.AGED : Nat := 244
/-- Event `BST.FAIL` (R434). -/
def BST.FAIL : Nat := 243
/-- Event `BST.REPAIR` (R434). -/
def BST.REPAIR : Nat := 245
/-- Event `BST.RESULT` (R434). -/
def BST.RESULT : Nat := 242
/-- Event `CHn.DDC_EXHAUSTED` (R434). -/
def CH.DDC_EXHAUSTED (n : Nat) : Nat := 81 + 4 * n
/-- Event `CHn.SAT` (R434). -/
def CH.SAT (n : Nat) : Nat := 80 + 4 * n
/-- Event `CLK.CLKOUT_CLAMPED` (R434). -/
def CLK.CLKOUT_CLAMPED : Nat := 23
/-- Event `CLK.COAST` (R434). -/
def CLK.COAST : Nat := 17
/-- Event `CLK.CORR_DONE` (R434). -/
def CLK.CORR_DONE : Nat := 22
/-- Event `CLK.HOLDOVER_DEGRADED` (R434). -/
def CLK.HOLDOVER_DEGRADED : Nat := 21
/-- Event `CLK.REBASED` (R434). -/
def CLK.REBASED : Nat := 20
/-- Event `CLK.REF_BACK` (R434). -/
def CLK.REF_BACK : Nat := 19
/-- Event `CLK.REF_LOST` (R434). -/
def CLK.REF_LOST : Nat := 18
/-- Event `CLK.UNLOCK` (R434). -/
def CLK.UNLOCK : Nat := 16
/-- Event `COX.ACT_LONG` (R434). -/
def COX.ACT_LONG : Nat := 78
/-- Event `COX.LIMITED` (R434). -/
def COX.LIMITED : Nat := 76
/-- Event `COX.NO_GRANT` (R434). -/
def COX.NO_GRANT : Nat := 77
/-- Event `DABn.CHANGE` (R434). -/
def DAB.CHANGE (n : Nat) : Nat := 140 + 4 * n
/-- Event `DABn.DLS` (R434). -/
def DAB.DLS (n : Nat) : Nat := 143 + 4 * n
/-- Event `DABn.NO_DECODER` (R434). -/
def DAB.NO_DECODER (n : Nat) : Nat := 142 + 4 * n
/-- Event `DABn.SERVICES` (R434). -/
def DAB.SERVICES (n : Nat) : Nat := 141 + 4 * n
/-- Event `DRMn.CHANGE` (R434). -/
def DRM.CHANGE (n : Nat) : Nat := 156 + 4 * n
/-- Event `DRMn.NO_DECODER` (R434). -/
def DRM.NO_DECODER (n : Nat) : Nat := 159 + 4 * n
/-- Event `DRMn.SERVICES` (R434). -/
def DRM.SERVICES (n : Nat) : Nat := 157 + 4 * n
/-- Event `DRMn.TEXT` (R434). -/
def DRM.TEXT (n : Nat) : Nat := 158 + 4 * n
/-- Event `ECC.CORRECTED` (R434). -/
def ECC.CORRECTED : Nat := 254
/-- Event `ECC.UNCORRECTED` (R434). -/
def ECC.UNCORRECTED : Nat := 255
/-- Event `FEn.CLIP` (R434). -/
def FE.CLIP (n : Nat) : Nat := 43 + 8 * n
/-- Event `FEn.MODE_CHANGE` (R434). -/
def FE.MODE_CHANGE (n : Nat) : Nat := 40 + 8 * n
/-- Event `FEn.OVERLOAD` (R434). -/
def FE.OVERLOAD (n : Nat) : Nat := 42 + 8 * n
/-- Event `FEn.TEST_READY` (R434). -/
def FE.TEST_READY (n : Nat) : Nat := 44 + 8 * n
/-- Event `FEn.TEST_REFUSED` (R434). -/
def FE.TEST_REFUSED (n : Nat) : Nat := 45 + 8 * n
/-- Event `FEn.TILE_CONFLICT` (R434). -/
def FE.TILE_CONFLICT (n : Nat) : Nat := 41 + 8 * n
/-- Event `FLT.ESCALATE` (R434). -/
def FLT.ESCALATE : Nat := 248
/-- Event `FLT.FAULT` (R434). -/
def FLT.FAULT : Nat := 246
/-- Event `FLT.PERMANENT` (R434). -/
def FLT.PERMANENT : Nat := 247
/-- Event `FLT.SAFE` (R434). -/
def FLT.SAFE : Nat := 249
/-- Event `FMFn.CHANGE` (R434). -/
def FMF.CHANGE (n : Nat) : Nat := 113 + 2 * n
/-- Event `FMFn.GROUPS` (R434). -/
def FMF.GROUPS (n : Nat) : Nat := 112 + 2 * n
/-- Event `FWU.BLOCK_ERR` (R434). -/
def FWU.BLOCK_ERR : Nat := 239
/-- Event `FWU.RESULT` (R434). -/
def FWU.RESULT : Nat := 238
/-- Event `FWU.SLOT_FREE` (R434). -/
def FWU.SLOT_FREE : Nat := 241
/-- Event `FWU.STAGE` (R434). -/
def FWU.STAGE : Nat := 240
/-- Event `HSP.CRC_ERR` (R434). -/
def HSP.CRC_ERR : Nat := 220
/-- Event `HSP.FRAME_ERR` (R434). -/
def HSP.FRAME_ERR : Nat := 221
/-- Event `INJ.CLAMPED` (R434). -/
def INJ.CLAMPED : Nat := 73
/-- Event `INJ.REFUSED` (R434). -/
def INJ.REFUSED : Nat := 72
/-- Event `INJ.STARTED` (R434). -/
def INJ.STARTED : Nat := 75
/-- Event `INJ.STOPPED` (R434). -/
def INJ.STOPPED : Nat := 74
/-- Event `LNM.ALLOC_FAIL` (R434). -/
def LNM.ALLOC_FAIL : Nat := 103
/-- Event `LNM.CAPACITY` (R434). -/
def LNM.CAPACITY : Nat := 100
/-- Event `LNM.LANE_LOST` (R434). -/
def LNM.LANE_LOST : Nat := 102
/-- Event `LNM.LANE_RETIRED` (R434). -/
def LNM.LANE_RETIRED : Nat := 101
/-- Event `LNM.MIGRATE_DONE` (R434). -/
def LNM.MIGRATE_DONE : Nat := 104
/-- Event `LNM.MIGRATE_FAIL` (R434). -/
def LNM.MIGRATE_FAIL : Nat := 105
/-- Event `LNM.SHED` (R434). -/
def LNM.SHED : Nat := 106
/-- Event `LNM.SPROUT_PLANTED` (R434). -/
def LNM.SPROUT_PLANTED : Nat := 96
/-- Event `LNM.SPROUT_PULLED` (R434). -/
def LNM.SPROUT_PULLED : Nat := 98
/-- Event `LNM.SPROUT_ROOTED` (R434). -/
def LNM.SPROUT_ROOTED : Nat := 97
/-- Event `LNM.SPROUT_WAIT` (R434). -/
def LNM.SPROUT_WAIT : Nat := 99
/-- Event `LOn.CAL_DEFERRED` (R434). -/
def LO.CAL_DEFERRED (n : Nat) : Nat := 28 + 8 * n
/-- Event `LOn.CAL_DONE` (R434). -/
def LO.CAL_DONE (n : Nat) : Nat := 27 + 8 * n
/-- Event `LOn.REJECTED` (R434). -/
def LO.REJECTED (n : Nat) : Nat := 31 + 8 * n
/-- Event `LOn.RELOCKED` (R434). -/
def LO.RELOCKED (n : Nat) : Nat := 25 + 8 * n
/-- Event `LOn.SEARCH_FAIL` (R434). -/
def LO.SEARCH_FAIL (n : Nat) : Nat := 30 + 8 * n
/-- Event `LOn.STALE` (R434). -/
def LO.STALE (n : Nat) : Nat := 29 + 8 * n
/-- Event `LOn.SUPERSEDED` (R434). -/
def LO.SUPERSEDED (n : Nat) : Nat := 26 + 8 * n
/-- Event `LOn.UNLOCK` (R434). -/
def LO.UNLOCK (n : Nat) : Nat := 24 + 8 * n
/-- Event `NVS.READ_ERR` (R434). -/
def NVS.READ_ERR : Nat := 235
/-- Event `NVS.RESULT` (R434). -/
def NVS.RESULT : Nat := 232
/-- Event `NVS.RETIRED` (R434). -/
def NVS.RETIRED : Nat := 234
/-- Event `NVS.WEAR_LOW` (R434). -/
def NVS.WEAR_LOW : Nat := 233
/-- Event `OFS.CONVERGED` (R434). -/
def OFS.CONVERGED : Nat := 177
/-- Event `OFS.NO_SOURCE` (R434). -/
def OFS.NO_SOURCE : Nat := 178
/-- Event `OFS.RANGE` (R434). -/
def OFS.RANGE : Nat := 179
/-- Event `OFS.STEP_APPLIED` (R434). -/
def OFS.STEP_APPLIED : Nat := 176
/-- Event `PGMn.ALIGN` (R434). -/
def PGM.ALIGN (n : Nat) : Nat := 181 + 4 * n
/-- Event `PGMn.MUTE` (R434). -/
def PGM.MUTE (n : Nat) : Nat := 183 + 4 * n
/-- Event `PGMn.POOL_FULL` (R434). -/
def PGM.POOL_FULL (n : Nat) : Nat := 182 + 4 * n
/-- Event `PGMn.SOURCE` (R434). -/
def PGM.SOURCE (n : Nat) : Nat := 180 + 4 * n
/-- Event `PIB.CHANGED` (R434). -/
def PIB.CHANGED : Nat := 196
/-- Event `PIB.CMD_DONE` (R434). -/
def PIB.CMD_DONE : Nat := 198
/-- Event `PIB.CMD_ERR` (R434). -/
def PIB.CMD_ERR : Nat := 199
/-- Event `PIB.FULL` (R434). -/
def PIB.FULL : Nat := 197
/-- Event `PMU.AER_SHORT` (R434). -/
def PMU.AER_SHORT : Nat := 14
/-- Event `PMU.AER_THERM` (R434). -/
def PMU.AER_THERM : Nat := 15
/-- Event `PMU.GOV_STEP` (R434). -/
def PMU.GOV_STEP : Nat := 8
/-- Event `PMU.RAIL_FAULT` (R434). -/
def PMU.RAIL_FAULT : Nat := 11
/-- Event `PMU.TJ_WARN` (R434). -/
def PMU.TJ_WARN : Nat := 9
/-- Event `PMU.TRIP_SEEN` (R434). -/
def PMU.TRIP_SEEN : Nat := 12
/-- Event `PMU.VSYS_LOW` (R434). -/
def PMU.VSYS_LOW : Nat := 10
/-- Event `POD.CFG_ERR` (R434). -/
def POD.CFG_ERR : Nat := 215
/-- Event `POD.MISMATCH` (R434). -/
def POD.MISMATCH : Nat := 214
/-- Event `POD.STARTED` (R434). -/
def POD.STARTED : Nat := 212
/-- Event `POD.STOPPED` (R434). -/
def POD.STOPPED : Nat := 213
/-- Event `RGL.REFUSED` (R434). -/
def RGL.REFUSED : Nat := 237
/-- Event `RGL.SEAL_CHANGE` (R434). -/
def RGL.SEAL_CHANGE : Nat := 236
/-- Event `SDQ.CFG_ERR` (R434). -/
def SDQ.CFG_ERR : Nat := 218
/-- Event `SDQ.OVERFLOW` (R434). -/
def SDQ.OVERFLOW : Nat := 217
/-- Event `SDQ.READY` (R434). -/
def SDQ.READY : Nat := 216
/-- Event `SDQ.SOURCE` (R434). -/
def SDQ.SOURCE : Nat := 219
/-- Event `SRV.FM_READY` (R434). -/
def SRV.FM_READY : Nat := 92
/-- Event `SRV.OVERFLOW` (R434). -/
def SRV.OVERFLOW : Nat := 95
/-- Event `SYS.ACC_ERR` (R434). -/
def SYS.ACC_ERR : Nat := 7
/-- Event `SYS.AON_CLOCK` (R434). -/
def SYS.AON_CLOCK : Nat := 6
/-- Event `SYS.BOOTED` (R434). -/
def SYS.BOOTED : Nat := 0
/-- Event `SYS.CFG_RESULT` (R434). -/
def SYS.CFG_RESULT : Nat := 2
/-- Event `SYS.FALLBACK` (R434). -/
def SYS.FALLBACK : Nat := 5
/-- Event `SYS.REQ_REFUSED` (R434). -/
def SYS.REQ_REFUSED : Nat := 4
/-- Event `SYS.STATE` (R434). -/
def SYS.STATE : Nat := 1
/-- Event `SYS.WAKE` (R434). -/
def SYS.WAKE : Nat := 3
/-- Event `TEL.OVERFLOW` (R434). -/
def TEL.OVERFLOW : Nat := 251
/-- Event `TEL.READY` (R434). -/
def TEL.READY : Nat := 250
/-- Event `TEL.TJ_HIGH` (R434). -/
def TEL.TJ_HIGH : Nat := 252
/-- Event `TWC.DONE` (R434). -/
def TWC.DONE : Nat := 228
/-- Event `TWC.ERROR` (R434). -/
def TWC.ERROR : Nat := 229
/-- Event `TWC.STUCK_SCL` (R434). -/
def TWC.STUCK_SCL : Nat := 231
/-- Event `TWC.STUCK_SDA` (R434). -/
def TWC.STUCK_SDA : Nat := 230
/-- Event `TWT.CFG_ERR` (R434). -/
def TWT.CFG_ERR : Nat := 225
/-- Event `TWT.PROTO` (R434). -/
def TWT.PROTO : Nat := 224
/-- Event `WAM.AMSS` (R434). -/
def WAM.AMSS : Nat := 174
/-- Event `WAM.CHANGED` (R434). -/
def WAM.CHANGED : Nat := 172
/-- Event `WAM.DRM_FOUND` (R434). -/
def WAM.DRM_FOUND : Nat := 173
/-- Event `WFC.ALARM` (R434). -/
def WFC.ALARM : Nat := 169
/-- Event `WFC.CHANGED` (R434). -/
def WFC.CHANGED : Nat := 168
/-- Event `WFC.DB` (R434). -/
def WFC.DB : Nat := 170
/-- Event `WFC.DB_FULL` (R434). -/
def WFC.DB_FULL : Nat := 171
/-- Event `WRD.ALARM` (R434). -/
def WRD.ALARM : Nat := 165
/-- Event `WRD.CAPTURE` (R434). -/
def WRD.CAPTURE : Nat := 167
/-- Event `WRD.CHANGED` (R434). -/
def WRD.CHANGED : Nat := 164
/-- Event `WRD.GROUPS` (R434). -/
def WRD.GROUPS : Nat := 166

end Ev

end Sys2Proof.Machine
end

