-- ==== Sys2Proof/Machine/RegMap.lean ====
section
/-!
DEFINITION. The register map: every block register of the pages of R430 with the place, width, type and reset value of each of
its fields, as the chapters' field tables give them (made from those tables). R277's header registers stand apart (`Ops`, `Views`).
-/

namespace Sys2Proof.Machine

/-- The field types of the table under R5. -/
inductive FieldType where
  | rw | ro | w1c | wo | sc | rwp | rwl
  deriving DecidableEq, Repr

/-- One field of a register: its type, lowest bit, width and reset value. -/
structure FieldSpec where
  type : FieldType
  lo : Nat
  width : Nat
  reset : Nat
  deriving DecidableEq, Repr

/-- A register of `npages` consecutive pages from `page`, at `off + stride * k` for `k < count`. -/
structure RegSpec where
  page : Nat
  npages : Nat
  off : Nat
  count : Nat
  stride : Nat
  fields : List FieldSpec
  deriving DecidableEq, Repr

namespace RegMap

/-- The block registers of page 0x000. -/
def p000 : List RegSpec := [
  ⟨0x000, 1, 0x040, 1, 4, [⟨.ro, 0, 8, 1⟩]⟩,
  ⟨0x000, 1, 0x044, 1, 4, [⟨.rw, 0, 8, 5⟩, ⟨.ro, 8, 1, 0⟩]⟩,
  ⟨0x000, 1, 0x048, 1, 4, [⟨.wo, 0, 1, 0⟩]⟩,
  ⟨0x000, 1, 0x04C, 1, 4, [⟨.ro, 0, 8, 0⟩, ⟨.ro, 8, 8, 0⟩, ⟨.ro, 16, 1, 0⟩, ⟨.ro, 17, 1, 0⟩]⟩,
  ⟨0x000, 1, 0x050, 1, 4, [⟨.ro, 0, 32, 0⟩]⟩,
  ⟨0x000, 1, 0x054, 1, 4, [⟨.ro, 0, 32, 0⟩]⟩,
  ⟨0x000, 1, 0x058, 1, 4, [⟨.ro, 0, 32, 0⟩]⟩,
  ⟨0x000, 1, 0x05C, 1, 4, [⟨.ro, 0, 32, 0⟩]⟩,
  ⟨0x000, 1, 0x060, 1, 4, [⟨.ro, 0, 32, 0⟩]⟩,
  ⟨0x000, 1, 0x064, 1, 4, [⟨.ro, 0, 32, 0⟩]⟩,
  ⟨0x000, 1, 0x068, 1, 4, [⟨.rwp, 0, 1, 1⟩, ⟨.rwp, 8, 8, 2⟩]⟩,
  ⟨0x000, 1, 0x06C, 1, 4, [⟨.ro, 0, 3, 0⟩, ⟨.ro, 4, 3, 0⟩, ⟨.ro, 7, 1, 0⟩, ⟨.ro, 8, 8, 0⟩, ⟨.ro, 16, 1, 0⟩]⟩,
  ⟨0x000, 1, 0x070, 1, 4, [⟨.ro, 0, 32, 0⟩]⟩,
  ⟨0x000, 1, 0x074, 1, 4, [⟨.ro, 0, 32, 0⟩]⟩,
  ⟨0x000, 1, 0x080, 8, 4, [⟨.ro, 0, 32, 0⟩]⟩,
  ⟨0x000, 1, 0x0A0, 1, 4, [⟨.rw, 0, 1, 1⟩, ⟨.rw, 1, 1, 0⟩, ⟨.ro, 2, 1, 0⟩, ⟨.ro, 16, 9, 256⟩]⟩,
  ⟨0x000, 1, 0x0A4, 1, 4, [⟨.ro, 0, 7, 0⟩, ⟨.ro, 8, 8, 0⟩, ⟨.ro, 16, 8, 0⟩]⟩,
  ⟨0x000, 1, 0x0A8, 1, 4, [⟨.ro, 0, 24, 0⟩, ⟨.ro, 24, 3, 0⟩, ⟨.ro, 27, 1, 0⟩, ⟨.ro, 28, 1, 0⟩, ⟨.w1c, 31, 1, 0⟩]⟩,
  ⟨0x000, 1, 0x0AC, 1, 4, [⟨.ro, 0, 16, 0⟩]⟩,
  ⟨0x000, 1, 0x0B0, 1, 4, [⟨.rwp, 0, 16, 0⟩, ⟨.ro, 16, 1, 0⟩]⟩,
  ⟨0x000, 1, 0x0B4, 1, 4, [⟨.ro, 0, 1, 0⟩, ⟨.ro, 16, 9, 0⟩]⟩,
  ⟨0x000, 1, 0x0C0, 8, 4, [⟨.rwp, 0, 2, 0⟩, ⟨.rwp, 2, 1, 0⟩, ⟨.rwp, 3, 1, 0⟩, ⟨.rwp, 4, 1, 0⟩, ⟨.ro, 5, 1, 0⟩]⟩,
  ⟨0x000, 1, 0x200, 64, 8, [⟨.ro, 0, 32, 0⟩]⟩,
  ⟨0x000, 1, 0x204, 64, 8, [⟨.ro, 0, 8, 0⟩, ⟨.ro, 8, 8, 0⟩, ⟨.ro, 16, 1, 0⟩]⟩
]

/-- The block registers of page 0x001. -/
def p001 : List RegSpec := [
  ⟨0x001, 1, 0x00C, 1, 4, [⟨.ro, 0, 1, 0⟩, ⟨.ro, 1, 1, 0⟩, ⟨.ro, 2, 1, 0⟩]⟩,
  ⟨0x001, 1, 0x040, 1, 4, [⟨.ro, 0, 16, 0⟩]⟩,
  ⟨0x001, 1, 0x044, 1, 4, [⟨.ro, 0, 16, 0⟩]⟩,
  ⟨0x001, 1, 0x048, 1, 4, [⟨.ro, 0, 16, 0⟩]⟩,
  ⟨0x001, 1, 0x04C, 1, 4, [⟨.rwp, 0, 1, 1⟩, ⟨.rwp, 8, 8, 108⟩, ⟨.rwp, 16, 12, 220⟩]⟩,
  ⟨0x001, 1, 0x050, 1, 4, [⟨.ro, 0, 2, 0⟩, ⟨.ro, 2, 1, 0⟩, ⟨.ro, 16, 16, 0⟩]⟩,
  ⟨0x001, 1, 0x054, 1, 4, [⟨.ro, 0, 5, 0⟩]⟩,
  ⟨0x001, 1, 0x0C0, 1, 4, [⟨.rwp, 0, 1, 0⟩, ⟨.rwp, 8, 5, 10⟩]⟩,
  ⟨0x001, 1, 0x0C4, 1, 4, [⟨.ro, 0, 1, 0⟩, ⟨.ro, 1, 1, 0⟩, ⟨.ro, 2, 1, 0⟩, ⟨.ro, 3, 1, 0⟩, ⟨.ro, 8, 8, 0⟩, ⟨.ro, 16, 10, 0⟩]⟩,
  ⟨0x001, 1, 0x0C8, 1, 4, [⟨.ro, 0, 16, 0⟩]⟩
]

/-- The block registers of page 0x002. -/
def p002 : List RegSpec := [
  ⟨0x002, 1, 0x00C, 1, 4, [⟨.ro, 0, 1, 0⟩, ⟨.ro, 1, 1, 0⟩, ⟨.ro, 2, 1, 0⟩, ⟨.ro, 3, 1, 0⟩, ⟨.ro, 4, 1, 0⟩]⟩,
  ⟨0x002, 1, 0x040, 1, 4, [⟨.ro, 0, 3, 0⟩, ⟨.ro, 4, 2, 0⟩]⟩,
  ⟨0x002, 1, 0x044, 1, 4, [⟨.ro, 0, 8, 0⟩]⟩,
  ⟨0x002, 1, 0x048, 1, 4, [⟨.ro, 0, 32, 0⟩]⟩,
  ⟨0x002, 1, 0x04C, 1, 4, [⟨.ro, 0, 32, 0⟩]⟩,
  ⟨0x002, 1, 0x050, 1, 4, [⟨.ro, 0, 16, 0⟩]⟩,
  ⟨0x002, 1, 0x054, 1, 4, [⟨.ro, 0, 32, 0⟩]⟩,
  ⟨0x002, 1, 0x058, 1, 4, [⟨.ro, 0, 16, 0⟩]⟩,
  ⟨0x002, 1, 0x060, 3, 4, [⟨.rwp, 0, 12, 120⟩, ⟨.rwp, 12, 1, 0⟩, ⟨.rwp, 13, 1, 0⟩, ⟨.rwp, 16, 10, 0⟩, ⟨.ro, 31, 1, 0⟩]⟩,
  ⟨0x002, 1, 0x06C, 1, 4, [⟨.ro, 0, 3, 0⟩]⟩
]

/-- The block registers of pages 0x003 to 0x004. -/
def p003x2 : List RegSpec := [
  ⟨0x003, 2, 0x008, 1, 4, [⟨.rwp, 0, 1, 1⟩]⟩,
  ⟨0x003, 2, 0x00C, 1, 4, [⟨.ro, 0, 1, 0⟩, ⟨.ro, 1, 1, 0⟩, ⟨.ro, 2, 1, 0⟩, ⟨.ro, 3, 1, 0⟩, ⟨.ro, 4, 1, 0⟩, ⟨.ro, 5, 1, 0⟩, ⟨.ro, 8, 6, 0⟩, ⟨.ro, 16, 5, 0⟩]⟩,
  ⟨0x003, 2, 0x040, 1, 4, [⟨.ro, 0, 8, 0⟩]⟩,
  ⟨0x003, 2, 0x044, 1, 4, [⟨.ro, 0, 32, 0⟩]⟩,
  ⟨0x003, 2, 0x048, 1, 4, [⟨.ro, 0, 6, 0⟩]⟩,
  ⟨0x003, 2, 0x04C, 1, 4, [⟨.ro, 0, 32, 0⟩]⟩,
  ⟨0x003, 2, 0x050, 1, 4, [⟨.ro, 0, 8, 0⟩]⟩,
  ⟨0x003, 2, 0x054, 1, 4, [⟨.ro, 0, 32, 0⟩]⟩,
  ⟨0x003, 2, 0x058, 1, 4, [⟨.ro, 0, 6, 0⟩]⟩,
  ⟨0x003, 2, 0x05C, 1, 4, [⟨.ro, 0, 32, 0⟩]⟩,
  ⟨0x003, 2, 0x060, 1, 4, [⟨.wo, 0, 1, 0⟩, ⟨.wo, 1, 1, 0⟩, ⟨.wo, 2, 1, 0⟩]⟩,
  ⟨0x003, 2, 0x064, 1, 4, [⟨.ro, 0, 16, 0⟩]⟩,
  ⟨0x003, 2, 0x100, 32, 16, [⟨.ro, 0, 32, 0⟩]⟩,
  ⟨0x003, 2, 0x104, 32, 16, [⟨.ro, 0, 6, 0⟩, ⟨.ro, 6, 1, 0⟩, ⟨.ro, 7, 1, 0⟩, ⟨.ro, 8, 6, 0⟩]⟩,
  ⟨0x003, 2, 0x108, 32, 16, [⟨.ro, 0, 16, 0⟩]⟩,
  ⟨0x003, 2, 0x10C, 32, 16, [⟨.ro, 0, 32, 0⟩]⟩
]

/-- The block registers of page 0x008. -/
def p008 : List RegSpec := [
  ⟨0x008, 1, 0x008, 1, 4, [⟨.rw, 2, 1, 0⟩, ⟨.rw, 3, 1, 0⟩]⟩,
  ⟨0x008, 1, 0x00C, 1, 4, [⟨.ro, 0, 2, 0⟩, ⟨.ro, 2, 1, 0⟩, ⟨.ro, 3, 1, 0⟩, ⟨.ro, 4, 1, 0⟩, ⟨.ro, 8, 5, 0⟩]⟩,
  ⟨0x008, 1, 0x04C, 1, 4, [⟨.ro, 0, 32, 0⟩]⟩,
  ⟨0x008, 1, 0x050, 1, 4, [⟨.ro, 0, 32, 0⟩]⟩
]

/-- The block registers of pages 0x009 to 0x00A. -/
def p009x2 : List RegSpec := [
  ⟨0x009, 2, 0x008, 1, 4, [⟨.rwp, 0, 2, 0⟩, ⟨.rw, 2, 1, 0⟩, ⟨.rw, 3, 1, 0⟩, ⟨.rwp, 4, 1, 1⟩]⟩,
  ⟨0x009, 2, 0x00C, 1, 4, [⟨.ro, 0, 2, 0⟩, ⟨.ro, 2, 1, 0⟩, ⟨.ro, 3, 1, 0⟩, ⟨.ro, 4, 1, 0⟩, ⟨.ro, 8, 5, 0⟩]⟩,
  ⟨0x009, 2, 0x040, 1, 4, [⟨.rwp, 0, 18, 0⟩]⟩,
  ⟨0x009, 2, 0x044, 1, 4, [⟨.ro, 0, 18, 0⟩]⟩,
  ⟨0x009, 2, 0x048, 1, 4, [⟨.ro, 0, 16, 0⟩]⟩,
  ⟨0x009, 2, 0x04C, 1, 4, [⟨.ro, 0, 32, 0⟩]⟩,
  ⟨0x009, 2, 0x050, 1, 4, [⟨.ro, 0, 32, 0⟩]⟩
]

/-- The block registers of page 0x00B. -/
def p00B : List RegSpec := [
  ⟨0x00B, 1, 0x008, 1, 4, [⟨.rwp, 0, 2, 0⟩, ⟨.rwp, 2, 2, 0⟩, ⟨.rwp, 4, 2, 0⟩]⟩,
  ⟨0x00B, 1, 0x040, 1, 4, [⟨.rw, 0, 5, 0⟩, ⟨.rw, 8, 5, 0⟩, ⟨.rw, 16, 5, 0⟩]⟩,
  ⟨0x00B, 1, 0x044, 3, 4, [⟨.ro, 0, 5, 0⟩, ⟨.ro, 8, 17, 0⟩]⟩,
  ⟨0x00B, 1, 0x050, 1, 4, [⟨.wo, 0, 2, 0⟩, ⟨.wo, 8, 1, 0⟩]⟩,
  ⟨0x00B, 1, 0x080, 1, 4, [⟨.ro, 0, 8, 0⟩, ⟨.ro, 8, 1, 0⟩, ⟨.ro, 9, 1, 0⟩, ⟨.ro, 10, 2, 0⟩, ⟨.ro, 12, 1, 0⟩]⟩,
  ⟨0x00B, 1, 0x084, 1, 4, [⟨.ro, 0, 16, 0⟩, ⟨.ro, 16, 5, 0⟩]⟩,
  ⟨0x00B, 1, 0x088, 1, 4, [⟨.wo, 0, 8, 0⟩]⟩,
  ⟨0x00B, 1, 0x100, 25, 4, [⟨.ro, 0, 16, 0⟩]⟩,
  ⟨0x00B, 1, 0x180, 25, 4, [⟨.ro, 0, 16, 0⟩]⟩,
  ⟨0x00B, 1, 0x200, 25, 4, [⟨.ro, 0, 16, 0⟩]⟩
]

/-- The block registers of page 0x00C. -/
def p00C : List RegSpec := [
  ⟨0x00C, 1, 0x008, 1, 4, [⟨.rw, 0, 1, 0⟩, ⟨.rw, 1, 2, 1⟩, ⟨.rw, 8, 5, 0⟩, ⟨.rw, 16, 1, 0⟩]⟩,
  ⟨0x00C, 1, 0x00C, 1, 4, [⟨.ro, 0, 1, 0⟩, ⟨.ro, 1, 1, 0⟩, ⟨.ro, 2, 1, 0⟩, ⟨.ro, 3, 1, 0⟩, ⟨.ro, 8, 5, 0⟩, ⟨.ro, 20, 4, 0⟩]⟩,
  ⟨0x00C, 1, 0x040, 1, 4, [⟨.rw, 0, 32, 0⟩]⟩,
  ⟨0x00C, 1, 0x044, 1, 4, [⟨.rw, 0, 16, 0⟩]⟩,
  ⟨0x00C, 1, 0x100, 64, 4, [⟨.rw, 0, 16, 0⟩]⟩
]

/-- The block registers of page 0x00D. -/
def p00D : List RegSpec := [
  ⟨0x00D, 1, 0x008, 1, 4, [⟨.rwp, 0, 1, 0⟩, ⟨.rwp, 1, 1, 0⟩, ⟨.rwp, 2, 1, 0⟩, ⟨.rwp, 3, 1, 0⟩, ⟨.rwp, 4, 3, 6⟩, ⟨.rwp, 8, 8, 5⟩]⟩,
  ⟨0x00D, 1, 0x00C, 1, 4, [⟨.ro, 0, 1, 0⟩, ⟨.ro, 1, 1, 0⟩, ⟨.ro, 2, 1, 0⟩, ⟨.ro, 3, 1, 0⟩, ⟨.ro, 8, 16, 0⟩]⟩,
  ⟨0x00D, 1, 0x040, 1, 4, [⟨.ro, 0, 6, 50⟩, ⟨.ro, 8, 8, 20⟩]⟩
]

/-- The block registers of page 0x010. -/
def p010 : List RegSpec := [
  ⟨0x010, 1, 0x048, 1, 4, [⟨.ro, 0, 16, 0⟩]⟩,
  ⟨0x010, 1, 0x100, 40, 8, [⟨.ro, 0, 32, 0⟩]⟩,
  ⟨0x010, 1, 0x104, 40, 8, [⟨.ro, 0, 8, 255⟩, ⟨.ro, 8, 5, 0⟩, ⟨.ro, 13, 2, 0⟩, ⟨.ro, 15, 10, 0⟩]⟩
]

/-- The block registers of pages 0x010 to 0x012. -/
def p010x3 : List RegSpec := [
  ⟨0x010, 3, 0x00C, 1, 4, [⟨.ro, 0, 8, 0⟩, ⟨.ro, 8, 8, 0⟩, ⟨.ro, 16, 1, 0⟩]⟩,
  ⟨0x010, 3, 0x040, 1, 4, [⟨.ro, 0, 32, 0⟩]⟩,
  ⟨0x010, 3, 0x044, 1, 4, [⟨.ro, 0, 18, 0⟩, ⟨.ro, 18, 4, 0⟩]⟩,
  ⟨0x010, 3, 0x04C, 1, 4, [⟨.rwp, 0, 8, 40⟩, ⟨.rwp, 8, 8, 28⟩, ⟨.rwp, 16, 1, 0⟩]⟩
]

/-- The block registers of page 0x011. -/
def p011 : List RegSpec := [
  ⟨0x011, 1, 0x100, 122, 8, [⟨.ro, 0, 32, 0⟩]⟩,
  ⟨0x011, 1, 0x104, 122, 8, [⟨.ro, 0, 8, 255⟩, ⟨.ro, 8, 5, 0⟩, ⟨.ro, 13, 2, 0⟩, ⟨.ro, 15, 10, 0⟩]⟩
]

/-- The block registers of pages 0x011 to 0x012. -/
def p011x2 : List RegSpec := [
  ⟨0x011, 2, 0x048, 1, 4, [⟨.ro, 0, 16, 0⟩, ⟨.ro, 16, 16, 0⟩]⟩
]

/-- The block registers of page 0x012. -/
def p012 : List RegSpec := [
  ⟨0x012, 1, 0x100, 24, 8, [⟨.ro, 0, 32, 0⟩]⟩,
  ⟨0x012, 1, 0x104, 24, 8, [⟨.ro, 0, 8, 255⟩, ⟨.ro, 8, 5, 0⟩, ⟨.ro, 13, 2, 0⟩, ⟨.ro, 15, 10, 0⟩]⟩
]

/-- The block registers of page 0x014. -/
def p014 : List RegSpec := [
  ⟨0x014, 1, 0x008, 1, 4, [⟨.rwp, 0, 1, 1⟩, ⟨.rwp, 1, 1, 1⟩, ⟨.rwp, 2, 1, 1⟩]⟩,
  ⟨0x014, 1, 0x00C, 1, 4, [⟨.ro, 0, 1, 0⟩, ⟨.ro, 1, 1, 0⟩, ⟨.ro, 2, 1, 0⟩]⟩,
  ⟨0x014, 1, 0x080, 1, 4, [⟨.ro, 0, 8, 0⟩, ⟨.ro, 8, 1, 0⟩, ⟨.ro, 9, 1, 0⟩]⟩,
  ⟨0x014, 1, 0x084, 1, 4, [⟨.wo, 0, 8, 0⟩]⟩,
  ⟨0x014, 1, 0x088, 1, 4, [⟨.ro, 0, 8, 0⟩, ⟨.ro, 8, 1, 0⟩, ⟨.ro, 9, 1, 0⟩]⟩,
  ⟨0x014, 1, 0x08C, 1, 4, [⟨.wo, 0, 8, 0⟩]⟩,
  ⟨0x014, 1, 0x090, 1, 4, [⟨.ro, 0, 8, 0⟩, ⟨.ro, 8, 1, 0⟩, ⟨.ro, 9, 1, 0⟩]⟩,
  ⟨0x014, 1, 0x094, 1, 4, [⟨.wo, 0, 8, 0⟩]⟩,
  ⟨0x014, 1, 0x0A0, 1, 4, [⟨.ro, 0, 32, 0⟩]⟩,
  ⟨0x014, 1, 0x0A4, 1, 4, [⟨.ro, 0, 32, 0⟩]⟩,
  ⟨0x014, 1, 0x0A8, 1, 4, [⟨.ro, 0, 32, 0⟩]⟩,
  ⟨0x014, 1, 0x0C0, 1, 4, [⟨.rw, 0, 2, 0⟩, ⟨.rw, 16, 5, 0⟩]⟩,
  ⟨0x014, 1, 0x800, 512, 4, [⟨.ro, 0, 32, 0⟩]⟩
]

/-- The block registers of page 0x018. -/
def p018 : List RegSpec := [
  ⟨0x018, 1, 0x008, 1, 4, [⟨.rwp, 0, 1, 1⟩, ⟨.rwp, 1, 1, 1⟩, ⟨.rwp, 2, 1, 1⟩, ⟨.rwp, 3, 1, 1⟩]⟩,
  ⟨0x018, 1, 0x00C, 1, 4, [⟨.ro, 0, 6, 0⟩, ⟨.ro, 8, 6, 0⟩, ⟨.ro, 14, 1, 0⟩, ⟨.ro, 16, 8, 0⟩]⟩,
  ⟨0x018, 1, 0x040, 8, 4, [⟨.ro, 0, 8, 0⟩, ⟨.ro, 8, 8, 0⟩, ⟨.ro, 16, 8, 0⟩]⟩,
  ⟨0x018, 1, 0x060, 1, 4, [⟨.rwp, 0, 8, 20⟩, ⟨.rwp, 8, 8, 20⟩, ⟨.rwp, 16, 8, 30⟩, ⟨.rwp, 24, 8, 3⟩]⟩,
  ⟨0x018, 1, 0x064, 1, 4, [⟨.rwp, 0, 16, 3000⟩]⟩,
  ⟨0x018, 1, 0x068, 1, 4, [⟨.rwp, 0, 8, 0⟩, ⟨.rwp, 8, 6, 0⟩, ⟨.rwp, 16, 4, 0⟩, ⟨.rwp, 20, 2, 0⟩]⟩,
  ⟨0x018, 1, 0x080, 6, 4, [⟨.ro, 0, 8, 0⟩, ⟨.ro, 8, 1, 0⟩, ⟨.ro, 9, 1, 0⟩, ⟨.ro, 10, 1, 0⟩, ⟨.ro, 16, 8, 0⟩]⟩,
  ⟨0x018, 1, 0x0A0, 1, 4, [⟨.ro, 0, 8, 0⟩, ⟨.ro, 8, 1, 0⟩, ⟨.ro, 9, 2, 0⟩, ⟨.ro, 11, 2, 0⟩, ⟨.ro, 13, 2, 0⟩]⟩,
  ⟨0x018, 1, 0x100, 32, 16, [⟨.ro, 0, 4, 0⟩, ⟨.ro, 4, 2, 0⟩, ⟨.ro, 8, 8, 0⟩, ⟨.ro, 16, 4, 0⟩, ⟨.ro, 20, 3, 0⟩, ⟨.ro, 23, 3, 0⟩, ⟨.ro, 26, 2, 0⟩, ⟨.ro, 28, 2, 0⟩]⟩,
  ⟨0x018, 1, 0x104, 32, 16, [⟨.ro, 0, 32, 0⟩]⟩,
  ⟨0x018, 1, 0x108, 32, 16, [⟨.ro, 0, 32, 0⟩]⟩,
  ⟨0x018, 1, 0x10C, 32, 16, [⟨.ro, 0, 16, 0⟩, ⟨.ro, 16, 8, 0⟩, ⟨.ro, 24, 8, 0⟩]⟩,
  ⟨0x018, 1, 0x400, 156, 4, [⟨.ro, 0, 3, 0⟩, ⟨.ro, 3, 3, 7⟩, ⟨.ro, 6, 1, 0⟩, ⟨.ro, 7, 1, 0⟩, ⟨.ro, 8, 5, 0⟩, ⟨.ro, 13, 1, 0⟩, ⟨.ro, 14, 2, 0⟩]⟩
]

/-- The block registers of pages 0x020 to 0x027. -/
def p020x8 : List RegSpec := [
  ⟨0x020, 8, 0x008, 1, 4, [⟨.rwp, 0, 1, 0⟩, ⟨.rwp, 1, 1, 0⟩, ⟨.rw, 2, 1, 0⟩, ⟨.rw, 3, 1, 1⟩, ⟨.rwp, 4, 2, 1⟩, ⟨.rw, 6, 1, 1⟩]⟩,
  ⟨0x020, 8, 0x00C, 1, 4, [⟨.ro, 0, 3, 0⟩, ⟨.ro, 3, 1, 0⟩, ⟨.ro, 4, 1, 0⟩, ⟨.ro, 5, 3, 0⟩, ⟨.ro, 8, 1, 0⟩, ⟨.ro, 9, 1, 0⟩, ⟨.ro, 10, 1, 0⟩, ⟨.ro, 11, 1, 0⟩]⟩,
  ⟨0x020, 8, 0x040, 1, 4, [⟨.rw, 0, 17, 0⟩]⟩,
  ⟨0x020, 8, 0x044, 1, 4, [⟨.rw, 0, 8, 38⟩, ⟨.rw, 8, 8, 20⟩, ⟨.rw, 16, 8, 40⟩]⟩,
  ⟨0x020, 8, 0x048, 1, 4, [⟨.rw, 0, 8, 24⟩, ⟨.rw, 8, 8, 10⟩, ⟨.rw, 16, 8, 30⟩]⟩,
  ⟨0x020, 8, 0x04C, 4, 4, [⟨.ro, 0, 32, 0⟩]⟩,
  ⟨0x020, 8, 0x05C, 1, 4, [⟨.ro, 0, 32, 0⟩]⟩,
  ⟨0x020, 8, 0x080, 1, 4, [⟨.ro, 0, 8, 0⟩, ⟨.ro, 8, 1, 0⟩, ⟨.ro, 9, 1, 0⟩]⟩,
  ⟨0x020, 8, 0x084, 1, 4, [⟨.ro, 0, 16, 0⟩, ⟨.ro, 16, 16, 0⟩]⟩,
  ⟨0x020, 8, 0x088, 1, 4, [⟨.ro, 0, 8, 0⟩, ⟨.ro, 8, 8, 0⟩, ⟨.ro, 16, 8, 0⟩, ⟨.ro, 24, 8, 0⟩]⟩,
  ⟨0x020, 8, 0x08C, 1, 4, [⟨.ro, 0, 32, 0⟩]⟩,
  ⟨0x020, 8, 0x090, 1, 4, [⟨.wo, 0, 8, 0⟩]⟩,
  ⟨0x020, 8, 0x0A0, 1, 4, [⟨.w1c, 0, 1, 0⟩, ⟨.w1c, 1, 1, 0⟩, ⟨.w1c, 2, 1, 0⟩, ⟨.w1c, 3, 1, 0⟩, ⟨.w1c, 4, 1, 0⟩, ⟨.w1c, 5, 1, 0⟩, ⟨.w1c, 6, 1, 0⟩, ⟨.w1c, 7, 1, 0⟩, ⟨.w1c, 8, 1, 0⟩, ⟨.w1c, 9, 1, 0⟩, ⟨.w1c, 10, 1, 0⟩, ⟨.w1c, 11, 1, 0⟩, ⟨.w1c, 12, 1, 0⟩, ⟨.w1c, 13, 1, 0⟩, ⟨.w1c, 14, 1, 0⟩, ⟨.w1c, 15, 1, 0⟩]⟩,
  ⟨0x020, 8, 0x0A4, 1, 4, [⟨.rw, 0, 16, 14879⟩]⟩,
  ⟨0x020, 8, 0x0B0, 1, 4, [⟨.ro, 0, 30, 0⟩, ⟨.ro, 30, 1, 0⟩, ⟨.ro, 31, 1, 0⟩]⟩,
  ⟨0x020, 8, 0x0B4, 2, 4, [⟨.ro, 0, 32, 0⟩]⟩,
  ⟨0x020, 8, 0x0BC, 2, 4, [⟨.ro, 0, 32, 0⟩]⟩,
  ⟨0x020, 8, 0x0C4, 1, 4, [⟨.ro, 0, 29, 0⟩]⟩,
  ⟨0x020, 8, 0x0C8, 1, 4, [⟨.ro, 0, 8, 0⟩]⟩,
  ⟨0x020, 8, 0x0CC, 1, 4, [⟨.ro, 0, 32, 0⟩]⟩,
  ⟨0x020, 8, 0x0D0, 1, 4, [⟨.ro, 0, 5, 0⟩, ⟨.ro, 5, 5, 0⟩, ⟨.ro, 10, 1, 0⟩, ⟨.ro, 11, 1, 0⟩]⟩,
  ⟨0x020, 8, 0x100, 16, 4, [⟨.ro, 0, 32, 0⟩]⟩,
  ⟨0x020, 8, 0x140, 13, 4, [⟨.ro, 0, 32, 0⟩]⟩,
  ⟨0x020, 8, 0x200, 1, 4, [⟨.rw, 0, 32, 0⟩]⟩,
  ⟨0x020, 8, 0x204, 1, 4, [⟨.rw, 0, 4, 1⟩, ⟨.rw, 8, 8, 16⟩, ⟨.rw, 16, 1, 0⟩]⟩,
  ⟨0x020, 8, 0x208, 1, 4, [⟨.ro, 0, 8, 0⟩, ⟨.ro, 8, 8, 0⟩, ⟨.ro, 16, 1, 0⟩]⟩,
  ⟨0x020, 8, 0x20C, 1, 4, [⟨.ro, 0, 32, 0⟩]⟩,
  ⟨0x020, 8, 0x210, 1, 4, [⟨.wo, 0, 8, 0⟩]⟩,
  ⟨0x020, 8, 0x400, 128, 16, [⟨.ro, 0, 16, 0⟩, ⟨.ro, 16, 16, 0⟩]⟩,
  ⟨0x020, 8, 0x404, 128, 16, [⟨.ro, 0, 16, 0⟩, ⟨.ro, 16, 16, 0⟩]⟩,
  ⟨0x020, 8, 0x408, 128, 16, [⟨.ro, 0, 8, 0⟩, ⟨.ro, 8, 2, 0⟩, ⟨.ro, 10, 1, 0⟩, ⟨.ro, 11, 1, 0⟩, ⟨.ro, 12, 8, 0⟩, ⟨.ro, 20, 7, 0⟩]⟩,
  ⟨0x020, 8, 0x40C, 128, 16, [⟨.ro, 0, 32, 0⟩]⟩
]

/-- The block registers of pages 0x028 to 0x02D. -/
def p028x6 : List RegSpec := [
  ⟨0x028, 6, 0x008, 1, 4, [⟨.rw, 0, 3, 0⟩, ⟨.rw, 8, 5, 8⟩, ⟨.rw, 13, 1, 1⟩, ⟨.rw, 14, 1, 1⟩]⟩,
  ⟨0x028, 6, 0x00C, 1, 4, [⟨.ro, 0, 3, 0⟩, ⟨.ro, 3, 1, 0⟩, ⟨.ro, 4, 1, 0⟩, ⟨.ro, 5, 1, 0⟩, ⟨.ro, 6, 1, 0⟩, ⟨.ro, 7, 1, 0⟩]⟩,
  ⟨0x028, 6, 0x040, 1, 4, [⟨.rw, 0, 15, 0⟩]⟩,
  ⟨0x028, 6, 0x044, 1, 4, [⟨.rw, 0, 8, 32⟩, ⟨.rw, 8, 4, 8⟩]⟩,
  ⟨0x028, 6, 0x048, 3, 4, [⟨.ro, 0, 32, 0⟩]⟩,
  ⟨0x028, 6, 0x054, 1, 4, [⟨.ro, 0, 32, 0⟩]⟩,
  ⟨0x028, 6, 0x058, 1, 4, [⟨.ro, 0, 32, 0⟩]⟩,
  ⟨0x028, 6, 0x080, 1, 4, [⟨.ro, 0, 10, 0⟩]⟩,
  ⟨0x028, 6, 0x084, 1, 4, [⟨.ro, 0, 32, 0⟩]⟩,
  ⟨0x028, 6, 0x088, 1, 4, [⟨.ro, 0, 8, 0⟩, ⟨.ro, 8, 8, 0⟩, ⟨.ro, 16, 8, 0⟩]⟩,
  ⟨0x028, 6, 0x08C, 1, 4, [⟨.ro, 0, 32, 0⟩]⟩,
  ⟨0x028, 6, 0x090, 1, 4, [⟨.wo, 0, 8, 0⟩]⟩,
  ⟨0x028, 6, 0x094, 1, 4, [⟨.ro, 0, 16, 0⟩]⟩,
  ⟨0x028, 6, 0x0A0, 1, 4, [⟨.w1c, 0, 1, 0⟩, ⟨.w1c, 1, 1, 0⟩, ⟨.w1c, 2, 1, 0⟩, ⟨.w1c, 3, 1, 0⟩, ⟨.w1c, 4, 1, 0⟩, ⟨.w1c, 5, 1, 0⟩]⟩,
  ⟨0x028, 6, 0x0A4, 1, 4, [⟨.rw, 0, 6, 51⟩]⟩,
  ⟨0x028, 6, 0x0B0, 1, 4, [⟨.ro, 0, 24, 0⟩, ⟨.ro, 24, 4, 0⟩, ⟨.ro, 28, 1, 0⟩]⟩,
  ⟨0x028, 6, 0x200, 1, 4, [⟨.ro, 0, 5, 0⟩, ⟨.ro, 8, 8, 0⟩, ⟨.ro, 16, 1, 0⟩]⟩,
  ⟨0x028, 6, 0x204, 1, 4, [⟨.rw, 0, 5, 4⟩]⟩,
  ⟨0x028, 6, 0x208, 1, 4, [⟨.wo, 0, 8, 0⟩]⟩,
  ⟨0x028, 6, 0x20C, 1, 4, [⟨.ro, 0, 32, 0⟩]⟩,
  ⟨0x028, 6, 0x300, 16, 16, [⟨.ro, 0, 32, 0⟩]⟩,
  ⟨0x028, 6, 0x304, 16, 16, [⟨.ro, 0, 16, 0⟩, ⟨.ro, 16, 6, 0⟩, ⟨.ro, 24, 8, 0⟩]⟩,
  ⟨0x028, 6, 0x308, 16, 16, [⟨.ro, 0, 32, 0⟩]⟩
]

/-- The block registers of pages 0x030 to 0x033. -/
def p030x4 : List RegSpec := [
  ⟨0x030, 4, 0x008, 1, 4, [⟨.rw, 0, 1, 1⟩, ⟨.rw, 1, 1, 1⟩, ⟨.rw, 2, 1, 1⟩]⟩,
  ⟨0x030, 4, 0x00C, 1, 4, [⟨.ro, 0, 3, 0⟩, ⟨.ro, 3, 6, 63⟩, ⟨.ro, 9, 1, 0⟩, ⟨.ro, 10, 3, 0⟩, ⟨.ro, 13, 10, 0⟩]⟩,
  ⟨0x030, 4, 0x040, 1, 4, [⟨.rw, 0, 6, 0⟩, ⟨.rw, 7, 1, 0⟩]⟩,
  ⟨0x030, 4, 0x044, 6, 8, [⟨.rw, 0, 32, 0⟩]⟩,
  ⟨0x030, 4, 0x048, 6, 8, [⟨.rw, 0, 4, 0⟩, ⟨.rw, 4, 1, 0⟩]⟩,
  ⟨0x030, 4, 0x080, 6, 4, [⟨.ro, 0, 6, 0⟩, ⟨.ro, 6, 1, 0⟩, ⟨.ro, 7, 1, 0⟩, ⟨.ro, 8, 1, 0⟩, ⟨.ro, 9, 1, 0⟩, ⟨.ro, 10, 1, 0⟩, ⟨.ro, 11, 1, 0⟩, ⟨.ro, 12, 1, 0⟩, ⟨.ro, 13, 1, 0⟩, ⟨.ro, 14, 1, 0⟩, ⟨.ro, 15, 3, 0⟩, ⟨.ro, 18, 1, 0⟩, ⟨.ro, 19, 1, 0⟩, ⟨.ro, 20, 1, 0⟩, ⟨.ro, 21, 2, 0⟩, ⟨.ro, 23, 1, 0⟩]⟩,
  ⟨0x030, 4, 0x0A0, 1, 4, [⟨.w1c, 0, 1, 0⟩, ⟨.w1c, 1, 1, 0⟩, ⟨.w1c, 2, 1, 0⟩, ⟨.w1c, 3, 1, 0⟩, ⟨.w1c, 4, 1, 0⟩, ⟨.w1c, 5, 1, 0⟩, ⟨.w1c, 6, 1, 0⟩, ⟨.w1c, 7, 1, 0⟩, ⟨.w1c, 8, 1, 0⟩]⟩,
  ⟨0x030, 4, 0x0A4, 1, 4, [⟨.rw, 0, 9, 319⟩]⟩,
  ⟨0x030, 4, 0x0B0, 1, 4, [⟨.ro, 0, 16, 32768⟩, ⟨.ro, 16, 16, 0⟩]⟩,
  ⟨0x030, 4, 0x0B4, 1, 4, [⟨.ro, 0, 16, 0⟩, ⟨.ro, 16, 16, 0⟩]⟩,
  ⟨0x030, 4, 0x0B8, 1, 4, [⟨.ro, 0, 16, 0⟩, ⟨.ro, 16, 12, 0⟩]⟩,
  ⟨0x030, 4, 0x0BC, 1, 4, [⟨.ro, 0, 16, 0⟩, ⟨.ro, 16, 16, 0⟩]⟩,
  ⟨0x030, 4, 0x100, 6, 16, [⟨.ro, 0, 16, 0⟩, ⟨.ro, 16, 16, 0⟩]⟩,
  ⟨0x030, 4, 0x104, 6, 16, [⟨.ro, 0, 16, 0⟩, ⟨.ro, 16, 16, 0⟩]⟩,
  ⟨0x030, 4, 0x108, 6, 16, [⟨.ro, 0, 16, 0⟩, ⟨.ro, 16, 16, 0⟩]⟩,
  ⟨0x030, 4, 0x10C, 6, 16, [⟨.ro, 0, 16, 0⟩]⟩,
  ⟨0x030, 4, 0x200, 6, 4, [⟨.ro, 0, 8, 0⟩, ⟨.ro, 8, 1, 0⟩, ⟨.ro, 9, 1, 0⟩]⟩,
  ⟨0x030, 4, 0x400, 192, 4, [⟨.ro, 0, 32, 0⟩]⟩
]

/-- The block registers of pages 0x034 to 0x035. -/
def p034x2 : List RegSpec := [
  ⟨0x034, 2, 0x008, 1, 4, [⟨.rw, 0, 1, 1⟩, ⟨.rw, 1, 1, 1⟩]⟩,
  ⟨0x034, 2, 0x00C, 1, 4, [⟨.ro, 0, 3, 0⟩, ⟨.ro, 3, 3, 7⟩, ⟨.ro, 6, 3, 0⟩, ⟨.ro, 9, 1, 0⟩, ⟨.ro, 10, 2, 0⟩, ⟨.ro, 12, 1, 0⟩, ⟨.ro, 13, 3, 0⟩, ⟨.ro, 16, 1, 0⟩, ⟨.ro, 17, 1, 0⟩, ⟨.ro, 18, 1, 0⟩]⟩,
  ⟨0x034, 2, 0x040, 1, 4, [⟨.rw, 0, 17, 0⟩, ⟨.rw, 17, 1, 0⟩]⟩,
  ⟨0x034, 2, 0x044, 4, 4, [⟨.rw, 0, 24, 0⟩, ⟨.rw, 24, 1, 0⟩]⟩,
  ⟨0x034, 2, 0x054, 4, 4, [⟨.ro, 0, 2, 0⟩, ⟨.ro, 2, 1, 0⟩, ⟨.ro, 3, 1, 0⟩, ⟨.ro, 4, 1, 0⟩, ⟨.ro, 5, 1, 0⟩, ⟨.ro, 6, 1, 0⟩, ⟨.ro, 7, 1, 0⟩, ⟨.ro, 8, 3, 0⟩]⟩,
  ⟨0x034, 2, 0x064, 4, 4, [⟨.ro, 0, 16, 0⟩, ⟨.ro, 16, 16, 0⟩]⟩,
  ⟨0x034, 2, 0x074, 1, 4, [⟨.ro, 0, 16, 32768⟩, ⟨.ro, 16, 16, 0⟩]⟩,
  ⟨0x034, 2, 0x078, 1, 4, [⟨.ro, 0, 16, 0⟩, ⟨.ro, 16, 16, 0⟩]⟩,
  ⟨0x034, 2, 0x07C, 1, 4, [⟨.ro, 0, 12, 0⟩, ⟨.ro, 16, 12, 0⟩]⟩,
  ⟨0x034, 2, 0x080, 1, 4, [⟨.ro, 0, 16, 0⟩, ⟨.ro, 16, 16, 0⟩]⟩,
  ⟨0x034, 2, 0x084, 1, 4, [⟨.ro, 0, 16, 0⟩, ⟨.ro, 16, 16, 0⟩]⟩,
  ⟨0x034, 2, 0x088, 1, 4, [⟨.ro, 0, 17, 0⟩, ⟨.ro, 17, 5, 0⟩, ⟨.ro, 22, 6, 0⟩, ⟨.ro, 28, 1, 0⟩]⟩,
  ⟨0x034, 2, 0x08C, 1, 4, [⟨.ro, 0, 32, 0⟩]⟩,
  ⟨0x034, 2, 0x0A0, 1, 4, [⟨.w1c, 0, 1, 0⟩, ⟨.w1c, 1, 1, 0⟩, ⟨.w1c, 2, 1, 0⟩, ⟨.w1c, 3, 1, 0⟩, ⟨.w1c, 4, 1, 0⟩, ⟨.w1c, 5, 1, 0⟩, ⟨.w1c, 6, 1, 0⟩, ⟨.w1c, 7, 1, 0⟩]⟩,
  ⟨0x034, 2, 0x0A4, 1, 4, [⟨.rw, 0, 8, 63⟩]⟩,
  ⟨0x034, 2, 0x100, 4, 32, [⟨.ro, 0, 24, 0⟩, ⟨.ro, 24, 1, 0⟩, ⟨.ro, 25, 1, 0⟩, ⟨.ro, 26, 4, 0⟩, ⟨.ro, 30, 1, 0⟩]⟩,
  ⟨0x034, 2, 0x104, 4, 32, [⟨.ro, 0, 5, 0⟩, ⟨.ro, 5, 3, 7⟩, ⟨.ro, 8, 1, 0⟩, ⟨.ro, 9, 1, 0⟩, ⟨.ro, 10, 1, 0⟩, ⟨.ro, 11, 5, 0⟩]⟩,
  ⟨0x034, 2, 0x108, 4, 32, [⟨.ro, 0, 32, 0⟩]⟩,
  ⟨0x034, 2, 0x10C, 4, 32, [⟨.ro, 0, 32, 0⟩]⟩,
  ⟨0x034, 2, 0x110, 4, 32, [⟨.ro, 0, 32, 0⟩]⟩,
  ⟨0x034, 2, 0x114, 4, 32, [⟨.ro, 0, 32, 0⟩]⟩,
  ⟨0x034, 2, 0x200, 128, 4, [⟨.ro, 0, 32, 0⟩]⟩,
  ⟨0x034, 2, 0x400, 4, 4, [⟨.ro, 0, 8, 0⟩, ⟨.ro, 8, 1, 0⟩, ⟨.ro, 9, 1, 0⟩]⟩
]

/-- The block registers of page 0x038. -/
def p038 : List RegSpec := [
  ⟨0x038, 1, 0x00C, 1, 4, [⟨.ro, 0, 1, 0⟩, ⟨.ro, 8, 7, 0⟩]⟩,
  ⟨0x038, 1, 0x040, 1, 4, [⟨.wo, 0, 7, 0⟩, ⟨.wo, 7, 1, 0⟩, ⟨.wo, 8, 17, 0⟩]⟩,
  ⟨0x038, 1, 0x044, 1, 4, [⟨.rw, 0, 32, 0⟩]⟩,
  ⟨0x038, 1, 0x048, 1, 4, [⟨.rw, 0, 9, 32⟩, ⟨.rw, 16, 1, 0⟩]⟩,
  ⟨0x038, 1, 0x04C, 1, 4, [⟨.ro, 0, 9, 0⟩, ⟨.ro, 16, 8, 0⟩, ⟨.ro, 24, 1, 0⟩]⟩,
  ⟨0x038, 1, 0x050, 1, 4, [⟨.ro, 0, 32, 0⟩]⟩,
  ⟨0x038, 1, 0x054, 1, 4, [⟨.wo, 0, 8, 0⟩]⟩,
  ⟨0x038, 1, 0x058, 1, 4, [⟨.rw, 0, 7, 0⟩]⟩,
  ⟨0x038, 1, 0x05C, 1, 4, [⟨.ro, 0, 12, 0⟩]⟩,
  ⟨0x038, 1, 0x060, 13, 4, [⟨.ro, 0, 32, 0⟩]⟩,
  ⟨0x038, 1, 0x0A0, 3, 4, [⟨.w1c, 0, 32, 0⟩]⟩,
  ⟨0x038, 1, 0x0C0, 1, 4, [⟨.rwp, 0, 1, 0⟩, ⟨.rwp, 1, 1, 0⟩]⟩,
  ⟨0x038, 1, 0x0C4, 4, 4, [⟨.rwp, 0, 16, 0⟩, ⟨.rwp, 16, 16, 0⟩]⟩,
  ⟨0x038, 1, 0x0D4, 1, 4, [⟨.ro, 0, 8, 0⟩, ⟨.ro, 16, 16, 0⟩]⟩,
  ⟨0x038, 1, 0x100, 32, 16, [⟨.ro, 0, 16, 0⟩, ⟨.ro, 16, 16, 0⟩]⟩,
  ⟨0x038, 1, 0x104, 32, 16, [⟨.ro, 0, 16, 0⟩, ⟨.ro, 16, 16, 0⟩]⟩,
  ⟨0x038, 1, 0x108, 32, 16, [⟨.ro, 0, 8, 0⟩, ⟨.ro, 8, 2, 0⟩, ⟨.ro, 10, 1, 0⟩, ⟨.ro, 11, 1, 0⟩, ⟨.ro, 12, 8, 0⟩, ⟨.ro, 20, 7, 0⟩]⟩,
  ⟨0x038, 1, 0x10C, 32, 16, [⟨.ro, 0, 32, 0⟩]⟩,
  ⟨0x038, 1, 0x400, 96, 32, [⟨.ro, 0, 17, 0⟩, ⟨.ro, 17, 3, 0⟩, ⟨.ro, 20, 1, 0⟩, ⟨.ro, 21, 1, 0⟩, ⟨.ro, 22, 1, 0⟩, ⟨.ro, 23, 1, 0⟩, ⟨.ro, 24, 8, 255⟩]⟩,
  ⟨0x038, 1, 0x404, 96, 32, [⟨.ro, 0, 16, 0⟩, ⟨.ro, 16, 5, 0⟩, ⟨.ro, 21, 1, 0⟩, ⟨.ro, 22, 1, 0⟩, ⟨.ro, 23, 1, 0⟩, ⟨.ro, 24, 4, 0⟩, ⟨.ro, 28, 1, 0⟩, ⟨.ro, 29, 1, 0⟩]⟩,
  ⟨0x038, 1, 0x408, 96, 32, [⟨.ro, 0, 32, 0⟩]⟩,
  ⟨0x038, 1, 0x40C, 96, 32, [⟨.ro, 0, 32, 0⟩]⟩,
  ⟨0x038, 1, 0x410, 96, 32, [⟨.ro, 0, 16, 32768⟩, ⟨.ro, 16, 8, 0⟩, ⟨.ro, 24, 5, 0⟩, ⟨.ro, 29, 1, 0⟩]⟩,
  ⟨0x038, 1, 0x414, 96, 32, [⟨.ro, 0, 17, 0⟩, ⟨.ro, 17, 5, 0⟩, ⟨.ro, 22, 6, 0⟩, ⟨.ro, 28, 1, 0⟩]⟩,
  ⟨0x038, 1, 0x418, 96, 32, [⟨.ro, 0, 8, 0⟩]⟩,
  ⟨0x038, 1, 0x41C, 96, 32, [⟨.ro, 0, 32, 0⟩]⟩
]

/-- The block registers of page 0x039. -/
def p039 : List RegSpec := [
  ⟨0x039, 1, 0x00C, 1, 4, [⟨.ro, 0, 1, 0⟩, ⟨.ro, 8, 5, 0⟩, ⟨.ro, 13, 1, 0⟩]⟩,
  ⟨0x039, 1, 0x040, 1, 4, [⟨.wo, 0, 4, 0⟩, ⟨.wo, 7, 1, 0⟩, ⟨.wo, 8, 6, 0⟩]⟩,
  ⟨0x039, 1, 0x044, 1, 4, [⟨.rw, 0, 6, 0⟩, ⟨.rw, 8, 2, 0⟩, ⟨.rw, 16, 4, 0⟩]⟩,
  ⟨0x039, 1, 0x048, 1, 4, [⟨.ro, 0, 6, 0⟩, ⟨.ro, 8, 10, 0⟩, ⟨.ro, 24, 7, 0⟩]⟩,
  ⟨0x039, 1, 0x04C, 1, 4, [⟨.rwp, 0, 16, 3600⟩]⟩,
  ⟨0x039, 1, 0x0A0, 1, 4, [⟨.w1c, 0, 16, 0⟩]⟩,
  ⟨0x039, 1, 0x0A4, 1, 4, [⟨.w1c, 0, 32, 0⟩]⟩,
  ⟨0x039, 1, 0x0A8, 1, 4, [⟨.w1c, 0, 6, 0⟩, ⟨.w1c, 8, 1, 0⟩]⟩,
  ⟨0x039, 1, 0x0C0, 1, 4, [⟨.rwp, 0, 1, 0⟩, ⟨.rwp, 1, 1, 0⟩]⟩,
  ⟨0x039, 1, 0x0C4, 4, 4, [⟨.rwp, 0, 16, 0⟩, ⟨.rwp, 16, 16, 0⟩]⟩,
  ⟨0x039, 1, 0x0D4, 1, 4, [⟨.ro, 0, 8, 0⟩, ⟨.ro, 8, 6, 0⟩, ⟨.ro, 16, 16, 0⟩]⟩,
  ⟨0x039, 1, 0x0D8, 1, 4, [⟨.ro, 0, 6, 0⟩]⟩,
  ⟨0x039, 1, 0x100, 16, 32, [⟨.ro, 0, 6, 63⟩, ⟨.ro, 6, 3, 0⟩, ⟨.ro, 9, 1, 0⟩, ⟨.ro, 10, 1, 0⟩, ⟨.ro, 11, 1, 0⟩, ⟨.ro, 12, 1, 0⟩, ⟨.ro, 24, 8, 255⟩]⟩,
  ⟨0x039, 1, 0x104, 16, 32, [⟨.ro, 0, 16, 0⟩, ⟨.ro, 16, 8, 0⟩, ⟨.ro, 24, 8, 0⟩]⟩,
  ⟨0x039, 1, 0x108, 16, 32, [⟨.ro, 0, 16, 32768⟩, ⟨.ro, 16, 16, 0⟩]⟩,
  ⟨0x039, 1, 0x10C, 16, 32, [⟨.ro, 0, 8, 0⟩]⟩,
  ⟨0x039, 1, 0x110, 16, 32, [⟨.ro, 0, 32, 0⟩]⟩,
  ⟨0x039, 1, 0x300, 1, 64, [⟨.ro, 0, 16, 0⟩, ⟨.ro, 16, 8, 0⟩, ⟨.ro, 24, 6, 0⟩, ⟨.ro, 30, 1, 0⟩, ⟨.ro, 31, 1, 0⟩]⟩,
  ⟨0x039, 1, 0x304, 1, 64, [⟨.ro, 0, 16, 0⟩, ⟨.ro, 16, 7, 0⟩, ⟨.ro, 23, 1, 0⟩, ⟨.ro, 24, 6, 0⟩, ⟨.ro, 30, 1, 0⟩]⟩,
  ⟨0x039, 1, 0x308, 1, 64, [⟨.ro, 0, 17, 0⟩, ⟨.ro, 17, 5, 0⟩, ⟨.ro, 22, 6, 0⟩, ⟨.ro, 28, 1, 0⟩]⟩,
  ⟨0x039, 1, 0x30C, 1, 64, [⟨.ro, 0, 6, 0⟩, ⟨.ro, 6, 10, 0⟩, ⟨.ro, 16, 8, 0⟩]⟩,
  ⟨0x039, 1, 0x310, 1, 64, [⟨.ro, 0, 32, 0⟩]⟩,
  ⟨0x039, 1, 0x314, 1, 64, [⟨.ro, 0, 11, 0⟩]⟩,
  ⟨0x039, 1, 0x318, 1, 64, [⟨.ro, 0, 16, 0⟩, ⟨.ro, 16, 4, 0⟩, ⟨.ro, 20, 1, 0⟩]⟩,
  ⟨0x039, 1, 0x320, 1, 64, [⟨.ro, 0, 32, 0⟩]⟩,
  ⟨0x039, 1, 0x324, 1, 64, [⟨.ro, 0, 32, 0⟩]⟩,
  ⟨0x039, 1, 0x328, 1, 64, [⟨.ro, 0, 32, 0⟩]⟩,
  ⟨0x039, 1, 0x32C, 1, 64, [⟨.ro, 0, 32, 0⟩]⟩,
  ⟨0x039, 1, 0x400, 16, 32, [⟨.ro, 0, 32, 0⟩]⟩,
  ⟨0x039, 1, 0x404, 16, 32, [⟨.ro, 0, 1, 0⟩, ⟨.ro, 1, 1, 0⟩, ⟨.ro, 2, 1, 0⟩, ⟨.ro, 3, 5, 0⟩, ⟨.ro, 8, 6, 0⟩, ⟨.ro, 14, 2, 0⟩, ⟨.ro, 16, 6, 0⟩, ⟨.ro, 22, 1, 0⟩, ⟨.ro, 23, 4, 0⟩, ⟨.ro, 27, 4, 0⟩]⟩,
  ⟨0x039, 1, 0x408, 16, 32, [⟨.ro, 0, 10, 0⟩, ⟨.ro, 10, 10, 0⟩, ⟨.ro, 20, 3, 0⟩, ⟨.ro, 23, 1, 0⟩, ⟨.ro, 24, 1, 0⟩, ⟨.ro, 25, 7, 0⟩]⟩,
  ⟨0x039, 1, 0x40C, 16, 32, [⟨.ro, 0, 16, 0⟩, ⟨.ro, 16, 11, 0⟩]⟩,
  ⟨0x039, 1, 0x410, 16, 32, [⟨.ro, 0, 32, 0⟩]⟩,
  ⟨0x039, 1, 0x414, 16, 32, [⟨.ro, 0, 32, 0⟩]⟩,
  ⟨0x039, 1, 0x418, 16, 32, [⟨.ro, 0, 32, 0⟩]⟩,
  ⟨0x039, 1, 0x41C, 16, 32, [⟨.ro, 0, 32, 0⟩]⟩,
  ⟨0x039, 1, 0x600, 4, 128, [⟨.ro, 0, 12, 0⟩, ⟨.ro, 12, 1, 0⟩, ⟨.ro, 13, 1, 0⟩, ⟨.ro, 14, 1, 0⟩, ⟨.ro, 15, 1, 0⟩, ⟨.ro, 16, 1, 0⟩, ⟨.ro, 24, 4, 0⟩]⟩,
  ⟨0x039, 1, 0x604, 4, 128, [⟨.ro, 0, 32, 0⟩]⟩,
  ⟨0x039, 1, 0x608, 4, 128, [⟨.ro, 0, 6, 0⟩]⟩,
  ⟨0x039, 1, 0x610, 12, 8, [⟨.ro, 0, 24, 0⟩, ⟨.ro, 24, 2, 0⟩]⟩,
  ⟨0x039, 1, 0x614, 12, 8, [⟨.ro, 0, 8, 0⟩, ⟨.ro, 8, 1, 0⟩]⟩,
  ⟨0x039, 1, 0x690, 12, 8, [⟨.ro, 0, 24, 0⟩, ⟨.ro, 24, 2, 0⟩]⟩,
  ⟨0x039, 1, 0x694, 12, 8, [⟨.ro, 0, 8, 0⟩, ⟨.ro, 8, 1, 0⟩]⟩,
  ⟨0x039, 1, 0x710, 12, 8, [⟨.ro, 0, 24, 0⟩, ⟨.ro, 24, 2, 0⟩]⟩,
  ⟨0x039, 1, 0x714, 12, 8, [⟨.ro, 0, 8, 0⟩, ⟨.ro, 8, 1, 0⟩]⟩,
  ⟨0x039, 1, 0x790, 12, 8, [⟨.ro, 0, 24, 0⟩, ⟨.ro, 24, 2, 0⟩]⟩,
  ⟨0x039, 1, 0x794, 12, 8, [⟨.ro, 0, 8, 0⟩, ⟨.ro, 8, 1, 0⟩]⟩
]

/-- The block registers of page 0x03A. -/
def p03A : List RegSpec := [
  ⟨0x03A, 1, 0x00C, 1, 4, [⟨.ro, 0, 1, 0⟩, ⟨.ro, 8, 5, 0⟩]⟩,
  ⟨0x03A, 1, 0x040, 1, 4, [⟨.wo, 0, 5, 0⟩, ⟨.wo, 7, 1, 0⟩, ⟨.wo, 8, 15, 0⟩]⟩,
  ⟨0x03A, 1, 0x044, 1, 4, [⟨.ro, 0, 8, 0⟩]⟩,
  ⟨0x03A, 1, 0x0A0, 1, 4, [⟨.w1c, 0, 24, 0⟩]⟩,
  ⟨0x03A, 1, 0x400, 24, 16, [⟨.ro, 0, 15, 0⟩, ⟨.ro, 15, 3, 0⟩, ⟨.ro, 18, 1, 0⟩, ⟨.ro, 19, 1, 0⟩, ⟨.ro, 20, 1, 0⟩, ⟨.ro, 21, 3, 7⟩, ⟨.ro, 24, 8, 255⟩]⟩,
  ⟨0x03A, 1, 0x404, 24, 16, [⟨.ro, 0, 16, 32768⟩, ⟨.ro, 16, 16, 0⟩]⟩,
  ⟨0x03A, 1, 0x408, 24, 16, [⟨.ro, 0, 24, 0⟩, ⟨.ro, 24, 4, 0⟩, ⟨.ro, 28, 1, 0⟩]⟩,
  ⟨0x03A, 1, 0x40C, 24, 16, [⟨.ro, 0, 32, 0⟩]⟩
]

/-- The block registers of page 0x040. -/
def p040 : List RegSpec := [
  ⟨0x040, 1, 0x008, 1, 4, [⟨.rwp, 0, 2, 0⟩, ⟨.rwp, 2, 1, 0⟩, ⟨.rwp, 3, 1, 1⟩]⟩,
  ⟨0x040, 1, 0x00C, 1, 4, [⟨.ro, 0, 1, 0⟩, ⟨.ro, 1, 1, 0⟩, ⟨.ro, 2, 1, 0⟩, ⟨.ro, 3, 1, 0⟩, ⟨.ro, 8, 8, 0⟩]⟩,
  ⟨0x040, 1, 0x040, 1, 4, [⟨.ro, 0, 32, 0⟩]⟩,
  ⟨0x040, 1, 0x044, 1, 4, [⟨.ro, 0, 32, 0⟩]⟩,
  ⟨0x040, 1, 0x048, 1, 4, [⟨.ro, 0, 32, 0⟩]⟩,
  ⟨0x040, 1, 0x04C, 1, 4, [⟨.ro, 0, 16, 0⟩]⟩,
  ⟨0x040, 1, 0x050, 1, 4, [⟨.rw, 0, 32, 0⟩]⟩,
  ⟨0x040, 1, 0x054, 1, 4, [⟨.rwp, 0, 32, 0⟩]⟩,
  ⟨0x040, 1, 0x058, 1, 4, [⟨.ro, 0, 32, 0⟩]⟩
]

/-- The block registers of pages 0x048 to 0x04B. -/
def p048x4 : List RegSpec := [
  ⟨0x048, 4, 0x008, 1, 4, [⟨.rw, 0, 1, 0⟩, ⟨.rw, 1, 1, 0⟩]⟩,
  ⟨0x048, 4, 0x00C, 1, 4, [⟨.ro, 0, 2, 0⟩, ⟨.ro, 2, 1, 0⟩, ⟨.ro, 3, 1, 1⟩, ⟨.ro, 4, 2, 0⟩, ⟨.ro, 6, 1, 0⟩, ⟨.ro, 7, 1, 0⟩, ⟨.ro, 8, 2, 0⟩, ⟨.ro, 10, 2, 0⟩, ⟨.ro, 12, 7, 127⟩]⟩,
  ⟨0x048, 4, 0x040, 4, 4, [⟨.rw, 0, 3, 0⟩, ⟨.rw, 3, 3, 0⟩, ⟨.rw, 6, 3, 0⟩, ⟨.rw, 9, 1, 0⟩, ⟨.rw, 16, 7, 0⟩, ⟨.ro, 24, 1, 0⟩]⟩,
  ⟨0x048, 4, 0x050, 1, 4, [⟨.rwp, 0, 2, 0⟩, ⟨.rwp, 2, 1, 0⟩, ⟨.rwp, 3, 2, 3⟩]⟩,
  ⟨0x048, 4, 0x054, 1, 4, [⟨.rwp, 0, 7, 20⟩, ⟨.rwp, 8, 7, 10⟩, ⟨.rwp, 16, 6, 40⟩, ⟨.rwp, 24, 1, 1⟩]⟩,
  ⟨0x048, 4, 0x058, 1, 4, [⟨.ro, 0, 14, 0⟩, ⟨.ro, 16, 16, 0⟩]⟩,
  ⟨0x048, 4, 0x05C, 1, 4, [⟨.ro, 0, 16, 21845⟩]⟩,
  ⟨0x048, 4, 0x060, 4, 4, [⟨.ro, 0, 3, 0⟩, ⟨.ro, 3, 4, 0⟩, ⟨.ro, 8, 7, 0⟩, ⟨.ro, 15, 1, 0⟩, ⟨.ro, 16, 1, 0⟩, ⟨.ro, 17, 1, 0⟩, ⟨.ro, 20, 12, 0⟩]⟩,
  ⟨0x048, 4, 0x080, 1, 4, [⟨.ro, 0, 8, 0⟩, ⟨.ro, 8, 1, 0⟩, ⟨.ro, 9, 1, 0⟩, ⟨.ro, 10, 2, 0⟩]⟩,
  ⟨0x048, 4, 0x084, 1, 4, [⟨.wo, 0, 8, 0⟩]⟩,
  ⟨0x048, 4, 0x088, 1, 4, [⟨.ro, 0, 32, 0⟩]⟩,
  ⟨0x048, 4, 0x08C, 1, 4, [⟨.ro, 0, 18, 0⟩]⟩,
  ⟨0x048, 4, 0x090, 4, 8, [⟨.ro, 0, 26, 0⟩, ⟨.ro, 26, 1, 0⟩]⟩,
  ⟨0x048, 4, 0x094, 4, 8, [⟨.ro, 0, 10, 0⟩, ⟨.ro, 10, 10, 0⟩, ⟨.ro, 20, 12, 0⟩]⟩
]

/-- The block registers of page 0x04C. -/
def p04C : List RegSpec := [
  ⟨0x04C, 1, 0x008, 1, 4, [⟨.rwp, 0, 1, 1⟩, ⟨.rwp, 1, 1, 0⟩]⟩,
  ⟨0x04C, 1, 0x00C, 1, 4, [⟨.ro, 0, 7, 0⟩, ⟨.ro, 7, 1, 0⟩, ⟨.ro, 8, 1, 0⟩, ⟨.ro, 9, 3, 0⟩]⟩,
  ⟨0x04C, 1, 0x040, 1, 4, [⟨.wo, 0, 4, 0⟩, ⟨.wo, 8, 6, 0⟩]⟩,
  ⟨0x04C, 1, 0x044, 1, 4, [⟨.rw, 0, 24, 0⟩, ⟨.rw, 24, 2, 0⟩]⟩,
  ⟨0x04C, 1, 0x048, 1, 4, [⟨.ro, 0, 6, 0⟩]⟩,
  ⟨0x04C, 1, 0x050, 4, 4, [⟨.rwp, 0, 24, 0⟩, ⟨.rwp, 24, 2, 0⟩, ⟨.rwp, 31, 1, 0⟩]⟩,
  ⟨0x04C, 1, 0x060, 1, 4, [⟨.rw, 0, 6, 0⟩]⟩,
  ⟨0x04C, 1, 0x100, 1, 64, [⟨.ro, 0, 1, 0⟩, ⟨.ro, 1, 1, 0⟩, ⟨.ro, 2, 1, 0⟩, ⟨.ro, 3, 1, 0⟩, ⟨.ro, 4, 4, 0⟩, ⟨.ro, 8, 4, 0⟩, ⟨.ro, 12, 12, 0⟩, ⟨.ro, 24, 6, 0⟩]⟩,
  ⟨0x04C, 1, 0x110, 1, 64, [⟨.ro, 0, 24, 0⟩]⟩,
  ⟨0x04C, 1, 0x114, 1, 64, [⟨.ro, 0, 24, 0⟩]⟩,
  ⟨0x04C, 1, 0x118, 1, 64, [⟨.ro, 0, 24, 0⟩]⟩,
  ⟨0x04C, 1, 0x11C, 1, 64, [⟨.ro, 0, 24, 0⟩]⟩,
  ⟨0x04C, 1, 0x120, 1, 64, [⟨.ro, 0, 24, 0⟩]⟩,
  ⟨0x04C, 1, 0x124, 1, 64, [⟨.ro, 0, 24, 0⟩]⟩,
  ⟨0x04C, 1, 0x128, 1, 64, [⟨.ro, 0, 24, 0⟩]⟩,
  ⟨0x04C, 1, 0x12C, 1, 64, [⟨.ro, 0, 24, 0⟩]⟩,
  ⟨0x04C, 1, 0x130, 1, 64, [⟨.ro, 0, 24, 0⟩]⟩,
  ⟨0x04C, 1, 0x134, 1, 64, [⟨.ro, 0, 24, 0⟩]⟩,
  ⟨0x04C, 1, 0x138, 1, 64, [⟨.ro, 0, 24, 0⟩]⟩,
  ⟨0x04C, 1, 0x13C, 1, 64, [⟨.ro, 0, 24, 0⟩]⟩
]

/-- The block registers of pages 0x050 to 0x053. -/
def p050x4 : List RegSpec := [
  ⟨0x050, 4, 0x008, 1, 4, [⟨.rw, 0, 1, 0⟩, ⟨.rwp, 1, 2, 0⟩, ⟨.rwp, 3, 2, 0⟩, ⟨.rwp, 5, 2, 2⟩, ⟨.rwp, 7, 2, 1⟩, ⟨.rwp, 9, 4, 2⟩, ⟨.rwp, 13, 1, 0⟩, ⟨.rwp, 14, 1, 0⟩, ⟨.rwp, 15, 1, 1⟩]⟩,
  ⟨0x050, 4, 0x00C, 1, 4, [⟨.ro, 0, 3, 0⟩, ⟨.ro, 3, 1, 0⟩, ⟨.ro, 4, 1, 0⟩, ⟨.ro, 5, 1, 0⟩, ⟨.ro, 6, 1, 0⟩, ⟨.ro, 7, 1, 0⟩]⟩,
  ⟨0x050, 4, 0x040, 1, 4, [⟨.ro, 0, 18, 0⟩]⟩,
  ⟨0x050, 4, 0x044, 1, 4, [⟨.ro, 0, 16, 0⟩]⟩,
  ⟨0x050, 4, 0x048, 1, 4, [⟨.ro, 0, 32, 0⟩]⟩,
  ⟨0x050, 4, 0x04C, 1, 4, [⟨.ro, 0, 32, 0⟩]⟩,
  ⟨0x050, 4, 0x050, 1, 4, [⟨.ro, 0, 32, 0⟩]⟩,
  ⟨0x050, 4, 0x054, 1, 4, [⟨.ro, 0, 32, 0⟩]⟩,
  ⟨0x050, 4, 0x058, 1, 4, [⟨.ro, 0, 32, 0⟩]⟩,
  ⟨0x050, 4, 0x05C, 1, 4, [⟨.ro, 0, 32, 0⟩]⟩,
  ⟨0x050, 4, 0x060, 1, 4, [⟨.ro, 0, 32, 0⟩]⟩
]

/-- The block registers of page 0x054. -/
def p054 : List RegSpec := [
  ⟨0x054, 1, 0x008, 1, 4, [⟨.rw, 0, 1, 0⟩, ⟨.rwp, 1, 2, 0⟩, ⟨.rwp, 3, 2, 0⟩, ⟨.rwp, 5, 2, 2⟩, ⟨.rwp, 7, 2, 1⟩, ⟨.rwp, 9, 4, 2⟩, ⟨.rwp, 13, 1, 0⟩, ⟨.rwp, 14, 1, 0⟩, ⟨.rwp, 15, 1, 1⟩, ⟨.rwp, 16, 1, 1⟩]⟩,
  ⟨0x054, 1, 0x00C, 1, 4, [⟨.ro, 0, 3, 0⟩, ⟨.ro, 3, 1, 0⟩, ⟨.ro, 4, 1, 0⟩, ⟨.ro, 7, 1, 0⟩, ⟨.ro, 8, 4, 0⟩]⟩,
  ⟨0x054, 1, 0x040, 1, 4, [⟨.ro, 0, 18, 0⟩]⟩,
  ⟨0x054, 1, 0x044, 1, 4, [⟨.ro, 0, 16, 0⟩]⟩,
  ⟨0x054, 1, 0x048, 1, 4, [⟨.ro, 0, 32, 0⟩]⟩,
  ⟨0x054, 1, 0x04C, 1, 4, [⟨.ro, 0, 32, 0⟩]⟩,
  ⟨0x054, 1, 0x050, 1, 4, [⟨.ro, 0, 32, 0⟩]⟩,
  ⟨0x054, 1, 0x054, 1, 4, [⟨.ro, 0, 32, 0⟩]⟩,
  ⟨0x054, 1, 0x058, 1, 4, [⟨.ro, 0, 32, 0⟩]⟩,
  ⟨0x054, 1, 0x064, 1, 4, [⟨.ro, 0, 32, 0⟩]⟩
]

/-- The block registers of page 0x055. -/
def p055 : List RegSpec := [
  ⟨0x055, 1, 0x00C, 1, 4, [⟨.ro, 0, 1, 0⟩]⟩,
  ⟨0x055, 1, 0x040, 2, 16, [⟨.rwp, 0, 4, 0⟩]⟩,
  ⟨0x055, 1, 0x044, 2, 16, [⟨.wo, 0, 1, 0⟩, ⟨.wo, 1, 1, 0⟩]⟩,
  ⟨0x055, 1, 0x048, 2, 16, [⟨.ro, 0, 2, 0⟩, ⟨.ro, 4, 4, 0⟩, ⟨.ro, 8, 4, 0⟩]⟩,
  ⟨0x055, 1, 0x04C, 2, 16, [⟨.ro, 0, 32, 0⟩]⟩,
  ⟨0x055, 1, 0x080, 4, 4, [⟨.rwp, 0, 3, 0⟩, ⟨.rwp, 3, 1, 0⟩, ⟨.rwp, 4, 3, 0⟩, ⟨.rwp, 7, 1, 0⟩, ⟨.rwp, 8, 3, 0⟩, ⟨.rwp, 11, 1, 0⟩, ⟨.rwp, 12, 3, 0⟩, ⟨.rwp, 15, 1, 0⟩]⟩
]

/-- The block registers of page 0x058. -/
def p058 : List RegSpec := [
  ⟨0x058, 1, 0x00C, 1, 4, [⟨.ro, 0, 1, 0⟩, ⟨.ro, 16, 9, 0⟩]⟩,
  ⟨0x058, 1, 0x040, 1, 4, [⟨.rw, 0, 4, 0⟩]⟩,
  ⟨0x058, 1, 0x080, 16, 4, [⟨.rw, 0, 2, 0⟩, ⟨.rw, 2, 2, 0⟩, ⟨.rw, 4, 3, 0⟩, ⟨.rw, 7, 1, 0⟩, ⟨.rw, 8, 9, 0⟩, ⟨.rw, 20, 12, 1⟩]⟩,
  ⟨0x058, 1, 0x0C0, 16, 4, [⟨.ro, 0, 16, 0⟩, ⟨.ro, 16, 1, 0⟩, ⟨.ro, 17, 1, 0⟩]⟩,
  ⟨0x058, 1, 0x100, 16, 4, [⟨.ro, 0, 16, 0⟩, ⟨.ro, 16, 16, 0⟩]⟩,
  ⟨0x058, 1, 0x140, 16, 4, [⟨.wo, 0, 16, 0⟩]⟩,
  ⟨0x058, 1, 0x180, 16, 4, [⟨.ro, 0, 16, 0⟩, ⟨.ro, 16, 16, 0⟩]⟩
]

/-- The block registers of page 0x060. -/
def p060 : List RegSpec := [
  ⟨0x060, 1, 0x008, 1, 4, [⟨.rw, 0, 1, 0⟩]⟩,
  ⟨0x060, 1, 0x00C, 1, 4, [⟨.ro, 0, 1, 0⟩, ⟨.ro, 1, 1, 0⟩, ⟨.ro, 2, 1, 0⟩]⟩,
  ⟨0x060, 1, 0x040, 1, 4, [⟨.ro, 0, 16, 0⟩]⟩,
  ⟨0x060, 1, 0x044, 1, 4, [⟨.ro, 0, 16, 0⟩]⟩,
  ⟨0x060, 1, 0x048, 1, 4, [⟨.ro, 0, 3, 0⟩, ⟨.ro, 8, 24, 0⟩]⟩
]

/-- The block registers of page 0x061. -/
def p061 : List RegSpec := [
  ⟨0x061, 1, 0x008, 1, 4, [⟨.rw, 0, 1, 0⟩, ⟨.rw, 1, 7, 0⟩, ⟨.rw, 8, 1, 1⟩]⟩,
  ⟨0x061, 1, 0x00C, 1, 4, [⟨.ro, 0, 2, 0⟩, ⟨.ro, 2, 7, 0⟩, ⟨.ro, 9, 1, 0⟩, ⟨.ro, 10, 2, 0⟩]⟩,
  ⟨0x061, 1, 0x040, 2, 4, [⟨.rw, 0, 7, 0⟩, ⟨.rw, 8, 1, 0⟩, ⟨.rw, 9, 1, 0⟩]⟩,
  ⟨0x061, 1, 0x048, 1, 4, [⟨.ro, 0, 16, 0⟩]⟩,
  ⟨0x061, 1, 0x04C, 1, 4, [⟨.ro, 0, 4, 0⟩, ⟨.ro, 8, 7, 0⟩, ⟨.ro, 15, 1, 0⟩]⟩,
  ⟨0x061, 1, 0x050, 1, 4, [⟨.ro, 0, 24, 0⟩]⟩,
  ⟨0x061, 1, 0x054, 1, 4, [⟨.ro, 0, 24, 0⟩]⟩
]

/-- The block registers of page 0x062. -/
def p062 : List RegSpec := [
  ⟨0x062, 1, 0x008, 1, 4, [⟨.rwp, 0, 1, 0⟩, ⟨.rwp, 1, 2, 1⟩, ⟨.sc, 3, 1, 0⟩, ⟨.sc, 4, 1, 0⟩, ⟨.rwp, 8, 4, 3⟩]⟩,
  ⟨0x062, 1, 0x00C, 1, 4, [⟨.ro, 0, 1, 0⟩, ⟨.ro, 1, 1, 0⟩, ⟨.ro, 2, 1, 0⟩, ⟨.ro, 3, 1, 0⟩, ⟨.ro, 4, 1, 0⟩, ⟨.ro, 5, 4, 0⟩, ⟨.ro, 16, 16, 0⟩]⟩,
  ⟨0x062, 1, 0x040, 1, 4, [⟨.wo, 0, 7, 0⟩, ⟨.wo, 8, 6, 0⟩, ⟨.wo, 16, 6, 0⟩]⟩,
  ⟨0x062, 1, 0x044, 1, 4, [⟨.wo, 0, 4, 0⟩, ⟨.wo, 8, 1, 0⟩]⟩,
  ⟨0x062, 1, 0x060, 8, 4, [⟨.rw, 0, 32, 0⟩]⟩,
  ⟨0x062, 1, 0x080, 1, 4, [⟨.ro, 0, 8, 0⟩, ⟨.ro, 8, 1, 0⟩, ⟨.ro, 9, 1, 0⟩, ⟨.ro, 12, 4, 0⟩, ⟨.ro, 16, 1, 0⟩, ⟨.ro, 17, 4, 0⟩]⟩,
  ⟨0x062, 1, 0x084, 1, 4, [⟨.wo, 0, 8, 0⟩]⟩,
  ⟨0x062, 1, 0x088, 1, 4, [⟨.ro, 0, 8, 0⟩, ⟨.ro, 8, 6, 0⟩, ⟨.ro, 16, 6, 0⟩]⟩,
  ⟨0x062, 1, 0x090, 1, 4, [⟨.ro, 0, 16, 0⟩]⟩,
  ⟨0x062, 1, 0x094, 1, 4, [⟨.ro, 0, 16, 0⟩]⟩,
  ⟨0x062, 1, 0x0A0, 8, 4, [⟨.ro, 0, 32, 0⟩]⟩,
  ⟨0x062, 1, 0x100, 16, 4, [⟨.rwp, 0, 8, 0⟩, ⟨.rwp, 8, 1, 0⟩, ⟨.rwp, 16, 8, 0⟩, ⟨.rwp, 24, 1, 0⟩]⟩,
  ⟨0x062, 1, 0x400, 256, 4, [⟨.rwp, 0, 32, 0⟩]⟩
]

/-- The block registers of page 0x068. -/
def p068 : List RegSpec := [
  ⟨0x068, 1, 0x00C, 1, 4, [⟨.ro, 0, 1, 0⟩, ⟨.ro, 8, 8, 0⟩]⟩,
  ⟨0x068, 1, 0x040, 1, 4, [⟨.wo, 0, 4, 0⟩]⟩,
  ⟨0x068, 1, 0x044, 1, 4, [⟨.ro, 0, 8, 0⟩, ⟨.ro, 8, 1, 0⟩, ⟨.ro, 9, 1, 0⟩, ⟨.ro, 12, 4, 0⟩, ⟨.ro, 16, 4, 0⟩]⟩,
  ⟨0x068, 1, 0x048, 1, 4, [⟨.wo, 0, 8, 0⟩]⟩,
  ⟨0x068, 1, 0x04C, 1, 4, [⟨.ro, 0, 32, 0⟩]⟩,
  ⟨0x068, 1, 0x050, 1, 4, [⟨.ro, 0, 16, 0⟩, ⟨.ro, 16, 16, 0⟩]⟩,
  ⟨0x068, 1, 0x054, 1, 4, [⟨.ro, 0, 17, 0⟩, ⟨.ro, 17, 7, 0⟩, ⟨.ro, 24, 8, 0⟩]⟩
]

/-- The block registers of page 0x069. -/
def p069 : List RegSpec := [
  ⟨0x069, 1, 0x00C, 1, 4, [⟨.ro, 0, 1, 0⟩, ⟨.ro, 1, 1, 0⟩]⟩,
  ⟨0x069, 1, 0x040, 1, 4, [⟨.wo, 0, 1, 0⟩, ⟨.ro, 1, 1, 0⟩]⟩,
  ⟨0x069, 1, 0x044, 1, 4, [⟨.rwl, 0, 8, 0⟩]⟩,
  ⟨0x069, 1, 0x048, 1, 4, [⟨.rwl, 0, 5, 0⟩]⟩,
  ⟨0x069, 1, 0x04C, 1, 4, [⟨.rwl, 0, 6, 0⟩]⟩,
  ⟨0x069, 1, 0x050, 1, 4, [⟨.rwl, 0, 5, 0⟩]⟩,
  ⟨0x069, 1, 0x054, 1, 4, [⟨.wo, 0, 1, 0⟩, ⟨.ro, 1, 1, 0⟩, ⟨.ro, 2, 1, 0⟩]⟩,
  ⟨0x069, 1, 0x058, 1, 4, [⟨.ro, 0, 32, 0⟩]⟩,
  ⟨0x069, 1, 0x100, 32, 4, [⟨.rw, 0, 32, 0⟩]⟩
]

/-- The block registers of page 0x06A. -/
def p06A : List RegSpec := [
  ⟨0x06A, 1, 0x00C, 1, 4, [⟨.ro, 0, 3, 0⟩, ⟨.ro, 3, 1, 0⟩, ⟨.ro, 4, 3, 0⟩, ⟨.ro, 7, 1, 0⟩, ⟨.ro, 8, 2, 0⟩]⟩,
  ⟨0x06A, 1, 0x040, 1, 4, [⟨.wo, 0, 4, 0⟩]⟩,
  ⟨0x06A, 1, 0x044, 1, 4, [⟨.rwp, 0, 11, 10⟩]⟩,
  ⟨0x06A, 1, 0x048, 1, 4, [⟨.rw, 0, 9, 0⟩]⟩,
  ⟨0x06A, 1, 0x04C, 1, 4, [⟨.ro, 0, 16, 0⟩]⟩,
  ⟨0x06A, 1, 0x050, 1, 4, [⟨.ro, 0, 9, 0⟩, ⟨.ro, 16, 9, 0⟩]⟩,
  ⟨0x06A, 1, 0x054, 1, 4, [⟨.ro, 0, 9, 0⟩, ⟨.ro, 12, 4, 0⟩, ⟨.w1c, 31, 1, 0⟩]⟩,
  ⟨0x06A, 1, 0x080, 1, 4, [⟨.ro, 0, 8, 0⟩, ⟨.ro, 8, 1, 0⟩, ⟨.ro, 9, 1, 0⟩, ⟨.ro, 12, 4, 0⟩, ⟨.ro, 16, 8, 0⟩]⟩,
  ⟨0x06A, 1, 0x084, 1, 4, [⟨.wo, 0, 8, 0⟩]⟩,
  ⟨0x06A, 1, 0x088, 1, 4, [⟨.ro, 0, 32, 0⟩]⟩,
  ⟨0x06A, 1, 0x090, 1, 4, [⟨.ro, 0, 32, 0⟩]⟩,
  ⟨0x06A, 1, 0x094, 1, 4, [⟨.ro, 0, 17, 0⟩]⟩,
  ⟨0x06A, 1, 0x098, 1, 4, [⟨.ro, 0, 4, 0⟩]⟩
]

/-- The block registers of page 0x070. -/
def p070 : List RegSpec := [
  ⟨0x070, 1, 0x00C, 1, 4, [⟨.ro, 0, 1, 0⟩, ⟨.ro, 1, 1, 0⟩, ⟨.ro, 8, 8, 0⟩, ⟨.ro, 16, 8, 0⟩]⟩,
  ⟨0x070, 1, 0x040, 1, 4, [⟨.wo, 0, 8, 0⟩, ⟨.wo, 8, 8, 0⟩, ⟨.wo, 16, 1, 0⟩, ⟨.wo, 17, 1, 0⟩]⟩,
  ⟨0x070, 1, 0x044, 1, 4, [⟨.rwp, 0, 1, 1⟩, ⟨.rwp, 1, 1, 1⟩]⟩,
  ⟨0x070, 1, 0x080, 1, 4, [⟨.ro, 0, 8, 0⟩, ⟨.ro, 8, 1, 0⟩, ⟨.ro, 9, 1, 0⟩, ⟨.ro, 12, 4, 0⟩, ⟨.ro, 16, 1, 0⟩]⟩,
  ⟨0x070, 1, 0x084, 1, 4, [⟨.wo, 0, 8, 0⟩]⟩,
  ⟨0x070, 1, 0x088, 1, 4, [⟨.ro, 0, 8, 0⟩, ⟨.ro, 8, 8, 0⟩, ⟨.ro, 16, 16, 0⟩]⟩,
  ⟨0x070, 1, 0x0C0, 1, 4, [⟨.ro, 0, 2, 3⟩, ⟨.ro, 2, 3, 0⟩, ⟨.ro, 5, 1, 0⟩, ⟨.ro, 8, 8, 0⟩, ⟨.ro, 16, 10, 0⟩]⟩,
  ⟨0x070, 1, 0x0C4, 1, 4, [⟨.ro, 0, 18, 0⟩]⟩,
  ⟨0x070, 1, 0x0C8, 1, 4, [⟨.ro, 0, 10, 0⟩]⟩,
  ⟨0x070, 1, 0x0D0, 1, 4, [⟨.rw, 0, 10, 0⟩]⟩,
  ⟨0x070, 1, 0x100, 1, 16, [⟨.ro, 0, 8, 0⟩, ⟨.ro, 8, 8, 0⟩, ⟨.ro, 16, 4, 0⟩, ⟨.ro, 20, 2, 0⟩, ⟨.ro, 22, 1, 0⟩]⟩,
  ⟨0x070, 1, 0x104, 1, 16, [⟨.ro, 0, 12, 0⟩, ⟨.ro, 12, 10, 0⟩]⟩,
  ⟨0x070, 1, 0x108, 1, 16, [⟨.ro, 0, 8, 0⟩]⟩
]

/-- The block registers of page 0x071. -/
def p071 : List RegSpec := [
  ⟨0x071, 1, 0x00C, 1, 4, [⟨.ro, 0, 1, 0⟩, ⟨.ro, 1, 1, 0⟩, ⟨.ro, 2, 3, 0⟩, ⟨.ro, 8, 8, 0⟩]⟩,
  ⟨0x071, 1, 0x040, 1, 4, [⟨.ro, 0, 16, 0⟩]⟩,
  ⟨0x071, 1, 0x044, 1, 4, [⟨.ro, 0, 16, 0⟩]⟩,
  ⟨0x071, 1, 0x048, 1, 4, [⟨.ro, 0, 16, 0⟩]⟩,
  ⟨0x071, 1, 0x04C, 1, 4, [⟨.ro, 0, 6, 0⟩]⟩,
  ⟨0x071, 1, 0x050, 1, 4, [⟨.wo, 0, 1, 0⟩]⟩,
  ⟨0x071, 1, 0x100, 32, 16, [⟨.ro, 0, 8, 0⟩, ⟨.ro, 8, 8, 0⟩, ⟨.ro, 16, 4, 0⟩, ⟨.ro, 20, 2, 0⟩, ⟨.ro, 22, 3, 0⟩, ⟨.ro, 25, 3, 0⟩]⟩,
  ⟨0x071, 1, 0x104, 32, 16, [⟨.ro, 0, 32, 0⟩]⟩,
  ⟨0x071, 1, 0x108, 32, 16, [⟨.ro, 0, 32, 0⟩]⟩
]

/-- The block registers of page 0x072. -/
def p072 : List RegSpec := [
  ⟨0x072, 1, 0x008, 1, 4, [⟨.rwp, 0, 1, 1⟩]⟩,
  ⟨0x072, 1, 0x040, 1, 4, [⟨.rwp, 0, 8, 100⟩]⟩,
  ⟨0x072, 1, 0x080, 1, 4, [⟨.ro, 0, 8, 0⟩, ⟨.ro, 8, 1, 0⟩, ⟨.ro, 9, 1, 0⟩, ⟨.ro, 10, 2, 0⟩]⟩,
  ⟨0x072, 1, 0x084, 1, 4, [⟨.wo, 0, 8, 0⟩]⟩,
  ⟨0x072, 1, 0x088, 1, 4, [⟨.ro, 0, 32, 0⟩]⟩,
  ⟨0x072, 1, 0x08C, 1, 4, [⟨.ro, 0, 16, 0⟩, ⟨.ro, 16, 16, 0⟩]⟩,
  ⟨0x072, 1, 0x090, 1, 4, [⟨.ro, 0, 16, 0⟩, ⟨.ro, 16, 16, 0⟩]⟩,
  ⟨0x072, 1, 0x094, 1, 4, [⟨.ro, 0, 16, 0⟩]⟩,
  ⟨0x072, 1, 0x098, 1, 4, [⟨.ro, 0, 16, 0⟩, ⟨.ro, 16, 16, 0⟩]⟩,
  ⟨0x072, 1, 0x09C, 1, 4, [⟨.ro, 0, 16, 0⟩, ⟨.ro, 16, 16, 0⟩]⟩,
  ⟨0x072, 1, 0x0A0, 1, 4, [⟨.ro, 0, 8, 0⟩, ⟨.ro, 8, 8, 0⟩, ⟨.ro, 16, 16, 0⟩]⟩
]

/-- The block registers of page 0x073. -/
def p073 : List RegSpec := [
  ⟨0x073, 1, 0x040, 1, 4, [⟨.ro, 0, 32, 0⟩]⟩,
  ⟨0x073, 1, 0x044, 1, 4, [⟨.ro, 0, 32, 0⟩]⟩,
  ⟨0x073, 1, 0x048, 1, 4, [⟨.ro, 0, 22, 0⟩, ⟨.ro, 22, 1, 0⟩, ⟨.w1c, 31, 1, 0⟩]⟩,
  ⟨0x073, 1, 0x04C, 1, 4, [⟨.ro, 0, 32, 0⟩]⟩,
  ⟨0x073, 1, 0x050, 1, 4, [⟨.ro, 0, 16, 0⟩]⟩
]

/-- The block registers of R430 by their pages: the first page, how many pages, and the registers. -/
def groups : List (Nat × Nat × List RegSpec) := [
  (0x000, 1, p000), (0x001, 1, p001), (0x002, 1, p002), (0x003, 2, p003x2), (0x008, 1, p008), (0x009, 2, p009x2),
  (0x00B, 1, p00B), (0x00C, 1, p00C), (0x00D, 1, p00D), (0x010, 1, p010), (0x010, 3, p010x3), (0x011, 1, p011),
  (0x011, 2, p011x2), (0x012, 1, p012), (0x014, 1, p014), (0x018, 1, p018), (0x020, 8, p020x8), (0x028, 6, p028x6),
  (0x030, 4, p030x4), (0x034, 2, p034x2), (0x038, 1, p038), (0x039, 1, p039), (0x03A, 1, p03A), (0x040, 1, p040),
  (0x048, 4, p048x4), (0x04C, 1, p04C), (0x050, 4, p050x4), (0x054, 1, p054), (0x055, 1, p055), (0x058, 1, p058),
  (0x060, 1, p060), (0x061, 1, p061), (0x062, 1, p062), (0x068, 1, p068), (0x069, 1, p069), (0x06A, 1, p06A),
  (0x070, 1, p070), (0x071, 1, p071), (0x072, 1, p072), (0x073, 1, p073)]

/-- All block registers of R430. -/
def table : List RegSpec := groups.flatMap (fun g => g.2.2)

/-- Reset words that are no sum of constants (R431): per instance TILE_CENTRE (R36), DDC_TOTAL (R98), NOMINAL (R132), ROUTE
(R273), GPIO_CFG0 (R348) and EV_EN of SYS (R341); per unit, strap and block: the values of log entry 12 (DESIGN CHOICE): gain tables
at their nominal 2k dB and TILE_OFS 12 dB (R27, R29), UNIT_ID, ADDR_SEL 0 (R303), and the regulatory values of a new unit (R378). -/
def perInstance : List (Nat × List (Nat × Nat)) := [
  (0x000, [
    (0x014, 0x7), (0x060, 0x9680B100), (0x0C0, 0x2)]),
  (0x009, [
    (0x040, 0x14FF0)]),
  (0x00A, [
    (0x040, 0x32898)]),
  (0x00B, [
    (0x104, 0xC8), (0x108, 0x190), (0x10C, 0x258), (0x110, 0x320), (0x114, 0x3E8), (0x118, 0x4B0), (0x11C, 0x578),
    (0x120, 0x640), (0x124, 0x708), (0x128, 0x7D0), (0x12C, 0x898), (0x130, 0x960), (0x134, 0xA28), (0x138, 0xAF0),
    (0x13C, 0xBB8), (0x140, 0xC80), (0x144, 0xD48), (0x148, 0xE10), (0x14C, 0xED8), (0x150, 0xFA0), (0x154, 0x1068),
    (0x158, 0x1130), (0x15C, 0x11F8), (0x184, 0xC8), (0x188, 0x190), (0x18C, 0x258), (0x190, 0x320), (0x194, 0x3E8),
    (0x198, 0x4B0), (0x19C, 0x578), (0x1A0, 0x640), (0x1A4, 0x708), (0x1A8, 0x7D0), (0x1AC, 0x898), (0x1B0, 0x960),
    (0x1B4, 0xA28), (0x1B8, 0xAF0), (0x1BC, 0xBB8), (0x1C0, 0xC80), (0x1C4, 0xD48), (0x1C8, 0xE10), (0x1CC, 0xED8),
    (0x1D0, 0xFA0), (0x1D4, 0x1068), (0x1D8, 0x1130), (0x1DC, 0x11F8), (0x1E0, 0x4B0), (0x204, 0xC8), (0x208, 0x190),
    (0x20C, 0x258), (0x210, 0x320), (0x214, 0x3E8), (0x218, 0x4B0), (0x21C, 0x578), (0x220, 0x640), (0x224, 0x708),
    (0x228, 0x7D0), (0x22C, 0x898), (0x230, 0x960), (0x234, 0xA28), (0x238, 0xAF0), (0x23C, 0xBB8), (0x240, 0xC80),
    (0x244, 0xD48), (0x248, 0xE10), (0x24C, 0xED8), (0x250, 0xFA0), (0x254, 0x1068), (0x258, 0x1130), (0x25C, 0x11F8),
    (0x260, 0x4B0)]),
  (0x010, [
    (0x00C, 0x2800)]),
  (0x011, [
    (0x00C, 0x7A00)]),
  (0x012, [
    (0x00C, 0x1800)]),
  (0x018, [
    (0x040, 0x800), (0x044, 0x600), (0x048, 0x400), (0x04C, 0x200), (0x050, 0x6000), (0x054, 0x1000), (0x058, 0x1800),
    (0x05C, 0x800)]),
  (0x055, [
    (0x080, 0x1), (0x084, 0x2), (0x088, 0x3), (0x08C, 0x4)]),
  (0x061, [
    (0x00C, 0x180)]),
  (0x069, [
    (0x044, 0xFF), (0x048, 0x1E), (0x04C, 0x32), (0x050, 0x14)])]

/-- Byte address `a` is one of the registers of `r`. -/
def RegSpec.holds (r : RegSpec) (a : Nat) : Bool :=
  let p := a / 4096
  let o := a % 4096
  Nat.ble r.page p && Nat.blt p (r.page + r.npages) && Nat.ble r.off o
    && Nat.beq ((o - r.off) % r.stride) 0 && Nat.blt ((o - r.off) / r.stride) r.count

end RegMap

/-- The register at byte address `a`, if R430 names one there. -/
def regSpec (a : Nat) : Option RegSpec :=
  RegMap.groups.findSome? (fun g =>
    bif Nat.ble g.1 (a / 4096) && Nat.blt (a / 4096) (g.1 + g.2.1) then g.2.2.find? (fun r => RegMap.RegSpec.holds r a) else none)

/-- The reset word of the register at `a`: the sum of its fields' reset values (R431); 0 where no register stands. -/
def resetWord (a : Nat) : Word :=
  match (RegMap.perInstance.find? (fun g => Nat.beq g.1 (a / 4096))).bind (fun g => g.2.find? (fun c => Nat.beq c.1 (a % 4096))) with
  | some c => BitVec.ofNat 32 c.2
  | none =>
    match regSpec a with
    | some r => BitVec.ofNat 32 (r.fields.foldl (fun n f => n + f.reset * 2 ^ f.lo) 0)
    | none => 0

end Sys2Proof.Machine
end

