-- ==== Sys2Proof/Machine/State.lean ====
section
/-!
DEFINITION. The state of the block as plain data: the register words, the parts of each unit that no register shows, and the queue
of waiting commands.
-/

namespace Sys2Proof.Machine

open Sys2Proof

/-! ## The register words -/

/-- The register words the block holds, in canonical form: addresses rise strictly and no entry equals what an unlisted address
reads as, its reset word (R431). -/
abbrev RegFile := List (Nat × Word)

/-- The word of the register at byte address `a`. -/
def RegFile.read : RegFile → Nat → Word
  | [], a => resetWord a
  | (b, w) :: t, a => if b = a then w else RegFile.read t a

/-- `r` without an entry for `a`. -/
def RegFile.erase (r : RegFile) (a : Nat) : RegFile := r.filter (fun c => c.1 != a)

/-- `r` with the entry `(a, w)` put in its place. -/
def RegFile.insert : RegFile → Nat → Word → RegFile
  | [], a, w => [(a, w)]
  | (b, v) :: t, a, w => if a < b then (a, w) :: (b, v) :: t else (b, v) :: RegFile.insert t a w

/-- `r` with the word at `a` set to `w`, in canonical form. -/
def RegFile.write (r : RegFile) (a : Nat) (w : Word) : RegFile :=
  if w = resetWord a then r.erase a else (r.erase a).insert a w

/-- Every address of `r` lies above `lo`, they rise strictly, and no word equals its reset word. -/
def RegFile.wfAbove : Option Nat → RegFile → Bool
  | _, [] => true
  | lo, (a, w) :: t => (match lo with | none => true | some l => decide (l < a)) && decide (w ≠ resetWord a)
      && RegFile.wfAbove (some a) t

/-- The canonical form of the register words. -/
def RegFile.wf (r : RegFile) : Bool := RegFile.wfAbove none r

/-! ## The epoch plan (R17 to R24) -/

/-- What an LO request asks for (R19 kinds 0x03, 0x04 and 0x0A). -/
inductive LoKind where
  | hop | retune | cal
  deriving DecidableEq, Repr

/-- An LO request: its frequency, whether a fresh band search is asked, the span or tile switch paired with it (`some none`: to
span, `some (some c)`: to the tile centred at `c` kHz), and for a calibration its hop-table entry and whether it was forced. -/
structure LoReq where
  kind : LoKind
  hz : Nat
  fresh : Bool := false
  band : Option (Option Nat) := none
  entry : Nat := 0
  forced : Bool := false
  /-- Asked by a START of `CAL_CMD`, whose completion raises CAL_DONE (R67). -/
  host : Bool := false
  /-- A hop of the glimpse cycle (R37). -/
  glimpse : Bool := false
  /-- A calibration of the entry in force when it is posted (R65, R67): `hz` and `entry` are filled in then. -/
  inForce : Bool := false
  deriving DecidableEq, Repr

/-- Who posted a frequency epoch: the offset estimator (R129) or a phase rebase (R74). -/
inductive FreqOrigin where
  | estimator | rebase
  deriving DecidableEq, Repr

/-- Why a gain step is posted: the AGC's attack or release, a write in MANUAL, or the step of the glimpse tile that a hop enters (R30,
R38). -/
inductive GainWhy where
  | attack | release | manual | hop
  deriving DecidableEq, Repr

/-- The content of a plan entry: one constructor per kind of R19 (LO changes share one). -/
inductive Change where
  /-- Gain step of a path (0x01). -/
  | gain (p : Path) (step : Nat) (why : GainWhy)
  /-- Frequency epoch (0x02): how many ppb it lowers PLL-S, LOF and LOB. -/
  | freq (sys lof lob : Int) (origin : FreqOrigin)
  /-- LO hop, LO retune or forced calibration (0x03, 0x04, 0x0A). -/
  | lo (l : Lo) (r : LoReq)
  /-- Span or tile switch of a VHF path (0x05): to span, or to a tile centre in kHz. -/
  | band (v : Vhf) (tile : Option Nat)
  /-- Lane NCO retune (0x06) that tunes a lane to a frequency in kHz on a path. -/
  | tune (lane : Nat) (path : Path) (khz : Nat) (host : Bool)
  /-- Lane NCO retune (0x06) that releases a lane. -/
  | release (lane : Nat)
  /-- Lane NCO retune (0x06) that adds an AFC word delta (R126). -/
  | afc (lane : Nat) (delta : Word)
  /-- Sprout root (0x07). -/
  | root (slot : Nat)
  /-- Pod start (0x08). -/
  | pod (m : Nat)
  /-- Control-plane hand-over (0x09). -/
  | handover
  deriving DecidableEq, Repr

/-- One entry of the plan (R24). -/
structure Entry where
  at_ : Nat
  announced : Bool
  change : Change
  deriving DecidableEq, Repr

/-! ## Result windows (R283 to R286) -/

/-- One result: its SEQ and the register words (byte address, word) of its data registers; for a survey window the words stand for
the snapshot held beside it. -/
structure Result where
  seq : Nat
  words : List (Nat × Word)
  deriving DecidableEq, Repr

/-- The hidden part of a result window: the last SEQ given, the side slot, and whether a result was discarded from it. The held
result stands in the window's own registers. -/
structure Window where
  last : Nat := 0
  side : Option Result := none
  lost : Bool := false
  deriving DecidableEq, Repr

/-- An open key of a page (R281): the port that opened it and the boundaries left until it closes. -/
structure Key where
  page : Nat
  port : Port
  left : Nat
  deriving DecidableEq, Repr

/-- One port's latch of one page (R282): the captured words by address. -/
structure Latch where
  port : Port
  page : Nat
  words : List (Nat × Word)
  deriving DecidableEq, Repr

/-- A host write held over a control-plane pause (R290), with the key state it found on arrival. -/
structure HeldWrite where
  port : Port
  addr : Nat
  value : Word
  keyed : Bool
  deriving DecidableEq, Repr

/-- Why the control plane pauses (R8, R290, R382, R396). -/
inductive PauseCause where
  | handover | watchdog | reload
  deriving DecidableEq, Repr

/-- The register fabric beside the register words. -/
structure Fabric where
  keys : List Key := []
  latches : List Latch := []
  windows : Vector Window 27 := Vector.replicate 27 {}
  pause : Option PauseCause := none
  /-- Writes held over the pause, oldest first. -/
  held : List HeldWrite := []
  /-- What the firmware-served registers read at the start of the pause: what their reads return during it, 0 where unlisted (R290). -/
  frozen : List (Nat × Word) := []
  /-- Events and results of the control cores that follow after the pause (R290). -/
  lateEvents : List Nat := []
  lateResults : List (Nat × List (Nat × Word)) := []
  deriving DecidableEq, Repr

/-! ## Band capture (chapter 2) -/

/-- The counters and plans of one receive path. -/
structure PathState where
  /-- Consecutive epochs at or below −15 dBFS (R30.2). -/
  quietPeak : Nat := 0
  /-- Consecutive aggressor epochs (R30.5). -/
  aggressor : Nat := 0
  /-- The peak of the epoch just ended where it calls for an attack, 0.01 dBFS (R30.1). -/
  attack : Option Int := none
  /-- Consecutive survey refreshes with an entry above 100 dBµV EMF (R32). -/
  loudRefreshes : Nat := 0
  /-- Consecutive epochs that meet the conditions for a return to span (R32). -/
  quietEpochs : Nat := 0
  /-- Consecutive epochs below the overload limit (R35). -/
  clearEpochs : Nat := 0
  /-- AGC step of each glimpse tile visited so far: its centre in kHz and the step (R38). -/
  tileSteps : List (Nat × Nat) := []
  /-- Boundary on which a requested path test begins (R40). -/
  testAt : Option Nat := none
  /-- Starting step of the path in this entry to WATCH; glimpse tiles not yet visited start from it (R436). -/
  startStep : Nat := 0
  /-- The tile that R33 chose last for the lanes in use, kHz, and the tile whose request the guard rejected (R435). -/
  chosen : Option Nat := none
  rejected : Option Nat := none
  deriving DecidableEq, Repr

/-- A gain-table check in progress (R41). -/
structure GainCheck where
  path : Path
  /-- Windows done, of three. -/
  windows : Nat := 0
  /-- Earliest boundary of the next window. -/
  nextAt : Nat := 0
  /-- Boundary on which the window in progress started. -/
  start : Option Nat := none
  deriving DecidableEq, Repr

/-- What asserts COEX_REQ (R46). -/
inductive CoexUse where
  | sprout (slot : Nat)
  | search (l : Lo)
  | calibration (l : Lo)
  | window
  deriving DecidableEq, Repr

/-- An activity that waits for COEX_GNT until an epoch (R46). -/
structure GrantWait where
  use : CoexUse
  by_ : Nat
  deriving DecidableEq, Repr

/-- What the injector adds at RF_IN (R41 to R44): its frequency in units of 2⁻¹⁷ kHz (163.84 MHz / 2³² is five of them), its level index, and whether the signal is
shaped. -/
structure InjOut where
  freq : Nat
  level : Nat
  shaped : Bool := false
  deriving DecidableEq, Repr

/-- The injector, the coexistence wires and the aerial feed beside their registers. -/
structure Aux where
  check : Option GainCheck := none
  /-- The mask check of a shaped signal runs (R44), and the signal injected now is the shaped one. -/
  maskPending : Bool := false
  shapedNow : Bool := false
  /-- Activities that hold COEX_REQ asserted, and the tick at which the pin was asserted (R46). -/
  uses : List CoexUse := []
  reqSince : Option Nat := none
  /-- Past assertions of the last second: first tick and length (R47). -/
  asserted : List (Nat × Nat) := []
  waits : List GrantWait := []
  /-- Tick of COEX_ACT's assertion while ACT_LONG is still to come (R48), and whether it was asserted in this epoch (R30.5). -/
  actSince : Option Nat := none
  actSeen : Bool := false
  /-- COEX_ACT at the start of this epoch, and its changes in it, the latest first (R48). -/
  actFirst : Bool := false
  actEdges : List (Nat × Bool) := []
  /-- Consecutive epochs of the aerial feed in current limit, and the boundary of its next retry (R51). -/
  limiting : Nat := 0
  retryAt : Option Nat := none
  deriving DecidableEq, Repr

/-! ## Loops (chapter 3) -/

/-- One loop beside its registers (R69 to R74). -/
structure LoopState where
  /-- Offset carried by the fractional word after a rebase, ppb (R74.3). -/
  offset : Int := 0
  /-- The coast in progress: its first epoch, Tj at its start, and whether the reference was lost. -/
  coastFrom : Nat := 0
  coastTj : Int := 0
  byRef : Bool := false
  /-- Validating epochs seen so far (R74). -/
  valid : Nat := 0
  /-- The phase error stands outside the lock window (R69, R70): from the start until lock, and from a loss of lock until the loop closes. -/
  phaseOut : Bool := true
  /-- Isolated phase-detector cycles of the last epoch whose error lay outside the window (R70). -/
  outCycles : Nat := 0
  deriving DecidableEq, Repr

/-- One LO synthesiser beside its registers (R62 to R68, R437). -/
structure LoState where
  /-- The change posted to the plan or settling. -/
  busy : Option LoReq := none
  /-- The change has been applied and now settles. -/
  settling : Bool := false
  /-- The queue of one place (R68). -/
  queued : Option LoReq := none
  /-- Hop-table entries in order of use, most recent last (R63). -/
  used : List Nat := []
  /-- A calibration that waits for an idle path or a grant (R46, R67), and whether it passes over the present idle period for want
  of a grant. -/
  waiting : Option LoReq := none
  skipIdle : Bool := false
  waitingAll : Bool := false
  /-- An ALL pass in progress: entries left and the entry to return to (R67). -/
  pass : Option (List Nat × Nat) := none
  deriving DecidableEq, Repr

/-- The loops and the clock outputs. -/
structure Loops where
  sys : LoopState := {}
  loops : Vector LoopState 2 := Vector.replicate 2 {}
  los : Vector LoState 2 := Vector.replicate 2 {}
  /-- Rebase steps still to be applied (R74.4). -/
  stepsLeft : Nat := 0
  /-- Epoch in which the last coast of any loop closed (R21, R130). -/
  closedAt : Option Nat := none
  /-- Clock outputs whose settings take effect on the next boundary (R76). -/
  clkoutDirty : List Nat := []
  /-- The settings in force of each clock output: its register's word (R76). -/
  clkNow : Vector Nat 3 := Vector.replicate 3 120
  deriving DecidableEq, Repr

/-! ## Survey (chapter 4) -/

/-- A measured map entry: index, level in 0.25 dB, snapshots since its measurement (R94), and whether the level lay above 100 dBµV
(R101). -/
structure Cell where
  index : Nat
  level : Int
  age : Nat
  strong : Bool := false
  deriving DecidableEq, Repr

/-- A snapshot of one survey map (R94, R95): its closing boundary, what makes entries STALE, and the entries measured since BOOT.
The LF bin and raster maps share one snapshot; raster entry `i` has index `11943 + i`. -/
structure Snapshot where
  epoch : Nat := 0
  staleAll : Bool := false
  tile : Option Nat := none
  cells : List Cell := []
  deriving DecidableEq, Repr

/-- One survey map: the latest closed snapshot, whether it waits to be posted, and the snapshots of the window and its side slot. -/
structure SurveyMap where
  now : Snapshot := {}
  unposted : Bool := false
  held : Snapshot := {}
  side : Snapshot := {}
  deriving DecidableEq, Repr

/-! ## Lanes and sprouts (chapter 5) -/

/-- The lane states of R105. -/
inductive LaneState where
  | free | acquiring | active | parked | migrating | restarting | retired
  deriving DecidableEq, Repr

/-- One lane instance (R103 to R106, R134). -/
structure Lane where
  state : LaneState := .free
  /-- Lane core 0–5; 7 = none. -/
  core : Nat := 7
  /-- Held by the host (R134 OWNER). -/
  host : Bool := false
  path : Path := .lf
  /-- Frequency in force, kHz; for a DAB or FIC lane the block's centre. -/
  khz : Nat := 0
  /-- Load of its core, % (R110). -/
  load : Nat := 0
  /-- In synchronisation as the lane's class defines it. -/
  sync : Bool := false
  /-- Synchronisation has been lost: the lane returns to ACQUIRING on the next boundary (R106). -/
  lost : Bool := false
  /-- A fault restarts the lane on the next boundary (R397). -/
  restart : Bool := false
  /-- Epoch at which a timed-out acquisition is planted again (R117). -/
  replantAt : Option Nat := none
  /-- Taken by a programme slot's policy (R107). -/
  policy : Bool := false
  /-- Retired with a failed resource of its own, and not for capacity alone (R112). -/
  failed : Bool := false
  deriving DecidableEq, Repr

/-- The sprout kinds of R114. -/
inductive SproutKind where
  | dab | drm | rds | join | migrate
  deriving DecidableEq, Repr

/-- The sprout states of R133. -/
inductive SproutState where
  | empty | planted | rooted | pulled
  deriving DecidableEq, Repr

/-- Why a sprout was pulled (R133). -/
inductive PullReason where
  | none | timeout | sentinel | superseded | parked | mismatch | fault | identity
  deriving DecidableEq, Repr

/-- What a migration is for (R110). -/
inductive MoveFor where
  | load | bist | repair | handover
  deriving DecidableEq, Repr

/-- One sprout slot (R116 to R125, R133). -/
structure Sprout where
  kind : Option SproutKind := none
  state : SproutState := .empty
  lane : Nat := 0
  reason : PullReason := .none
  fromCore : Nat := 0
  toCore : Nat := 0
  pgm : Nat := 0
  src : Nat := 0
  plantedAt : Nat := 0
  endedAt : Nat := 0
  /-- Detector metric as METRIC shows it. -/
  metric : Int := 0
  progress : Nat := 0
  gen : Nat := 0
  /-- A candidate has been adopted (R120). -/
  adopted : Bool := false
  /-- Criterion met; its root is posted (R118). -/
  met : Bool := false
  /-- Epoch in which a JOIN's criterion was met. -/
  metAt : Nat := 0
  /-- RDS stream it acquires: 0 basic, 1–3 upper (R149). -/
  stream : Nat := 0
  /-- PI its criterion verified, for an RDS sprout (R148). -/
  pi : Nat := 0
  /-- An RDS sprout's search (R117): the place expected next, 0 before a valid syndrome; whether two blocks in succession stood in
  sequence; and the PIs of the groups counted since. -/
  next : Nat := 0
  blockSync : Bool := false
  groups : List Nat := []
  /-- A DAB sprout's frames in succession with the null at its place, or a DRM sprout's FAC CRC passes in succession (R117); and the CRC
  outcomes of the first four FIBs of a DAB sprout (R196). -/
  passes : Nat := 0
  fibs : List Bool := []
  move : MoveFor := .load
  /-- MISMATCH pulls so far for the lane and purpose (R125). -/
  mismatches : Nat := 0
  /-- Epoch of the last migration comparison (R123). -/
  comparedAt : Nat := 0
  deriving DecidableEq, Repr

/-- A sprout request that waits for a slot or a spare context (R116, R90). -/
structure SproutReq where
  kind : SproutKind
  lane : Nat
  pgm : Nat := 0
  src : Nat := 0
  stream : Nat := 0
  toCore : Nat := 0
  move : MoveFor := .load
  mismatches : Nat := 0
  deriving DecidableEq, Repr

/-- Lane manager, sprouts and offset estimator. -/
structure Manager where
  lanes : Vector Lane 156 := Vector.replicate 156 {}
  sprouts : Vector Sprout 32 := Vector.replicate 32 {}
  waiting : List SproutReq := []
  /-- Consecutive epochs of each core above 95 % load (R110). -/
  overload : Vector Nat 6 := Vector.replicate 6 0
  /-- Rotation of the FIC watch: epochs at which each rotating entry's visit ends, by lane (R109). -/
  dwell : List (Nat × Nat) := []
  /-- Rooted migrations whose origin is freed, and MIGRATE_DONE raised, on a boundary (R123): lane, origin core, boundary. -/
  migrated : List (Nat × Nat × Nat) := []
  /-- Consecutive windows below 10 ppb (R129). -/
  calm : Nat := 0
  /-- Boundary of the last applied frequency epoch (R129). -/
  lastFreq : Option Nat := none
  deriving DecidableEq, Repr

/-! ## Sample blocks (R16) -/

/-- The header of a path's block: its epoch, COAST, GAP as the first and last tick of the epoch that it covers, and the gain correction in
force, the normaliser's factor M and S (R81); whether a gain step or a span or tile switch falls on its boundary (R83). -/
structure BlockHdr where
  epoch : Nat := 0
  coast : Bool := false
  gap : Option (Nat × Nat) := none
  gainM : Nat := 0
  gainS : Nat := 0
  blank : Bool := false
  deriving DecidableEq, Repr

/-- The blocks of the present epoch and of the one before, by path, and the lanes that have a GAP of their own in them: lane, first and
last tick. A lane's block carries COAST and GAP of its path's block too (R16, R71). -/
structure Blocks where
  now : Vector BlockHdr 3 := Vector.replicate 3 {}
  last : Vector BlockHdr 3 := Vector.replicate 3 {}
  own : List (Nat × Nat × Nat) := []
  lastOwn : List (Nat × Nat × Nat) := []
  deriving DecidableEq, Repr

/-! ## Samples (chapters 4, 6, 7 and 9) -/

/-- A complex sample, or the left and right value of an audio frame. Lists of them run from the newest to the oldest. -/
abbrev Sample := Int × Int

/-- By what a rank filter judges a sample (R82): K in eighths, the sum of squares and the number of the ADC's normalised samples over the
epoch before, and `THR_OFF`. -/
structure RankRule where
  k : Nat := 40
  power : Nat := 0
  count : Nat := 0
  off : Bool := false
  deriving DecidableEq, Repr

/-- The front section of one ADC (R81): its latest normalised samples, the rule of the epoch before, the sum of squares and the number of the
last epoch's samples, and the latest inputs of its half-band decimator. -/
structure Adc where
  recent : List Int := []
  rule : RankRule := {}
  power : Nat := 0
  count : Nat := 0
  inputs : List Sample := []
  deriving DecidableEq, Repr

/-- The samples of one path: its front sections (I and Q), the samples replaced and the saturations of the last epoch (R82, R84), and
the words of its stream in sample memory (R85). -/
structure PathDsp where
  i : Adc := {}
  q : Adc := {}
  spikes : Nat := 0
  sats : Nat := 0
  stream : List (BitVec 64) := []
  deriving DecidableEq, Repr

/-- A down-converter's chain (R87 to R89): path and record, the phase accumulator of its NCO, the latest inputs of the stages behind it, and
the words of the lane stream (R85). -/
structure Chain where
  path : Nat
  ddc : Nat
  phase : Nat := 0
  first : List Sample := []
  second : List Sample := []
  third : List Sample := []
  stream : List (BitVec 64) := []
  deriving DecidableEq, Repr

/-- The demodulator of an FM full lane (R139 to R142): the last sample, the latest outputs of the discriminator, the MPX filter and the 38 kHz
mixer, the pilot loop's phase and correction, the de-emphasis of M and S, the high cut's last inputs and outputs, and the inputs of the
rate change. -/
structure FmDemod where
  prev : Sample := (0, 0)
  disc : List Int := []
  mpx : List Int := []
  side : List Int := []
  phase : Nat := 0
  corr : Int := 0
  deM : Int := 0
  deS : Int := 0
  cutIn : List Sample := []
  cutOut : List Sample := []
  audio : List Sample := []
  deriving DecidableEq, Repr

/-- How a frame of audio came out: decoded, to be concealed, or to be zero (R143, R184). -/
inductive FrameMark where
  | good | conceal | zero
  deriving DecidableEq, Repr

/-- The demodulator of an AM full lane (R165 to R167): the samples of the last two epochs, each with whether the blanker replaces it, samples
left of a run, the sums and numbers of the magnitudes of up to 16 epochs, the samples behind the blanker with the carrier loop's phase
at each, the loop, the detection in force and the one before it (0 envelope, 1 both sidebands, 2 upper, 3 lower; BW) with the epoch
of the change, which of the last epoch's frames are concealed, and what the blanker counted in it. -/
structure AmDemod where
  last : List (Sample × Bool) := []
  run : Nat := 0
  sums : List (Nat × Nat) := []
  clean : List (Sample × Nat) := []
  phase : Nat := 0
  corr : Int := 0
  now : Nat × Nat := (0, 8)
  before : Nat × Nat := (0, 8)
  changed : Nat := 0
  marks : List FrameMark := []
  fed : Bool := false
  blanks : Nat := 0
  blanked : Nat := 0
  excess : Bool := false
  deriving DecidableEq, Repr

/-- The audio of a lane, a selection (lane 14–19) or a pair of AIP0 (lane 255): the epoch of its last block, its latest blocks as they came, and the frames that left
it, as audio words (R85). -/
structure Feed where
  lane : Nat
  sel : Nat
  last : Nat := 0
  blocks : List (List (Sample × FrameMark)) := []
  out : List (BitVec 64) := []
  marks : List Bool := []
  deriving DecidableEq, Repr

/-- The delay line of a source entry (R237, R242): what it takes its audio from, and 24-bit frames, each with whether it was concealed. -/
structure Line where
  pgm : Nat
  src : Nat
  lane : Nat
  sel : Nat
  frames : List (Sample × Bool) := []
  deriving DecidableEq, Repr

/-- What the survey engine of a path gathered in one epoch (R91): the LO, the tile in force, the usable transforms, and the power of the
bins. -/
structure SurveyEpoch where
  lo : Nat
  tile : Option Nat
  usable : Nat
  bins : List (Nat × Nat)
  deriving DecidableEq, Repr

/-- The samples of the block, and the calibrated full-scale levels of LF, FM and B3 in 0.01 dB (R93; at the nominal values, log entry 116). -/
structure Dsp where
  paths : Vector PathDsp 3 := Vector.replicate 3 {}
  chains : List Chain := []
  fm : Vector FmDemod 8 := Vector.replicate 8 {}
  am : Vector AmDemod 6 := Vector.replicate 6 {}
  feeds : List Feed := []
  lines : List Line := []
  /-- The latest frames of each programme, as audio words (R227). -/
  out : Vector (List (BitVec 64)) 4 := Vector.replicate 4 []
  /-- The latest epochs of each path's survey. -/
  surveys : Vector (List SurveyEpoch) 3 := Vector.replicate 3 []
  /-- Map entries that a memory error has touched since the last snapshot (R396). -/
  touched : List (MapSel × Nat) := []
  fullScale : Vector Int 3 := #v[12000, 11280, 11080]
  deriving DecidableEq, Repr

/-! ## FM and RDS (chapter 6) -/

/-- One AF entry (R151). -/
structure AfEntry where
  code : Nat
  lfmf : Bool := false
  verified : Bool := false
  regional : Bool := false
  methodB : Bool := false
  deriving DecidableEq, Repr

/-- The AF list of a record and how it is being filled (R150): the header's N, the codes held, whether the next code is LF/MF, and
the header groups that detect method B. -/
structure AfList where
  expected : Nat := 0
  entries : List AfEntry := []
  methodB : Bool := false
  nextLfmf : Bool := false
  /-- Groups that brought this header with the tuned frequency. -/
  sameHeader : Nat := 0
  deriving DecidableEq, Repr

/-- An RDS record (R148, R156, R160): what a root and the groups after it have given. -/
structure RdsRecord where
  pi : Nat := 0
  /-- A group with a usable block B has been taken. -/
  seen : Bool := false
  piValid : Bool := false
  pty : Nat := 0
  tp : Bool := false
  ta : Bool := false
  ms : Bool := false
  di : Nat := 0
  /-- PS, 8 characters, and the segments accepted since the last root. -/
  ps : List Nat := [0, 0, 0, 0, 0, 0, 0, 0]
  psGot : List Nat := []
  /-- The last 4 receptions of each PS segment, newest first: segment and its two characters. -/
  psSeen : List (Nat × Nat × Nat) := []
  ptyn : List Nat := [0, 0, 0, 0, 0, 0, 0, 0]
  /-- RadioText, 64 characters, the positions accepted, those seen once with class 1, its flag and its version (32 for 2B). -/
  rt : List Nat := []
  rtGot : List Nat := []
  rtOnce : List (Nat × Nat) := []
  rtAB : Bool := false
  rtShort : Bool := false
  mjd : Nat := 0
  hour : Nat := 0
  minute : Nat := 0
  lto : Nat := 0
  ctValid : Bool := false
  ctEpoch : Nat := 0
  af : AfList := {}
  deriving DecidableEq, Repr

/-- One received block of a group: the 16 bits, its class (R147), and whether it carried offset C′. -/
structure RdsBlk where
  data : Nat
  cls : Nat
  cPrime : Bool := false
  deriving DecidableEq, Repr

/-- The RDS context of an FM full lane or watch entry. -/
structure RdsCtx where
  record : RdsRecord := {}
  /-- What the planted sprout has gathered (R115, R118). -/
  shadow : RdsRecord := {}
  /-- Epoch of the last group with a class-0 block B among these. -/
  shadowSeen : Option Nat := none
  /-- The upper streams in sync, 1–3 (R149), and the consecutive epochs each one's carrier has been seen. -/
  upper : List Nat := []
  carrier : List (Nat × Nat) := []
  /-- Classes of the last 64 blocks of stream 0, newest first; and of those of the upper streams in sync, with their streams. -/
  recent : List Nat := []
  recentUp : List (Nat × Nat) := []
  /-- The place at which the next block of a stream in sync is expected, by stream, and the last bit received before differential
  decoding (R147). -/
  next : List (Nat × Nat) := []
  lastBit : List (Nat × Bool) := []
  /-- Consecutive valid syndromes at unexpected offset positions (R147). -/
  misplaced : Nat := 0
  /-- Blocks of the group in progress, by stream. -/
  group : List (Nat × List RdsBlk) := []
  /-- PI of the last group whose block 1 was class 0 and foreign (R157). -/
  foreign : Option Nat := none
  /-- LEVEL of up to 16 preceding epochs, newest first, and the epoch to which the trigger stays armed (R157). -/
  levels : List Int := []
  armedTo : Option Nat := none
  capture : Bool := false
  alarm : Bool := false
  /-- Groups in succession with, or without, PTY 31 (R158). -/
  ptyRun : Nat := 0
  ptyOff : Nat := 0
  /-- Consecutive epochs out of sync. -/
  outOfSync : Nat := 0
  /-- Epoch of the last group with a class-0 block B, and AGE: the seconds counted since (R155). -/
  seenAt : Option Nat := none
  age : Nat := 255
  deriving DecidableEq, Repr

/-- A queued group (R153). -/
structure RdsGroup where
  seq : Nat
  stream : Nat
  blocks : List RdsBlk
  typeC : Bool
  entry : Nat
  epoch : Nat
  deriving DecidableEq, Repr

/-- A group FIFO (R152): the queued groups, oldest first, and the next SEQ. -/
structure GroupFifo where
  groups : List RdsGroup := []
  next : Nat := 0
  deriving DecidableEq, Repr

/-- One epoch's readings of a full lane, kept for the quality summary (R145, R170). -/
structure QualEpoch where
  level : Int
  cnr : Int
  peakA : Int
  peakB : Int
  deriving DecidableEq, Repr

/-- The accumulation of a lane's quality summary. -/
structure QualSum where
  epochs : List QualEpoch := []
  concealed : Nat := 0
  blanked : Nat := 0
  used : Bool := false
  deriving DecidableEq, Repr

/-- One FM full lane beside its registers. -/
structure FmLane where
  /-- Pilot deviations of counted epochs, newest first, 0.1 kHz (R141). -/
  pilots : List Nat := []
  /-- Separation g in force, %, and corner of the high cut, 100 Hz. -/
  sep : Nat := 0
  corner : Nat := 150
  /-- The lane becomes ACTIVE on the next boundary; and a tune still owes CHG.TUNED. -/
  tuning : Bool := false
  tuned : Bool := false
  sum : QualSum := {}
  fifo : GroupFifo := {}
  deriving DecidableEq, Repr

/-! ## AM and DRM (chapter 7) -/

/-- An AMSS decoder (R171): the identifier candidate, and the expected blocks that failed in succession. -/
structure AmssCtx where
  candidate : Option (Nat × Nat) := none
  /-- A changed identifier that enters the record on the next boundary. -/
  next : Option (Nat × Nat) := none
  fails : Nat := 0
  sync : Bool := false
  deriving DecidableEq, Repr

/-- A queued AMSS block (R187). -/
structure AmssRec where
  seq : Nat
  bits : Nat
  len : Nat
  epoch : Nat
  deriving DecidableEq, Repr

/-- One AM full lane beside its registers. -/
structure AmLane where
  /-- Consecutive epochs with carrier to noise above 12 dB, and below 8 dB (R165). -/
  above : Nat := 0
  below : Nat := 0
  /-- DET and BW in force (R165). -/
  det : Nat := 0
  bw : Nat := 8
  tuning : Bool := false
  tuned : Bool := false
  sum : QualSum := {}
  amss : AmssCtx := {}
  fifo : List AmssRec := []
  next : Nat := 0
  deriving DecidableEq, Repr

/-- One AM watch entry beside its record's registers (R174, R175). -/
structure AmWatch where
  above : Nat := 0
  below : Nat := 0
  /-- The DRM mode the last window found, and the windows in succession without detection. -/
  lastMode : Option Nat := none
  misses : Nat := 0
  levels : List Int := []
  /-- Epoch in which CARRIER was last confirmed (R174). -/
  seenAt : Option Nat := none
  amss : AmssCtx := {}
  deriving DecidableEq, Repr

/-- A service of a DRM multiplex as FAC and SDC give it (R181, R191). -/
structure DrmSvc where
  shortId : Nat
  sid : Nat
  audio : Bool
  ca : Bool := false
  lang : Nat := 0
  pty : Nat := 0
  codec : Nat := 7
  sbr : Bool := false
  ps : Bool := false
  deriving DecidableEq, Repr

/-- One DRM engine beside its registers. -/
structure DrmEngine where
  /-- FAC failures in succession (R180). -/
  facFails : Nat := 0
  /-- The robustness mode acquired (R180); 7 = none. -/
  mode : Nat := 7
  services : List DrmSvc := []
  /-- A new configuration applies whose SDC has not passed its CRC yet (R181): the next one that passes replaces the services held. -/
  newConfig : Bool := false
  /-- Root after a tune still owed to CHG.TUNED. -/
  tuned : Bool := false
  /-- Consecutive failed audio frames of each selection, in ms (R184). -/
  silent : List (Nat × Nat) := []
  /-- Selections with concealed audio frames in the last 2 s, the epochs and their number (R243). -/
  concealed : List (Nat × Nat × Nat) := []
  deriving DecidableEq, Repr

/-- Who uses or waits for an audio-decode context (R183, R206): a selection of a DRM or a DAB engine. -/
structure DecUser where
  drm : Bool
  engine : Nat
  sel : Nat
  deriving DecidableEq, Repr

/-! ## DAB (chapter 8) -/

/-- A service of an ensemble in the FIC database (R201, R223): its components, primary first, and what the other FIGs said of it. -/
structure DbService where
  sid : Nat
  data : Bool := false
  comps : List Component := []
  pty : Nat := 0
  asu : Nat := 0
  label : List Nat := []
  charset : Nat := 0
  mask : Nat := 0
  labelValid : Bool := false
  /-- Epochs of in-sync reception since FIG 0/2 last carried it (R201). -/
  unseen : Nat := 0
  /-- The database records it. A service of the configuration that found no place does not (R201, R203), and can still be selected. -/
  recorded : Bool := true
  deriving DecidableEq, Repr

/-- The label of a service component (FIG 1/4, R200). -/
structure CompLabel where
  sid : Nat
  scids : Nat
  charset : Nat
  mask : Nat
  bytes : List Nat
  deriving DecidableEq, Repr

/-- An ensemble record of the FIC database (R203, R222). -/
structure Ensemble where
  block : Nat
  eid : Nat := 0
  ecc : Nat := 0
  al : Bool := false
  /-- Epoch of the last valid FIB, and AGE: the seconds counted since (R203). -/
  seenAt : Nat := 0
  age : Nat := 0
  trunc : Bool := false
  subchs : List SubChannel := []
  services : List DbService := []
  /-- The next configuration, collected from FIGs flagged as next, and the CIF count at which it applies (R202). -/
  nextSubchs : List SubChannel := []
  nextServices : List DbService := []
  changeCif : Option Nat := none
  /-- CIF count and change flags of the last FIG 0/0 (R200). -/
  cif : Nat := 0
  changeFlags : Nat := 0
  /-- FIG 0/7: services of the configuration and reconfiguration count. -/
  confServices : Nat := 0
  confCount : Nat := 0
  /-- FIG 0/13 by SId and SCIdS, FIG 0/14 by sub-channel, and FIG 1/4. -/
  apps : List (Nat × Nat × List Nat) := []
  fec : List (Nat × Nat) := []
  compLabels : List CompLabel := []
  mjd : Nat := 0
  hour : Nat := 0
  minute : Nat := 0
  second : Nat := 0
  ms : Nat := 0
  timeValid : Bool := false
  timeEpoch : Nat := 0
  lto : Nat := 0
  asw : Nat := 0
  label : List Nat := []
  charset : Nat := 0
  mask : Nat := 0
  labelValid : Bool := false
  deriving DecidableEq, Repr

/-- A linkage set (R204, R224). -/
structure LinkSet where
  lsn : Nat
  hard : Bool
  ils : Bool
  key : Nat
  active : Bool := false
  trunc : Bool := false
  block : Nat := 0
  members : List LinkMember := []
  /-- Blocks that have supplied the set. -/
  suppliers : List Nat := []
  /-- Epochs of in-sync reception since a valid FIB repeated the set. -/
  unseen : Nat := 0
  deriving DecidableEq, Repr

/-- One selection of a DAB engine beside its registers: the phases whose last firecode passed while the engine searches, the phase in sync
and the failures in succession there (R208); ms of failed audio in succession (R209); and the CIFs that a restarted time de-interleaver
still needs (R202). -/
structure DabSel where
  passed : List Nat := []
  phase : Option Nat := none
  sfFails : Nat := 0
  silent : Nat := 0
  /-- Epochs of the last 2 s with concealed frames or access units, and their number (R243). -/
  concealed : List (Nat × Nat) := []
  refill : Nat := 0
  deriving DecidableEq, Repr

/-- One DAB engine or FIC watch entry beside its registers (R196 to R199, R216). -/
structure DabLane where
  /-- Consecutive frames without the null at its place, and without a FIB that passes (R197). -/
  nullMisses : Nat := 0
  fibMisses : Nat := 0
  /-- First and last ticks of the lane's GAPs in the last 100 epochs, and the symbols of the last frame that were erased (R199). -/
  gaps : List (Nat × Nat) := []
  erased : List Nat := []
  /-- FFT window position relative to that at root, samples (R198). -/
  window : Int := 0
  /-- Epoch in which the null symbol of the frame in progress began (R200). -/
  nullAt : Option Nat := none
  /-- Quality words that the next boundary shows (R218). -/
  qual : Option (Word × Word × Word) := none
  /-- Root after a tune still owed to CHG.TUNED. -/
  tuned : Bool := false
  sels : Vector DabSel 6 := Vector.replicate 6 {}
  /-- CRC outcomes of the last 120 FIBs, newest first (R221). -/
  fibs : List Bool := []
  outOfSync : Nat := 0
  /-- The lane has the ensemble's alarm on; FIG 0/19 with the alarm bit came in this frame; how many frames carried it; the epoch of the
  last (R216). -/
  alarm : Bool := false
  aswHere : Bool := false
  aswFrames : Nat := 0
  aswEpoch : Nat := 0
  /-- SubChId of the last FIG 0/19 that carried the alarm. -/
  aswSubch : Nat := 0
  /-- Epoch of the last valid FIB, and AGE (R221). -/
  seenAt : Option Nat := none
  age : Nat := 255
  /-- FIGs gathered on a planted sprout: the epoch, that of the frame's null, and the FIGs (R115, R118). -/
  shadow : List (Nat × Nat × List Fig) := []
  deriving DecidableEq, Repr

/-- One record of a service data queue (R214). -/
structure DataRec where
  seq : Nat
  kind : Nat
  addr : Nat
  sid : Nat
  epoch : Nat
  bytes : List (BitVec 8)
  deriving DecidableEq, Repr

/-- One service data queue (R211 to R214). -/
structure DataQueue where
  recs : List DataRec := []
  next : Nat := 0
  /-- The configuration in force, and whether the register's word takes effect on the next boundary (R212). -/
  cfg : Word := 0x00100000
  reset : Bool := false
  deriving DecidableEq, Repr

/-! ## Programme combining (chapter 9) -/

/-- A source entry of a slot beside its registers (R229 to R246). Arrivals are in 1/256 sample after the slot's origin. -/
structure Source where
  /-- Arrival measured by the fine search (R237); larger arrives later. -/
  arrival : Int := 0
  /-- Loudness contour at 200 Hz in 0.01 dB over up to 20 s, newest first (R236, R240). -/
  contour : List Int := []
  /-- Epoch of the last coarse evaluation, its lag in ms and the arrival it stands for, and how many evaluations in succession agreed on it
  (R236). -/
  coarseAt : Option Nat := none
  coarse : Option Int := none
  place : Int := 0
  agree : Nat := 0
  /-- Epoch of the last fine search (R237), and whether a reading of the present hold asked for a gain within ±12 dB (R241). -/
  trackedAt : Option Nat := none
  gainOk : Bool := false
  /-- Epochs since which the fine correlation has been 0.80 or more (R241), and below 0.50 (R237). -/
  holdFrom : Option Nat := none
  lowFrom : Option Nat := none
  corr : Nat := 0
  drift : Int := 0
  /-- Gain in force and wanted, 0.1 dB (R240). -/
  gain : Int := 0
  wanted : Int := 0
  /-- Epoch in which the source entered the slot (R240), and whether it is a later joiner that waits for the slew (R239). -/
  since : Nat := 0
  later : Bool := false
  /-- Blocks reserved for a root that is posted (R242). -/
  reserve : Nat := 0
  /-- Consecutive epochs below and at or above the floor (R244), and above the selected source by more than HYST (R245). -/
  below : Nat := 0
  above : Nat := 0
  better : Nat := 0
  /-- Consecutive epochs with every sub-band correlation at 0.92 or more, in each sub-band those below it, and the weights in the sum in
  millionths, kept for the crossfade when the lane has left it (R246). -/
  corrRun : Nat := 0
  bandLow : List Nat := [0, 0, 0, 0, 0, 0, 0, 0]
  weights : List Nat := []
  /-- The identity it was last judged by: kind and ID (R234). -/
  ident : Option (Nat × Nat) := none
  /-- Retry time of a refused source, and whether its retry trigger has come (R241). -/
  retryAt : Option Nat := none
  ready : Bool := false
  /-- Its audio blocks arrive. -/
  delivering : Bool := false
  /-- Epoch since which it is OUT or WAITING (R249). -/
  idleSince : Nat := 0
  /-- Epochs in which a block of its delay line was lost (R396). -/
  lostBlocks : List Nat := []
  /-- A written entry waits for the next boundary (R229). -/
  fresh : Bool := false
  deriving DecidableEq, Repr

/-- A ramp of the output (R247): down towards silence, or up, and the epoch at which it ends. -/
inductive Ramp where
  | none
  | down (until_ : Nat)
  | up (until_ : Nat)
  deriving DecidableEq, Repr

/-- A policy candidate (R248): kind of source (R228), its frequency in kHz or block, and its identity. -/
structure Candidate where
  kind : Nat
  place : Nat
  id : Nat
  deriving DecidableEq, Repr

/-- A programme slot beside its registers. -/
structure Slot where
  srcs : Vector Source 4 := Vector.replicate 4 {}
  ramp : Ramp := .none
  /-- The only source that was IN has left and another has entered at once: the output ramps down first (R229). -/
  cut : Bool := false
  /-- The entry that a crossfade fades out, 4 for the correlated sum, the epoch in which the fade ends, and its length (R245, R246). -/
  fade : Option (Nat × Nat × Nat) := none
  /-- The timeline that a crossfade leaves, and the epoch in which it ends (R239). -/
  jump : Option (Int × Nat) := none
  /-- Loudness contour of the programme over up to 10 s, newest first (R236). -/
  contour : List Int := []
  /-- Timeline position, and the slew left, in 1/256 000 sample; the slew moves the timeline back (R239) or forward (R238). -/
  timeline : Int := 0
  slew : Nat := 0
  slewBack : Bool := true
  /-- Epoch at which a held timeline is released, and the entry that was the reference (R238). -/
  heldTo : Option Nat := none
  heldBy : Nat := 0
  /-- The candidate proposed, and blocked candidates with the epoch that frees them (R249). -/
  proposal : Option Candidate := none
  blocked : List (Candidate × Nat) := []
  /-- ALLOC_FAIL has been raised for the waiting proposal (R107). -/
  failed : Bool := false
  /-- Entries filled by the policy: entry, candidate, and the lane taken, 255 for none. -/
  owned : List (Nat × Candidate × Nat) := []
  /-- The slot runs: EN = 1 in FULL, from a boundary on. -/
  running : Bool := false
  deriving DecidableEq, Repr

/-- A class of the identity book (R233, R255). -/
structure PibClass where
  host : Bool
  hard : Bool := false
  trunc : Bool := false
  lsn : Nat := 0
  block : Nat := 0
  members : List LinkMember := []
  /-- The linkage set it follows. -/
  key : Nat := 0
  ils : Bool := false
  deriving DecidableEq, Repr

/-- The identity book: classes C0–C63 and the command in progress (R235): OP, CLASS and the ARG word it was given. -/
structure Pib where
  classes : Vector (Option PibClass) 64 := Vector.replicate 64 none
  /-- Linkage sets that found all places taken (R233): LSN, hard, ILS and key service. -/
  leftOut : List (Nat × Bool × Bool × Nat) := []
  busy : Option (Nat × Nat × Word) := none
  deriving DecidableEq, Repr

/-! ## Audio ports and pods (chapter 10) -/

/-- What a port's last frame carried (R260, R263, R269): zeros, or the audio due at a programme time; the time is `num / fs` ticks. -/
inductive FrameContent where
  | zeros
  | due (num : Int) (fs : Nat)
  deriving DecidableEq, Repr

/-- One audio port beside its registers: AOP0–AOP3, then AIP0. -/
structure AudioPort where
  /-- Tick of the last frame start (R260). -/
  stamp : Option Nat := none
  /-- Consecutive frames in error, and without error at an in-range rate (R261). -/
  bad : Nat := 0
  good : Nat := 0
  /-- Consecutive epochs with CLK_OK, and without it. -/
  okEpochs : Nat := 0
  noClock : Nat := 0
  /-- CLK_OK has cleared in this epoch: LOCKED clears on the next boundary (R261). -/
  unlock : Bool := false
  /-- Boundary after which the port starts (R264, R267, R270). -/
  startAt : Option Nat := none
  /-- The frame in progress is the last one (R264 step 4). -/
  stopping : Bool := false
  /-- UNDERRUN or SLIP has been raised for this epoch (R269). -/
  noted : Bool := false
  /-- Overrun or underrun happened in this epoch (R243, R269). -/
  slipped : Bool := false
  /-- Frames since the last preamble of each pair (R271). -/
  quiet : Vector Nat 4 := Vector.replicate 4 0
  /-- Consecutive frames off the leader's stamps, and matching them (R268). -/
  offBy : Nat := 0
  matched : Nat := 0
  /-- Routing in force (R265), and the boundary after which the register's word takes over. -/
  route : Nat := 0
  routeAt : Option Nat := none
  content : FrameContent := .zeros
  /-- The slots of the frame an output sends, each from the most significant bit of the word on (R257); empty where no audio is brought. -/
  slots : List Word := []
  /-- The frames that AIP0 took over the last epochs, newest first: stamp, and the pairs in Q1.31 (R259, R260). -/
  heard : List (Nat × List Sample) := []
  deriving DecidableEq, Repr

/-- One pod beside its registers (R266 to R268). -/
structure PodState where
  leader : Option Nat := none
  /-- The pod start stands in the plan, or waits for a place. -/
  posted : Bool := false
  /-- The boundary of the pod start. -/
  startEpoch : Nat := 0
  /-- A STOP came too late to cancel the start, and acts on the running pod (R267). -/
  late : Bool := false
  deriving DecidableEq, Repr

/-- The ports and pods. -/
structure Audio where
  ports : Vector AudioPort 5 := #v[{ route := 1 }, { route := 2 }, { route := 3 }, { route := 4 }, {}]
  pods : Vector PodState 2 := Vector.replicate 2 {}
  deriving DecidableEq, Repr

/-! ## Host ports and the auxiliary two-wire controller (chapters 12 and 13) -/

/-- The SPI frame in progress (R293, R297): none, a read whose next word would come from `next`, a write without CRC with a word cut
short or not, a write with CRC whose trailer is judged when the frame ends, or another frame. -/
inductive SpiFrame where
  | none | other
  | read (next : Nat)
  | write (addr : Nat) (cut : Bool)
  | crcWrite (quad : Bool) (addr : Nat) (data : List (BitVec 8))
  deriving DecidableEq, Repr

/-- The SPI and two-wire targets beside their registers. -/
structure HostPorts where
  frame : SpiFrame := .none
  /-- An error occurred in the frame in progress, and in the previous frame (R298 ERR). -/
  frameErr : Bool := false
  lastErr : Bool := false
  /-- What the last SPI frame drove: words, and the CRC behind each in CRC frames (R299). -/
  spiOut : List Word := []
  spiCrc : List (BitVec 16) := []
  /-- Bytes the last two-wire read drove. -/
  twtOut : List (BitVec 8) := []
  /-- The byte pointers of the register and the window function (R305); whether the host wrote one with bits [1:0] set. -/
  ptr0 : Nat := 0
  ptr1 : Nat := 0
  odd0 : Bool := false
  odd1 : Bool := false
  deriving DecidableEq, Repr

/-- The work item in progress of the auxiliary controller (R323). -/
inductive TwcWork where
  | idle
  | host
  | script (n step : Nat)
  deriving DecidableEq, Repr

/-- The auxiliary controller beside its registers. -/
structure Twc where
  /-- Pending scripts in the order in which their flags were set (R322, R323). -/
  order : List Nat := []
  /-- The pending host transfer: address, WR_LEN, RD_LEN (R318). -/
  host : Option (Nat × Nat × Nat) := none
  work : TwcWork := .idle
  /-- The transfer on the bus: address, bytes to write, and the number to read (R315). -/
  xfer : Option (Nat × List (BitVec 8) × Nat) := none
  /-- Boundary at which a WAIT step ends (R324). -/
  waitTo : Option Nat := none
  /-- Arbitration losses of the transfer in progress (R320). -/
  losses : Nat := 0
  /-- Steps and configuration of the running script as its run started (R325). -/
  steps : List Word := []
  notify : Bool := false
  /-- Write bytes acknowledged in the last transfer. -/
  wrDone : Nat := 0
  deriving DecidableEq, Repr

/-! ## Power, states and start-up (chapter 14) -/

/-- The operating states of R331. -/
inductive Mode where
  | off | sleep | boot | quiet | watch | full | hold | safe | recovery
  deriving DecidableEq, Repr

/-- Where BOOT stands (R339, R340, R411): held by VDDIO at step 1, held by RESET_N, held for want of a reference at step 5, or done
but for BOOTED. -/
inductive BootStage where
  | vddio | reset | reference | ready
  deriving DecidableEq, Repr

/-- Why the rails are down outside OFF and SLEEP (R343). -/
inductive Down where
  | uvlo | rail | trip | lost
  deriving DecidableEq, Repr

/-- A state transition in progress (R334 to R337): its target, the epoch of its request, the boundary on which FULL is left, and, on
the way to OFF or SLEEP, whether the outputs have been released. -/
structure Transition where
  target : Mode
  since : Nat
  /-- Boundary E + 22 of R336. -/
  leaveAt : Option Nat := none
  released : Bool := false
  deriving DecidableEq, Repr

/-- The level at a pin. -/
inductive Pin where
  | hiZ | low | high
  deriving DecidableEq, Repr

/-- The output pins as they stand (R46, R51, R70, R77, R263, R289, R313, R331, R411). -/
structure Pins where
  irqN : Pin := .hiZ
  lockA : Pin := .hiZ
  /-- Single cycles of the last epoch for which LOCK_A sank while it stood high-impedance otherwise (R70). -/
  lockPulses : Nat := 0
  coexReq : Pin := .hiZ
  aerial : Bool := false
  /-- The feed's current limit, mA; 0 while it is off (R51). -/
  aerialLimit : Nat := 0
  /-- What the injector adds at RF_IN, if anything. -/
  injector : Option InjOut := none
  clkout : Vector Pin 3 := Vector.replicate 3 .low
  dout : Vector Bool 4 := Vector.replicate 4 false
  gpio : Vector Pin 8 := Vector.replicate 8 .hiZ
  auxPort : Bool := false
  deriving DecidableEq, Repr

/-- States, supplies and start-up beside their registers. -/
structure Power where
  mode : Mode := .boot
  stage : BootStage := .reference
  down : Option Down := none
  /-- Level of PWR_EN, and whether it rose during an orderly stop (R337), or since OFF was requested with it high. -/
  pwrEn : Bool := true
  risen : Bool := false
  vddio : Bool := true
  /-- VSYS stands above 3.0 V, or has not fallen below 2.85 V since it did (R343). -/
  vsysOk : Bool := true
  /-- CAUSE and LAST_STOP that BOOTED will record (R348). -/
  cause : Nat := 3
  lastStop : Nat := 3
  trans : Option Transition := none
  /-- `SYS.STATE` still reads BOOT while an AUTO_COMMIT is checked and its target reached (R335, R341). -/
  bootShown : Bool := false
  /-- The request held during a transition (R334). -/
  held : Option Nat := none
  /-- `SYS.AON_TIME`, and whether the crystal times it (R338). -/
  aonTime : Nat := 0
  aonCrystal : Bool := true
  bootMs : Nat := 35
  /-- ADDR_SEL as read at BOOT (R303), and whether RECOVERY_N was low then (R365). -/
  addrSel : Nat := 0
  recoveryPin : Bool := false
  /-- What BOOT found and BOOTED reports: fallback, no valid generation, aged and repair events of R388 and R391. -/
  fallback : Bool := false
  nvEmpty : Bool := false
  repaired : Bool := false
  /-- Snapshots in succession above TJ_GOV, and of R345's step-down condition. -/
  hot : Nat := 0
  cool : Nat := 0
  /-- Governor level that the next boundary sets (R345), and its boundary. -/
  govNext : Option (Nat × Nat) := none
  /-- Full lanes that the governor has suspended (R344). -/
  suspended : List Nat := []
  /-- Tick at which the wake pins were asserted (R346). -/
  wakeSince : Nat := 0
  /-- Levels that the board sets on the GPIO pins (R347). -/
  gpioExt : Nat := 0
  /-- Whether the board drives COEX_GNT and COEX_ACT high (R46, R48). -/
  gntHigh : Bool := false
  actHigh : Bool := false
  /-- Tj as last measured, 0.0625 °C. -/
  tj : Int := 400
  pins : Pins := {}
  deriving DecidableEq, Repr

/-! ## Firmware (chapter 15) -/

/-- The header fields of an image that decide what follows (R353). -/
structure ImageHeader where
  version : Nat := 0
  blocks : Nat := 0
  settingsFmt : Nat := 1
  settingsFrom : Nat := 1
  stateFmt : Nat := 1
  stateFrom : Nat := 1
  outputChanging : Nat := 0
  digest : Nat := 0
  deriving DecidableEq, Repr

/-- The commands of `FWU.CMD` (R358). -/
inductive FwOp where
  | verify | activate | confirm | revert | begin_
  deriving DecidableEq, Repr

/-- Where a hand-over goes (R359, R361). -/
inductive HandOver where
  | forward | back
  deriving DecidableEq, Repr

/-- The Husk and the firmware beside the FWU page. -/
structure Firmware where
  /-- The command in progress. -/
  job : Option FwOp := none
  /-- The hand-over that is posted or under way. -/
  handOver : Option HandOver := none
  /-- Words of the block window, by byte address (R356); unlisted words read 0. -/
  window : List (Nat × Word) := []
  /-- Slots handed off, oldest first, each with its block number. -/
  handed : List (Nat × Nat) := []
  /-- Blocks of the receive map. -/
  received : List Nat := []
  /-- At least one block has been written to NV since BEGIN. -/
  wrote : Bool := false
  /-- The match test of R361 is armed. -/
  armed : Bool := false
  running : ImageHeader := {}
  old : Option ImageHeader := none
  /-- The old bank was lost to an uncorrectable error (R396). -/
  oldLost : Bool := false
  /-- Boundary on which the confirmation window ends (R362). -/
  trialEnd : Nat := 0
  /-- The core to be swapped next, and the direction (R360). -/
  swap : Option (Nat × HandOver) := none
  /-- SURVEY and MICRO are loaded on the next boundary (R360). -/
  reloadAt : Option Nat := none
  deriving DecidableEq, Repr

/-! ## The NV store (chapter 16) -/

/-- A settings generation (R371): its format and number, its commit marker, whether its body passes its CRC, the SEAL_COUNT it
carries, its sectors, and its content: the RWP bits of each register in which they differ from its reset word, and the host classes. -/
structure Generation where
  fmt : Nat
  num : Nat
  marker : Bool := true
  ok : Bool := true
  sealCount : Nat := 0
  sectors : List Nat := []
  words : List (Nat × Word) := []
  classes : List (Nat × PibClass) := []
  deriving DecidableEq, Repr

/-- One copy of the image-state record (R370). -/
structure ImageRecord where
  state : Nat := 0
  writes : Nat := 0
  digest : Nat := 0
  ok : Bool := true
  deriving DecidableEq, Repr

/-- The regulatory block (R378). -/
structure RglBlock where
  bandPlan : Nat := 255
  injCeil : Nat := 30
  coexDuty : Nat := 50
  aerIlim : Nat := 20
  isSealed : Bool := false
  count : Nat := 0
  deriving DecidableEq, Repr

/-- A result set of the shutdown BIST (R388). -/
structure ResultSet where
  records : List BistRecord := []
  trunc : Bool := false
  pass : Bool := true
  bootsSince : Nat := 0
  /-- Macros with records beyond the cut at 512. -/
  cut : List Nat := []
  deriving DecidableEq, Repr

/-- Spares of a macro used so far (R389, R391): rows and columns replaced. -/
structure MacroMap where
  macro_ : Nat
  rows : List Nat := []
  cols : List Nat := []
  deriving DecidableEq, Repr

/-- The content of the NV store (R369); it outlives power. -/
structure NvStore where
  /-- Blocks of the image slot: number and its 1 024 words; unlisted blocks are erased. -/
  image : List (Nat × List Word) := []
  recA : ImageRecord := {}
  recB : ImageRecord := {}
  gens : List Generation := []
  rgl : Option RglBlock := some {}
  /-- A sector's erase count, where it is not 0 (R376). -/
  erases : List (Nat × Nat) := []
  /-- Sectors of the settings area lost for want of a spare, and of the image slot. -/
  lostSettings : List Nat := []
  lostImage : Nat := 0
  spares : Nat := 301
  retired : Nat := 0
  lowRaised : Bool := false
  /-- The orderly-stop marker (R337). -/
  marker : Bool := false
  sets : List ResultSet := []
  /-- Rows marked at run time (R395, R396). -/
  pendingRows : List BistRecord := []
  repair : List MacroMap := []
  /-- Records of run-time tests that failed, kept for the next BOOT (R393). -/
  runFails : List BistRecord := []
  /-- The banks and logic units that the last BOOT retired (R391). -/
  lastBanks : List Nat := []
  lastUnits : List (Nat × Nat) := []
  /-- Reason why the last stop ran no test (R388). -/
  stopTest : Nat := 5
  deriving DecidableEq, Repr

/-- The commands of `NVS.CMD` in progress beside its registers (R373, R374). -/
structure NvJob where
  /-- A STORE: the boundary of its snapshot, and the snapshot once taken. -/
  snapAt : Option Nat := none
  snap : Option Generation := none
  storing : Bool := false
  sealing : Bool := false
  unsealing : Bool := false
  /-- An RWL field has changed since the regulatory block was last written (R374). -/
  rwlDirty : Bool := false
  deriving DecidableEq, Repr

/-! ## Self-test and faults (chapter 17) -/

/-- A fault record (R404). -/
structure FaultRec where
  unit : Nat
  inst : Nat
  cause : Nat
  cls : Nat := 0
  action : Nat := 0
  retry : Nat := 0
  epoch : Nat := 0
  detail : Nat := 0
  deriving DecidableEq, Repr

/-- A unit of R386: code and instance. -/
abbrev UnitId := Nat × Nat

/-- The stages of a device recovery (R399): ramps from a boundary, resets, done. -/
inductive RecoveryStage where
  /-- Ramps start on the boundary named. -/
  | ramping (start : Nat)
  | resetting
  deriving DecidableEq, Repr

/-- A run-time BIST (R392, R393). -/
structure BistJob where
  unit : Nat
  inst : Nat
  migrate : Bool
  running : Bool := false
  deriving DecidableEq, Repr

/-- Fault handling beside its registers. -/
structure Faults where
  /-- The log, newest first (R403). -/
  log : List FaultRec := []
  /-- Epochs of the faults counted for R400. -/
  counted : List Nat := []
  /-- Resets of units within the last 60 s: unit and epoch (R397, R398). -/
  resets : List (UnitId × Nat) := []
  /-- Units in reset, and units recovering with the epoch at which it ends. -/
  inReset : List UnitId := []
  recovering : List (UnitId × Nat) := []
  /-- Units retired until the next BOOT (R398). -/
  retired : List UnitId := []
  recovery : Option (RecoveryStage × List UnitId) := none
  /-- The cause that takes the device to SAFE, and the boundary (R400). -/
  safeAt : Option (Nat × Nat) := none
  /-- Epoch of the last watchdog expiry (R382). -/
  watchdogAt : Option Nat := none
  /-- Words with corrected errors, newest first, at most 64: word and epoch (R395). -/
  corrected : List (Nat × Nat) := []
  /-- Words with an uncorrectable error since BOOT (R396). -/
  uncorrected : List Nat := []
  /-- Alignment-pool blocks withheld until BOOT, and queue units (R396). -/
  poolLost : Nat := 0
  queueLost : Nat := 0
  /-- Contexts, ring slots and buffers withheld until BOOT (R396). -/
  withheld : List Region := []
  /-- Faults logged and corrected errors since the last snapshot (R405). -/
  sinceSnap : Nat := 0
  ceSinceSnap : Nat := 0
  /-- Effective lane cores lost to sample banks (R11). -/
  bankRows : Nat := 0
  bist : Option BistJob := none
  deriving DecidableEq, Repr

/-! ## The block -/

/-- Why a step stops with a fault: no command of the spec's table does. -/
inductive Fault where
  /-- Raised by nobody: the spec gives every command an effect. Safe. -/
  | none
  deriving DecidableEq, Repr

/-- Why a step is refused. -/
inductive Refusal where
  /-- Raised by an arm of `exec` whose command has no meaning yet. Safe. -/
  | notModelled (mnemonic : String)
  deriving DecidableEq, Repr

/-- Everything the spec gives the block, and the queue of waiting commands. -/
structure State where
  /-- The register words (R430). -/
  regs : RegFile := []
  /-- `SYS.TIME`, ticks (R14). -/
  time : Nat := 0
  /-- The epoch plan in boundary order (R24), and the requests that wait for a place, oldest first, each with the earliest
  boundary it asks for (R22). -/
  plan : List Entry := []
  planWait : List (Nat × List Change) := []
  /-- Frequency epochs whose posting waits for the end of a control-plane pause (R8). -/
  planHeld : List (Nat × List Change) := []
  fab : Fabric := {}
  paths : Vector PathState 3 := Vector.replicate 3 {}
  blocks : Blocks := {}
  aux : Aux := {}
  loops : Loops := {}
  maps : Vector SurveyMap 3 := Vector.replicate 3 {}
  mgr : Manager := {}
  rds : Vector RdsCtx 104 := Vector.replicate 104 {}
  fm : Vector FmLane 8 := Vector.replicate 8 {}
  watchFifo : GroupFifo := {}
  am : Vector AmLane 6 := Vector.replicate 6 {}
  amWatch : Vector AmWatch 24 := Vector.replicate 24 {}
  drm : Vector DrmEngine 2 := Vector.replicate 2 {}
  /-- The audio-decode contexts and the selections that wait for one, oldest first (R183). -/
  decoders : Vector (Option DecUser) 8 := Vector.replicate 8 none
  decWait : List DecUser := []
  dab : Vector DabLane 20 := Vector.replicate 20 {}
  ens : List Ensemble := []
  links : List LinkSet := []
  queues : Vector DataQueue 16 := Vector.replicate 16 {}
  slots : Vector Slot 4 := Vector.replicate 4 {}
  pib : Pib := {}
  audio : Audio := {}
  pwr : Power := {}
  fw : Firmware := {}
  nv : NvStore := {}
  nvJob : NvJob := {}
  flt : Faults := {}
  host : HostPorts := {}
  twc : Twc := {}
  dsp : Dsp := {}
  /-- How many free values have been used (the model's own; log entry 3). -/
  free : Nat := 0
  /-- The commands that wait, first in, first out. -/
  pending : List Instr := []
  deriving DecidableEq, Repr

/-- The block as reset leaves it: in BOOT, the reference not classified yet (R339, R340), every register at its reset word. -/
def State.reset : State := {}

end Sys2Proof.Machine
end

