-- ==== Sys2Proof/Machine/Ops.lean ====
section
/-!
DEFINITION. The named operations over the register words, the free values and exact arithmetic that every unit uses.
-/

namespace Sys2Proof

/-- The path's number in R23 and in page order. -/
def Path.idx : Path → Nat
  | .lf => 0
  | .fm => 1
  | .b3 => 2

/-- The path with that number; numbers above 2 name B3. -/
def Path.ofIdx : Nat → Path
  | 0 => .lf
  | 1 => .fm
  | _ => .b3

/-- A VHF path as a path. -/
def Vhf.path : Vhf → Path
  | .fm => .fm
  | .b3 => .b3

/-- The synthesiser of a VHF path (R26). -/
def Vhf.lo : Vhf → Lo
  | .fm => .lof
  | .b3 => .lob

/-- The path a synthesiser serves (R26). -/
def Lo.vhf : Lo → Vhf
  | .lof => .fm
  | .lob => .b3

/-- The instance number of a synthesiser's page (R278). -/
def Lo.idx : Lo → Nat
  | .lof => 0
  | .lob => 1

/-- The number PORT fields show (R281, R291). -/
def Port.idx : Port → Nat
  | .spi => 0
  | .twoWire => 1

namespace Machine

/-! ## Elements of fixed arrays -/

/-- Element `i` of `v`, or `d` beyond its end. -/
def at' {α : Type} {n : Nat} (v : Vector α n) (i : Nat) (d : α) : α := v.toList.getD i d

/-- `v` with element `i` replaced by `f` of itself; unchanged beyond its end. -/
def upd {α : Type} {n : Nat} (v : Vector α n) (i : Nat) (f : α → α) : Vector α n :=
  if h : i < n then v.set i (f v[i]) else v

/-- The indices below `n` whose element satisfies `p`. -/
def indices {α : Type} {n : Nat} (v : Vector α n) (p : α → Bool) : List Nat :=
  (v.toList.zipIdx.filter (fun x => p x.1)).map (fun x => x.2)

/-- `x` put into an ordered list, before the elements it may precede. -/
def insertBy {α : Type} (le : α → α → Bool) (x : α) : List α → List α
  | [] => [x]
  | y :: t => if le x y then x :: y :: t else y :: insertBy le x t

/-- A list in order; elements of equal rank keep their order. -/
def sortBy {α : Type} (le : α → α → Bool) (l : List α) : List α := l.foldr (insertBy le) []

/-- Fold a state change over a list. -/
def forEach {α σ : Type} (l : List α) (f : α → σ → σ) (s : σ) : σ := l.foldl (fun t x => f x t) s

/-! ## Register words and fields -/

/-- The stored word of the register at byte address `a`. -/
def State.word (s : State) (a : Nat) : Word := s.regs.read a

/-- `s` with the stored word at `a` set. -/
def State.setWord (s : State) (a : Nat) (w : Word) : State := { s with regs := s.regs.write a w }

/-- The bits of a field at `lo` of `width` bits. -/
def fieldMask (lo width : Nat) : Word := BitVec.ofNat 32 ((2 ^ width - 1) * 2 ^ lo)

/-- The value of a field in a word. -/
def fieldOf (w : Word) (lo width : Nat) : Nat := (w.toNat / 2 ^ lo) % 2 ^ width

/-- `w` with a field set to `v` (its low `width` bits). -/
def withField (w : Word) (lo width v : Nat) : Word :=
  BitVec.ofNat 32 (w.toNat - fieldOf w lo width * 2 ^ lo + (v % 2 ^ width) * 2 ^ lo)

/-- The value a field holds. -/
def State.get (s : State) (f : Field) : Nat := fieldOf (s.word f.addr) f.lo f.width

/-- The signed value a field holds. -/
def State.geti (s : State) (f : Field) : Int := toSigned f.width (s.get f)

/-- Whether a one-bit field is set. -/
def State.flag (s : State) (f : Field) : Bool := s.get f == 1

/-- `s` with a field set to a number. -/
def State.set (s : State) (f : Field) (v : Nat) : State := s.setWord f.addr (withField (s.word f.addr) f.lo f.width v)

/-- `s` with a field set to a signed number. -/
def State.seti (s : State) (f : Field) (v : Int) : State := s.set f (ofSigned f.width v)

/-- `s` with a one-bit field set or cleared. -/
def State.put (s : State) (f : Field) (b : Bool) : State := s.set f b.toNat

/-- A counter field advanced by `k`, wrapping. -/
def State.bump (s : State) (f : Field) (k : Nat := 1) : State := s.set f (s.get f + k)

/-- A counter field advanced by `k`, saturating at its greatest value. -/
def State.bumpSat (s : State) (f : Field) (k : Nat := 1) : State := s.set f (satAdd (2 ^ f.width - 1) (s.get f) k)

/-- The low 32 bits of a number, as a word. -/
def lowWord (n : Nat) : Word := BitVec.ofNat 32 n

/-- `n` bytes of text packed four to a word, byte 0 in the low byte; missing bytes read 0. -/
def packBytes (bytes : List Nat) (word : Nat) : Word :=
  BitVec.ofNat 32 ((List.range 4).foldl (fun n i => n + (bytes.getD (4 * word + i) 0 % 256) * 2 ^ (8 * i)) 0)

/-- A word made of fields: each its lowest bit, width and value. -/
def wordOf (fields : List (Nat × Nat × Nat)) : Word :=
  BitVec.ofNat 32 (fields.foldl (fun n f => n + (f.2.2 % 2 ^ f.2.1) * 2 ^ f.1) 0)

/-! ## Time -/

/-- Ticks in one epoch (R15). -/
def epochTicks : Nat := 163840

/-- `SYS.EPOCH` (R15). -/
def State.epoch (s : State) : Nat := s.time / epochTicks

/-- The tick count at boundary `e` (R15). -/
def boundaryTick (e : Nat) : Nat := e * epochTicks

/-! ## Free values and rounding -/

/-- A value the manual leaves open, `w` bits wide, and the state with it used up (log entry 3). -/
def State.fresh (s : State) (w : Nat) : Nat × State := ((Config.freeValue w s.free).toNat, { s with free := s.free + 1 })

/-- `num / den` to the nearest integer; a tie goes the way `Config.tieUp` says (log entry 4). -/
def roundDiv (num den : Int) : Int :=
  let q := num / den
  let r := num % den
  if 2 * r < den then q else if den < 2 * r then q + 1 else if Config.tieUp num then q + 1 else q

/-- `⌈a / b⌉` of naturals. -/
def ceilDiv (a b : Nat) : Nat := (a + b - 1) / b

/-- The mean of a list of integers, rounded; 0 of none. -/
def mean (l : List Int) : Int := if l.isEmpty then 0 else roundDiv l.sum l.length

/-- The smallest of `d` and the list's elements. -/
def minimum (d : Nat) (l : List Nat) : Nat := l.foldl min d

/-- The greatest of `d` and the list's elements. -/
def maximum (d : Int) (l : List Int) : Int := l.foldl max d

/-- 1000 · log₁₀ of `num` / `den`, rounded down, found bit by bit. -/
def centibel (num den : Nat) : Int :=
  (List.range 15).reverse.foldl (fun q b =>
    let e := q + 2 ^ b
    if den ^ 1000 * 10 ^ e.toNat ≤ num ^ 1000 * 10 ^ (-e).toNat then e else q) (-16384)

end Machine

end Sys2Proof
end

