-- ==== Sys2Proof/Machine/Flags.lean ====
section
/-!
DEFINITION. Events, change flags, the interrupt condition and result windows: every flag rule of the register model (chapter 11).
-/

namespace Sys2Proof.Machine

/-! ## Events (R287, R288) -/

/-- The event pages of R288: page code, base and count of its events. -/
def eventPages : List (Nat × Nat × Nat) := [
  (0x000, 0, 8), (0x001, 8, 8), (0x002, 16, 8), (0x003, 24, 8), (0x004, 32, 8), (0x008, 40, 8), (0x009, 48, 8), (0x00A, 56, 8),
  (0x00B, 64, 8), (0x00C, 72, 4), (0x00D, 76, 4), (0x010, 80, 4), (0x011, 84, 4), (0x012, 88, 4), (0x014, 92, 4), (0x018, 96, 16),
  (0x020, 112, 2), (0x021, 114, 2), (0x022, 116, 2), (0x023, 118, 2), (0x024, 120, 2), (0x025, 122, 2), (0x026, 124, 2),
  (0x027, 126, 2), (0x028, 128, 2), (0x029, 130, 2), (0x02A, 132, 2), (0x02B, 134, 2), (0x02C, 136, 2), (0x02D, 138, 2),
  (0x030, 140, 4), (0x031, 144, 4), (0x032, 148, 4), (0x033, 152, 4), (0x034, 156, 4), (0x035, 160, 4), (0x038, 164, 4),
  (0x039, 168, 4), (0x03A, 172, 4), (0x040, 176, 4), (0x048, 180, 4), (0x049, 184, 4), (0x04A, 188, 4), (0x04B, 192, 4),
  (0x04C, 196, 4), (0x050, 200, 2), (0x051, 202, 2), (0x052, 204, 2), (0x053, 206, 2), (0x054, 208, 4), (0x055, 212, 4),
  (0x058, 216, 4), (0x060, 220, 4), (0x061, 224, 4), (0x062, 228, 4), (0x068, 232, 4), (0x069, 236, 2), (0x06A, 238, 4),
  (0x070, 242, 4), (0x071, 246, 4), (0x072, 250, 4), (0x073, 254, 2)]

/-- Whether a register page with that code exists (R275, R288). -/
def isRegPage (p : Nat) : Bool := eventPages.any (fun e => Nat.beq e.1 p)

/-- The number of events of a page. -/
def eventCount (p : Nat) : Nat := ((eventPages.find? (fun e => Nat.beq e.1 p)).map (fun e => e.2.2)).getD 0

/-- Pages with reserved event bits, the dashes of R434, and the mask of their other bits. -/
def reservedEvents : List (Nat × Nat) := [
  (0x001, 0xDF), (0x008, 0x3C), (0x009, 0x3F), (0x00A, 0x3F), (0x00B, 0x07), (0x00D, 0x07), (0x010, 0x03), (0x011, 0x03), (0x012, 0x03),
  (0x018, 0x7FF), (0x03A, 0x07), (0x060, 0x03), (0x061, 0x03), (0x072, 0x07)]

/-- Addresses of a page's EV_RAW and EV_EN (R277). -/
def evRawAddr (p : Nat) : Nat := p * 4096 + 0x10
def evEnAddr (p : Nat) : Nat := p * 4096 + 0x14

/-- The page of global event `g` (R288). -/
def eventPage (g : Nat) : Nat :=
  ((eventPages.find? (fun e => Nat.ble e.2.1 g && Nat.blt g (e.2.1 + e.2.2))).map (fun e => e.1)).getD 0

/-- The bit of global event `g` on its page (R288). -/
def eventBit (g : Nat) : Nat :=
  ((eventPages.find? (fun e => Nat.ble e.2.1 g && Nat.blt g (e.2.1 + e.2.2))).map (fun e => g - e.2.1)).getD 0

/-- The EV_RAW bit of event `g`. -/
def evRaw (g : Nat) : Field := ⟨evRawAddr (eventPage g), eventBit g, 1⟩

/-- Pages whose events and results the control cores raise (R290). -/
def controlCorePages : List Nat := [0x018, 0x040, 0x04C, 0x068, 0x069, 0x06A, 0x070, 0x071, 0x072]

/-- Script `n` is triggered: its pending flag sets, or the trigger is merged; while the port is disabled it is counted and not run
(R321, R322). -/
def triggerScript (n : Nat) (s : State) : State :=
  if s.flag Fld.TWC.STAT.DISABLED || s.twc.order.contains n then s.bumpSat Fld.TWC.SKIP_CNT.COUNT
  else { s with twc := { s.twc with order := s.twc.order ++ [n] } }

/-- Every script armed for event `g` is triggered (R322); events 228–231 trigger none. -/
def triggerScripts (g : Nat) (s : State) : State :=
  if 228 ≤ g ∧ g ≤ 231 then s
  else forEach (List.range 16) (fun n t =>
    if t.flag (Fld.TWC.SCR_CFG.EN n) && t.get (Fld.TWC.SCR_CFG.EVENT n) == g then triggerScript n t else t) s

/-- Event `g` occurs: its EV_RAW bit sets and scripts armed for it are triggered (R287, R322). -/
def occur (g : Nat) (s : State) : State := triggerScripts g (s.put (evRaw g) true)

/-- Event `g` is raised; during a control-plane pause an event of the control cores follows after it (R290). -/
def raise (g : Nat) (s : State) : State :=
  if s.fab.pause.isSome && controlCorePages.contains (eventPage g) then
    { s with fab := { s.fab with lateEvents := s.fab.lateEvents ++ [g] } }
  else occur g s

/-- Raise `g` when `c` holds. -/
def raiseIf (c : Bool) (g : Nat) (s : State) : State := if c then raise g s else s

/-- The pending events of a page: RAW AND EN (R287). -/
def pendingOf (s : State) (p : Nat) : Nat := ((s.word (evRawAddr p)) &&& (s.word (evEnAddr p))).toNat

/-- Whether any event is pending (R289). -/
def anyPending (s : State) : Bool := eventPages.any (fun e => pendingOf s e.1 != 0)

/-- Whether global event `g` is pending. -/
def isPending (s : State) (g : Nat) : Bool := (pendingOf s (eventPage g)).testBit (eventBit g)

/-- The lowest pending global event, 0x100 if there is none (R291 FIRST). -/
def firstPending (s : State) : Nat :=
  match eventPages.find? (fun e => pendingOf s e.1 != 0) with
  | some e => e.2.1 + (lowest 32 (fun b => (pendingOf s e.1).testBit b)).getD 0
  | none => 0x100

/-- The word of EV_SUMk (R289). -/
def eventSummary (s : State) (k : Nat) : Word :=
  BitVec.ofNat 32 (eventPages.foldl (fun n e =>
    if e.2.1 / 32 = k then n + pendingOf s e.1 * 2 ^ (e.2.1 % 32) else n) 0)

/-- A change flag sets; the page's CHANGE event is raised if the flag's CHG_EN bit is 1 (R162, R192, R226). -/
def setChange (f : Field) (enable : Nat) (g : Nat) (s : State) : State :=
  raiseIf ((s.word enable).getLsbD f.lo) g (s.put f true)

/-- `setChange` when `c` holds. -/
def changeIf (c : Bool) (f : Field) (enable : Nat) (g : Nat) (s : State) : State := if c then setChange f enable g s else s

/-! ## Result windows (R283 to R286) -/

/-- The windows by number: header address, ACK address. 0 AGC check; 1–3 survey FM, B3, LF; 4–11 FMFn; 12–17 AMFn; 18–21 PGMn
ALIGN; 22 TWC; 23 NVS; 24 FWU; 25 BST; 26 TEL. -/
def windowAddrs : List (Nat × Nat) := [
  (0x00B080, 0x00B088), (0x014080, 0x014084), (0x014088, 0x01408C), (0x014090, 0x014094),
  (0x020080, 0x020090), (0x021080, 0x021090), (0x022080, 0x022090), (0x023080, 0x023090), (0x024080, 0x024090),
  (0x025080, 0x025090), (0x026080, 0x026090), (0x027080, 0x027090), (0x028080, 0x028090), (0x029080, 0x029090),
  (0x02A080, 0x02A090), (0x02B080, 0x02B090), (0x02C080, 0x02C090), (0x02D080, 0x02D090), (0x048080, 0x048084),
  (0x049080, 0x049084), (0x04A080, 0x04A084), (0x04B080, 0x04B084), (0x062080, 0x062084), (0x068044, 0x068048),
  (0x06A080, 0x06A084), (0x070080, 0x070084), (0x072080, 0x072084)]

/-- Header address of window `i`. -/
def windowHeader (i : Nat) : Nat := ((windowAddrs.getD i (0, 0))).1

/-- SEQ, VALID and OVERFLOW of window `i`. -/
def windowSeq (i : Nat) : Field := ⟨windowHeader i, 0, 8⟩
def windowValid (i : Nat) : Field := ⟨windowHeader i, 8, 1⟩
def windowOverflow (i : Nat) : Field := ⟨windowHeader i, 9, 1⟩

/-- The window whose ACK register stands at address `a`. -/
def ackWindow? (a : Nat) : Option Nat := lowest 27 (fun i => (windowAddrs.getD i (0, 0)).2 == a)

/-- The SEQ after `n`: 1 to 255, then 1 again (R283). -/
def nextSeq (n : Nat) : Nat := if 255 ≤ n then 1 else n + 1

/-- A result becomes the held one: its words stand in the window's registers, with its SEQ and VALID. -/
def holdResult (i : Nat) (r : Result) (s : State) : State :=
  ((forEach r.words (fun c t => t.setWord c.1 c.2) s).set (windowSeq i) r.seq).put (windowValid i) true

/-- The block posts a result of window `i` (R286); `words` are the words of its header (without SEQ, VALID, OVERFLOW) and data
registers. Any OVERFLOW of the telemetry window raises TEL.OVERFLOW (R401). -/
def postNow (i : Nat) (words : List (Nat × Word)) (s : State) : State :=
  let w := at' s.fab.windows i {}
  let r : Result := { seq := nextSeq w.last, words := words }
  let keep (f : Window → Window) (t : State) : State := { t with fab := { t.fab with windows := upd t.fab.windows i f } }
  if s.flag (windowValid i) then
    raiseIf (i == 26) Ev.TEL.OVERFLOW
      ((keep (fun v => { v with last := r.seq, side := some r, lost := v.lost || v.side.isSome }) s).put (windowOverflow i) true)
  else holdResult i r (keep (fun v => { v with last := r.seq }) s)

/-- `postNow`; a window fed by the control cores posts after a control-plane pause (R290). -/
def postResult (i : Nat) (words : List (Nat × Word)) (s : State) : State :=
  if s.fab.pause.isSome && controlCorePages.contains (windowHeader i / 4096) then
    { s with fab := { s.fab with lateResults := s.fab.lateResults ++ [(i, words)] } }
  else postNow i words s

/-- A write to the ACK register of window `i` (R285). A survey window's snapshots move with it (R97). -/
def ackResult (i : Nat) (seq : Nat) (s : State) : State :=
  if !(s.flag (windowValid i)) || s.get (windowSeq i) != seq then s
  else
    let w := at' s.fab.windows i {}
    let fab' : Fabric := { s.fab with windows := upd s.fab.windows i (fun v => { v with side := none, lost := false }) }
    match w.side with
    | none => (({ s with fab := fab' }).put (windowValid i) false).put (windowOverflow i) false
    | some r =>
      let t : State := { s with fab := fab', maps := upd s.maps (i - 1) (fun m => if 1 ≤ i then { m with held := m.side } else m) }
      (holdResult i r t).put (windowOverflow i) w.lost

/-! ## Recorded accesses (R276, R291) -/

/-- An access is recorded: ACC_CNT advances, ACC_ERR is raised, and the first since VALID was cleared is kept with its address. -/
def recordAccess (port : Port) (addr : Nat) (cause : Nat) (isWrite : Bool) (s : State) : State :=
  let t := raise Ev.SYS.ACC_ERR (s.bumpSat Fld.SYS.ACC_CNT.COUNT)
  if t.flag Fld.SYS.ACC_ERR.VALID then t
  else t.setWord Reg.SYS.ACC_ERR (wordOf [(0, 24, addr), (24, 3, cause), (27, 1, port.idx), (28, 1, isWrite.toNat), (31, 1, 1)])

end Sys2Proof.Machine
end

