-- ==== Sys2Proof/Machine/Operands.lean ====
section
/-!
DEFINITION. How a written word acts on a register: the field types of R279, the stated treatments of R280, and the keyed fields of
R281 and R433. A treatment is a function from the written value of a field to the value in force.
-/

namespace Sys2Proof.Machine

/-! ## Stated treatments (R280) -/

/-- A treatment of one field of a register (or of the registers of an array). -/
structure Treatment where
  page : Nat
  npages : Nat
  off : Nat
  count : Nat
  lo : Nat
  width : Nat
  rule : Nat → Nat

/-- `n` where the value is `from_`, else the value. -/
def replaceBy (from_ n v : Nat) : Nat := if v = from_ then n else v

/-- A signed value of `w` bits limited to ±`m`. -/
def limitSigned (w : Nat) (m : Int) (v : Nat) : Nat := ofSigned w (clampInt (-m) m (toSigned w v))

/-- The treatments the chapters state, field by field. -/
def treatments : List Treatment := [
  -- AGC modes and manual steps (R31)
  ⟨0x00B, 1, 0x008, 1, 0, 2, replaceBy 3 1⟩, ⟨0x00B, 1, 0x008, 1, 2, 2, replaceBy 3 1⟩, ⟨0x00B, 1, 0x008, 1, 4, 2, replaceBy 3 1⟩,
  ⟨0x00B, 1, 0x040, 1, 0, 5, min 23⟩, ⟨0x00B, 1, 0x040, 1, 8, 5, min 23⟩, ⟨0x00B, 1, 0x040, 1, 16, 5, min 23⟩,
  -- front end (R36), injector (R45), coexistence (R49), aerial feed (R52)
  ⟨0x009, 2, 0x008, 1, 0, 2, replaceBy 3 0⟩,
  ⟨0x009, 1, 0x040, 1, 0, 18, fun v => clampNat 68400 103600 (v / 50 * 50)⟩,
  ⟨0x00A, 1, 0x040, 1, 0, 18, fun v => clampNat 178150 235900 (v / 50 * 50)⟩,
  ⟨0x00C, 1, 0x008, 1, 8, 5, min 30⟩,
  ⟨0x00D, 1, 0x008, 1, 8, 8, max 1⟩,
  ⟨0x001, 1, 0x0C0, 1, 8, 5, min 20⟩,
  -- clock outputs (R78), rank filter (R98)
  ⟨0x002, 1, 0x060, 3, 0, 12, max 1⟩,
  ⟨0x010, 3, 0x04C, 1, 0, 8, max 8⟩, ⟨0x010, 3, 0x04C, 1, 8, 8, max 8⟩,
  -- lane manager and offset estimator (R132, R135)
  ⟨0x018, 1, 0x064, 1, 0, 16, clampNat 1000 60000⟩,
  ⟨0x040, 1, 0x008, 1, 0, 2, replaceBy 3 1⟩,
  ⟨0x040, 1, 0x050, 2, 0, 32, limitSigned 32 30000⟩,
  -- FM lanes and RDS (R160, R161)
  ⟨0x020, 8, 0x008, 1, 4, 2, min 2⟩,
  ⟨0x020, 8, 0x048, 1, 16, 8, clampNat 10 150⟩,
  ⟨0x020, 8, 0x204, 1, 8, 8, max 1⟩,
  ⟨0x038, 1, 0x048, 1, 0, 9, max 1⟩,
  -- AM lanes (R186)
  ⟨0x028, 6, 0x008, 1, 0, 3, fun v => if 5 ≤ v then 0 else v⟩,
  ⟨0x028, 6, 0x008, 1, 8, 5, clampNat 5 16⟩,
  ⟨0x028, 6, 0x044, 1, 0, 8, max 8⟩, ⟨0x028, 6, 0x044, 1, 8, 4, max 1⟩,
  ⟨0x028, 6, 0x204, 1, 0, 5, max 1⟩,
  -- FIC watch and data queues (R220, R225)
  ⟨0x039, 1, 0x04C, 1, 0, 16, max 60⟩,
  ⟨0x058, 1, 0x080, 16, 0, 2, replaceBy 3 0⟩, ⟨0x058, 1, 0x080, 16, 8, 9, min 256⟩, ⟨0x058, 1, 0x080, 16, 20, 12, max 1⟩,
  -- programmes (R228, R253)
  ⟨0x048, 4, 0x040, 4, 0, 3, fun v => if 6 ≤ v then 0 else v⟩,
  ⟨0x048, 4, 0x040, 4, 16, 7, limitSigned 7 30⟩,
  ⟨0x048, 4, 0x050, 1, 0, 2, replaceBy 3 0⟩, ⟨0x048, 4, 0x050, 1, 3, 2, max 1⟩,
  ⟨0x048, 4, 0x054, 1, 0, 7, min 100⟩, ⟨0x048, 4, 0x054, 1, 8, 7, min 100⟩, ⟨0x048, 4, 0x054, 1, 16, 6, min 50⟩,
  -- routing (R273): SRC of each pair
  ⟨0x055, 1, 0x080, 4, 0, 3, fun v => if 5 ≤ v then 0 else v⟩, ⟨0x055, 1, 0x080, 4, 4, 3, fun v => if 5 ≤ v then 0 else v⟩,
  ⟨0x055, 1, 0x080, 4, 8, 3, fun v => if 5 ≤ v then 0 else v⟩, ⟨0x055, 1, 0x080, 4, 12, 3, fun v => if 5 ≤ v then 0 else v⟩,
  -- auxiliary controller (R327), governor (R349), GPIO (R348)
  ⟨0x062, 1, 0x008, 1, 1, 2, replaceBy 3 1⟩,
  ⟨0x001, 1, 0x04C, 1, 8, 8, clampNat 95 110⟩, ⟨0x001, 1, 0x04C, 1, 16, 12, clampNat 50 1000⟩,
  ⟨0x000, 1, 0x0C0, 8, 0, 2, replaceBy 3 0⟩,
  -- regulatory ceilings (R377), confirmation window (R367)
  ⟨0x069, 1, 0x048, 1, 0, 5, min 30⟩, ⟨0x069, 1, 0x04C, 1, 0, 6, min 50⟩, ⟨0x069, 1, 0x050, 1, 0, 5, min 20⟩,
  ⟨0x06A, 1, 0x044, 1, 0, 11, clampNat 1 1440⟩]

/-- Whether a treatment acts on the register at `a`. -/
def Treatment.acts (t : Treatment) (a : Nat) : Bool :=
  let p := a / 4096
  let o := a % 4096
  decide (t.page ≤ p) && decide (p < t.page + t.npages) && decide (t.off ≤ o) && decide ((o - t.off) / 4 < t.count)

/-- The FM blend and high-cut thresholds that take each other's measure (R160): the upper at bit 0, the lower at bit 8. -/
def orderThresholds (w : Word) : Word :=
  let top := fieldOf w 0 8
  if top ≤ fieldOf w 8 8 then withField w 8 8 (top - 1) else w

/-- The word in force after the stated treatments of the register at `a` (R280). -/
def treat (a : Nat) (w : Word) : Word :=
  let w' := (treatments.filter (fun t => t.acts a)).foldl (fun v t => withField v t.lo t.width (t.rule (fieldOf v t.lo t.width))) w
  if (0x20 ≤ a / 4096 ∧ a / 4096 ≤ 0x27) ∧ (a % 4096 = 0x44 ∨ a % 4096 = 0x48) then orderThresholds w' else w'

/-! ## Keyed fields (R281, R433) -/

/-- The bits of the register at `a` that belong to keyed fields (R433). -/
def keyedMask (a : Nat) : Word :=
  if a = 0x060008 then 0x1
  else if a = 0x061008 then 0xFF
  else if a = 0x061040 ∨ a = 0x061044 then 0x37F
  else if a = 0x06A040 then 0xF
  else if a = 0x069040 ∨ a = 0x069054 then 0x1
  else if a = 0x069044 then 0xFF
  else if a = 0x069048 ∨ a = 0x069050 then 0x1F
  else if a = 0x06904C then 0x3F
  else if 0x069100 ≤ a ∧ a < 0x069180 then 0xFFFFFFFF
  else 0

/-- Whether the port holds an open key on page `p`. -/
def keyOpen (s : State) (p : Nat) (port : Port) : Bool := s.fab.keys.any (fun k => k.page == p && k.port == port && k.left != 0)

/-- `s` with the key of page `p` closed. -/
def closeKey (p : Nat) (s : State) : State := { s with fab := { s.fab with keys := s.fab.keys.filter (fun k => k.page != p) } }

/-- A write of LOCKKEY (R281): 0x0000_5EED opens the key for the port that writes, any other value closes it. -/
def writeLockKey (p : Nat) (port : Port) (v : Word) (s : State) : State :=
  let t := closeKey p s
  if v = 0x00005EED then { t with fab := { t.fab with keys := { page := p, port := port, left := 2 } :: t.fab.keys } } else t

/-! ## A write by field type (R279) -/

/-- The value a field takes when `new` is written over `old` (R279); `lock` keeps keyed fields, `sealed_` keeps RWL fields. -/
def writtenField (lock sealed_ : Bool) (f : FieldSpec) (keyed : Bool) (old new : Nat) : Nat :=
  match f.type with
  | .rw | .rwp => if keyed && lock then old else new
  | .rwl => if (keyed && lock) || sealed_ then old else new
  | .w1c => old &&& (2 ^ f.width - 1 - new)
  | .ro | .wo | .sc => old

/-- The word of the register at `a` after `v` is written over `old`, before treatments. -/
def writtenWord (a : Nat) (old v : Word) (lock sealed_ : Bool) : Word :=
  match regSpec a with
  | none => old
  | some r => r.fields.foldl (fun w f =>
      withField w f.lo f.width
        (writtenField lock sealed_ f (fieldOf (keyedMask a) f.lo f.width != 0) (fieldOf old f.lo f.width) (fieldOf v f.lo f.width))) old

/-- Whether the register at `a` has an RWL field. -/
def hasRwl (a : Nat) : Bool :=
  match regSpec a with
  | none => false
  | some r => r.fields.any (fun f => f.type == .rwl)

/-- The write of a register whose effect is that of its field types alone (R279, R280, R281). `key` says whether a key was open for
the port. A keyed field written without it, and an RWL field after SEAL, stay and are recorded, once for one write (R276, log entry 14). -/
def plainWrite (port : Port) (a : Nat) (v : Word) (key : Bool) (s : State) : State :=
  let isSealed := s.flag Fld.RGL.SEAL.SEALED
  let s1 := if keyedMask a ≠ 0 ∧ !key then recordAccess port a 3 true s
    else if hasRwl a && isSealed then recordAccess port a 4 true s else s
  s1.setWord a (treat a (writtenWord a (s1.word a) v (!key) isSealed))

/-! ## Firmware-served registers (R290, R432) -/

/-- TUNE, ASSIGN and selection registers of the lane and watch pages, and the further registers R290 and R432 name. -/
def servedByFirmware (a : Nat) : Bool :=
  let p := a / 4096
  let o := a % 4096
  if o < 0x24 ∧ o ≠ 0x008 ∧ o ≠ 0x00C then false
  else if controlCorePages.contains p then true
  else if 0x020 ≤ p ∧ p ≤ 0x02D ∨ p = 0x030 ∨ p = 0x031 ∨ p = 0x032 ∨ p = 0x033 ∨ p = 0x034 ∨ p = 0x035 then
    o = 0x040 || (decide (0x030 ≤ p) && decide (p ≤ 0x033) && decide (0x044 ≤ o) && decide (o < 0x074))
      || ((p == 0x034 || p == 0x035) && decide (0x044 ≤ o) && decide (o < 0x054))
  else if p = 0x038 then o == 0x040 || o == 0x058
  else if p = 0x039 ∨ p = 0x03A then o == 0x040
  else if 0x048 ≤ p ∧ p ≤ 0x04B then (decide (0x040 ≤ o) && decide (o < 0x054))
  else if p = 0x000 then o == 0x044 || o == 0x048 || o == 0x068
  else if p = 0x001 then o == 0x04C
  else if p = 0x00B then o == 0x008 || o == 0x040 || o == 0x050
  else if 0x008 ≤ p ∧ p ≤ 0x00A then o == 0x008 || o == 0x040
  else if p = 0x003 ∨ p = 0x004 then o == 0x008 || o == 0x060
  else if p = 0x058 then (decide (0x080 ≤ o) && decide (o < 0x0C0))
  else false

end Sys2Proof.Machine
end

