-- ==== Sys2Proof/Machine/Plan.lean ====
section
/-!
DEFINITION. The epoch plan (R17 to R24): which boundary a change is placed on, what an announcement and a cancellation do to the
plan, and its order. What a change does when it is announced or committed stands with its originator.
-/

namespace Sys2Proof.Machine

/-- The kind code of a change (R19). -/
def Change.kind : Change → Nat
  | .gain _ _ _ => 0x01
  | .freq _ _ _ _ => 0x02
  | .lo _ r => match r.kind with
    | .hop => 0x03
    | .retune => 0x04
    | .cal => 0x0A
  | .band _ _ => 0x05
  | .tune _ _ _ _ => 0x06
  | .release _ => 0x06
  | .afc _ _ => 0x06
  | .root _ => 0x07
  | .pod _ => 0x08
  | .handover => 0x09

/-- The target code of a change (R24). -/
def Change.target : Change → Nat
  | .gain p _ _ => p.idx
  | .freq _ _ _ _ => 0
  | .lo l _ => l.vhf.path.idx
  | .band v _ => v.path.idx
  | .tune l _ _ _ => l
  | .release l => l
  | .afc l _ => l
  | .root slot => slot
  | .pod m => m
  | .handover => 0

/-- The place of a kind in the order of application on one boundary (R20.4). -/
def kindOrder (k : Nat) : Nat :=
  match k with
  | 0x02 => 0
  | 0x03 => 1
  | 0x04 => 1
  | 0x0A => 2
  | 0x01 => 3
  | 0x05 => 4
  | 0x06 => 5
  | 0x07 => 6
  | 0x08 => 7
  | _ => 8

/-- First class of R22: all but lane NCO retunes, sprout roots and pod starts. -/
def firstClass (c : Change) : Bool := !([0x06, 0x07, 0x08].contains c.kind)

/-- A frequency epoch (R20.2). -/
def isFreq (c : Change) : Bool := c.kind == 0x02

/-- An LO hop, LO retune, span or tile switch or forced calibration: what a frequency epoch shares no boundary with (R20.2). -/
def isFrontEnd (c : Change) : Bool := [0x03, 0x04, 0x05, 0x0A].contains c.kind

/-- A rebase step, each on a boundary of its own (R74.4). -/
def isRebase (c : Change) : Bool := match c with | .freq _ _ _ .rebase => true | _ => false

/-- Same kind and same target (R20.1). -/
def sameKindTarget (a b : Change) : Bool := a.kind == b.kind && a.target == b.target

/-- Whether `c` may stand on boundary `b` beside the plan's entries: an announced entry of its kind and target keeps the boundary
(R20.1); a frequency epoch stands with no LO or front-end change, and none of these with an announced frequency epoch (R20.2). The
steps of a rebase take consecutive boundaries, so none replaces another (R74.4; DEDUCED, log entry 35). -/
def mayStand (plan : List Entry) (c : Change) (b : Nat) : Bool :=
  plan.all (fun e => e.at_ != b ||
    (!(e.announced && sameKindTarget e.change c) && !(isFreq c && isFrontEnd e.change)
      && !(isFrontEnd c && isFreq e.change && e.announced) && !(isRebase c && isRebase e.change)))

/-- The earliest boundary from `e` on on which every change of `cs` may stand. At most 64 entries can stand in the way. -/
def earliestLegal (plan : List Entry) (cs : List Change) (e : Nat) : Nat :=
  e + ((List.range 65).find? (fun k => cs.all (fun c => mayStand plan c (e + k)))).getD 65

/-- The entry `x` put into the plan behind those that come before it: earlier boundaries, then R20's order, then target (R24; that
entries of one boundary and kind stand by target is the model's, DESIGN CHOICE, log entry 95). -/
def insertEntry (x : Entry) : List Entry → List Entry
  | [] => [x]
  | e :: t =>
    if e.at_ < x.at_ ∨ (e.at_ = x.at_ ∧ (kindOrder e.change.kind < kindOrder x.change.kind ∨
        (e.change.kind = x.change.kind ∧ e.change.target ≤ x.change.target)))
    then e :: insertEntry x t else x :: e :: t

/-- `c` placed on boundary `b`: it replaces an unannounced entry of its kind and target there (R20.1). -/
def placeAt (plan : List Entry) (c : Change) (b : Nat) : List Entry :=
  insertEntry { at_ := b, announced := false, change := c }
    (plan.filter (fun e => !(e.at_ == b && sameKindTarget e.change c && !e.announced)))

/-- Unannounced frequency epochs that share boundary `b` with an LO or front-end change move to the next boundary that holds none
of these (R20.2). -/
def moveFreq (plan : List Entry) (b : Nat) : List Entry :=
  if plan.any (fun e => e.at_ == b && isFrontEnd e.change) then
    match plan.find? (fun e => e.at_ == b && isFreq e.change && !e.announced) with
    | some e =>
      let rest := plan.filter (fun x => !(x.at_ == b && isFreq x.change && !x.announced))
      placeAt rest e.change (earliestLegal rest [e.change] (b + 1))
    | none => plan
  else plan

/-- Places the changes of `cs` together on the earliest legal boundary from `want` on (R18, R20). -/
def place (cs : List Change) (want : Nat) (s : State) : State :=
  let b := earliestLegal s.plan cs (max want (s.epoch + 2))
  { s with plan := moveFreq (cs.foldl (fun p c => placeAt p c b) s.plan) b }

/-- The boundary of the plan's entry of a kind and target, if there is one. -/
def plannedAt (s : State) (kind target : Nat) : Option Nat :=
  (s.plan.find? (fun e => e.change.kind == kind && e.change.target == target)).map (fun e => e.at_)

/-- OFS.EPOCH_PLAN and STEP_PPB show the next frequency epoch (R129, R135, R20.2). -/
def showFreqPlan (s : State) : State :=
  match s.plan.find? (fun e => isFreq e.change) with
  | some e =>
    let step := match e.change with
      | .freq sys _ _ .estimator => sys
      | .freq sys _ _ .rebase => sys
      | _ => 0
    (s.set Fld.OFS.EPOCH_PLAN.EPOCH e.at_).seti Fld.OFS.STEP_PPB.PPB step
  | none => (s.set Fld.OFS.EPOCH_PLAN.EPOCH 0).set Fld.OFS.STEP_PPB.PPB 0

/-- The plan has room for the changes of `cs` (R22); one that replaces an entry needs no place. -/
def fits (cs : List Change) (want : Nat) (s : State) : Bool := decide ((place cs want s).plan.length ≤ 64)

/-- The waiting request that takes the next free place: the oldest of the first class, else the oldest of the second (R22). -/
def nextWaiting (s : State) : Option (Nat × List Change) :=
  (s.planWait.find? (fun x => x.2.any firstClass)).orElse (fun _ => s.planWait.head?)

/-- The request whose turn it is takes its places, all of them or none (R20.2, R22). -/
def servePlan (s : State) : State :=
  match nextWaiting s with
  | some x => if fits x.2 x.1 s then showFreqPlan (place x.2 x.1 { s with planWait := s.planWait.erase x }) else s
  | none => s

/-- Requests are served in turn while the next of them fits; at most `n` of them. -/
def serveWaiting : Nat → State → State
  | 0, s => s
  | n + 1, s => serveWaiting n (servePlan s)

/-- The changes of `cs`, which move together, need places (R18, R20, R22): they take them where the plan has room and no request that
comes before them waits, else they wait, and the deferral counter advances once for the request (R23; DESIGN CHOICE, log entry 96). A
frequency epoch is posted in no control-plane pause: it is held until the pause ends (R8). -/
def postAll (cs : List Change) (want : Nat) (s : State) : State :=
  if s.fab.pause.isSome && cs.any isFreq then { s with planHeld := s.planHeld ++ [(want, cs)] }
  else if s.planWait.isEmpty && fits cs want s then showFreqPlan (place cs want s)
  else
    let t := serveWaiting (s.planWait.length + 1) { s with planWait := s.planWait ++ [(want, cs)] }
    if t.planWait.getLast? = some (want, cs) then t.bump Fld.SYS.SCHED_STAT.DEFERRED else t

/-- An originator posts a change for the boundary `want` or the earliest legal one after it (R18). -/
def post (c : Change) (want : Nat) (s : State) : State := postAll [c] want s

/-- An originator posts a change for the earliest legal boundary. -/
def postSoon (c : Change) (s : State) : State := post c 0 s

/-- The next set of an LO is moved into force or discarded (R60). -/
def clearNext (l : Lo) (s : State) : State :=
  (((s.set (Fld.LO.NEXT_INT.N l.idx) 0).set (Fld.LO.NEXT_FRAC.F l.idx) 0).set (Fld.LO.NEXT_ODIV.D l.idx) 0).set
    (Fld.LO.NEXT_EPOCH.EPOCH l.idx) 0

/-- The next sets that a change has had loaded are discarded (R60). -/
def discardNext (c : Change) (s : State) : State :=
  match c with
  | .lo l _ => clearNext l s
  | .freq _ _ _ _ => clearNext .lob (clearNext .lof s)
  | _ => s

/-- Waiting requests without the changes that satisfy `p`. -/
def dropWaiting (p : Change → Bool) (l : List (Nat × List Change)) : List (Nat × List Change) :=
  (l.map (fun x => (x.1, x.2.filter (fun c => !(p c))))).filter (fun x => !(x.2.isEmpty))

/-- The entries that satisfy `p` are cancelled for all consumers (R17), with the next sets of those announced (R60); requests of the
same description no longer wait. -/
def cancelEntries (p : Change → Bool) (s : State) : State :=
  let t := forEach (s.plan.filter (fun e => e.announced && p e.change)) (fun e u => discardNext e.change u) s
  showFreqPlan { t with plan := t.plan.filter (fun e => !(p e.change)), planWait := dropWaiting p t.planWait,
                        planHeld := dropWaiting p t.planHeld }

/-- Unannounced entries that satisfy `p` are withdrawn (R30.4). -/
def withdrawUnannounced (p : Change → Bool) (s : State) : State :=
  { s with plan := s.plan.filter (fun e => e.announced || !(p e.change)), planWait := dropWaiting p s.planWait }

/-- Whether an entry or waiting request satisfies `p`. -/
def isPlanned (p : Change → Bool) (s : State) : Bool :=
  s.plan.any (fun e => p e.change) || s.planWait.any (fun x => x.2.any p) || s.planHeld.any (fun x => x.2.any p)

/-- The entries of the boundary just crossed leave the plan; they apply in R20's order. -/
def dueEntries (s : State) : List Entry := s.plan.filter (fun e => decide (e.at_ ≤ s.epoch))

/-- The words of SCHED_VIEW entry `i` (R24). -/
def schedWord (s : State) (i w : Nat) : Word :=
  match s.plan[i]? with
  | none => 0
  | some e => if w = 0 then lowWord e.at_ else wordOf [(0, 8, e.change.kind), (8, 8, e.change.target), (16, 1, e.announced.toNat)]

end Sys2Proof.Machine
end

