-- ==== Sys2Proof/Machine/Settle.lean ====
section
/-!
DEFINITION. What holds after every command: the output pins follow the states and registers (R46, R51, R70, R77, R263, R289, R313,
R331, R347, R411), and the queue of commands is the sender's. And how a host write reaches its register (R276, R281, R290, R366).
-/

namespace Sys2Proof.Machine

/-- The state code of R331, and of a request (R334). -/
def Mode.code : Mode → Nat
  | .boot => 0x01
  | .quiet => 0x02
  | .watch => 0x03
  | .full => 0x04
  | .hold => 0x05
  | .safe => 0x06
  | .recovery => 0x07
  | .sleep => 0x08
  | .off => 0x09

/-- Whether an accepted commit is in force (R342). -/
def State.committed (s : State) : Bool := s.flag Fld.SYS.CFG_STATUS.COMMITTED

/-- WATCH or FULL. -/
def State.receiving (s : State) : Bool := s.pwr.mode == .watch || s.pwr.mode == .full

/-- QUIET, WATCH or FULL. -/
def State.running (s : State) : Bool := s.pwr.mode == .quiet || s.receiving

/-- States in which the register fabric serves the host ports (R301, R341, R366, R411). -/
def State.served (s : State) : Bool :=
  !(s.pwr.mode == .off || s.pwr.mode == .sleep || s.pwr.mode == .boot) && s.pwr.vddio

/-! ## The pins -/

/-- A pin driven to a level; an open drain never drives high (R346, R414). -/
def drive (od level : Bool) : Pin := if level then (if od then .hiZ else .high) else .low

/-- IRQ_N (R289); in RECOVERY only the FWU events count (R366). -/
def irqAsserted (s : State) : Bool :=
  s.served && (s.flag Fld.SYS.IRQ_CTRL.FORCE ||
    (s.flag Fld.SYS.IRQ_CTRL.EN && (if s.pwr.mode == .recovery then pendingOf s 0x06A != 0 else anyPending s)))

/-- LOCK_A (R70): it sinks while the phase error stands outside the lock window, the reference is absent or PLL-S coasts. -/
def lockPin (s : State) : Pin :=
  if s.pwr.mode == .off || s.pwr.mode == .sleep || (s.pwr.mode == .boot && s.pwr.stage != .ready) then .hiZ
  else if !s.loops.sys.phaseOut && s.flag Fld.CLK.STAT.REF_VALID && !(s.flag Fld.CLK.STAT.COAST) then .hiZ else .low

/-- COEX_REQ (R46). -/
def coexPin (s : State) : Pin :=
  if s.committed && s.receiving then drive false (s.flag Fld.COX.STAT.REQ != s.flag Fld.COX.CTRL.REQ_POL) else .hiZ

/-- The aerial feed (R51). -/
def aerialOn (s : State) : Bool :=
  s.flag Fld.PMU.AER_CTRL.EN && s.committed && s.receiving
    && !(s.flag Fld.PMU.AER_STAT.LATCHED_OFF) && !(s.flag Fld.PMU.AER_STAT.THERMAL)

/-- Whether CLKOUTn runs (R75 to R77): the settings in force enable it, and an output of the reference has one. -/
def clkoutRuns (s : State) (n : Nat) : Bool :=
  let w := BitVec.ofNat 32 (at' s.loops.clkNow n 0)
  s.committed && s.running && w.getLsbD 13 && (!w.getLsbD 12 || s.flag Fld.CLK.STAT.REF_VALID)

/-- The level of a GPIO pin (R331, R346, R347). -/
def gpioPin (s : State) (n : Nat) : Pin :=
  if s.committed && s.running then
    let od := s.flag (Fld.SYS.GPIO_CFG.OD n)
    match s.get (Fld.SYS.GPIO_CFG.FUNC n) with
    | 1 => drive od (s.flag (Fld.SYS.GPIO_CFG.OUT n))
    | 2 => drive od (s.flag Fld.SYS.WAKE_CFG.ASSERTED == s.flag (Fld.SYS.GPIO_CFG.POL n))
    | _ => .hiZ
  else .hiZ

/-- Whether AOPn_DOUT is driven (R263): in FULL after a commit, and to the end of the last frame of a port that stops. -/
def doutDriven (s : State) (n : Nat) : Bool :=
  s.committed && (s.pwr.mode == .full || (at' s.audio.ports n {}).stopping)

/-- Whether the auxiliary controller drives its lines (R313). -/
def auxDrives (s : State) : Bool :=
  s.committed && s.running && s.flag Fld.TWC.CTRL.EN && !(s.flag Fld.TWC.STAT.DISABLED)

/-- The feed's current limit in force, mA (R51). -/
def aerialCurrentLimit (s : State) : Nat :=
  min (min (5 * s.get Fld.PMU.AER_CTRL.ILIM) (5 * s.get Fld.RGL.AER_ILIM_CEIL.STEPS)) 100

/-- The injected frequency in units of 163.84 MHz / 2³² by zone; `none` for zone 0 or an NCO word with bit 31 set (R44, R45). -/
def injFreq (s : State) : Option Nat :=
  let w := s.get Fld.INJ.FREQ.W
  if 2 ^ 31 ≤ w then none
  else match s.get Fld.INJ.CTRL.ZONE with
    | 1 => some w
    | 2 => some (2 ^ 32 - w)
    | 3 => some (2 ^ 32 + w)
    | _ => none

/-- The lower band edge of a path, kHz (R26). -/
def lowerEdge : Path → Nat
  | .lf => 144
  | .fm => 64000
  | .b3 => 174000

/-- The tone of a gain-table check (R41): −70 dBm, which is level index 15, 1.25 MHz above the path's lower band edge. -/
def checkTone (p : Path) : InjOut := { freq := (lowerEdge p + 1250) * 2 ^ 17, level := 15 }

/-- What the injector adds at RF_IN: the tone of a check whose window is in progress (DEDUCED, log entry 27), else its own signal. -/
def injected (s : State) : Option InjOut :=
  if !s.receiving then none
  else match s.aux.check.bind (fun c => c.start.map (fun _ => c.path)) with
    | some p => some (checkTone p)
    | none => if s.flag Fld.INJ.STAT.ACTIVE then
        (injFreq s).map (fun n => { freq := 5 * n, level := s.get Fld.INJ.STAT.LEVEL_NOW, shaped := s.aux.shapedNow })
      else none

/-- The output pins of a state. While VDDIO is absent every VDDIO-domain output is high-impedance (R411). -/
def pinsOf (s : State) : Pins :=
  let io (p : Pin) : Pin := if s.pwr.vddio then p else .hiZ
  { irqN := io (if irqAsserted s then .low else .hiZ)
    lockA := io (lockPin s)
    coexReq := io (coexPin s)
    lockPulses := if s.pwr.vddio && lockPin s == .hiZ then s.loops.sys.outCycles else 0
    aerial := aerialOn s
    aerialLimit := if aerialOn s then aerialCurrentLimit s else 0
    injector := injected s
    clkout := Vector.ofFn (fun (n : Fin 3) => io (if clkoutRuns s n.val then .high else .low))
    dout := Vector.ofFn (fun (n : Fin 4) => doutDriven s n.val && s.pwr.vddio)
    gpio := Vector.ofFn (fun (n : Fin 8) => io (gpioPin s n.val))
    auxPort := auxDrives s && s.pwr.vddio }

/-- The pins follow. -/
def settle (s : State) : State := { s with pwr := { s.pwr with pins := pinsOf s } }

/-- The state a command leaves: `t` with the pins settled and the queue of `s`, which no command touches. -/
def finish (s t : State) : State := { settle t with pending := s.pending }

/-- The outcome of a command with effect `t` on `s`. -/
def commit (s t : State) : Host.Outcome State Fault Refusal := .next (finish s t)

/-- With no command waiting, one tick of the sample clock passes (R14), up to the last tick before the next boundary: crossing it is
the command EPOCH_BOUNDARY (log entry 1). The clock runs from the lock of PLL-S in BOOT until the stop. -/
def idle (s : State) : State :=
  if s.pwr.mode == .off || s.pwr.mode == .sleep || (s.pwr.mode == .boot && s.pwr.stage != .ready)
      || (s.time + 1) % epochTicks = 0 then s
  else { s with time := s.time + 1 }

/-! ## Host writes -/

/-- The SYS registers that RECOVERY serves beside the page header (R366). -/
def recoverySys : List Nat := [0x40, 0x60, 0x64, 0x6C, 0x80, 0x84, 0x88, 0x8C, 0x90, 0x94, 0x98, 0x9C, 0xA0, 0xA8, 0xAC]

/-- Pages with a register or data window behind them (R275). -/
def isPage (p : Nat) : Bool := isRegPage p || (decide (0x100 ≤ p) && decide (p ≤ 0x20F))

/-- Pages that answer in the present state: in RECOVERY only SYS, FWU and the block window (R366). -/
def pageServed (s : State) (p : Nat) : Bool :=
  if s.pwr.mode == .recovery then p == 0 || p == 0x06A || (decide (0x200 ≤ p) && decide (p ≤ 0x20F)) else isPage p

/-- Registers of a served page that answer: of RECOVERY's SYS page only those of R366. -/
def regServed (s : State) (a : Nat) : Bool :=
  !(s.pwr.mode == .recovery) || a / 4096 != 0 || a < 0x40 || recoverySys.contains a

/-- A misaligned write is recorded, unless it was recorded for another cause already: one access counts once (R276, log entry 14). `t`
is what the write made of `s`. -/
def noteMisaligned (port : Port) (a : Nat) (s t : State) : State :=
  if a % 4 = 0 ∨ t.get Fld.SYS.ACC_CNT.COUNT ≠ s.get Fld.SYS.ACC_CNT.COUNT then t else recordAccess port a 2 true t

/-- A host write of `v` to byte address `a` on its way to what it does there (`act`, told whether a key was open for the port):
nothing while the fabric does not serve; a misaligned access goes to the aligned word and is recorded; a page that does not answer
is recorded (R276, R366). A write uses up or closes the page's key (R281). During a control-plane pause a write to a firmware-served
register is held, or discarded when 256 are held (R290). -/
def hostWrite (port : Port) (a : Nat) (v : Word) (act : Bool → State → State) (s : State) : State :=
  if !s.served then s
  else
    let p := a / 4096
    let a' := a / 4 * 4
    if !pageServed s p then recordAccess port a 1 true s
    else
      let key := keyOpen s p port
      let s1 := if a' % 4096 = 0x20 then s else closeKey p s
      noteMisaligned port a s
        (if !regServed s a' then s1
        else if s1.fab.pause.isSome && servedByFirmware a' then
          if s1.fab.held.length < 256 then
            { s1 with fab := { s1.fab with held := s1.fab.held ++ [{ port := port, addr := a', value := v, keyed := key }] } }
          else recordAccess port a 5 true s1
        else act key s1)

end Sys2Proof.Machine
end

