-- ==== Sys2Proof/Machine/Query.lean ====
section
/-!
DEFINITION. What several units ask of the state: lanes and their classes (R25, R103), the paths and their tiles (R26, R33), the band
plan (R39, R138, R163), and which lanes feed a programme.
-/

namespace Sys2Proof.Machine

/-! ## Lanes -/

/-- The lane classes (R103). -/
inductive LaneClass where
  | fm | am | dab | drm | rds | fic | amw
  deriving DecidableEq, Repr

/-- The class of a lane index (R25). -/
def laneClass (l : Nat) : LaneClass :=
  if l < 8 then .fm else if l < 14 then .am else if l < 18 then .dab else if l < 20 then .drm
  else if l < 116 then .rds else if l < 132 then .fic else .amw

/-- The first lane index of a class. -/
def LaneClass.base : LaneClass → Nat
  | .fm => 0
  | .am => 8
  | .dab => 14
  | .drm => 18
  | .rds => 20
  | .fic => 116
  | .amw => 132

/-- The number of instances of a class. -/
def LaneClass.count : LaneClass → Nat
  | .fm => 8
  | .am => 6
  | .dab => 4
  | .drm => 2
  | .rds => 96
  | .fic => 16
  | .amw => 24

/-- The instance number of a lane within its class. -/
def laneInst (l : Nat) : Nat := l - (laneClass l).base

/-- The lane indices of a class, in ascending order. -/
def LaneClass.lanes (c : LaneClass) : List Nat := (List.range c.count).map (fun i => c.base + i)

/-- A full lane (R107). -/
def isFull (l : Nat) : Bool := decide (l < 20)

/-- Lane `l`. -/
def State.lane (s : State) (l : Nat) : Lane := at' s.mgr.lanes l {}

/-- `s` with lane `l` changed. -/
def State.setLane (s : State) (l : Nat) (f : Lane → Lane) : State := { s with mgr := { s.mgr with lanes := upd s.mgr.lanes l f } }

/-- Neither FREE nor RETIRED (R132). -/
def Lane.inUse (x : Lane) : Bool := x.state != .free && x.state != .retired

/-- Lane `l` is in use. -/
def State.laneInUse (s : State) (l : Nat) : Bool := (s.lane l).inUse

/-- The lane is ACTIVE or MIGRATING: in synchronisation, or tuned (R105). -/
def Lane.live (x : Lane) : Bool := x.state == .active || x.state == .migrating

/-- The state that the lane's own page or watch table shows: a planted migration changes nothing there (R115), so MIGRATING reads ACTIVE
(DEDUCED, log entry 108). `LNM.LANE_TAB` shows the state itself. -/
def Lane.shown (x : Lane) : LaneState := if x.state == .migrating then .active else x.state

/-- Lane indices below `n` in use on a path. -/
def lanesOn (s : State) (p : Path) (n : Nat) : List Nat :=
  (List.range n).filter (fun l => s.laneInUse l && (s.lane l).path == p)

/-- Full lanes in use on a path. -/
def fullOn (s : State) (p : Path) : List Nat := lanesOn s p 20

/-! ## Which lanes feed a programme -/

/-- The lane that a source entry of kind `kind` and instance `inst` names (R228). -/
def sourceLane (kind inst : Nat) : Option Nat :=
  match kind with
  | 1 => some inst
  | 2 => if inst < 6 then some (8 + inst) else none
  | 3 => if inst < 4 then some (14 + inst) else none
  | 4 => if inst < 2 then some (18 + inst) else none
  | _ => none

/-- The lane that entry `k` of slot `n` names. -/
def entryLane (s : State) (n k : Nat) : Option Nat := sourceLane (s.get (Fld.PGM.SRC.KIND n k)) (s.get (Fld.PGM.SRC.INST n k))

/-- The 16 source entries in the order of R33: PGM0 SRC0 first. -/
def allEntries : List (Nat × Nat) := (List.range 16).map (fun i => (i / 4, i % 4))

/-- Entry `k` of slot `n` names lane `l`, and the slot runs. -/
def entryFeeds (s : State) (n k l : Nat) : Bool := s.flag (Fld.PGM.CTRL.EN n) && entryLane s n k == some l

/-- Lane `l` feeds a programme: an entry of an enabled slot names it (log entry 20). -/
def feeds (s : State) (l : Nat) : Bool := allEntries.any (fun e => entryFeeds s e.1 e.2 l)

/-- The lanes that feed a programme, in the order of R33, each once. -/
def feedingLanes (s : State) : List Nat :=
  (allEntries.filterMap (fun e => if s.flag (Fld.PGM.CTRL.EN e.1) then entryLane s e.1 e.2 else none)).eraseDups

/-! ## The band plan -/

/-- An enabled band: its path and range in kHz, by its bit of `RGL.BAND_PLAN` (R163, R377). -/
def bands : List (Nat × Path × Nat × Nat) := [
  (0, .fm, 87500, 108000), (1, .fm, 76000, 95000), (2, .fm, 65800, 74000), (3, .fm, 64000, 108000), (4, .b3, 174000, 240000),
  (5, .lf, 144, 288), (6, .lf, 520, 1710), (7, .lf, 1711, 30000)]

/-- The enabled ranges of a path in kHz. -/
def enabledBands (s : State) (p : Path) : List (Nat × Nat) :=
  (bands.filter (fun b => b.2.1 == p && (s.get Fld.RGL.BAND_PLAN.BANDS).testBit b.1)).map (fun b => b.2.2)

/-- `lo`–`hi` kHz lies wholly within one enabled band of the path. -/
def withinBand (s : State) (p : Path) (lo hi : Nat) : Bool := (enabledBands s p).any (fun b => decide (b.1 ≤ lo) && decide (hi ≤ b.2))

/-- `lo`–`hi` kHz overlaps an enabled band of the path. -/
def overlapsBand (s : State) (p : Path) (lo hi : Nat) : Bool := (enabledBands s p).any (fun b => decide (b.1 ≤ hi) && decide (lo ≤ b.2))

/-- A VHF path on which the plan enables no band is held off (R39). -/
def heldOff (s : State) (p : Path) : Bool := p != .lf && (enabledBands s p).isEmpty

/-! ## Paths and tiles -/

/-- MODE_NOW of a path: 0 span, 1 tile, 2 test (R36). -/
def modeNow (s : State) (p : Path) : Nat := s.get (Fld.FE.STAT.MODE_NOW p.idx)

/-- The tile in force of a path, as its centre in kHz. -/
def tileNow (s : State) (p : Path) : Option Nat :=
  if p != .lf && modeNow s p == 1 then some (s.get (Fld.FE.TILE_NOW.KHZ p.idx)) else none

/-- Half the channel of a full lane or watch entry, kHz (R33). -/
def halfChannel (l : Nat) : Nat :=
  match laneClass l with
  | .dab | .fic => 768
  | .drm => 50
  | _ => 100

/-- A channel lies within centre ±4.4 MHz (R33). -/
def fitsTile (khz half centre : Nat) : Bool := decide (centre ≤ khz - half + 4400) && decide (khz + half ≤ centre + 4400)

/-- The tile in force lets lane `l` at `khz` on `p` receive; in span every lane receives. -/
def insideTile (s : State) (l : Nat) (p : Path) (khz : Nat) : Bool :=
  match tileNow s p with
  | none => true
  | some c => fitsTile khz (halfChannel l) c

/-- No lane on the path can receive: it is in TEST, glimpses, or is held off. -/
def pathClosed (s : State) (p : Path) : Bool := modeNow s p == 2 || heldOff s p

/-- The range of a VHF path in kHz (R26), and of LF. -/
def pathRange : Path → Nat × Nat
  | .lf => (144, 30000)
  | .fm => (64000, 108000)
  | .b3 => (174000, 240000)

/-- The span-mode LO in Hz (R26). -/
def spanHz : Vhf → Nat
  | .fm => 86000000
  | .b3 => 207000000

/-- The glimpse tiles of a path, kHz, ascending (R37). -/
def glimpseTiles : Vhf → List Nat
  | .fm => [68400, 77200, 86000, 94800, 103600]
  | .b3 => [178150, 186400, 194650, 202900, 211150, 219400, 227650, 235900]

/-- The DAB block centres in kHz, 5A = 0 to 13F = 37 (R92). -/
def blockCentres : List Nat := [
  174928, 176640, 178352, 180064, 181936, 183648, 185360, 187072, 188928, 190640, 192352, 194064, 195936, 197648, 199360, 201072,
  202928, 204640, 206352, 208064, 209936, 211648, 213360, 215072, 216928, 218640, 220352, 222064, 223936, 225648, 227360, 229072,
  230784, 232496, 234208, 235776, 237488, 239200]

/-! ## Sample blocks (R16, R71) -/

/-- The header of the path's block of the present epoch. -/
def State.hdr (s : State) (p : Path) : BlockHdr := at' s.blocks.now p.idx {}

/-- The header of the path's block of the last epoch. -/
def State.lastHdr (s : State) (p : Path) : BlockHdr := at' s.blocks.last p.idx {}

/-- `s` with the header of a path's present block changed. -/
def State.setHdr (s : State) (p : Path) (f : BlockHdr → BlockHdr) : State :=
  { s with blocks := { s.blocks with now := upd s.blocks.now p.idx f } }

/-- The range that covers two gaps of one block. -/
def joinGaps (a b : Option (Nat × Nat)) : Option (Nat × Nat) :=
  match a, b with
  | some x, some y => some (min x.1 y.1, max x.2 y.2)
  | some x, none => some x
  | none, y => y

/-- A lane's own gap in a list of them. -/
def ownGap (own : List (Nat × Nat × Nat)) (l : Nat) : Option (Nat × Nat) := (own.find? (fun x => x.1 == l)).map (fun x => x.2)

/-- GAP of lane `l`'s block of the present epoch: its path's and its own. -/
def laneGap (s : State) (l : Nat) : Option (Nat × Nat) := joinGaps (s.hdr (s.lane l).path).gap (ownGap s.blocks.own l)

/-- GAP of lane `l`'s block of the last epoch. -/
def lastLaneGap (s : State) (l : Nat) : Option (Nat × Nat) := joinGaps (s.lastHdr (s.lane l).path).gap (ownGap s.blocks.lastOwn l)

/-- COAST of lane `l`'s block of the present epoch. -/
def laneCoasts (s : State) (l : Nat) : Bool := (s.hdr (s.lane l).path).coast

/-- The whole epoch as a gap. -/
def wholeGap : Nat × Nat := (0, epochTicks - 1)

/-- The path's block has a GAP from the boundary on, to the end of the epoch until its end is known (R19). -/
def gapPath (p : Path) (s : State) : State := s.setHdr p (fun x => { x with gap := some wholeGap })

/-- A gain step, or a span or tile switch, falls on the boundary of the path's block: its first samples are replaced (R83). -/
def blankPath (p : Path) (s : State) : State := s.setHdr p (fun x => { x with blank := true })

/-- The path's GAP ends now, with the settling (R62). -/
def endGap (p : Path) (s : State) : State :=
  if (s.hdr p).epoch = s.epoch then s.setHdr p (fun x => { x with gap := x.gap.map (fun g => (g.1, min g.2 (s.time % epochTicks))) }) else s

/-- Lane `l` has a GAP of its own in the present epoch. -/
def gapLaneIn (l : Nat) (g : Nat × Nat) (s : State) : State :=
  { s with blocks := { s.blocks with own := (l, g) :: s.blocks.own.filter (fun x => x.1 != l) } }

/-- Lane `l` has a GAP of its own throughout the present epoch. -/
def gapLane (l : Nat) (s : State) : State := gapLaneIn l wholeGap s

/-- Lane `l` has the GAP of a tune (R137, R164): from the boundary to a tick of the epoch that the spec leaves open (log entry 3). -/
def gapTuning (l : Nat) (s : State) : State :=
  let v := s.fresh 18
  gapLaneIn l (0, v.1 % (epochTicks - 1)) v.2

/-- Ticks in the 0.5 ms that are concealed behind a GAP (R143). -/
def concealTail : Nat := 81920

/-- Audio of lane `l`'s block of the present epoch is concealed (R143, R168): it derives from samples inside a GAP, or from the 0.5 ms
behind one. -/
def blockConcealed (s : State) (l : Nat) : Bool :=
  (laneGap s l).isSome || (match lastLaneGap s l with | some g => decide (epochTicks ≤ g.2 + concealTail) | none => false)

/-- Whether samples of a path coast (R71.5): PLL-S does, or the path's LO. -/
def pathCoasts (s : State) (p : Path) : Bool :=
  s.flag Fld.CLK.STAT.COAST || (match p with | .lf => false | .fm => s.flag (Fld.LO.STAT.COAST 0) | .b3 => s.flag (Fld.LO.STAT.COAST 1))

/-- The block of the epoch in which a coast is detected carries COAST (R71.5). -/
def flagCoast (s : State) : State :=
  forEach [Path.lf, Path.fm, Path.b3] (fun p t => if pathCoasts t p then t.setHdr p (fun x => { x with coast := true }) else t) s

/-- On a boundary new blocks begin. One that begins in a coast carries COAST to its end, though the loop close in it (R71.5, R73). -/
def newBlocks (s : State) : State :=
  let fresh (p : Path) : BlockHdr := { epoch := s.epoch, coast := pathCoasts s p }
  { s with blocks := { now := #v[fresh .lf, fresh .fm, fresh .b3], last := s.blocks.now, own := [], lastOwn := s.blocks.own } }

/-- The gain correction in force goes into the headers (R16, R81). -/
def markGains (s : State) : State :=
  forEach [Path.lf, Path.fm, Path.b3] (fun p t => t.setHdr p (fun x =>
    { x with gainM := t.get (Fld.CH.NORM.M p.idx), gainS := t.get (Fld.CH.NORM.S p.idx) })) s

/-- The block whose centre is `khz`; 63 if there is none. -/
def blockOf (khz : Nat) : Nat := (lowest 38 (fun i => blockCentres.getD i 0 == khz)).getD 63

end Sys2Proof.Machine
end

