-- ==== Sys2Proof/Machine/Pib.lean ====
section
/-!
DEFINITION. The programme identity book (R232 to R235): identities, classes from linkage sets and by host command.
-/

namespace Sys2Proof.Machine

open Sys2Proof

/-! ## Identities (R232) -/

/-- An identity: the KIND code of R224 and a 24-bit ID. -/
abbrev Identity := Nat × Nat

/-- An identity held in a word laid out as `PIB.ARG`. -/
def wordIdentity (w : Word) : Identity := (fieldOf w 24 2, fieldOf w 0 24)

/-- A member's identity; ECC and ILS are not compared (R233). -/
def memberIdentity (m : LinkMember) : Identity := (m.kind, m.id % 2 ^ 24)

/-- A class holds an identity. -/
def PibClass.holds (c : PibClass) (i : Identity) : Bool := c.members.any (fun m => memberIdentity m == i)

/-- The lowest class that holds both identities (R234). -/
def sharedClass (s : State) (a b : Identity) : Option Nat :=
  (indices s.pib.classes (fun c => match c with | some x => x.holds a && x.holds b | none => false)).head?

/-! ## Classes (R233) -/

/-- The lowest free place for a class. -/
def freeClass (s : State) : Option Nat := (indices s.pib.classes (fun c => c.isNone)).head?

/-- Class `i` put in its place. -/
def State.setClass (s : State) (i : Nat) (c : Option PibClass) : State :=
  { s with pib := { s.pib with classes := upd s.pib.classes i (fun _ => c) } }

/-- The refused sources of every slot whose REASON is `reason` may be retried (R241). -/
def markRetry (reason : Nat) (s : State) : State :=
  forEach allEntries (fun e t =>
    if t.get (Fld.PGM.SRC_STAT.STATE e.1 e.2) == 5 && t.get (Fld.PGM.SRC_STAT.REASON e.1 e.2) == reason then
      { t with slots := upd t.slots e.1 (fun x => { x with srcs := upd x.srcs e.2 (fun y => { y with ready := true }) }) }
    else t) s

/-- A class has changed (R235): the count follows, FULL clears while a place is free, and sources refused for their identity may be
retried. -/
def pibChanged (s : State) : State :=
  let n := (indices s.pib.classes (fun c => c.isSome)).length
  let t := s.set Fld.PIB.STAT.CLASSES n
  markRetry 1 (raise Ev.PIB.CHANGED (if n < 64 then t.put Fld.PIB.STAT.FULL false else t))

/-- A class finds no place (R233). -/
def pibFull (s : State) : State := raise Ev.PIB.FULL (s.put Fld.PIB.STAT.FULL true)

/-- A linkage set forms a class (R233). A set whose members were cleared forms none (R204). -/
def setQualifies (s : State) (x : LinkSet) : Bool :=
  s.flag Fld.PIB.CTRL.LINK_EN && x.active && (x.hard || s.flag Fld.PIB.CTRL.SOFT_OK) && !x.members.isEmpty

/-- Whether class `c` follows set `x`. -/
def PibClass.follows (c : PibClass) (x : LinkSet) : Bool :=
  !c.host && c.lsn == x.lsn && c.hard == x.hard && c.ils == x.ils && c.key == x.key

/-- The class of a linkage set: its members and its key service as KIND 0, up to 12 (R233). -/
def classOf (x : LinkSet) : PibClass :=
  let all := (x.members.map (fun m => { id := m.id % 2 ^ 24, kind := m.kind : LinkMember })) ++ [{ id := x.key % 2 ^ 24, kind := 0 }]
  let each := all.foldl (fun l m => if l.contains m then l else l ++ [m]) ([] : List LinkMember)
  { host := false, hard := x.hard, trunc := decide (12 < each.length), lsn := x.lsn, block := x.block, members := each.take 12,
    key := x.key, ils := x.ils }

/-- What tells linkage sets apart (R204). -/
def LinkSet.name (x : LinkSet) : Nat × Bool × Bool × Nat := (x.lsn, x.hard, x.ils, x.key)

/-- The classes from linkage follow the sets of the database (R233); a set without a class takes the lowest free place. One that finds all
places taken raises FULL once, and takes a place as soon as there is one. -/
def pibFollow (s : State) : State :=
  let sets := s.links.filter (setQualifies s)
  let kept := s.pib.classes.map (fun c => match c with
    | some x => if x.host then some x else (sets.find? x.follows).map classOf
    | none => none)
  let t : State := { s with pib := { s.pib with classes := kept } }
  let new := sets.filter (fun x => !(kept.toList.any (fun c => match c with | some y => y.follows x | none => false)))
  let t0 : State := { t with pib := { t.pib with leftOut := t.pib.leftOut.filter (fun n => new.any (fun x => x.name == n)) } }
  let t1 := forEach new (fun x u => match freeClass u with
    | some i => { u.setClass i (some (classOf x)) with pib := { (u.setClass i (some (classOf x))).pib with
        leftOut := u.pib.leftOut.filter (fun n => n != x.name) } }
    | none => if u.pib.leftOut.contains x.name then u
      else pibFull { u with pib := { u.pib with leftOut := x.name :: u.pib.leftOut } }) t0
  if s.pib.classes == t1.pib.classes then t1 else pibChanged t1

/-- A write of `PIB.CTRL` (R233, R254). -/
def writePibCtrl (port : Port) (v : Word) (key : Bool) (s : State) : State := pibFollow (plainWrite port Reg.PIB.CTRL v key s)

/-! ## Commands (R235) -/

/-- A command fails. -/
def pibError (err : Nat) (s : State) : State := raise Ev.PIB.CMD_ERR (s.set Fld.PIB.STAT.ERR err)

/-- A write of `PIB.CMD`: the command takes the ARG of that moment; one that finds BUSY fails; an OP outside the list is no command. -/
def writePibCmd (v : Word) (s : State) : State :=
  let op := fieldOf v 0 4
  if op = 0 ∨ 4 < op then s
  else if s.pib.busy.isSome then pibError 6 s
  else { s with pib := { s.pib with busy := some (op, fieldOf v 8 6, s.word Reg.PIB.ARG) } }.put Fld.PIB.STAT.BUSY true

/-- A command on host class `cls` with member `m`: the class after it, or its error. -/
def editClass (op : Nat) (c : PibClass) (m : LinkMember) : Except Nat (Option PibClass) :=
  if op = 4 then .ok none
  else if m.kind = 3 then .error 4
  else if op = 2 then
    if c.holds (memberIdentity m) then .error 3
    else if 12 ≤ c.members.length then .error 1
    else .ok (some { c with members := c.members ++ [m] })
  else if c.holds (memberIdentity m) then .ok (some { c with members := c.members.filter (fun x => memberIdentity x != memberIdentity m) })
  else .error 5

/-- The command in progress completes (R235). -/
def pibDone (s : State) : State :=
  match s.pib.busy with
  | none => s
  | some (op, cls, arg) =>
    let t := { s with pib := { s.pib with busy := none } }.put Fld.PIB.STAT.BUSY false
    let good (u : State) : State := raise Ev.PIB.CMD_DONE (pibChanged (u.set Fld.PIB.STAT.ERR 0))
    if op = 1 then
      match freeClass t with
      | some i => good ((t.setClass i (some { host := true })).set Fld.PIB.CMD_RES.CLASS i)
      | none => pibError 1 (pibFull t)
    else match at' t.pib.classes cls none with
      | some c =>
        if !c.host then pibError 2 t
        else match editClass op c { id := fieldOf arg 0 24, kind := fieldOf arg 24 2 } with
          | .ok d => pibFollow (good (t.setClass cls d))
          | .error e => pibError e t
      | none => pibError 2 t

/-- The word of a PIB command row: its OP over the class that `v` names. -/
def pibWord (op : Nat) (v : Word) : Word := wordOf [(0, 4, op), (8, 6, fieldOf v 8 6)]

/-- PIB_NEW (R235). -/
def execPibNew (port : Port) (v : Word) (s : State) : Host.Outcome State Fault Refusal :=
  commit s (hostWrite port Reg.PIB.CMD (pibWord 1 v) (fun _ => writePibCmd (pibWord 1 v)) s)

/-- PIB_ADD (R235). -/
def execPibAdd (port : Port) (v : Word) (s : State) : Host.Outcome State Fault Refusal :=
  commit s (hostWrite port Reg.PIB.CMD (pibWord 2 v) (fun _ => writePibCmd (pibWord 2 v)) s)

/-- PIB_REMOVE (R235). -/
def execPibRemove (port : Port) (v : Word) (s : State) : Host.Outcome State Fault Refusal :=
  commit s (hostWrite port Reg.PIB.CMD (pibWord 3 v) (fun _ => writePibCmd (pibWord 3 v)) s)

/-- PIB_DELETE (R235). -/
def execPibDelete (port : Port) (v : Word) (s : State) : Host.Outcome State Fault Refusal :=
  commit s (hostWrite port Reg.PIB.CMD (pibWord 4 v) (fun _ => writePibCmd (pibWord 4 v)) s)

/-- PIB_COMMAND_DONE (R235); the control cores complete no command during a control-plane pause (R8). -/
def execPibCommandDone (s : State) : Host.Outcome State Fault Refusal :=
  commit s (if s.fab.pause.isSome then s else pibDone s)

end Sys2Proof.Machine
end

