-- ==== Sys2Proof/Machine/Classes.lean ====
section
/-!
DEFINITION. What the lane classes hold beside the lane table: the words of the FIC database, the audio-decode contexts (R183, R206),
the conditions of the data queues (R211), what a retune or release clears, and the flags and events that follow from a change of a
record (R155, R160, R176, R192, R203, R204, R213, R215, R218, R226).
-/

namespace Sys2Proof.Machine

open Sys2Proof

/-- The state code of R105. -/
def LaneState.code : LaneState → Nat
  | .free => 0
  | .acquiring => 1
  | .active => 2
  | .parked => 3
  | .migrating => 4
  | .restarting => 5
  | .retired => 6

/-- The RDS context of an FM full lane or watch entry. -/
def rdsIndex (l : Nat) : Nat := if l < 8 then l else l - 12

/-- The lane of an RDS context. -/
def rdsLane (c : Nat) : Nat := if c < 8 then c else c + 12

/-- The DAB context of an engine or FIC watch entry. -/
def dabIndex (l : Nat) : Nat := if l < 18 then l - 14 else l - 112

/-- The lane of a DAB context. -/
def dabLane (c : Nat) : Nat := if c < 4 then c + 14 else c + 112

/-- RDS context `c`. -/
def State.rdsCtx (s : State) (c : Nat) : RdsCtx := at' s.rds c {}

/-- `s` with an RDS context changed. -/
def State.setRds (s : State) (c : Nat) (f : RdsCtx → RdsCtx) : State := { s with rds := upd s.rds c f }

/-- DAB context `c`. -/
def State.dabCtx (s : State) (c : Nat) : DabLane := at' s.dab c {}

/-- `s` with a DAB context changed. -/
def State.setDab (s : State) (c : Nat) (f : DabLane → DabLane) : State := { s with dab := upd s.dab c f }

/-! ## The FIC database as the registers show it (R222 to R224) -/

/-- The record of a block. -/
def ensembleOf (s : State) (block : Nat) : Option Ensemble := s.ens.find? (fun e => e.block == block)

/-- The services that the database records (R201, R203). -/
def Ensemble.records (e : Ensemble) : List DbService := e.services.filter (fun x => x.recorded)

/-- The block a DAB engine or watch entry stands on, 63 for none. -/
def laneBlock (s : State) (l : Nat) : Nat := if s.laneInUse l then blockOf (s.lane l).khz else 63

/-- The alarm of a block's ensemble is on at some lane (R216). -/
def blockAlarm (s : State) (block : Nat) : Bool :=
  (List.range 20).any (fun c => (s.dabCtx c).alarm && laneBlock s (dabLane c) == block)

/-- Words 0–11 of the ensemble record; words 12–15 read 0 (R222). -/
def ensembleWords (s : State) (e : Ensemble) : List Word := [
  wordOf [(0, 16, e.eid), (16, 8, e.ecc), (24, 6, e.block), (30, 1, 1), (31, 1, e.al.toNat)],
  wordOf [(0, 16, e.age), (16, 7, e.records.length), (23, 1, e.trunc.toNat), (24, 6, e.subchs.length),
    (30, 1, (blockAlarm s e.block).toNat)],
  wordOf [(0, 17, e.mjd), (17, 5, e.hour), (22, 6, e.minute), (28, 1, e.timeValid.toNat)],
  wordOf [(0, 6, e.second), (6, 10, e.ms), (16, 8, e.lto)],
  lowWord e.timeEpoch,
  wordOf [(0, 11, e.asw)],
  wordOf [(0, 16, e.mask), (16, 4, e.charset), (20, 1, e.labelValid.toNat)],
  0,
  packBytes e.label 0, packBytes e.label 1, packBytes e.label 2, packBytes e.label 3]

/-- The words of a service record (R223): its primary component and that component's sub-channel. -/
def serviceWords (e : Ensemble) (v : DbService) : List Word :=
  let c : Component := v.comps.headD {}
  let x : SubChannel := (e.subchs.find? (fun y => y.id == c.subch)).getD { id := c.subch, start := 0, size := 0, level := 0, eep := false }
  [lowWord v.sid,
   wordOf [(0, 1, 1), (1, 1, v.data.toNat), (2, 1, c.ca.toNat), (3, 5, v.pty), (8, 6, c.subch), (14, 2, c.tmid), (16, 6, c.type),
     (22, 1, v.labelValid.toNat), (23, 4, v.charset), (27, 4, v.comps.length)],
   wordOf [(0, 10, x.start), (10, 10, x.size), (20, 3, x.level), (23, 1, x.eep.toNat), (24, 1, x.eepB.toNat), (25, 7, x.kbps8)],
   wordOf [(0, 16, v.mask), (16, 11, v.asu)],
   packBytes v.label 0, packBytes v.label 1, packBytes v.label 2, packBytes v.label 3]

/-- The two words of a member entry (R224). -/
def memberWords (m : LinkMember) : List Word :=
  [wordOf [(0, 24, m.id), (24, 2, m.kind)], wordOf [(0, 8, m.ecc.getD 0), (8, 1, m.ecc.isSome.toNat)]]

/-- The header words of a linkage set (R224). -/
def linkWords (x : LinkSet) : List Word := [
  wordOf [(0, 12, x.lsn), (12, 1, x.active.toNat), (13, 1, x.hard.toNat), (14, 1, x.ils.toNat), (15, 1, 1), (16, 1, x.trunc.toNat),
    (24, 4, x.members.length)],
  lowWord x.key, wordOf [(0, 6, x.block)], 0]

/-- What a change of an ensemble record or its services is a change of: every word but AGE (DEDUCED, log entry 40). -/
def ensembleKey (s : State) (block : Nat) : List Word :=
  match ensembleOf s block with
  | none => []
  | some e => (ensembleWords s { e with age := 0 }) ++ e.records.flatMap (serviceWords e)

/-- What a change of a linkage set is a change of. -/
def linkKey (s : State) : List Word := s.links.flatMap (fun x => linkWords x ++ x.members.flatMap memberWords)

/-- A DAB engine is ACQUIRING or ACTIVE on the block at `khz` (R195). -/
def engineHolds (s : State) (khz : Nat) : Bool :=
  LaneClass.dab.lanes.any (fun l => let x := s.lane l
    x.khz == khz && (x.live || x.state == .acquiring))

/-! ## Audio-decode contexts (R183, R206) -/

/-- The status word of a selection. -/
def selStat (u : DecUser) : Nat := if u.drm then Reg.DRM.SVC_STAT u.engine u.sel else Reg.DAB.SEL_STAT u.engine u.sel

/-- The lowest bit of DECODING in it; NO_DEC follows, and DEC stands at `decBit`. -/
def decodingBit (u : DecUser) : Nat := if u.drm then 4 else 10

def decBit (u : DecUser) : Nat := if u.drm then 8 else 15

/-- DECODING, NO_DEC and DEC of a selection. -/
def showDecoder (u : DecUser) (decoding noDec : Bool) (dec : Nat) (s : State) : State :=
  ((s.put ⟨selStat u, decodingBit u, 1⟩ decoding).put ⟨selStat u, decodingBit u + 1, 1⟩ noDec).set ⟨selStat u, decBit u, 3⟩ dec

/-- The context a selection holds. -/
def decoderOf (s : State) (u : DecUser) : Option Nat := (indices s.decoders (fun x => x == some u)).head?

/-- Contexts in use, and the number that may be. -/
def decodersUsed (s : State) : List Nat := indices s.decoders (fun x => x.isSome)

def decodeCapacity (s : State) : Nat := s.get (Fld.LNM.CAPACITY.COUNT 7)

/-- The lowest-numbered free context, while fewer than the capacity are in use. -/
def freeDecoder (s : State) : Option Nat :=
  if (decodersUsed s).length < decodeCapacity s then (indices s.decoders (fun x => x.isNone)).head? else none

/-- Programme entry `e` names selection `u` (R228). -/
def entrySelects (s : State) (u : DecUser) (e : Nat × Nat) : Bool :=
  s.get (Fld.PGM.SRC.KIND e.1 e.2) == (if u.drm then 4 else 3) && s.get (Fld.PGM.SRC.INST e.1 e.2) == u.engine
    && s.get (Fld.PGM.SRC.SEL e.1 e.2) == u.sel

/-- The place in R33's order of the first programme entry that a selection feeds. -/
def feedPlace (s : State) (u : DecUser) : Option Nat :=
  lowest 16 (fun i => s.flag (Fld.PGM.CTRL.EN (i / 4)) && entrySelects s u (i / 4, i % 4))

/-- The governor leaves a selection a context (R344): from level 2 on only one that feeds a programme it keeps. -/
def mayDecode (s : State) (u : DecUser) : Bool :=
  let level := s.get Fld.PMU.GOV_STAT.LEVEL
  decide (level < 2) || (match feedPlace s u with | some i => decide (level < 3) || decide (i < 8) | none => false)

/-- Selection `u` takes context `c`. -/
def takeDecoder (u : DecUser) (c : Nat) (s : State) : State :=
  showDecoder u true false c { s with decoders := upd s.decoders c (fun _ => some u) }

/-- The event NO_DECODER of an engine. -/
def noDecoderEvent (u : DecUser) : Nat := if u.drm then Ev.DRM.NO_DECODER u.engine else Ev.DAB.NO_DECODER u.engine

/-- A selection requests a context: it takes the lowest free one, or waits with NO_DEC, once per request (R183). -/
def requestDecoder (u : DecUser) (s : State) : State :=
  if (decoderOf s u).isSome || s.decWait.contains u then s
  else match (if mayDecode s u then freeDecoder s else none) with
    | some c => takeDecoder u c s
    | none => raise (noDecoderEvent u) (showDecoder u false true 0 { s with decWait := s.decWait ++ [u] })

/-- A selection's audio blocks stop: its sources are lost on the next boundary, whatever takes their place (R181, R202, R231). -/
def stopBlocks (u : DecUser) (s : State) : State :=
  forEach (allEntries.filter (entrySelects s u)) (fun e t =>
    { t with slots := upd t.slots e.1 (fun x => { x with srcs := upd x.srcs e.2 (fun y => { y with delivering := false }) }) }) s

/-- A selection gives up its context or its place in the queue (R183). -/
def releaseDecoder (u : DecUser) (s : State) : State :=
  if (decoderOf s u).isSome || s.decWait.contains u then
    showDecoder u false false 0
      { stopBlocks u s with decoders := s.decoders.map (fun x => if x == some u then none else x), decWait := s.decWait.filter (fun x => x != u) }
  else s

/-- Waiting requests take free contexts in order of arrival (R183). -/
def serveDecoders (s : State) : State :=
  forEach s.decWait (fun u t => match (if mayDecode t u then freeDecoder t else none) with
    | some c => takeDecoder u c { t with decWait := t.decWait.filter (fun x => x != u) }
    | none => t) s

/-- The contexts in the order in which falling capacity sheds them (R183): those that feed no programme, highest-numbered first, then
the others in the reverse of R33's order. -/
def shedOrder (s : State) : List Nat :=
  let user (c : Nat) : Option Nat := (at' s.decoders c none).bind (feedPlace s)
  let used := decodersUsed s
  (used.filter (fun c => (user c).isNone)).reverse
    ++ (List.range 16).reverse.flatMap (fun i => used.filter (fun c => user c == some i))

/-- Contexts beyond the capacity are shed; their selections wait again (R183). -/
def shedDecoders (s : State) : State :=
  forEach ((shedOrder s).take ((decodersUsed s).length - decodeCapacity s)) (fun c t =>
    match at' t.decoders c none with
    | some u => showDecoder u false true 0 { t with decoders := upd t.decoders c (fun _ => none), decWait := t.decWait ++ [u] }
    | none => t) s

/-! ## Data queues (R211) -/

/-- The selection a queue is bound to by its configuration in force: DRM or not, engine, selection, PAD. -/
def queueBinding (s : State) (q : Nat) : Option (Bool × Nat × Nat × Bool) :=
  let w := (at' s.queues q {}).cfg
  let n := fieldOf w 2 2
  let k := fieldOf w 4 3
  match fieldOf w 0 2 with
  | 1 => if k < 6 then some (false, n, k, w.getLsbD 7) else none
  | 2 => if n < 2 ∧ k < 4 ∧ !(w.getLsbD 7) then some (true, n, k, false) else none
  | _ => none

/-- The conditions of R211 hold for queue `q`. -/
def queueActive (s : State) (q : Nat) : Bool :=
  match queueBinding s q with
  | none => false
  | some (true, n, k, _) =>
    s.flag (Fld.DRM.SVC_SEL.EN n k) && s.flag (Fld.DRM.SVC_STAT.PRESENT n k) && !(s.flag (Fld.DRM.SVC_STAT.DUP n k))
      && !(s.flag (Fld.DRM.SVC_STAT.UNSUPPORTED n k)) && s.flag (Fld.DRM.CTRL.DATA_EN n)
  | some (false, n, k, pad) =>
    s.flag (Fld.DAB.SEL_CTRL.EN n k) && s.flag (Fld.DAB.SEL_STAT.PRESENT n k) && !(s.flag (Fld.DAB.SEL_STAT.LIMIT n k))
      && !(s.flag (Fld.DAB.SEL_STAT.DUP n k)) && !(s.flag (Fld.DAB.SEL_STAT.UNSUPPORTED n k))
      && (if pad then s.flag (Fld.DAB.CTRL.PAD_EN n) else s.flag (Fld.DAB.CTRL.DATA_EN n))

/-! ## Concealed frames of a selection (R184, R209, R243) -/

/-- `k` frames or access units of a selection are concealed: they are remembered for 2 s (R243). -/
def noteConcealed (u : DecUser) (k : Nat) (s : State) : State :=
  if k = 0 then s
  else if u.drm then
    { s with drm := upd s.drm u.engine (fun x => { x with
        concealed := (u.sel, s.epoch, k) :: x.concealed.filter (fun c => decide (s.epoch < c.2.1 + 2000)) }) }
  else s.setDab u.engine (fun x => { x with sels := upd x.sels u.sel (fun y => { y with
    concealed := (s.epoch, k) :: y.concealed.filter (fun c => decide (s.epoch < c.1 + 2000)) }) })

/-- The epochs with concealed frames of a selection, and their numbers. -/
def concealedOf (s : State) (u : DecUser) : List (Nat × Nat) :=
  if u.drm then ((at' s.drm u.engine {}).concealed.filter (fun c => c.1 == u.sel)).map (fun c => c.2)
  else (at' (s.dabCtx u.engine).sels u.sel {}).concealed

/-! ## What a retune, release or assignment clears -/

/-- RDS synchronisation of an FM full lane ends (R147, R149): its upper streams go with it. -/
def rdsOff (l : Nat) (s : State) : State :=
  if laneClass l == .fm && (s.lane l).sync then
    setChange (Fld.FMF.CHG.RDS_LOST l) (Reg.FMF.CHG_EN l) (Ev.FMF.CHANGE l)
      ((s.setLane l (fun x => { x with sync := false })).setRds l (fun x => { x with upper := [], recentUp := [], group := [] }))
  else s

/-- Engine `n`'s selections lose their matches and contexts (R183, R194). -/
def clearSelections (drm : Bool) (n : Nat) (s : State) : State :=
  forEach (List.range (if drm then 4 else 6)) (fun k t =>
    let u : DecUser := { drm := drm, engine := n, sel := k }
    (releaseDecoder u t).setWord (selStat u) 0) s

/-- The record and the decoder state of lane `l` are cleared, as on a retune, release or assignment (R137, R154, R156 to R158, R178,
R183, R194). -/
def clearLane (l : Nat) (s : State) : State :=
  let i := laneInst l
  match laneClass l with
  | .fm =>
    let t := (s.put (Fld.FMF.STAT.STEREO l) false).put (Fld.FMF.STAT.SUSPECT l) false
    { t with rds := upd t.rds l (fun _ => {}), fm := upd t.fm l (fun x => { x with pilots := [], sep := 0 }) }
  | .rds => s.setRds (rdsIndex l) (fun _ => {})
  | .am =>
    let t := ((s.put (Fld.AMF.STAT.LOCK i) false).put (Fld.AMF.STAT.SYNC_FALLBACK i) false).setWord (Reg.AMF.AMSS_SI i) 0
    { t with am := upd t.am i (fun x => { x with above := 0, below := 0, amss := {} }) }
  | .amw =>
    let t := forEach [Reg.WAM.A_W0 i, Reg.WAM.A_W1 i, Reg.WAM.A_W2 i, Reg.WAM.A_W3 i] (fun a u => u.setWord a (resetWord a)) s
    { t with amWatch := upd t.amWatch i (fun _ => {}) }
  | .dab => (((clearSelections false i s).set (Fld.DAB.STAT.SUBCH i) 0).set (Fld.DAB.STAT.CU i) 0).setDab i (fun x => { sels := x.sels.map (fun _ => {}) })
  | .fic => (s.setWord (Reg.WFC.F_W2 i) (resetWord (Reg.WFC.F_W2 i))).setDab (dabIndex l) (fun _ => {})
  | .drm =>
    let t := forEach (Reg.DRM.STAT i :: (List.range 32).map (fun w => Reg.DRM.SVC_INFO_W0 i 0 + 4 * w)) (fun a u => u.setWord a (resetWord a))
      (clearSelections true i s)
    { t with drm := upd t.drm i (fun _ => {}) }

/-! ## Flags and events that follow from a change -/

/-- What sets an RDS watch entry's CHG bit when it changes (R155); ALARM is followed where it turns on and off, since a duplicate
alarm raises nothing (R158). -/
def rdsKey (s : State) (n : Nat) : LaneState × Bool × List Nat × List AfEntry :=
  let r := (s.rdsCtx (8 + n)).record
  let x := s.lane (20 + n)
  (x.shown, x.sync, [r.pi, r.pty, r.tp.toNat, r.ta.toNat] ++ r.ps, r.af.entries)

/-- What sets an AM watch entry's CHG bit (R176): STATE, CARRIER, DRM, DRM_MODE and the service identifier. -/
def amKey (s : State) (n : Nat) : LaneState × Nat × Nat :=
  ((s.lane (132 + n)).shown, fieldOf (s.word (Reg.WAM.A_W0 n)) 19 5, fieldOf (s.word (Reg.WAM.A_W2 n)) 0 24)

/-- What sets a FIC watch entry's CHG bit (R215): STATE, SYNC and EId, and ALARM as for RDS (R216). -/
def ficKey (s : State) (n : Nat) : LaneState × Bool × Nat :=
  let x := s.lane (116 + n)
  (x.shown, x.sync, ((ensembleOf s (laneBlock s (116 + n))).map (fun e => e.eid)).getD 0)

/-- Entry `n` of a watch table changed: its CHG bit sets and CHANGED is raised (R155, R176, R215). -/
def markWatch (t : WatchTable) (n : Nat) (s : State) : State :=
  match t with
  | .rds => raise Ev.WRD.CHANGED (s.put ⟨Reg.WRD.CHG (n / 32), n % 32, 1⟩ true)
  | .fic => raise Ev.WFC.CHANGED (s.put ⟨Reg.WFC.CHG0, n, 1⟩ true)
  | .am => raise Ev.WAM.CHANGED (s.put ⟨Reg.WAM.CHG0, n, 1⟩ true)

/-- A block's record changed (R203). -/
def markBlock (b : Nat) (s : State) : State :=
  raise Ev.WFC.DB (s.put (if b < 32 then ⟨Reg.WFC.CHG_DB0, b, 1⟩ else ⟨Reg.WFC.CHG_DB1, b - 32, 1⟩) true)

/-- The changes of FM lane `n` between `a` and `b` that a CHG bit reports (R160): the bit, and whether it sets. -/
def fmChanges (a b : State) (n : Nat) : List (Field × Bool) :=
  let x := a.rdsCtx n
  let y := b.rdsCtx n
  let p := x.record
  let q := y.record
  [(Fld.FMF.CHG.PS n, p.ps != q.ps), (Fld.FMF.CHG.RT n, p.rt != q.rt), (Fld.FMF.CHG.PTY n, p.pty != q.pty || p.ptyn != q.ptyn),
   (Fld.FMF.CHG.TA n, p.ta != q.ta || p.tp != q.tp), (Fld.FMF.CHG.AF n, p.af.entries != q.af.entries),
   (Fld.FMF.CHG.ALARM_OFF n, x.alarm && !y.alarm),
   (Fld.FMF.CHG.STEREO n, a.flag (Fld.FMF.STAT.STEREO n) != b.flag (Fld.FMF.STAT.STEREO n)),
   (Fld.FMF.CHG.RDS2 n, x.upper != y.upper)]

/-- The changes of AM lane `n` that a CHG bit reports (R186). -/
def amChanges (a b : State) (n : Nat) : List (Field × Bool) :=
  [(Fld.AMF.CHG.LOCK n, a.flag (Fld.AMF.STAT.LOCK n) != b.flag (Fld.AMF.STAT.LOCK n)),
   (Fld.AMF.CHG.AMSS_SYNC n, (at' a.am n {}).amss.sync != (at' b.am n {}).amss.sync)]

/-- The CHG bits of a list set, with the event CHANGE of the page. -/
def setChanges (l : List (Field × Bool)) (enable ev : Nat) (s : State) : State :=
  forEach l (fun c t => changeIf c.2 c.1 enable ev t) s

/-- The words of engine `n`'s selections. -/
def dabSelWords (s : State) (n : Nat) : List Word := (List.range 6).map (fun k => s.word (Reg.DAB.SEL_STAT n k))

/-- The words of a DRM engine's service list, and of its selections and service list. -/
def drmInfoWords (s : State) (n : Nat) : List Word := (List.range 32).map (fun i => s.word (Reg.DRM.SVC_INFO_W0 n 0 + 4 * i))

def drmSelWords (s : State) (n : Nat) : List Word := (List.range 4).map (fun k => s.word (Reg.DRM.SVC_STAT n k)) ++ drmInfoWords s n

/-- The flags and events that follow from what a command changed, from `a` to `b`. -/
def announce (a b : State) : State :=
  let t1 := forEach (List.range 8) (fun n u => setChanges (fmChanges a b n) (Reg.FMF.CHG_EN n) (Ev.FMF.CHANGE n) u) b
  let t2 := forEach (List.range 6) (fun n u => setChanges (amChanges a b n) (Reg.AMF.CHG_EN n) (Ev.AMF.CHANGE n) u) t1
  let t3 := forEach (List.range 4) (fun n u => if dabSelWords a n == dabSelWords b n then u else
    let limit := (List.range 6).any (fun k => !(a.flag (Fld.DAB.SEL_STAT.LIMIT n k)) && b.flag (Fld.DAB.SEL_STAT.LIMIT n k))
    raise (Ev.DAB.SERVICES n) (setChanges [(Fld.DAB.CHG.SERVICES n, true), (Fld.DAB.CHG.LIMIT n, limit)] (Reg.DAB.CHG_EN n) (Ev.DAB.CHANGE n) u)) t2
  let t4 := forEach (List.range 2) (fun n u => if drmSelWords a n == drmSelWords b n then u else
    raise (Ev.DRM.SERVICES n) (changeIf (drmInfoWords a n != drmInfoWords b n) (Fld.DRM.CHG.SERVICES n) (Reg.DRM.CHG_EN n) (Ev.DRM.CHANGE n) u)) t3
  let t5 := forEach (List.range 96) (fun n u =>
    if rdsKey a n == rdsKey b n && !((a.rdsCtx (8 + n)).alarm && !(b.rdsCtx (8 + n)).alarm) then u else markWatch .rds n u) t4
  let t6 := forEach (List.range 24) (fun n u => if amKey a n == amKey b n then u else markWatch .am n u) t5
  let t7 := forEach (List.range 16) (fun n u =>
    if ficKey a n == ficKey b n && !((a.dabCtx (4 + n)).alarm && !(b.dabCtx (4 + n)).alarm) then u else markWatch .fic n u) t6
  let t8 := if a.ens == b.ens && a.dab == b.dab then t7 else
    forEach (List.range 38) (fun k u => if ensembleKey a k == ensembleKey b k then u else markBlock k u) t7
  let t9 := if linkKey a == linkKey b then t8 else pibFollow (raise Ev.WFC.DB (t8.put Fld.WFC.CHG_DB1.LINK true))
  raiseIf ((List.range 16).any (fun q => queueActive a q != queueActive b q)) Ev.SDQ.SOURCE t9

/-- The outcome of a command that may change lanes and their records: `commit` with `announce`. -/
def commitLanes (s t : State) : Host.Outcome State Fault Refusal := commit s (announce s t)

/-! ## The host's wake (R346) -/

/-- A wake request of an alarm: HOST_WAKE pins are asserted; where GPIO outputs are high-impedance it is lost (R346). -/
def hostWake (s : State) : State :=
  if s.committed && s.running then
    let pin := (List.range 8).any (fun n => s.get (Fld.SYS.GPIO_CFG.FUNC n) == 2)
    raise Ev.SYS.WAKE { s.put Fld.SYS.WAKE_CFG.ASSERTED pin with pwr := { s.pwr with wakeSince := s.time } }
  else s

end Sys2Proof.Machine
end

