-- ==== Sys2Proof/Machine/Coex.lean ====
section
/-!
DEFINITION. The coexistence request pin and its limiter (R46, R47), and the fault record (R397 to R400, R404).
-/

namespace Sys2Proof.Machine

/-! ## COEX_REQ -/

/-- Ticks in one second. -/
def secondTicks : Nat := 163840000

/-- The part of the assertion `start`, `len` ticks long, that lies in the second before `now`. -/
def overlapTicks (now : Nat) (x : Nat × Nat) : Nat := min now (x.1 + x.2) - max x.1 (now - secondTicks)

/-- Assertion time in the last second, ticks (R47). -/
def usedTicks (s : State) : Nat :=
  (s.aux.asserted.map (overlapTicks s.time)).sum + (match s.aux.reqSince with | some t => min secondTicks (s.time - t) | none => 0)

/-- The ceiling in force, 0.1 %: min(5 %, `RGL.COEX_DUTY_CEIL`). -/
def dutyCeiling (s : State) : Nat := min 50 (s.get Fld.RGL.COEX_DUTY_CEIL.DUTY)

/-- The assertion time the ceiling allows in a second, ticks. -/
def dutyTicks (s : State) : Nat := dutyCeiling s * epochTicks

/-- COEX_REQ is released; its assertion is kept for the sliding second. -/
def dropReq (s : State) : State :=
  match s.aux.reqSince with
  | none => s
  | some t =>
    let kept := (s.aux.asserted.filter (fun x => decide (s.time < x.1 + x.2 + secondTicks))) ++ [(t, s.time - t)]
    { s with aux := { s.aux with uses := [], reqSince := none, asserted := kept } }.put Fld.COX.STAT.REQ false

/-- COEX_GNT and COEX_ACT are asserted: at the levels that GNT_POL and ACT_POL name (R49). Without VDDIO they are inactive (R411). -/
def coexGranted (s : State) : Bool := s.pwr.vddio && s.pwr.gntHigh != s.flag Fld.COX.CTRL.GNT_POL
def coexActive (s : State) : Bool := s.pwr.vddio && s.pwr.actHigh != s.flag Fld.COX.CTRL.ACT_POL

/-- An activity asserts COEX_REQ, in WATCH and FULL; a request that the limiter blocks raises LIMITED (R46, R47). With GNT_USE the
activity waits for a grant for at most GNT_TIMEOUT. -/
def assertReq (use : CoexUse) (s : State) : State :=
  if !s.receiving || s.aux.uses.contains use then s
  else
    let wait (t : State) : State :=
      if t.flag Fld.COX.CTRL.GNT_USE && !(coexGranted t) then
        { t with aux := { t.aux with waits := t.aux.waits ++ [{ use := use, by_ := t.epoch + max 1 (t.get Fld.COX.CTRL.GNT_TIMEOUT) }] } }
      else t
    if s.aux.reqSince.isSome then wait { s with aux := { s.aux with uses := s.aux.uses ++ [use] } }
    else if dutyTicks s ≤ usedTicks s then raise Ev.COX.LIMITED s
    else wait ({ s with aux := { s.aux with uses := [use], reqSince := some s.time } }.put Fld.COX.STAT.REQ true)

/-- An activity no longer needs COEX_REQ. -/
def releaseReq (use : CoexUse) (s : State) : State :=
  let s1 : State := { s with aux := { s.aux with waits := s.aux.waits.filter (fun w => w.use != use) } }
  if !s1.aux.uses.contains use then s1
  else if s1.aux.uses == [use] then dropReq s1
  else { s1 with aux := { s1.aux with uses := s1.aux.uses.filter (fun u => u != use) } }

/-- Whether an activity that holds COEX_REQ, or was blocked, still waits for its grant. -/
def waitsForGrant (s : State) (use : CoexUse) : Bool := s.aux.waits.any (fun w => w.use == use)

/-! ## Fault records -/

/-- A record goes to the front of the log, which keeps 32 (R403, R404), and is counted by its class; FLT.FAULT is raised. Records
that are not permanent count as transient (DEDUCED, log entry 31). -/
def logRecord (r : FaultRec) (s : State) : State :=
  let t : State := { s with flt := { s.flt with log := (r :: s.flt.log).take 32, sinceSnap := s.flt.sinceSnap + 1 } }
  raise Ev.FLT.FAULT (t.bumpSat (if r.cls = 1 then Fld.FLT.PERMANENT_CNT.COUNT else Fld.FLT.TRANSIENT_CNT.COUNT))

/-- The device is to enter SAFE on the next boundary for cause `why` (R400, R403); the first cause stands. -/
def causeSafe (why : Nat) (s : State) : State :=
  if s.flt.safeAt.isSome || s.pwr.mode == .safe then s
  else { s with flt := { s.flt with safeAt := some (s.epoch + 1, why) } }

/-- A fault is counted for R400: more than 8 within 10 s take the device to SAFE. -/
def countFault (s : State) : State :=
  let recent := s.epoch :: s.flt.counted.filter (fun e => decide (s.epoch < e + 10000))
  let t : State := { s with flt := { s.flt with counted := recent } }
  if 8 < recent.length then causeSafe 1 t else t

/-- A lane's loss of synchronisation is recorded; it never counts for R397 or R400. -/
def logSyncLoss (lane : Nat) (s : State) : State :=
  logRecord { unit := 0x0C, inst := lane, cause := 3, epoch := s.epoch } s

end Sys2Proof.Machine
end

