-- ==== Sys2Proof/Machine/Lanes.lean ====
section
/-!
DEFINITION. The lane manager and the sprout controller (chapter 5): down-converter records, cores, sprouts from planting to pull or
root, parking, capacity, and what a retune or release does to a lane.
-/

namespace Sys2Proof.Machine

/-! ## Down-converters (R88 to R90, R98, R99) -/

/-- Records of a channeliser, and its spare contexts (R90). -/
def ddcTotal : Path → Nat
  | .lf => 40
  | .fm => 122
  | .b3 => 24

def ddcSpare : Path → Nat
  | .lf => 8
  | .fm => 16
  | .b3 => 4

/-- USE of record `k`: 0 free, 1 lane, 2 sprout. -/
def ddcUse (s : State) (p : Path) (k : Nat) : Nat := s.get (Fld.CH.DDC_W1.USE p.idx k)

/-- The record that lane `l` holds on a path. -/
def ddcOf (s : State) (p : Path) (l : Nat) : Option Nat :=
  lowest (ddcTotal p) (fun k => ddcUse s p k == 1 && s.get (Fld.CH.DDC_W1.LANE p.idx k) == l)

/-- The lowest free record of a path. -/
def ddcFree (s : State) (p : Path) : Option Nat := lowest (ddcTotal p) (fun k => ddcUse s p k == 0)

/-- The LO frequency of a path in Hz; 0 on the LF path (R88). -/
def loHz (s : State) : Path → Nat
  | .lf => 0
  | .fm => s.get (Fld.LO.FREQ_HZ.HZ 0)
  | .b3 => s.get (Fld.LO.FREQ_HZ.HZ 1)

/-- Bank spacing Δ and NCO input rate of a path, Hz (R87). -/
def bankSpacing : Path → Int
  | .lf => 80000
  | .fm => 320000
  | .b3 => 0

def ncoRate : Path → Int
  | .lf => 160000
  | .fm => 1280000
  | .b3 => 81920000

/-- The bank channel and NCO word for a lane at `f` Hz under an LO at `lo` Hz (R88). A tie takes the lower channel. -/
def channelWord (p : Path) (f lo : Int) : Nat × Nat :=
  let d := bankSpacing p
  let k : Int := if d = 0 then 0 else -((d - 2 * (f - lo)) / (2 * d))
  let r := f - lo - k * d
  (if k < 0 then (k + 256).toNat else k.toNat, ofSigned 32 (roundDiv (-r * 2 ^ 32) (ncoRate p)))

/-- The record `k` of a path is held for lane `l` (USE 1) or sprout slot (USE 2), tuned to `khz`. -/
def writeDdc (p : Path) (k use lane slot khz : Nat) (s : State) : State :=
  let w := channelWord p (khz * 1000) (loHz s p)
  (s.set (Fld.CH.DDC_W0.NCO p.idx k) w.2).setWord (Reg.CH.DDC_W1 p.idx k)
    (wordOf [(0, 8, lane), (8, 5, slot), (13, 2, use), (15, 10, w.1)])

/-- A record becomes free: its words return to their reset values. -/
def clearDdc (p : Path) (k : Nat) (s : State) : State :=
  (s.setWord (Reg.CH.DDC_W0 p.idx k) 0).setWord (Reg.CH.DDC_W1 p.idx k) 0xFF

/-- Lane `l` takes the lowest free record of path `p`, or keeps the one it holds, tuned to `khz`. -/
def takeDdc (p : Path) (l khz : Nat) (s : State) : State :=
  match (ddcOf s p l).orElse (fun _ => ddcFree s p) with
  | some k => writeDdc p k 1 l 0 khz s
  | none => s

/-- Every record lane `l` holds becomes free. -/
def freeDdc (l : Nat) (s : State) : State :=
  forEach [Path.lf, Path.fm, Path.b3] (fun p t => match ddcOf t p l with | some k => clearDdc p k t | none => t) s

/-- The sprout slot `i`. -/
def State.sprout (s : State) (i : Nat) : Sprout := at' s.mgr.sprouts i {}

/-- `s` with slot `i` changed. -/
def State.setSprout (s : State) (i : Nat) (f : Sprout → Sprout) : State := { s with mgr := { s.mgr with sprouts := upd s.mgr.sprouts i f } }

/-- The records of lane `l`'s path that carry its signal: the lane's own, and those its sprouts hold (R90, R99). -/
def ddcsOf (s : State) (l : Nat) : List Nat :=
  let p := (s.lane l).path
  (List.range (ddcTotal p)).filter (fun k =>
    (ddcUse s p k == 1 && s.get (Fld.CH.DDC_W1.LANE p.idx k) == l)
    || (ddcUse s p k == 2 && (s.sprout (s.get (Fld.CH.DDC_W1.SPROUT p.idx k))).lane == l))

/-- Record `k` of a path takes the channel and NCO word for `khz` under the LO frequency now in force. -/
def retuneDdc (p : Path) (k khz : Nat) (s : State) : State :=
  let w := channelWord p (khz * 1000) (loHz s p)
  (s.set (Fld.CH.DDC_W0.NCO p.idx k) w.2).set ⟨Reg.CH.DDC_W1 p.idx k, 15, 10⟩ w.1

/-- Every lane on a path, with its sprouts, takes the channel and NCO word of the LO frequency now in force (R89, R122). -/
def retunePath (p : Path) (s : State) : State :=
  forEach (List.range 156) (fun l t =>
    let x := t.lane l
    if x.path == p && x.khz != 0 then forEach (ddcsOf t l) (fun k u => retuneDdc p k x.khz u) t else t) s

/-- The NCO words of lane `l` and of its sprouts move by `delta` (R122, R126, R127). -/
def addNco (l : Nat) (delta : Word) (s : State) : State :=
  forEach (ddcsOf s l) (fun k t =>
    let a := Reg.CH.DDC_W0 (s.lane l).path.idx k
    t.setWord a (t.word a + delta)) s

/-! ## Cores (R110, R132) -/

/-- Core `c` takes lanes: healthy, not under test, and not being emptied for one or for new code (R360, R393). -/
def coreOpen (s : State) (c : Nat) : Bool :=
  s.flag (Fld.LNM.CORE_STAT.HEALTHY c) && !(s.flag (Fld.LNM.CORE_STAT.RETIRED c)) && !(s.flag (Fld.LNM.CORE_STAT.IN_TEST c))
    && !(s.flt.inReset.contains (0x01, c))
    && !(match s.flt.bist with | some j => j.unit == 0x01 && j.inst == c | none => false)
    && !(match s.fw.swap with | some (k, _) => k == c | none => false)

/-- The open core with the lowest load other than `no` (R110); the lowest-numbered of equals. -/
def quietCore (s : State) (no : Nat) : Option Nat :=
  let open_ := (List.range 6).filter (fun c => coreOpen s c && c != no)
  open_.find? (fun c => open_.all (fun d => decide (s.get (Fld.LNM.CORE_STAT.LOAD c) ≤ s.get (Fld.LNM.CORE_STAT.LOAD d))))

/-- The lanes placed on core `c`. -/
def lanesOnCore (s : State) (c : Nat) : List Nat := (List.range 156).filter (fun l => s.laneInUse l && (s.lane l).core == c)

/-! ## Sprouts (R114 to R125, R133) -/

/-- The kind code of R114. -/
def SproutKind.code : SproutKind → Nat
  | .dab => 1
  | .drm => 2
  | .rds => 3
  | .join => 4
  | .migrate => 5

/-- An acquisition sprout. -/
def SproutKind.acquires : SproutKind → Bool
  | .dab | .drm | .rds => true
  | .join | .migrate => false

/-- The planted slots that satisfy `p`. -/
def plantedSlots (s : State) (p : Sprout → Bool) : List Nat := indices s.mgr.sprouts (fun x => x.state == .planted && p x)

/-- The slot a new sprout takes: the lowest never used since BOOT, else the ROOTED or PULLED slot with the oldest END_EPOCH (R116). -/
def freeSlot (s : State) : Option Nat :=
  match indices s.mgr.sprouts (fun x => x.state == .empty) with
  | i :: _ => some i
  | [] =>
    let ended := indices s.mgr.sprouts (fun x => x.state != .planted)
    ended.find? (fun i => ended.all (fun j => decide ((s.sprout i).endedAt ≤ (s.sprout j).endedAt)))

/-- The path and frequency an acquisition on lane `l` needs a spare context for: its lane holds none (R90, R116). -/
def needsSpare (s : State) (r : SproutReq) : Bool := r.kind.acquires && (ddcOf s (s.lane r.lane).path r.lane).isNone

/-- Spare contexts that sprouts hold on a path. -/
def sparesHeld (s : State) (p : Path) : Nat := ((List.range (ddcTotal p)).filter (fun k => ddcUse s p k == 2)).length

/-- A request needs a spare context and its path has none left (R90). -/
def lacksSpare (s : State) (r : SproutReq) : Bool :=
  needsSpare s r && decide (ddcSpare (s.lane r.lane).path ≤ sparesHeld s (s.lane r.lane).path)

/-- The order in which waiting requests are served (R116). -/
def reqRank (r : SproutReq) : Nat :=
  match r.kind with
  | .migrate => 0
  | .join => 1
  | _ => if isFull r.lane then 2 else 3

/-- A sprout is planted in slot `i`. A lane that migrates shows MIGRATING where it is ACTIVE (R105; another keeps its state, DEDUCED, log
entry 109). -/
def plantIn (i : Nat) (r : SproutReq) (s : State) : State :=
  let x := s.lane r.lane
  let t := s.setSprout i (fun o => {
    kind := some r.kind, state := .planted, lane := r.lane, fromCore := x.core, toCore := r.toCore, pgm := r.pgm, src := r.src,
    plantedAt := s.epoch, gen := (o.gen + 1) % 256, stream := r.stream, move := r.move, mismatches := r.mismatches })
  let t1 := if r.kind == .migrate then t.setLane r.lane (fun y => if y.state == .active then { y with state := .migrating } else y) else t
  let t2 := if needsSpare s r then
      (match ddcFree t1 x.path with | some k => writeDdc x.path k 2 0xFF i x.khz t1 | none => t1) else t1
  raise Ev.LNM.SPROUT_PLANTED (if r.kind.acquires then assertReq (.sprout i) t2 else t2)

/-- The request waits (R116). -/
def waitForSlot (r : SproutReq) (s : State) : State := { s with mgr := { s.mgr with waiting := s.mgr.waiting ++ [r] } }

/-- A sprout is planted where a slot and any spare context it needs are free, whoever waits; it waits otherwise. None is planted outside
WATCH and FULL, and during a control-plane pause it waits (R8, R90, R114, R116). -/
def plantNow (r : SproutReq) (s : State) : State :=
  if !s.receiving then s
  else if s.fab.pause.isSome then waitForSlot r s
  else match freeSlot s with
    | none => raise Ev.LNM.SPROUT_WAIT (waitForSlot r s)
    | some i =>
      if lacksSpare s r then waitForSlot r (raise (Ev.CH.DDC_EXHAUSTED (s.lane r.lane).path.idx) s) else plantIn i r s

/-- A waiting request that could be planted and comes before `r` (R116). -/
def comesBefore (s : State) (r q : SproutReq) : Bool := decide (reqRank q ≤ reqRank r) && !(lacksSpare s q)

/-- A sprout is asked for. It waits behind those that come before it, though a slot be free already (R116). -/
def plant (r : SproutReq) (s : State) : State :=
  if s.receiving && s.fab.pause.isNone && (freeSlot s).isSome && s.mgr.waiting.any (comesBefore s r) then
    raise Ev.LNM.SPROUT_WAIT (waitForSlot r s)
  else plantNow r s

/-- The request served next: of those that can be planted, the first in order of kinds, and of one kind the oldest. -/
def nextReq (s : State) : Option SproutReq :=
  let l := s.mgr.waiting.filter (fun r => !(lacksSpare s r))
  l.find? (fun r => l.all (fun q => decide (reqRank r ≤ reqRank q)))

/-- A waiting request takes a slot that has become free (R116). -/
def serveSprouts (s : State) : State :=
  if s.fab.pause.isSome || (freeSlot s).isNone then s
  else match nextReq s with
    | none => s
    | some r => plantNow r { s with mgr := { s.mgr with waiting := s.mgr.waiting.erase r } }

/-- The end of a planted sprout: COEX_REQ and any spare context are released. -/
def endSprout (i : Nat) (st : SproutState) (why : PullReason) (s : State) : State :=
  let x := s.sprout i
  let p := (s.lane x.lane).path
  let t := s.setSprout i (fun y => { y with state := st, reason := why, endedAt := s.epoch })
  let t1 := forEach (List.range (ddcTotal p)) (fun k u =>
    if ddcUse u p k == 2 && u.get (Fld.CH.DDC_W1.SPROUT p.idx k) == i then clearDdc p k u else u) t
  releaseReq (.sprout i) t1

/-- The shadow of a sprout on lane `l` is discarded (R119). -/
def discardShadow (l : Nat) (s : State) : State :=
  match laneClass l with
  | .fm | .rds => s.setRds (rdsIndex l) (fun x => { x with shadow := {}, shadowSeen := none })
  | .dab | .fic => s.setDab (dabIndex l) (fun x => { x with shadow := [] })
  | _ => s

/-- A planted sprout is pulled (R119): its shadow is discarded and its root cancelled. -/
def pull (i : Nat) (why : PullReason) (s : State) : State :=
  let x := s.sprout i
  if x.state != .planted then s
  else
    let t := cancelEntries (fun c => c == .root i) (endSprout i .pulled why s)
    let t1 := if x.kind == some .migrate then
        t.setLane x.lane (fun y => if y.state == .migrating then { y with state := .active } else y)
      else if x.kind == some .join then t else discardShadow x.lane t
    raise Ev.LNM.SPROUT_PULLED t1

/-- Every planted sprout on lane `l`, and every request for one, ends; joins of the lane are the combiner's and stay. -/
def pullLane (l : Nat) (why : PullReason) (s : State) : State :=
  let t : State := { s with mgr := { s.mgr with waiting := s.mgr.waiting.filter (fun r => r.lane != l || r.kind == .join) } }
  forEach (plantedSlots t (fun x => x.lane == l && x.kind != some .join)) (fun i u => pull i why u) t

/-- The sprout kind by which a class acquires (R105, R114); AM lanes need none. -/
def acquireKind (l : Nat) : Option SproutKind :=
  match laneClass l with
  | .fm | .rds => some .rds
  | .dab | .fic => some .dab
  | .drm => some .drm
  | .am | .amw => none

/-- The acquisition sprout of lane `l` is planted. -/
def plantAcquire (l : Nat) (s : State) : State :=
  match acquireKind l with
  | some k => plant { kind := k, lane := l } s
  | none => s

/-- An FM full lane, AM full lane or AM watch entry starts receiving without a sprout (R105, R173). -/
def startsAtOnce (l : Nat) : Bool := laneClass l == .fm || laneClass l == .am || laneClass l == .amw

/-- Lane `l` starts to acquire: ACQUIRING, with its sprout planted where its class has one. -/
def acquire (l : Nat) (s : State) : State :=
  let t := s.setLane l (fun x => { x with state := .acquiring, sync := false, lost := false, replantAt := none })
  match laneClass l with
  | .fm => gapTuning l { t with fm := upd t.fm l (fun x => { x with tuning := true }) }
  | .am => gapTuning l { t with am := upd t.am (l - 8) (fun x => { x with tuning := true }) }
  | .amw => t.setLane l (fun x => { x with state := .active })
  | _ => plantAcquire l t

/-- Lane `l` is parked (R34, R40): its sprouts are pulled, its records stay. -/
def park (l : Nat) (s : State) : State :=
  if s.laneInUse l && (s.lane l).state != .parked then
    (pullLane l .parked (rdsOff l s)).setLane l (fun x => { x with state := .parked, sync := false, lost := false, replantAt := none })
  else s

/-- A parked lane comes back: it acquires anew (R34, R40, R106), an AM watch entry, which has no sprout, for one epoch. -/
def unpark (l : Nat) (s : State) : State :=
  if (s.lane l).state != .parked then s
  else if laneClass l == .amw then s.setLane l (fun x => { x with state := .acquiring, sync := false, lost := false, replantAt := none })
  else acquire l s

/-- AM watch entries that came back from parking are ACTIVE from the next boundary on (R105). -/
def watchReturns (s : State) : State :=
  forEach LaneClass.amw.lanes (fun l t =>
    if (t.lane l).state == .acquiring then t.setLane l (fun x => { x with state := .active }) else t) s

/-- Lane `l` leaves use: its sprouts are pulled for `why`, its context is freed, its record cleared. -/
def dropLane (l : Nat) (why : PullReason) (st : LaneState) (s : State) : State :=
  (clearLane l (freeDdc l (pullLane l why s))).setLane l (fun _ => { state := st })

/-- Lane `l` is taken into use on path `p` at `khz` (R90, R110): its core, its record. -/
def occupy (l : Nat) (p : Path) (khz : Nat) (host : Bool) (s : State) : State :=
  let s0 := if (s.lane l).path == p then s else freeDdc l s
  let c := if (s0.lane l).inUse && (s0.lane l).core < 6 then (s0.lane l).core else (quietCore s0 7).getD 7
  takeDdc p l khz (s0.setLane l (fun x => { x with core := c, path := p, khz := khz, host := host, policy := !host && isFull l, lost := false }))

/-- A full lane loses synchronisation, or a watch entry does: R106. The loss is recorded (R397). -/
def laneLost (l : Nat) (s : State) : State :=
  if (s.lane l).live && !(s.lane l).lost then
    raise Ev.LNM.LANE_LOST (logSyncLoss l (s.setLane l (fun x => { x with lost := true, sync := false })))
  else s

/-- On a boundary, lanes that lost synchronisation return to ACQUIRING and plant a sprout (R106). -/
def returnLost (s : State) : State :=
  forEach (List.range 156) (fun l t => if (t.lane l).lost && (t.lane l).inUse then acquire l (pullLane l .superseded t) else t) s

/-- A lane that a fault has reset restarts: RESTARTING, on another core where its own is out of service, with an acquisition sprout
where its class has one (R125, R397). -/
def restartLane (l : Nat) (s : State) : State :=
  let t := pullLane l .fault (rdsOff l s)
  let x := t.lane l
  let c := if coreOpen t x.core then x.core else (quietCore t 7).getD 7
  plantAcquire l (t.setLane l (fun y => { y with state := .restarting, sync := false, lost := false, restart := false, core := c }))

/-- Lanes that a fault has reset restart on the boundary (R397, R399). -/
def restartMarked (s : State) : State :=
  forEach (List.range 156) (fun l t => if (t.lane l).restart then
    (if (t.lane l).inUse && (t.lane l).state != .parked then restartLane l t else t.setLane l (fun x => { x with restart := false })) else t) s

/-! ## Migration (R110, R123 to R125) -/

/-- A migration of lane `l` to core `c` is asked for. -/
def migrate (l c : Nat) (why : MoveFor) (mismatches : Nat) (s : State) : State :=
  plant { kind := .migrate, lane := l, toCore := c, move := why, mismatches := mismatches } s

/-- A migration is planted, or waits to be. -/
def migrating (s : State) : Bool :=
  !(plantedSlots s (fun x => x.kind == some .migrate)).isEmpty || s.mgr.waiting.any (fun r => r.kind == .migrate)

/-- A migration roots: the lane runs on its new core (R118, R123). -/
def rootMigration (i : Nat) (s : State) : State :=
  let x := s.sprout i
  let t := s.setLane x.lane (fun y => { y with state := if y.state == .migrating then .active else y.state, core := x.toCore })
  { t with mgr := { t.mgr with migrated := t.mgr.migrated ++ [(x.lane, x.fromCore, s.epoch + 1)] } }

/-- On the boundary after its root a migration is done: the origin's context is free (R123). -/
def migrationsDone (s : State) : State :=
  let due := s.mgr.migrated.filter (fun m => decide (m.2.2 ≤ s.epoch))
  let t : State := { s with mgr := { s.mgr with migrated := s.mgr.migrated.filter (fun m => decide (s.epoch < m.2.2)) } }
  raiseIf (!due.isEmpty) Ev.LNM.MIGRATE_DONE t

/-! ## Capacity (R104, R111, R112, R344) -/

/-- The accelerators that serve an instance are all healthy (R104, R132). -/
def accelHealthy (s : State) (l : Nat) : Bool :=
  let w := s.word Reg.LNM.ACCEL_STAT
  let bit (b : Nat) : Bool := w.getLsbD b
  let i := laneInst l
  match laneClass l with
  | .fm => bit i
  | .rds => bit 8
  | .dab => bit (9 + i / 2) && bit (11 + i / 2)
  | .fic => bit (9 + i / 8)
  | .drm => bit (11 + i) && bit (13 + i)
  | .am => bit (13 + i / 3)
  | .amw => true

/-- Lane cores that are healthy. -/
def healthyCores (s : State) : Nat := ((List.range 6).filter (fun c => s.flag (Fld.LNM.CORE_STAT.HEALTHY c))).length

/-- Effective core count: healthy cores less retired sample banks 4–7 (R11, R111, R386). -/
def effectiveCores (s : State) : Nat :=
  healthyCores s - ((List.range 4).filter (fun b => (s.get Fld.BST.BANKS_RETIRED.BANKS).testBit (4 + b))).length

/-- The row of R111 for an effective core count: FM, AM, DAB, DRM, RDS, FIC, AM watch, decodes. -/
def capacityRow (cores : Nat) : List Nat :=
  if 6 ≤ cores then [8, 6, 4, 2, 96, 16, 24, 8]
  else if cores = 5 then [8, 6, 4, 2, 64, 12, 16, 8]
  else if cores = 4 then [6, 4, 3, 2, 48, 8, 12, 6]
  else [0, 0, 0, 0, 0, 0, 0, 0]

/-- The place of a class in the capacity table. -/
def LaneClass.idx : LaneClass → Nat
  | .fm => 0
  | .am => 1
  | .dab => 2
  | .drm => 3
  | .rds => 4
  | .fic => 5
  | .amw => 6

/-- The capacity of a class: the lower of its row and its instances with healthy accelerators (R111). -/
def classCapacity (s : State) (c : LaneClass) : Nat :=
  min ((capacityRow (effectiveCores s)).getD c.idx 0) (c.lanes.filter (fun l => accelHealthy s l)).length

/-- The classes in the order of R103. -/
def allClasses : List LaneClass := [.fm, .am, .dab, .drm, .rds, .fic, .amw]

/-- The capacity registers show R111's values; decodes follow the row alone. -/
def showCapacity (s : State) : State :=
  let t := forEach allClasses (fun c u => u.set (Fld.LNM.CAPACITY.COUNT c.idx) (classCapacity s c)) s
  t.set (Fld.LNM.CAPACITY.COUNT 7) ((capacityRow (effectiveCores s)).getD 7 0)

/-- At BOOT the lowest-numbered healthy instances survive and all others are RETIRED (R112). -/
def bootCapacity (s : State) : State :=
  let t := showCapacity s
  forEach allClasses (fun c u =>
    let keep := (c.lanes.filter (fun l => accelHealthy s l)).take (classCapacity s c)
    forEach c.lanes (fun l v => v.setLane l (fun x => { x with state := if keep.contains l then .free else .retired })) u) t

/-- The level of a watch entry's candidate in the latest closed snapshot, 0.25 dB (R112): FM map entry, B3 block, or LF raster or bin. -/
def candidateLevel (s : State) (l : Nat) : Int :=
  let khz := (s.lane l).khz
  let find (m i : Nat) : Int := match (at' s.maps m {}).now.cells.find? (fun c => c.index == i) with | some c => c.level | none => -32768
  match laneClass l with
  | .rds => find 0 ((khz - 64000) / 50)
  | .fic => find 1 (blockOf khz)
  | .amw =>
    if khz % 9 = 0 ∧ 153 ≤ khz ∧ khz ≤ 1602 then find 2 (11943 + (khz - 153) / 9)
    else if khz % 10 = 0 ∧ 530 ≤ khz ∧ khz ≤ 1700 then find 2 (11943 + 162 + (khz - 530) / 10)
    else find 2 ((khz * 10 - 1450) / 25)
  | _ => 0

/-- Watch entries of a class in use, weakest first; of equals the highest-numbered first (R112 step 4). -/
def weakestFirst (s : State) (c : LaneClass) : List Nat :=
  sortBy (fun a b => decide (candidateLevel s a ≤ candidateLevel s b)) (c.lanes.filter (fun l => s.laneInUse l)).reverse

/-- A resource that lane `l` uses, or sprout `x` of it, has failed (R112, R121). -/
def usesFailed (s : State) (l : Nat) (x : Sprout) : Bool :=
  let bad (c : Nat) : Bool := decide (c < 6) && !(s.flag (Fld.LNM.CORE_STAT.HEALTHY c))
  !(accelHealthy s l) || bad (s.lane l).core || (x.kind == some .migrate && bad x.toCore)

/-- The order in which a class loses instances when capacity falls (R112). -/
def retireOrder (s : State) (c : LaneClass) : List Nat :=
  let free := (c.lanes.filter (fun l => (s.lane l).state == .free)).reverse
  let feeding := feedingLanes s
  let idle := (c.lanes.filter (fun l => s.laneInUse l && !(feeding.contains l))).reverse
  let fed := (feeding.filter (fun l => c.lanes.contains l && s.laneInUse l)).reverse
  if isFull c.base then free ++ idle ++ fed else free ++ weakestFirst s c

/-- The sprouts of a lane that is shed are pulled: FAULT where a resource that the lane or the sprout uses has failed, SUPERSEDED where
capacity alone falls (R112, R121). A JOIN is pulled with its source's loss, for the same reason. -/
def pullShed (l : Nat) (s : State) : State :=
  pullLane l .superseded (forEach (plantedSlots s (fun x => x.lane == l && x.kind != some .join && usesFailed s l x))
    (fun i t => pull i .fault t) s)

/-- Lane `l` is retired, and shed if it is in use (R112). -/
def retireLane (l : Nat) (s : State) : State :=
  if (s.lane l).state == .retired then s
  else
    let t := cancelEntries (fun c => match c with
      | .tune k _ _ _ => k == l
      | .release k => k == l
      | .afc k _ => k == l
      | _ => false) (raiseIf (s.laneInUse l) Ev.LNM.SHED s)
    raise Ev.LNM.LANE_RETIRED ((dropLane l .superseded .retired (pullShed l t)).setLane l (fun x => { x with failed := usesFailed s l {} }))

/-- Capacity falls after a failure: instances of failed accelerators go first, then R112's order, until each class fits (R111, R112).
Three effective cores or fewer lead to SAFE (R113). -/
def recapacity (s : State) : State :=
  let t := forEach (List.range 156) (fun l u => if accelHealthy u l then u else retireLane l u) s
  let t1 := forEach allClasses (fun c u =>
    let left := (c.lanes.filter (fun l => (u.lane l).state != .retired)).length
    forEach ((retireOrder u c).take (left - classCapacity u c)) (fun l v => retireLane l v) u) t
  let changed := allClasses.any (fun c => s.get (Fld.LNM.CAPACITY.COUNT c.idx) != classCapacity t1 c)
  let t2 := shedDecoders (raiseIf changed Ev.LNM.CAPACITY (showCapacity t1))
  if effectiveCores t2 ≤ 3 then causeSafe 3 t2 else t2

/-- The governor's limit on watch entries of a class in use (R344). -/
def watchLimit (s : State) (c : LaneClass) : Nat :=
  if s.get Fld.PMU.GOV_STAT.LEVEL = 0 then classCapacity s c
  else min (classCapacity s c) (match c with | .rds => 48 | .fic => 8 | .amw => 12 | _ => classCapacity s c)

end Sys2Proof.Machine
end

