-- ==== Sys2Proof/Machine/Units.lean ====
section
/-!
DEFINITION. Fault handling of the units of R386: transient faults, recovery windows, permanent faults, device recovery and the fault
rate that leads to SAFE (R397 to R400).
-/

namespace Sys2Proof.Machine

open Sys2Proof

/-- A shared resource (R386). -/
def sharedUnit (u : Nat) : Bool := u == 0x03 || u == 0x04 || u == 0x05 || u == 0x07 || u == 0x09

/-- A unit that a transient fault resets: lane cores and accelerators (R397). -/
def hasReset (u : Nat) : Bool := decide (0x01 ≤ u) && decide (u ≤ 0x06)

/-- A loop or control core, whose permanent fault leads to SAFE (R398). -/
def safeUnit (u : Nat) : Bool := decide (0x08 ≤ u) && decide (u ≤ 0x0B)

/-- The instances of a unit code that has a run-time BIST (R386). -/
def unitInstances (u : Nat) : Nat :=
  match u with
  | 0x01 => 6
  | 0x02 => 8
  | 0x03 => 1
  | 0x04 => 2
  | 0x05 => 2
  | 0x06 => 2
  | _ => 0

/-- The bit of `LNM.ACCEL_STAT` of an accelerator (R132). -/
def accelBit (u inst : Nat) : Nat :=
  match u with
  | 0x02 => inst
  | 0x03 => 8
  | 0x04 => 9 + inst
  | 0x05 => 11 + inst
  | _ => 13 + inst

/-- Whether accelerator `u`, `inst` serves a lane (R104). -/
def serves (u inst l : Nat) : Bool :=
  let i := laneInst l
  match laneClass l with
  | .fm => u == 0x02 && inst == i
  | .rds => u == 0x03
  | .dab => (u == 0x04 || u == 0x05) && inst == i / 2
  | .fic => u == 0x04 && inst == i / 8
  | .drm => (u == 0x05 || u == 0x06) && inst == i
  | .am => u == 0x06 && inst == i / 3
  | .amw => false

/-- The lanes in use that a lane core or accelerator serves. -/
def servedLanes (s : State) (u inst : Nat) : List Nat :=
  if u = 0x01 then lanesOnCore s inst else (List.range 156).filter (fun l => s.laneInUse l && serves u inst l)

/-- The lanes a unit serves restart on the next boundary (R397). -/
def markRestart (u inst : Nat) (s : State) : State :=
  forEach (servedLanes s u inst) (fun l t => t.setLane l (fun x => { x with restart := true })) s

/-- A sprout of kind `k` migrates its lane to lane core `inst`. -/
def aimsAt (u inst : Nat) (k : Option SproutKind) (toCore : Nat) : Bool := u == 0x01 && k == some .migrate && toCore == inst

/-- The planted sprouts that use a unit (R121): those of the lanes it serves, and migrations to it. A JOIN goes with its source. -/
def usersOf (s : State) (u inst : Nat) : List Nat :=
  plantedSlots s (fun x => x.kind != some .join && ((servedLanes s u inst).contains x.lane || aimsAt u inst x.kind x.toCore))

/-- The sprouts that use a unit are pulled when it faults (R121), and migrations to it are no longer asked for. -/
def pullUsers (u inst : Nat) (s : State) : State :=
  let t : State := { s with mgr := { s.mgr with waiting := s.mgr.waiting.filter (fun r => !(aimsAt u inst (some r.kind) r.toCore)) } }
  forEach (usersOf s u inst) (fun i v => pull i .fault v) t

/-- A unit is recovering: in reset or with its loop open, or less than 100 epochs after (R397). -/
def isRecovering (s : State) (u : UnitId) : Bool :=
  s.flt.inReset.contains u || s.flt.recovering.any (fun r => r.1 == u && decide (s.epoch < r.2))

/-- The units recovering now. -/
def recoveringUnits (s : State) : List UnitId :=
  s.flt.inReset ++ (s.flt.recovering.filter (fun r => decide (s.epoch < r.2))).map (fun r => r.1)

/-- A unit's reset, or its loop's settling, completes: it is recovering for 100 epochs more (R397). -/
def unitSettled (u : UnitId) (s : State) : State :=
  if s.flt.inReset.contains u then
    { s with flt := { s.flt with inReset := s.flt.inReset.filter (fun x => x != u),
                                 recovering := (u, s.epoch + 100) :: s.flt.recovering.filter (fun r => r.1 != u) } }
  else s

/-- Resets of a unit within the last 60 s (R398). -/
def recentResets (s : State) (u : UnitId) : Nat :=
  (s.flt.resets.filter (fun r => r.1 == u && decide (s.epoch < r.2 + 60000))).length

/-- A lane core or accelerator is out of service until the next BOOT (R398): its health bit clears and capacity follows; lanes left on
a core restart on others. -/
def takeOut (u inst : Nat) (s : State) : State :=
  let t := if u = 0x01 then
      markRestart u inst ((s.put (Fld.LNM.CORE_STAT.HEALTHY inst) false).put (Fld.LNM.CORE_STAT.RETIRED inst) true)
    else s.setWord Reg.LNM.ACCEL_STAT (withField (s.word Reg.LNM.ACCEL_STAT) (accelBit u inst) 1 0)
  recapacity { t with flt := { t.flt with retired := (u, inst) :: t.flt.retired } }

/-- A permanent fault (R398): recorded, and the unit retired; one of a loop or control core leads to SAFE. -/
def permanentFault (u inst cause retry : Nat) (s : State) : State :=
  let act := if safeUnit u then 5 else 3
  let r : FaultRec := { unit := u, inst := inst, cause := cause, cls := 1, action := act, retry := min 4 retry, epoch := s.epoch }
  let t := raise Ev.FLT.PERMANENT (logRecord r s)
  let t1 : State := { t with flt := { t.flt with inReset := t.flt.inReset.filter (fun x => x != (u, inst)),
                                                 recovering := t.flt.recovering.filter (fun r => r.1 != (u, inst)) } }
  if safeUnit u then causeSafe 5 t1
  else if hasReset u then takeOut u inst (pullUsers u inst t1)
  else t1

/-- The reset of a unit starts and is remembered (R397, R398). -/
def startReset (u inst : Nat) (s : State) : State :=
  let resets := if hasReset u then ((u, inst), s.epoch) :: s.flt.resets.filter (fun r => decide (s.epoch < r.2 + 60000)) else s.flt.resets
  { s with flt := { s.flt with inReset := if s.flt.inReset.contains (u, inst) then s.flt.inReset else (u, inst) :: s.flt.inReset,
                               recovering := s.flt.recovering.filter (fun r => r.1 != (u, inst)), resets := resets } }

/-- A device recovery starts (R399 step 1): its units are the faulty one and every unit still recovering. -/
def startRecovery (u inst : Nat) (s : State) : State :=
  let others := (recoveringUnits s).filter (fun x => x != (u, inst))
  let t : State := { s with flt := { s.flt with recovery := some (.ramping (s.epoch + 1), (u, inst) :: others) } }
  raise Ev.FLT.ESCALATE ((t.put Fld.FLT.STAT.RECOVERING true).bumpSat Fld.FLT.ESCALATE_CNT.COUNT)

/-- A fault of a unit (R397 to R400): counted, and by class permanent, part of a device recovery, or transient. The fourth reset
within 60 s and the second fault of a unit still recovering are permanent. -/
def unitFault (u inst cause : Nat) (s : State) : State :=
  let again := isRecovering s (u, inst)
  let retry := if hasReset u then recentResets s (u, inst) + 1 else 0
  let t := pullUsers u inst (countFault s)
  let entry (cls action : Nat) (x : State) : State :=
    logRecord { unit := u, inst := inst, cause := cause, cls := cls, action := action, retry := min 4 retry, epoch := s.epoch } x
  if s.flt.retired.contains (u, inst) then s
  else if again || decide (4 ≤ retry) then permanentFault u inst cause retry t
  else match s.flt.recovery with
    | some (stage, units) =>
      let t1 := startReset u inst (entry 2 4 t)
      markRestart u inst { t1 with flt := { t1.flt with recovery := some (stage, (u, inst) :: units) } }
    | none =>
      if sharedUnit u && !(recoveringUnits s).isEmpty then
        startRecovery u inst (entry 2 4 t)
      else markRestart u inst (startReset u inst (entry 0 (if hasReset u then 2 else 0) t))

end Sys2Proof.Machine
end

