-- ==== Sys2Proof/Machine/Loops.lean ====
section
/-!
DEFINITION. Reference, PLL-S, the LO synthesisers and the clock outputs (chapter 3): divider words, the hop table, LO changes from
request to settling, coast and rebase, frequency epochs.
-/

namespace Sys2Proof.Machine

open Sys2Proof

/-! ## Divider words (R57, R59) -/

/-- The classified reference in Hz by its code (R55, R78); 0 for none. -/
def refHz (s : State) : Nat :=
  match s.get Fld.CLK.REF_CFG.REF_FREQ with
  | 1 => 19200000
  | 2 => 26000000
  | 3 => 38400000
  | 4 => 52000000
  | _ => 0

/-- N and F for a VCO at `vco` Hz of true time, moved by `off` ppb, from a reference of `ref` Hz, divider `rd` and correction `c` ppb
(R57, R74.3). -/
def dividerWords (ref rd vco : Nat) (c off : Int) : Nat × Nat :=
  if ref = 0 then (0, 0)
  else
    let x := (roundDiv ((vco : Int) * rd * 2 ^ 32 * (1000000000 + off)) ((ref : Int) * (1000000000 + c))).toNat
    (x / 2 ^ 32, x % 2 ^ 32)

/-- The largest even output divider that keeps the VCO at or below 4 200 MHz (R59). -/
def outputDivider (hz : Nat) : Nat := if hz = 0 then 0 else 2 * (4200000000 / (2 * hz))

/-- The correction in force, ppb. -/
def State.corr (s : State) : Int := s.geti Fld.OFS.CORR_PPB.PPB

/-- The rebase offset of an LO's words, ppb. -/
def loOffset (s : State) (l : Lo) : Int := (at' s.loops.loops l.idx {}).offset

/-- The state of a synthesiser. -/
def State.lo (s : State) (l : Lo) : LoState := at' s.loops.los l.idx {}

/-- `s` with a synthesiser changed. -/
def State.setLo (s : State) (l : Lo) (f : LoState → LoState) : State := { s with loops := { s.loops with los := upd s.loops.los l.idx f } }

/-- `s` with the loop of an LO changed. -/
def State.setLoop (s : State) (l : Lo) (f : LoopState → LoopState) : State :=
  { s with loops := { s.loops with loops := upd s.loops.loops l.idx f } }

/-- The words of an LO at `hz`: N, F and D. -/
def loWords (s : State) (hz : Nat) (c off : Int) : Nat × Nat × Nat :=
  let d := outputDivider hz
  let w := dividerWords (refHz s) (s.get Fld.CLK.REF_CFG.REFDIV) (hz * d) c off
  (w.1, w.2, d)

/-- The words of PLL-S follow the correction and its offset (R57). -/
def setPllWords (s : State) : State :=
  let w := dividerWords (refHz s) (s.get Fld.CLK.REF_CFG.REFDIV) 2949120000 s.corr s.loops.sys.offset
  (s.set Fld.CLK.INT.N w.1).set Fld.CLK.FRAC.F w.2

/-- An LO's words in force. -/
def setLoWords (l : Lo) (hz : Nat) (s : State) : State :=
  let w := loWords s hz s.corr (loOffset s l)
  (((s.set (Fld.LO.INT.N l.idx) w.1).set (Fld.LO.FRAC.F l.idx) w.2.1).set (Fld.LO.ODIV.D l.idx) w.2.2).set (Fld.LO.FREQ_HZ.HZ l.idx) hz

/-- The next set of an LO is loaded for boundary `b` (R60). -/
def loadNext (l : Lo) (hz : Nat) (c off : Int) (b : Nat) (s : State) : State :=
  let w := loWords s hz c off
  (((s.set (Fld.LO.NEXT_INT.N l.idx) w.1).set (Fld.LO.NEXT_FRAC.F l.idx) w.2.1).set (Fld.LO.NEXT_ODIV.D l.idx) w.2.2).set
    (Fld.LO.NEXT_EPOCH.EPOCH l.idx) b

/-! ## The hop table (R63) -/

/-- The entries with a fixed frequency: glimpse centres, and the span LO. -/
def fixedEntries : Lo → List Nat
  | .lof => [68400000, 77200000, 86000000, 94800000, 103600000]
  | .lob => [178150000, 186400000, 194650000, 202900000, 211150000, 219400000, 227650000, 235900000, 207000000]

/-- The entry for frequency `hz`: its fixed entry, the entry that holds it, the lowest unused, or the least recently used. -/
def hopEntry (s : State) (l : Lo) (hz : Nat) : Nat :=
  let fixed := fixedEntries l
  match lowest fixed.length (fun i => fixed.getD i 0 == hz) with
  | some i => i
  | none =>
    let free := (List.range 32).filter (fun i => decide (fixed.length ≤ i))
    match free.find? (fun i => s.get (Fld.LO.HOP_W0.FREQ_HZ l.idx i) == hz) with
    | some i => i
    | none =>
      match free.find? (fun i => s.get (Fld.LO.HOP_W0.FREQ_HZ l.idx i) == 0) with
      | some i => i
      | none => ((s.lo l).used.find? (fun i => free.contains i)).getD fixed.length

/-- The entry holds a code that is not stale and its frequency is `hz`. -/
def hopReady (s : State) (l : Lo) (i hz : Nat) : Bool :=
  s.get (Fld.LO.HOP_W0.FREQ_HZ l.idx i) == hz && s.flag (Fld.LO.HOP_W1.VALID l.idx i) && !(s.flag (Fld.LO.HOP_W1.STALE l.idx i))

/-- Entry `i` becomes the most recently used. -/
def touchEntry (l : Lo) (i : Nat) (s : State) : State := s.setLo l (fun x => { x with used := x.used.filter (fun j => j != i) ++ [i] })

/-- A search or calibration stores code `c` for frequency `hz` in entry `i`. -/
def storeEntry (l : Lo) (i hz c : Nat) (s : State) : State :=
  let t := s.set (Fld.LO.HOP_W0.FREQ_HZ l.idx i) hz
  let t1 := t.setWord (Reg.LO.HOP_W1 l.idx i) (wordOf [(0, 6, c), (6, 1, 1), (8, 6, outputDivider hz)])
  (t1.seti (Fld.LO.HOP_W2.TJ_CAL l.idx i) t1.pwr.tj).set (Fld.LO.HOP_W3.CAL_EPOCH l.idx i) t1.epoch

/-! ## LO requests (R60, R66 to R68, R437) -/

/-- The LO is powered: WATCH or FULL, and a band of its path enabled (R39, R437). -/
def loOn (s : State) (l : Lo) : Bool := s.receiving && !(heldOff s l.vhf.path)

/-- A path is idle for calibration (R66). -/
def loIdle (s : State) (l : Lo) : Bool := (fullOn s l.vhf.path).isEmpty

/-- The glimpse tile's own gain step (R38): the step last held there, else the path's starting step (R436). -/
def tileStep (s : State) (p : Path) (hz : Nat) : Nat :=
  match (at' s.paths p.idx {}).tileSteps.find? (fun x => x.1 == hz / 1000) with
  | some x => x.2
  | none => (at' s.paths p.idx {}).startStep

/-- AGC mode of a path: 0 AUTO, 1 HOLD, 2 MANUAL (R31). -/
def agcMode (s : State) (p : Path) : Nat := s.get ⟨Reg.AGC.CTRL, 2 * p.idx, 2⟩

/-- The first boundary divisible by 20 that a post may still name (R18, R37). -/
def nextHopBoundary (s : State) : Nat := (s.epoch + 2 + 19) / 20 * 20

/-- A calibration of the entry in force takes that entry's frequency as it is posted (R65, R67). -/
def resolveCal (s : State) (l : Lo) (r : LoReq) : LoReq :=
  if r.inForce then { r with hz := s.get (Fld.LO.FREQ_HZ.HZ l.idx), entry := s.get (Fld.LO.STAT.ENTRY l.idx) } else r

/-- The gain step that goes with a glimpse hop: the AGC's in AUTO alone (R31, R38). -/
def hopGain (s : State) (l : Lo) (hz : Nat) : List Change :=
  if agcMode s l.vhf.path = 0 then [.gain l.vhf.path (tileStep s l.vhf.path hz) .hop] else []

/-- A request goes to the plan and the synthesiser is busy from then on. A glimpse hop takes a boundary divisible by 20, and its
tile's gain step goes with it (R37, R38). -/
def postLo (l : Lo) (q : LoReq) (s : State) : State :=
  let r := resolveCal s l q
  let t := s.setLo l (fun x => { x with busy := some r, settling := false })
  let switch : List Change := match r.band with | some b => [.band l.vhf b] | none => []
  if r.glimpse then postAll (.lo l r :: hopGain s l r.hz) (nextHopBoundary s) t
  else postAll (.lo l r :: switch) 0 t

/-- An LO request of any origin (R68): posted, or held in the queue while the synthesiser is busy. -/
def requestLo (l : Lo) (r : LoReq) (s : State) : State :=
  let x := s.lo l
  if !(loOn s l) then s
  else if x.busy.isNone then postLo l r s
  else
    let t := if x.queued.isSome then
        raise (Ev.LO.SUPERSEDED l.idx) (s.bumpSat (Fld.LO.SUPERSEDED_CNT.COUNT l.idx)) else s
    (t.setLo l (fun y => { y with queued := some r })).put (Fld.LO.STAT.QUEUED l.idx) true

/-- A held queue entry is dropped. -/
def dropLoQueue (l : Lo) (s : State) : State :=
  (s.setLo l (fun x => { x with queued := none })).put (Fld.LO.STAT.QUEUED l.idx) false

/-- A staleness search whose stale entry is no longer in force: the entry's next use refreshes it (R65). -/
def outdatedCal (s : State) (l : Lo) (r : LoReq) : Bool :=
  r.inForce && !r.host && !(s.flag (Fld.LO.HOP_W1.STALE l.idx (s.get (Fld.LO.STAT.ENTRY l.idx))))

/-- The held request is posted once the synthesiser is free (R68). -/
def serveLoQueue (l : Lo) (s : State) : State :=
  match (s.lo l).queued with
  | some r => if (s.lo l).busy.isSome then s
    else if outdatedCal s l r then dropLoQueue l s
    else postLo l r (dropLoQueue l s)
  | none => s

/-- The range in kHz that LO frequency `hz` captures: the whole span, or the 10.24 MHz tile (R39). -/
def captured (v : Vhf) (tile : Bool) (hz : Nat) : Nat × Nat :=
  if tile then (hz / 1000 - 5120, hz / 1000 + 5120)
  else match v with
    | .fm => (64000, 108000)
    | .b3 => (174000, 240000)

/-- The hardware guard accepts an LO change (R39): what it would capture overlaps an enabled band. -/
def guardAccepts (s : State) (l : Lo) (r : LoReq) : Bool :=
  let tile := match r.band with
    | some b => b.isSome
    | none => (tileNow s l.vhf.path).isSome
  let c := captured l.vhf tile r.hz
  overlapsBand s l.vhf.path c.1 c.2

/-- Whether an LO change searches afresh: asked to, a calibration, or no valid entry that is not stale (R62). -/
def searches (s : State) (l : Lo) (r : LoReq) : Bool :=
  r.fresh || r.kind == .cal || !(hopReady s l (hopEntry s l r.hz) r.hz)

/-- An LO change applies on its boundary (R60, R89): the next set comes into force, the lanes of the path follow it, the synthesiser
settles, and a loop that coasted for want of lock closes (R73). SETTLING or CALIBRATING shows from the boundary to the settling (R79;
DEDUCED, log entry 97). -/
def applyLo (l : Lo) (r : LoReq) (s : State) : State :=
  let i := hopEntry s l r.hz
  let search := searches s l r
  let t := touchEntry l i (clearNext l (setLoWords l r.hz s))
  let t1 := ((t.set (Fld.LO.STAT.ENTRY l.idx) i).put (Fld.LO.STAT.LOCKED l.idx) false).put
    (if r.kind == .cal then Fld.LO.STAT.CALIBRATING l.idx else Fld.LO.STAT.SETTLING l.idx) true
  let t2 := t1.setLo l (fun x => { x with busy := some { r with fresh := search, entry := i }, settling := true })
  let t3 := if r.kind != .cal && search then assertReq (.search l) t2 else t2
  let closes := t3.flag (Fld.LO.STAT.COAST l.idx) && !(at' t3.loops.loops l.idx {}).byRef
  let t4 := if closes then
      raise (Ev.LO.RELOCKED l.idx)
        { t3.put (Fld.LO.STAT.COAST l.idx) false with loops := { t3.loops with closedAt := some t3.epoch } }
    else t3
  if r.hz = s.get (Fld.LO.FREQ_HZ.HZ l.idx) then t4 else retunePath l.vhf.path t4

/-! ## Calibration (R65 to R67, R437) -/

/-- A calibration request of the entry in force. -/
def calRequest (forced host : Bool) : LoReq :=
  { kind := .cal, hz := 0, fresh := true, forced := forced, host := host, inForce := true }

/-- A calibration is held until its path is idle: CAL_PENDING (R67, R437). -/
def holdCal (l : Lo) (r : LoReq) (s : State) : State :=
  (s.setLo l (fun x => { x with waiting := some r })).put (Fld.LO.STAT.CAL_PENDING l.idx) true

/-- `holdCal` of a host's START: CAL_DEFERRED. -/
def deferCal (l : Lo) (r : LoReq) (s : State) : State := raise (Ev.LO.CAL_DEFERRED l.idx) (holdCal l r s)

/-- A calibration has its grant, or needs none: it is requested. -/
def goCal (l : Lo) (s : State) : State :=
  match (s.lo l).waiting with
  | some r => requestLo l r ((s.setLo l (fun x => { x with waiting := none })).put (Fld.LO.STAT.CAL_PENDING l.idx) false)
  | none => s

/-- A calibration gets no grant (R46, R67): a forced one proceeds, another waits for the next idle period. -/
def noGrantCal (l : Lo) (s : State) : State :=
  match (s.lo l).waiting with
  | some r => if r.forced then goCal l s
    else (if s.flag (Fld.LO.STAT.CAL_PENDING l.idx) then holdCal l r else deferCal l r)
      (s.setLo l (fun x => { x with skipIdle := true }))
  | none => s

/-- A calibration asserts COEX_REQ and goes on with its grant, without one, or waits (R46, R67). -/
def startCal (l : Lo) (r : LoReq) (s : State) : State :=
  let t := assertReq (.calibration l) (s.setLo l (fun x => { x with waiting := some r }))
  if !(t.aux.uses.contains (.calibration l)) then noGrantCal l t
  else if waitsForGrant t (.calibration l) then t
  else goCal l t

/-- The valid entries of the hop table. -/
def validEntries (s : State) (l : Lo) : List Nat := (List.range 32).filter (fun i => s.flag (Fld.LO.HOP_W1.VALID l.idx i))

/-- A calibration of an ALL pass (R67). -/
def isPassCal (r : LoReq) : Bool := r.kind == LoKind.cal && !r.inForce

/-- The entry of a pass calibration that has not begun goes back to the pass. -/
def returnEntry (r : Option LoReq) (x : LoState) : LoState :=
  match r, x.pass with
  | some q, some p => if isPassCal q then { x with pass := some (q.entry :: p.1, p.2) } else x
  | _, _ => x

/-- The next entry of an ALL pass is calibrated by a hop to it, while the path is idle (R67); a busy synthesiser queues it (R68). -/
def passNext (l : Lo) (s : State) : State :=
  match (s.lo l).pass with
  | some (i :: rest, back) =>
    if loIdle s l && loOn s l && (s.lo l).waiting.isNone && !(s.lo l).skipIdle then
      startCal l { kind := .cal, hz := s.get (Fld.LO.HOP_W0.FREQ_HZ l.idx i), entry := i, fresh := true }
        (s.setLo l (fun x => { x with pass := some (rest, back) }))
    else s
  | _ => s

/-- An ALL pass goes on where the synthesiser is free. -/
def stepPass (l : Lo) (s : State) : State := if (s.lo l).busy.isNone then passNext l s else s

/-- An ALL pass begins (R67): every valid entry in turn, then back to the entry in force. -/
def startPass (l : Lo) (s : State) : State :=
  let t := (s.setLo l (fun x => { x with waitingAll := false, pass := some (validEntries s l, s.get (Fld.LO.FREQ_HZ.HZ l.idx)) })).put
    (Fld.LO.STAT.CAL_PENDING l.idx) false
  if (validEntries s l).isEmpty then raise (Ev.LO.CAL_DONE l.idx) (t.setLo l (fun x => { x with pass := none })) else passNext l t

/-- A write of `LOx.CAL_CMD` (R67, R437). A second START while one is held replaces it. -/
def calCommand (l : Lo) (v : Word) (s : State) : State :=
  if !(v.getLsbD 0) then s
  else
    let forced := v.getLsbD 1 && !(v.getLsbD 2)
    let clear (t : State) : State :=
      t.setLo l (fun x => { returnEntry x.waiting x with waiting := none, waitingAll := false, skipIdle := false })
    if v.getLsbD 2 then
      if loOn s l && loIdle s l then startPass l (clear s)
      else raise (Ev.LO.CAL_DEFERRED l.idx)
        (((clear s).setLo l (fun x => { x with waitingAll := true })).put (Fld.LO.STAT.CAL_PENDING l.idx) true)
    else
      let r := calRequest forced true
      if loOn s l && (forced || loIdle s l) then startCal l r (clear s) else deferCal l r (clear s)

/-- A calibration of a pass is queued or waits. -/
def passOutstanding (x : LoState) : Bool :=
  (match x.queued with | some q => isPassCal q | none => false) || (match x.waiting with | some q => isPassCal q | none => false)

/-- Where the LO returns after a pass that began at `back` (R67): in span its one frequency (R26). -/
def passHome (s : State) (l : Lo) (back : Nat) : Nat := if (tileNow s l.vhf.path).isSome then back else spanHz l.vhf

/-- A pass whose last entry is done ends: the LO, now at `hz`, returns by a hop to the entry in force when the pass began, unless it
stands there; then CAL_DONE, and the held request is posted (R67). A tile that serves full lanes stays: the return waits until the path
is idle. -/
def endPass (l : Lo) (hz back : Nat) (s : State) : State :=
  if passOutstanding (s.lo l) || ((tileNow s l.vhf.path).isSome && !(loIdle s l)) then serveLoQueue l s
  else if passHome s l back != hz then postLo l { kind := .hop, hz := passHome s l back } s
  else serveLoQueue l (raise (Ev.LO.CAL_DONE l.idx) (s.setLo l (fun x => { x with pass := none })))

/-- A free synthesiser goes on with its pass: the next entry, or the end. -/
def goOnPass (l : Lo) (s : State) : State :=
  match (s.lo l).pass with
  | some ([], back) => if (s.lo l).busy.isNone && loIdle s l then endPass l (s.get (Fld.LO.FREQ_HZ.HZ l.idx)) back s else s
  | _ => stepPass l s

/-- On a boundary: a waiting calibration starts once the path is idle, a forced one once the LO is powered; a pass goes on (R65, R67,
R437). An idle period passed over ends when the path is no longer idle. -/
def idleCal (l : Lo) (s : State) : State :=
  if !(loOn s l) then s
  else
    let s1 := if loIdle s l then s else s.setLo l (fun x => { x with skipIdle := false })
    let x := s1.lo l
    if waitsForGrant s1 (.calibration l) then s1
    else match x.waiting with
      | some r =>
        if outdatedCal s1 l r then (s1.setLo l (fun y => { y with waiting := none })).put (Fld.LO.STAT.CAL_PENDING l.idx) false
        else if r.forced || (loIdle s1 l && !x.skipIdle) then startCal l r s1 else s1
      | none =>
        if x.waitingAll && loIdle s1 l then startPass l s1 else goOnPass l s1

/-! ## Settling (R62 to R64, R67, R68) -/

/-- A band search found no code: the LO coasts and a retune with a fresh search is posted; the failure counts as a loop unlock (R64,
R397). -/
def searchFailed (l : Lo) (r : LoReq) (s : State) : State :=
  let t := (raise (Ev.LO.UNLOCK l.idx) (raise (Ev.LO.SEARCH_FAIL l.idx) s)).put (Fld.LO.STAT.COAST l.idx) true
  let t1 := flagCoast (t.setLoop l (fun x => { x with coastFrom := t.epoch, coastTj := t.pwr.tj, byRef := !(t.flag Fld.CLK.STAT.REF_VALID) }))
  unitFault (0x0A + l.idx) 0 6 (postLo l { kind := .retune, hz := r.hz, fresh := true } t1)

/-- What follows once a change has settled: the pass goes on or ends with its return hop, or the held request is posted (R67, R68). -/
def afterSettle (l : Lo) (r : LoReq) (s : State) : State :=
  let t := raiseIf (r.kind == .cal && r.host) (Ev.LO.CAL_DONE l.idx) s
  match (t.lo l).pass with
  | some ([], back) => endPass l r.hz back t
  | some _ => stepPass l (serveLoQueue l t)
  | none => serveLoQueue l t

/-- An LO change is announced for boundary `b`: the next set is loaded, or the guard rejects it. Then the change is cancelled together
with the span or tile switch or the gain step posted with it, a tile so refused is not asked for again of itself, and an ALL pass goes
on, without a return hop where that was refused (R60, R67, R435). -/
def announceLo (l : Lo) (r : LoReq) (b : Nat) (s : State) : State :=
  if guardAccepts s l r then loadNext l r.hz s.corr (loOffset s l) b s
  else
    let p := l.vhf.path
    let mine (e : Entry) : Bool := e.at_ == b && (match e.change with
      | .lo k q => k == l && q == r
      | .band v _ => v == l.vhf
      | .gain q _ .hop => r.glimpse && q == p
      | _ => false)
    let t : State := { s with plan := s.plan.filter (fun e => !(mine e)),
                              paths := if r.kind == .retune then upd s.paths p.idx (fun x => { x with rejected := some (r.hz / 1000) }) else s.paths }
    let u := raise (Ev.LO.REJECTED l.idx) (t.setLo l (fun x => { x with busy := none, settling := false }))
    let hz := s.get (Fld.LO.FREQ_HZ.HZ l.idx)
    match (u.lo l).pass with
    | some ([], back) => endPass l (if isPassCal r then hz else passHome s l back) back u
    | some _ => stepPass l (serveLoQueue l u)
    | none => serveLoQueue l u

/-- A change settles with sub-band code `code` (`none`: the band search found none). -/
def settleLo (l : Lo) (code : Option Nat) (s : State) : State :=
  match (s.lo l).busy with
  | none => s
  | some r =>
    if !(s.lo l).settling then s
    else
      let t := releaseReq (.calibration l) (releaseReq (.search l)
        (((endGap l.vhf.path (s.setLo l (fun x => { x with busy := none, settling := false }))).put (Fld.LO.STAT.SETTLING l.idx) false).put
          (Fld.LO.STAT.CALIBRATING l.idx) false))
      let found := if r.fresh then code else some (s.get (Fld.LO.HOP_W1.SUBBAND l.idx r.entry))
      match found with
      | none => searchFailed l r t
      | some c =>
        let t1 := if r.fresh then storeEntry l r.entry r.hz c t else t
        let t2 := (t1.set (Fld.LO.STAT.SUBBAND l.idx) c).put (Fld.LO.STAT.LOCKED l.idx) (!(t1.flag (Fld.LO.STAT.COAST l.idx)))
        afterSettle l r (unitSettled (0x0A + l.idx, 0) t2)

/-- The LO starts at its span frequency, locked, as the receive paths power up (R26, R335); the code that a first search finds is the
LO's own (log entry 3). -/
def powerLo (l : Lo) (s : State) : State :=
  if heldOff s l.vhf.path then s
  else
    let hz := spanHz l.vhf
    let i := hopEntry s l hz
    let s0 := touchEntry l i (setLoWords l hz s)
    let t := if hopReady s0 l i hz then s0 else (let v := s0.fresh 6; storeEntry l i hz v.1 v.2)
    ((t.set (Fld.LO.STAT.ENTRY l.idx) i).set (Fld.LO.STAT.SUBBAND l.idx) (t.get (Fld.LO.HOP_W1.SUBBAND l.idx i))).put
      (Fld.LO.STAT.LOCKED l.idx) (t.flag Fld.CLK.STAT.REF_VALID)

/-- On leaving WATCH and FULL the LO is unpowered (R437): its change and its queue are dropped, a pending calibration stays. A pass
resumes with the entry after the one in progress and ends at the span frequency, where the LO starts again (DEDUCED, log entry 98). -/
def unpowerLo (l : Lo) (s : State) : State :=
  let t := clearNext l (dropLoQueue l (cancelEntries (fun c => match c with
    | .lo k _ => k == l
    | .band v _ => v == l.vhf
    | _ => false) s))
  let t1 := t.setLo l (fun x => { x with busy := none, settling := false })
  let t2 := releaseReq (.calibration l) (releaseReq (.search l) t1)
  let cut := s.lo l
  let undone := if cut.settling then none else cut.busy
  ((t2.setWord (Reg.LO.STAT l.idx) (withField (withField (t2.word (Reg.LO.STAT l.idx)) 0 3 0) 3 1 0)).setLoop l
    (fun x => { x with offset := 0, byRef := false })).setLo l (fun x =>
      let y := returnEntry undone (returnEntry cut.queued (returnEntry x.waiting x))
      { y with waiting := x.waiting.filter (fun r => !(isPassCal r)), skipIdle := false,
               pass := y.pass.map (fun p => (p.1, spanHz l.vhf)) })

/-! ## Coast (R69 to R73) -/

/-- Either LO or PLL-S coasts. -/
def anyCoast (s : State) : Bool :=
  s.flag Fld.CLK.STAT.COAST || s.flag (Fld.LO.STAT.COAST 0) || s.flag (Fld.LO.STAT.COAST 1)

/-- PLL-S starts to coast (R71). -/
def coastPll (byRef : Bool) (s : State) : State :=
  if s.flag Fld.CLK.STAT.COAST then { s with loops := { s.loops with sys := { s.loops.sys with byRef := byRef || s.loops.sys.byRef, valid := 0 } } }
  else
    let t := ((s.put Fld.CLK.STAT.LOCKED false).put Fld.CLK.STAT.COAST true).set Fld.CLK.COAST_EPOCHS.COUNT 0
    flagCoast <| raise Ev.CLK.COAST { t.set Fld.CLK.COAST_DTJ.DTJ 0 with
      loops := { t.loops with sys := { t.loops.sys with coastFrom := t.epoch, coastTj := t.pwr.tj, byRef := byRef, valid := 0, phaseOut := true } } }

/-- An LO starts to coast (R71). -/
def coastLo (l : Lo) (byRef : Bool) (s : State) : State :=
  flagCoast (((s.put (Fld.LO.STAT.LOCKED l.idx) false).put (Fld.LO.STAT.COAST l.idx) true).setLoop l
    (fun x => { x with coastFrom := s.epoch, coastTj := s.pwr.tj, byRef := byRef }))

/-- A loop loses lock while the reference is valid (R69, R71, R73, R397). -/
def loopLost (l : Loop) (s : State) : State :=
  match l with
  | .plls =>
    if s.flag Fld.CLK.STAT.COAST || !(s.flag Fld.CLK.STAT.LOCKED) || !(s.flag Fld.CLK.STAT.REF_VALID) then s
    else unitFault 0x09 0 6 (coastPll false (raise Ev.CLK.UNLOCK s))
  | .lof => lost .lof s
  | .lob => lost .lob s
where
  /-- An LO's loss of lock: it coasts, and a retune with a fresh search is posted. -/
  lost (l : Lo) (s : State) : State :=
    if s.flag (Fld.LO.STAT.COAST l.idx) || !(loOn s l) || !(s.flag (Fld.LO.STAT.LOCKED l.idx)) || !(s.flag Fld.CLK.STAT.REF_VALID) then s
    else
      let t := unitFault (0x0A + l.idx) 0 6 (coastLo l false (raise (Ev.LO.UNLOCK l.idx) s))
      requestLo l { kind := .retune, hz := s.get (Fld.LO.FREQ_HZ.HZ l.idx), fresh := true } t

/-- The reference is declared lost: all loops in use coast together (R56, R71). -/
def referenceLost (s : State) : State :=
  if !(s.flag Fld.CLK.STAT.REF_VALID) then s
  else
    let t := coastPll true (raise Ev.CLK.REF_LOST (s.put Fld.CLK.STAT.REF_VALID false))
    forEach [Lo.lof, Lo.lob] (fun l u => if loOn u l then coastLo l true u else u) t

/-- A loop acquires lock (R69). -/
def loopLocked (l : Loop) (s : State) : State :=
  match l with
  | .plls => if s.flag Fld.CLK.STAT.COAST || !(s.flag Fld.CLK.STAT.REF_VALID) then s
    else { s with loops := { s.loops with sys := { s.loops.sys with phaseOut := false } } }.put Fld.CLK.STAT.LOCKED true
  | .lof => if loOn s .lof && !(s.flag (Fld.LO.STAT.COAST 0)) then s.put (Fld.LO.STAT.LOCKED 0) true else s
  | .lob => if loOn s .lob && !(s.flag (Fld.LO.STAT.COAST 1)) then s.put (Fld.LO.STAT.LOCKED 1) true else s

/-- Whether a coast has degraded (R72). -/
def holdoverDue (s : State) : Bool :=
  s.flag Fld.CLK.STAT.COAST && (decide (s.loops.sys.coastFrom + 30000 < s.epoch) || decide (80 < (s.pwr.tj - s.loops.sys.coastTj).natAbs))

/-- At a boundary: the coast's length and temperature, the validating epochs (R72, R74, R78). The epochs after the one in which the
loss was detected count. -/
def coastBoundary (good : Bool) (s : State) : State :=
  if s.flag Fld.CLK.STAT.COAST then
    let n := if !good then 0 else if s.epoch ≤ s.loops.sys.coastFrom + 1 then 0 else s.loops.sys.valid + 1
    let t : State := { s with loops := { s.loops with sys := { s.loops.sys with valid := n } } }
    (t.bump Fld.CLK.COAST_EPOCHS.COUNT).seti Fld.CLK.COAST_DTJ.DTJ (t.pwr.tj - t.loops.sys.coastTj)
  else s

/-! ## Phase rebase and frequency epochs (R74, R127, R129) -/

/-- The part of an offset that one rebase step removes: at most 500 ppb (R74.4). -/
def rebaseStep (off : Int) : Int := clampInt (-500) 500 off

/-- The number of steps that remove `off`. -/
def rebaseSteps (off : Int) : Nat := (off.natAbs + 499) / 500

/-- The part of `off` that step `i` removes. -/
def rebasePart (off : Int) (i : Nat) : Int :=
  rebaseStep (if 0 ≤ off then max 0 (off - 500 * i) else min 0 (off + 500 * i))

/-- The rebase steps are posted on consecutive boundaries (R74.4); one entry carries the step of each loop. -/
def postRebase (s : State) : State :=
  let a := s.loops.sys.offset
  let b := loOffset s .lof
  let c := loOffset s .lob
  let n := max (rebaseSteps a) (max (rebaseSteps b) (rebaseSteps c))
  let t : State := { s with loops := { s.loops with stepsLeft := n } }
  forEach (List.range n) (fun i u =>
    post (.freq (rebasePart a i) (rebasePart b i) (rebasePart c i) .rebase) (s.epoch + 2 + i) u) (t.put Fld.CLK.STAT.CORRECTING (n != 0))

/-- The loops that coast for want of a reference, or PLL-S after its own loss of lock, close by phase rebase (R74). -/
def closeLoops (sys lof lob : Int) (s : State) : State :=
  if s.flag Fld.CLK.STAT.COAST && s.flag Fld.CLK.STAT.REF_VALID && decide (2 ≤ s.loops.sys.valid) then
    let t := (((s.put Fld.CLK.STAT.COAST false).put Fld.CLK.STAT.HOLDOVER_DEGRADED false).seti Fld.CLK.REBASE_ERR.PPB sys)
    let t1 : State := { t with loops := { t.loops with sys := { t.loops.sys with offset := sys, byRef := false, valid := 0, phaseOut := false },
                                                       closedAt := some t.epoch } }
    let shut (l : Lo) (off : Int) (u : State) : State :=
      if u.flag (Fld.LO.STAT.COAST l.idx) && (at' u.loops.loops l.idx {}).byRef then
        let v := (u.put (Fld.LO.STAT.COAST l.idx) false).setLoop l (fun x => { x with offset := off, byRef := false })
        raise (Ev.LO.RELOCKED l.idx) (setLoWords l (v.get (Fld.LO.FREQ_HZ.HZ l.idx)) v)
      else u
    let t2 := unitSettled (0x09, 0) (setPllWords (shut .lob lob (shut .lof lof t1)))
    let t3 := postRebase (cancelEntries (fun c => match c with | .freq _ _ _ .rebase => true | _ => false) (raise Ev.CLK.REBASED t2))
    raiseIf (t3.loops.stepsLeft == 0) Ev.CLK.CORR_DONE t3
  else s

/-- The rate of an engine's NCO input in Hz, by path (R127). -/
def engineRate : Path → Int
  | .lf => 160000
  | .fm => 1280000
  | .b3 => 81920000

/-- ΔW of R127 for an engine at `khz` and a step of `ppb`. -/
def freqDelta (p : Path) (khz : Nat) (ppb : Int) : Int := -(roundDiv ((khz : Int) * ppb * 2 ^ 32) (1000000 * engineRate p))

/-- The step of the loop that serves a path: PLL-S for LF, LOF for FM, LOB for B3. -/
def stepOn (p : Path) (sys lof lob : Int) : Int :=
  match p with
  | .lf => sys
  | .fm => lof
  | .b3 => lob

/-- Every DAB and DRM engine, live or on its sprout, adds the word delta of the step to its NCO (R127). -/
def compensate (sys lof lob : Int) (s : State) : State :=
  forEach ((List.range 6).map (fun i => 14 + i)) (fun l t =>
    let x := t.lane l
    if x.inUse then addNco l (BitVec.ofNat 32 (ofSigned 32 (freqDelta x.path x.khz (stepOn x.path sys lof lob)))) t else t) s

/-- What a rebase step removes of an offset: never more than is left (R74.4). -/
def effectiveStep (off step : Int) (o : FreqOrigin) : Int :=
  match o with
  | .estimator => step
  | .rebase => if 0 ≤ off then max 0 (min step off) else min 0 (max step off)

/-- The effective steps of a frequency epoch for PLL-S and the two LOs; an LO without power takes none. -/
def effectiveSteps (s : State) (sys lof lob : Int) (o : FreqOrigin) : Int × Int × Int :=
  let lo (l : Lo) (d : Int) : Int := if loOn s l then effectiveStep (loOffset s l) d o else 0
  (effectiveStep s.loops.sys.offset sys o, lo .lof lof, lo .lob lob)

/-- The correction and the LO offsets after a frequency epoch. -/
def corrAfter (s : State) (sys : Int) (o : FreqOrigin) : Int :=
  match o with
  | .estimator => s.corr + sys
  | .rebase => s.corr

def offAfter (off step : Int) (o : FreqOrigin) : Int :=
  match o with
  | .estimator => off
  | .rebase => off - step

/-- A frequency epoch is announced for boundary `b`: the next sets of the LOs are loaded (R60). -/
def announceFreq (sys lof lob : Int) (o : FreqOrigin) (b : Nat) (s : State) : State :=
  let e := effectiveSteps s sys lof lob o
  forEach [(Lo.lof, e.2.1), (Lo.lob, e.2.2)] (fun x t =>
    if loOn t x.1 then
      loadNext x.1 (t.get (Fld.LO.FREQ_HZ.HZ x.1.idx)) (corrAfter t sys o) (offAfter (loOffset t x.1) x.2 o) b t
    else t) s

/-- A frequency epoch is cancelled because a loop coasts (R21, R61): counted, the next sets discarded. A rebase step that an LO's own
coast stops is posted again (log entry 34). -/
def cancelFreq (sys lof lob : Int) (o : FreqOrigin) (s : State) : State :=
  let t := clearNext .lob (clearNext .lof (s.bump Fld.SYS.SCHED_STAT.CANCELLED))
  match o with
  | .estimator => t
  | .rebase => if t.flag Fld.CLK.STAT.COAST then t else postSoon (.freq sys lof lob .rebase) t

/-- A frequency epoch applies (R19, R74, R127, R129). -/
def applyFreq (sys lof lob : Int) (o : FreqOrigin) (s : State) : State :=
  if anyCoast s then cancelFreq sys lof lob o s
  else
    let e := effectiveSteps s sys lof lob o
    let off (l : Lo) (d : Int) (t : State) : State := t.setLoop l (fun x => { x with offset := offAfter x.offset d o })
    let t := off .lob e.2.2 (off .lof e.2.1 { s with loops := { s.loops with sys := { s.loops.sys with offset := offAfter s.loops.sys.offset e.1 o } } })
    let t1 := t.seti Fld.OFS.CORR_PPB.PPB (corrAfter s sys o)
    let t2 := forEach [Lo.lof, Lo.lob] (fun l u => if loOn u l then setLoWords l (u.get (Fld.LO.FREQ_HZ.HZ l.idx)) (clearNext l u) else u)
      (setPllWords t1)
    let t3 := compensate e.1 e.2.1 e.2.2 { t2.set Fld.OFS.LAST_EPOCH.EPOCH s.epoch with mgr := { t2.mgr with lastFreq := some s.epoch } }
    match o with
    | .estimator =>
      let limit := decide (30000 ≤ t3.corr.natAbs)
      raise Ev.OFS.STEP_APPLIED (raiseIf (limit && !(t3.flag Fld.OFS.STAT.AT_LIMIT)) Ev.OFS.RANGE (t3.put Fld.OFS.STAT.AT_LIMIT limit))
    | .rebase =>
      let n := t3.loops.stepsLeft - 1
      let t4 : State := { t3 with loops := { t3.loops with stepsLeft := n } }
      if n = 0 then raise Ev.CLK.CORR_DONE (t4.put Fld.CLK.STAT.CORRECTING false) else t4

/-! ## The commands of chapter 3 -/

/-- REF_LOST (R56, R69 to R71). -/
def execRefLost (s : State) : Host.Outcome State Fault Refusal := commit s (referenceLost s)

/-- REF_VALID (R56): after two validating epochs the reference is valid again. -/
def execRefValid (s : State) : Host.Outcome State Fault Refusal :=
  commit s (if !(s.flag Fld.CLK.STAT.REF_VALID) && decide (2 ≤ s.loops.sys.valid) then
    raise Ev.CLK.REF_BACK (s.put Fld.CLK.STAT.REF_VALID true) else s)

/-- LOCK_ACQUIRED (R69). -/
def execLockAcquired (l : Loop) (s : State) : Host.Outcome State Fault Refusal := commit s (loopLocked l s)

/-- LOCK_LOST (R69, R71, R73). -/
def execLockLost (l : Loop) (s : State) : Host.Outcome State Fault Refusal := commit s (loopLost l s)

/-- HOLDOVER_DEGRADED (R72). -/
def execHoldoverDegraded (s : State) : Host.Outcome State Fault Refusal :=
  commit s (if holdoverDue s && !(s.flag Fld.CLK.STAT.HOLDOVER_DEGRADED) then
    raise Ev.CLK.HOLDOVER_DEGRADED (s.put Fld.CLK.STAT.HOLDOVER_DEGRADED true) else s)

/-- PHASE_REBASE (R74): the errors measured over the validating epochs, ppb. -/
def execPhaseRebase (sys lof lob : Int) (s : State) : Host.Outcome State Fault Refusal := commit s (closeLoops sys lof lob s)

/-- LO_SETTLED (R62 to R64, R67, R68). -/
def execLoSettled (l : Lo) (code : Option Nat) (s : State) : Host.Outcome State Fault Refusal := commit s (settleLo l code s)

/-- The word of `LOx.CAL_CMD` with START forced, and ALL and FORCE as the command names them. -/
def calWord (forced all : Bool) : Word := wordOf [(0, 1, 1), (1, 1, forced.toNat), (2, 1, all.toNat)]

/-- LO_CAL_START (R67): START alone. -/
def execLoCalStart (port : Port) (l : Lo) (_v : Word) (s : State) : Host.Outcome State Fault Refusal :=
  commit s (hostWrite port (Reg.LO.CAL_CMD l.idx) (calWord false false) (fun _ => calCommand l (calWord false false)) s)

/-- LO_CAL_FORCE (R67): START with FORCE. -/
def execLoCalForce (port : Port) (l : Lo) (_v : Word) (s : State) : Host.Outcome State Fault Refusal :=
  commit s (hostWrite port (Reg.LO.CAL_CMD l.idx) (calWord true false) (fun _ => calCommand l (calWord true false)) s)

/-- LO_CAL_ALL (R67): START with ALL; FORCE is ignored with it. -/
def execLoCalAll (port : Port) (l : Lo) (v : Word) (s : State) : Host.Outcome State Fault Refusal :=
  commit s (hostWrite port (Reg.LO.CAL_CMD l.idx) (calWord (v.getLsbD 1) true) (fun _ => calCommand l (calWord (v.getLsbD 1) true)) s)

/-- LO_CAL_IDLE_POST (R65 to R67, R437): on a boundary a waiting calibration is posted. -/
def execLoCalIdlePost (l : Lo) (s : State) : Host.Outcome State Fault Refusal :=
  commit s (if s.time % epochTicks = 0 then idleCal l s else s)

/-- An entry whose calibration temperature has been left by more than 12 °C becomes STALE; the entry in force raises STALE and may be
calibrated (R65). -/
def staleEntry (l : Lo) (i : Nat) (s : State) : State :=
  let off := (s.pwr.tj - s.geti (Fld.LO.HOP_W2.TJ_CAL l.idx i)).natAbs
  if s.flag (Fld.LO.HOP_W1.VALID l.idx i) && !(s.flag (Fld.LO.HOP_W1.STALE l.idx i)) && decide (192 < off) then
    let t := s.put (Fld.LO.HOP_W1.STALE l.idx i) true
    if loOn s l && s.get (Fld.LO.STAT.ENTRY l.idx) == i then
      let u := raise (Ev.LO.STALE l.idx) t
      if u.flag (Fld.LO.CTRL.STALE_RESEARCH l.idx) && (u.lo l).waiting.isNone then holdCal l (calRequest false false) u else u
    else t
  else s

/-- STALENESS_CHECK (R9, R65): on epochs divisible by 100. -/
def execStalenessCheck (s : State) : Host.Outcome State Fault Refusal :=
  commit s (if s.time % (100 * epochTicks) = 0 then
    forEach [Lo.lof, Lo.lob] (fun l t => forEach (List.range 32) (fun i u => staleEntry l i u) t) s else s)

/-! ## Clock outputs (R75, R76) -/

/-- The smallest divider that keeps an output at or below 49.152 MHz (R75). -/
def leastDiv (s : State) (src : Bool) : Nat := if src then (if s.get Fld.CLK.REF_CFG.REF_FREQ = 4 then 2 else 1) else 60

/-- A write of `CLK.CLKOUTn_CFG`: it takes effect on the next boundary; a divider too small is raised (R75, R76). -/
def writeClkout (port : Port) (n : Nat) (v : Word) (key : Bool) (s : State) : State :=
  let t := plainWrite port (Reg.CLK.CLKOUT_CFG n) v key s
  let least := leastDiv t (t.flag (Fld.CLK.CLKOUT_CFG.SRC n))
  let raised := decide (t.get (Fld.CLK.CLKOUT_CFG.DIV n) < least)
  let t1 := if raised then t.set (Fld.CLK.CLKOUT_CFG.DIV n) least else t
  let t2 := raiseIf raised Ev.CLK.CLKOUT_CLAMPED (t1.put (Fld.CLK.CLKOUT_CFG.CLAMPED n) raised)
  { t2 with loops := { t2.loops with clkoutDirty := t2.loops.clkoutDirty.filter (fun k => k != n) ++ [n] } }

/-- On a boundary the written clock-output settings take effect (R76). -/
def clkoutBoundary (s : State) : State :=
  let t := forEach s.loops.clkoutDirty (fun n u =>
    { u with loops := { u.loops with clkNow := upd u.loops.clkNow n (fun _ => (u.word (Reg.CLK.CLKOUT_CFG n)).toNat) } }) s
  { t with loops := { t.loops with clkoutDirty := [] } }

/-- CLKOUT_CFG_WRITE (R75, R76, R78). -/
def execClkoutCfgWrite (port : Port) (n : Fin 3) (v : Word) (s : State) : Host.Outcome State Fault Refusal :=
  commit s (hostWrite port (Reg.CLK.CLKOUT_CFG n.val) v (writeClkout port n.val v) s)

end Sys2Proof.Machine
end

