-- ==== Sys2Proof/Machine/Capture.lean ====
section
/-!
DEFINITION. Band capture (chapter 2): AGC, span and tile, glimpsing, path test, the gain-table check, the injector, the coexistence
wires and the aerial feed.
-/

namespace Sys2Proof.Machine

open Sys2Proof

/-! ## Gain tables and steps (R27, R29, R30, R81) -/

/-- The measured gain of table entry `k` of a path, 0.01 dB; entry 24 is TILE_OFS. -/
def gainEntry (s : State) (p : Path) (k : Nat) : Nat :=
  match p with
  | .lf => s.get (Fld.AGC.TABLE_LF.GAIN k)
  | .fm => s.get (Fld.AGC.TABLE_FM.GAIN k)
  | .b3 => s.get (Fld.AGC.TABLE_B3.GAIN k)

/-- The step in force of a path. -/
def gainStep (s : State) (p : Path) : Nat := s.get (Fld.AGC.GAIN.STEP p.idx)

/-- The measured gain of step `k` in the path's mode: TILE_OFS counts in tile mode (R31). -/
def gainInMode (s : State) (p : Path) (k : Nat) : Nat :=
  gainEntry s p k + (if (tileNow s p).isSome then gainEntry s p 24 else 0)

/-- Whether 2^(17+S) · 10^(−d/2000) is at least `m` − 1/2, in exact arithmetic. -/
def normAtLeast (d : Int) (sh m : Nat) : Bool :=
  decide ((2 * m - 1) ^ 2000 * 10 ^ d.toNat ≤ 2 ^ (2000 * (18 + sh)) * 10 ^ (-d).toNat)

/-- The normaliser's M and S for a gain `d` (0.01 dB) above that of entry 0 in span (R81): the smallest S that brings the factor to
1.0 or above, and M rounded. -/
def normaliser (d : Int) : Nat × Nat :=
  let sh := (lowest 16 (fun k => decide (10 ^ d.toNat ≤ 2 ^ (2000 * k) * 10 ^ (-d).toNat))).getD 15
  ((List.range 18).reverse.foldl (fun m b => if normAtLeast d sh (m + 2 ^ b) then m + 2 ^ b else m) 0, sh)

/-- The gain in force, its place in the front-end status and the normaliser follow step `k` (R29, R31, R36, R81). -/
def showGain (p : Path) (k : Nat) (s : State) : State :=
  let g := gainInMode s p k
  let n := normaliser ((g : Int) - gainEntry s p 0)
  ((((s.set (Fld.AGC.GAIN.STEP p.idx) k).set (Fld.AGC.GAIN.GAIN p.idx) g).set (Fld.FE.STAT.GAIN_STEP p.idx) k).set
    (Fld.CH.NORM.M p.idx) n.1).set (Fld.CH.NORM.S p.idx) n.2

/-- `s` with a path's counters changed. -/
def State.setPath (s : State) (p : Path) (f : PathState → PathState) : State := { s with paths := upd s.paths p.idx f }

/-- The counters of a path. -/
def State.path (s : State) (p : Path) : PathState := at' s.paths p.idx {}

/-- The path is powered: WATCH or FULL, not held off (R39). -/
def pathOn (s : State) (p : Path) : Bool := s.receiving && !(heldOff s p)

/-- The step of a path in AGC.MAN_STEP (R31). -/
def manStep (s : State) (p : Path) : Nat := s.get ⟨Reg.AGC.MAN_STEP, 8 * p.idx, 5⟩

/-- A glimpsing path: AUTO, in tile, GLIMPSE_EN, no full lane in use (R37). -/
def glimpsing (s : State) (p : Path) : Bool :=
  pathOn s p && (tileNow s p).isSome && s.get (Fld.FE.CTRL.MODE p.idx) == 0 && s.flag (Fld.FE.CTRL.GLIMPSE_EN p.idx)
    && (fullOn s p).isEmpty

/-- Step `k` of a path comes into force: the release count starts again where it is a release, and a glimpse tile keeps its own step
(R30, R38). -/
def applyGain (p : Path) (k : Nat) (why : GainWhy) (s : State) : State :=
  if !(pathOn s p) then s
  else
    let t := (blankPath p (showGain p k s)).setPath p (fun x => { x with quietPeak := if why == .release then 0 else x.quietPeak })
    match tileNow t p with
    | some c => if glimpsing t p then
        t.setPath p (fun x => { x with tileSteps := (c, k) :: x.tileSteps.filter (fun y => y.1 != c) }) else t
    | none => t

/-- A gain step of a path that its AGC has decided. -/
def isAgcStep (p : Path) (c : Change) : Bool := match c with | .gain q _ .attack => p == q | .gain q _ .release => p == q | _ => false

/-- A release of a path. -/
def isRelease (p : Path) (c : Change) : Bool := match c with | .gain q _ .release => p == q | _ => false

/-- The step an attack asks for: the nearest lower one that brings peak `peak` (0.01 dBFS) to −9 dBFS or below, else 0 (R30.1). -/
def attackStep (s : State) (p : Path) (peak : Int) : Nat :=
  let k := gainStep s p
  (highest k (fun j => decide (peak - ((gainEntry s p k : Int) - gainEntry s p j) ≤ -900))).getD 0

/-- AGC_ATTACK (R30.1, R30.4): in the epoch after a peak at or above −3 dBFS or a clip, a lower step is posted for boundary E + 3. -/
def attack (p : Path) (s : State) : State :=
  match (s.path p).attack with
  | none => s
  | some peak =>
    if !(pathOn s p) || agcMode s p != 0 || modeNow s p == 2 then s
    else
      let t := s.setPath p (fun x => { x with attack := none })
      if gainStep s p = 0 then t
      else post (.gain p (attackStep s p peak) .attack) (s.epoch + 2) (withdrawUnannounced (isRelease p) t)

/-- AGC_RELEASE (R30.2): after 50 quiet epochs one step more gain is posted for the earliest legal boundary. -/
def release (p : Path) (s : State) : State :=
  if pathOn s p && agcMode s p == 0 && modeNow s p != 2 && decide (50 ≤ (s.path p).quietPeak) && decide (gainStep s p < 23)
      && !(isPlanned (isAgcStep p) s) then postSoon (.gain p (gainStep s p + 1) .release) s
  else s

/-- A write of `AGC.MAN_STEP` (R30, R31): every path in MANUAL posts its step. -/
def writeManStep (port : Port) (v : Word) (key : Bool) (s : State) : State :=
  forEach [Path.lf, Path.fm, Path.b3] (fun p t =>
    if pathOn t p && agcMode t p == 2 then postSoon (.gain p (manStep t p) .manual) t else t)
    (plainWrite port Reg.AGC.MAN_STEP v key s)

/-- The starting step of a path on entry to WATCH, from its converter peak at entry 0 (R436). -/
def initialStep (s : State) (p : Path) (peak : Int) : Nat :=
  if agcMode s p = 2 then manStep s p
  else (highest 24 (fun k => decide (peak + ((gainEntry s p k : Int) - gainEntry s p 0) ≤ -900))).getD 0

/-! ## What one epoch measured on a path (R30, R32, R35, R36, R81, R84) -/

/-- One step of an offset trim towards its wanted move: at most 1/16 LSB (R81). -/
def trimMove (f : Field) (wanted : Int) (s : State) : State := s.seti f (s.geti f + clampInt (-1) 1 wanted)

/-- The overload limit of a path, 0.25 dBµV (R35). -/
def overloadLimit : Path → Int
  | .lf => 480
  | _ => 440

/-- The epoch counts for attack and release (R30.5): COEX_ACT was not asserted on this path, or for more than 10 epochs. -/
def countsForAgc (s : State) (p : Path) : Bool :=
  !(s.aux.actSeen && (s.get Fld.COX.CTRL.ACT_PATHS).testBit p.idx) || decide (10 < (s.path p).aggressor)

/-- A converter code at either end of its 12-bit range (R30, R81). -/
def codeClips (x : Int) : Bool := decide (x ≤ -2048) || decide (2047 ≤ x)

/-- The codes of the path's ADCs: I and Q, on the LF path I alone (R30). -/
def adcCodes (p : Path) (l : List (Int × Int)) : List Int := l.flatMap (fun x => if p == .lf then [x.1] else [x.1, x.2])

/-- The converter peak of an epoch in 0.01 dBFS, rounded down and rounded up (R30): from its codes without the 8 samples that a boundary
blanks, relative to the code 2048 (log entry 123), where they are brought, and else the reading. Codes that are all zero lie below every
limit. -/
def converterPeak (p : Path) (o : PathObs) (s : State) : Int × Int :=
  if o.adc.isEmpty then (o.peak, o.peak)
  else
    let m := (adcCodes p (if (s.hdr p).blank then o.adc.drop 8 else o.adc)).foldl (fun a x => max a x.natAbs) 0
    if m = 0 then (-9000, -9000) else (centibel (m ^ 2) (2 ^ 22), -(centibel (2 ^ 22) (m ^ 2)))

/-- The samples that clipped in an epoch, summed over the path's ADCs (R30, R36). -/
def clipCount (p : Path) (o : PathObs) : Nat := if o.adc.isEmpty then o.clips else ((adcCodes p o.adc).filter codeClips).length

/-- The AGC's reading of an epoch: an attack to post, and the quiet epochs in succession (R30). -/
def agcEpoch (p : Path) (o : PathObs) (s : State) : State :=
  let aggr := s.aux.actSeen && (s.get Fld.COX.CTRL.ACT_PATHS).testBit p.idx
  let t := s.setPath p (fun x => { x with aggressor := if aggr then x.aggressor + 1 else 0 })
  let peak := converterPeak p o s
  if countsForAgc t p then
    t.setPath p (fun x => { x with
      attack := if decide (-300 ≤ peak.1) || decide (0 < clipCount p o) then some peak.2 else none,
      quietPeak := if peak.2 ≤ -1500 then x.quietPeak + 1 else 0 })
  else t.setPath p (fun x => { x with attack := none })

/-- Overload of a path (R35): above the limit it is set, and epochs below the limit in succession are counted. -/
def overloadEpoch (p : Path) (o : PathObs) (s : State) : State :=
  let t := if overloadLimit p < o.strongest then
      raiseIf (!(s.flag (Fld.FE.STAT.OVERLOAD p.idx))) (Ev.FE.OVERLOAD p.idx) (s.put (Fld.FE.STAT.OVERLOAD p.idx) true)
    else s
  t.setPath p (fun x => { x with clearEpochs := if o.strongest < overloadLimit p then x.clearEpochs + 1 else 0 })

/-- The readings of one path over the epoch just ended. -/
def pathEpoch (p : Path) (o : PathObs) (s : State) : State :=
  let i := p.idx
  if !(pathOn s p) then s.put (Fld.CH.STAT.SAT_EPOCH i) false
  else
    let spikes := if s.flag (Fld.CH.RANK_CFG.THR_OFF i) then 0 else o.spikes + (at' s.dsp.paths i {}).spikes
    let sats := o.sats + (at' s.dsp.paths i {}).sats
    let t := raiseIf (decide (0 < clipCount p o)) (Ev.FE.CLIP i)
      ((s.bump (Fld.FE.CLIP_CNT.COUNT i) (clipCount p o)).bump (Fld.FE.SPIKE_CNT.COUNT i) spikes)
    let t1 := if p == .lf then t else t.seti (Fld.FE.WIDEBAND.LEVEL i) o.wideband
    let t2 := raiseIf (decide (0 < sats)) (Ev.CH.SAT i)
      ((t1.bump (Fld.CH.SAT_CNT.COUNT i) sats).put (Fld.CH.STAT.SAT_EPOCH i) (decide (0 < sats)))
    let t3 := trimMove (Fld.CH.OFFSET.TRIM_I i) o.trimI t2
    let t4 := if p == .lf then t3 else trimMove (Fld.CH.OFFSET.TRIM_Q i) o.trimQ t3
    let quiet := decide (o.wideband ≤ 376) && decide (o.inTile ≤ 400)
    let t5 := t4.setPath p (fun x => { x with quietEpochs := if quiet && (tileNow s p).isSome then x.quietEpochs + 1 else 0 })
    agcEpoch p o (overloadEpoch p o t5)

/-! ## The tile and its lanes (R32 to R38) -/

/-- Whether lane `l` of a path receives nothing (R34, R38, R40): the path is in TEST or about to be, it glimpses, or the lane lies
outside the tile. -/
def mustPark (s : State) (p : Path) (l : Nat) : Bool :=
  modeNow s p == 2 || (s.path p).testAt.isSome || glimpsing s p || !(insideTile s l p (s.lane l).khz)

/-- The lanes of a path are parked or come back as its mode and tile have it; a parked lane that feeds a programme is a tile conflict
(R33 to R35). -/
def syncLanes (p : Path) (s : State) : State :=
  let t := forEach (lanesOn s p 156) (fun l u => if mustPark u p l then park l u else unpark l u) s
  if p == .lf then t
  else
    let fedParked (u : State) : List Nat := (feedingLanes u).filter (fun l => (u.lane l).path == p && (u.lane l).state == .parked)
    let conflict := (tileNow t p).isSome && !(fedParked t).isEmpty
    let fresh := (fedParked t).any (fun l => (s.lane l).state != .parked) || !(s.flag (Fld.FE.STAT.TILE_CONFLICT p.idx))
    raiseIf (conflict && fresh) (Ev.FE.TILE_CONFLICT p.idx) (t.put (Fld.FE.STAT.TILE_CONFLICT p.idx) conflict)

/-- The candidate centres of a path on the 50 kHz grid (R33). -/
def tileCentres : Vhf → List Nat
  | .fm => (List.range 705).map (fun i => 68400 + 50 * i)
  | .b3 => (List.range 1156).map (fun i => 178150 + 50 * i)

/-- The channel of lane `l` fits a tile at `c`. -/
def laneFits (s : State) (c l : Nat) : Bool := fitsTile (s.lane l).khz (halfChannel l) c

/-- The longest prefix of `ls` that some centre holds (R33.1, R33.2). -/
def fittingPrefix (s : State) (v : Vhf) (ls : List Nat) : List Nat :=
  (((List.range (ls.length + 1)).reverse.map (fun n => ls.take n)).find? (fun q =>
    (tileCentres v).any (fun c => q.all (laneFits s c)))).getD []

/-- The frequency of a map entry of a VHF path, kHz (R92). -/
def entryKhz (v : Vhf) (i : Nat) : Nat :=
  match v with
  | .fm => 64000 + 50 * i
  | .b3 => blockCentres.getD i 0

/-- The strongest signal of the latest snapshot outside the channels of the kept lanes, kHz (R33.3). -/
def strongestSignal (s : State) (v : Vhf) (kept : List Nat) : Option Nat :=
  let cells := (at' s.maps (match v with | .fm => 0 | .b3 => 1) {}).now.cells.filter (fun c =>
    kept.all (fun l => decide (halfChannel l < ((entryKhz v c.index : Int) - (s.lane l).khz).natAbs)))
  (cells.find? (fun c => cells.all (fun d => decide (d.level < c.level) || (d.level == c.level && decide (c.index ≤ d.index))))).map
    (fun c => entryKhz v c.index)

/-- The distance in kHz from a signal to the nearer edge of the tile at `c`: negative inside (R33.3). -/
def edgeDistance (signal c : Nat) : Int := ((signal : Int) - c).natAbs - 5120

/-- The best centre of a list for a signal: the largest signed distance, the lowest on a tie (R33.3). Where no map entry outside the kept
channels has been measured, the lowest centre (DESIGN CHOICE, log entry 99). -/
def bestCentre (signal : Option Nat) (cs : List Nat) : Option Nat :=
  match signal with
  | none => cs.head?
  | some f => cs.find? (fun c => cs.all (fun d => decide (edgeDistance f d ≤ edgeDistance f c)))

/-- The lanes that the tile of a path serves first (R33.1, R33.4): full lanes that feed a programme in the order of R33, else the
other full lanes in use. -/
def tileLanes (s : State) (v : Vhf) : List Nat :=
  let fed := (feedingLanes s).filter (fun l => s.laneInUse l && (s.lane l).path == v.path)
  if fed.isEmpty then fullOn s v.path else fed

/-- The tile centre that R33 chooses for lanes in use. -/
def chooseCentre (s : State) (v : Vhf) : Nat :=
  let kept := fittingPrefix s v (tileLanes s v)
  let cs := (tileCentres v).filter (fun c => kept.all (laneFits s c))
  (bestCentre (strongestSignal s v kept) cs).getD (s.get (Fld.FE.TILE_CENTRE.KHZ v.path.idx))

/-- The glimpse tiles that a path visits: those whose usable range overlaps an enabled band (R37). -/
def visitedTiles (s : State) (v : Vhf) : List Nat :=
  (glimpseTiles v).filter (fun c => overlapsBand s v.path (c - 4400) (c + 4400))

/-- The glimpse tile after `c` in ascending order, then the first again. -/
def nextTile (s : State) (v : Vhf) (c : Nat) : Option Nat :=
  let ts := visitedTiles s v
  (ts.find? (fun t => decide (c < t))).orElse (fun _ => ts.head?)

/-- The tile that an AUTO or forced path in tile mode should hold now, `now` being the one in force; `none`: it glimpses. A tile that R33
has chosen stays while it holds the lanes it must (R33, R35; DEDUCED, log entry 100). -/
def wantedTile (s : State) (v : Vhf) (now : Option Nat) : Option Nat :=
  let p := v.path
  let held := s.get (Fld.FE.TILE_CENTRE.KHZ p.idx)
  if s.get (Fld.FE.CTRL.MODE p.idx) = 2 then some held
  else if (fullOn s p).isEmpty then
    if s.flag (Fld.FE.CTRL.GLIMPSE_EN p.idx) then
      match now with
      | none => (visitedTiles s v).head?
      | some _ => none
    else some held
  else
    match (s.path p).chosen with
    | none => some (chooseCentre s v)
    | some c => if (fittingPrefix s v (tileLanes s v)).all (laneFits s c) then some c else some (chooseCentre s v)

/-- The tile that R33 chose is remembered while full lanes are in use in AUTO (R33, R38). -/
def keepChosen (v : Vhf) (tile : Option Nat) (s : State) : State :=
  s.setPath v.path (fun x =>
    { x with chosen := if (fullOn s v.path).isEmpty || s.get (Fld.FE.CTRL.MODE v.path.idx) != 0 then none else tile })

/-- A request for this target is posted, settling or held. -/
def headedFor (s : State) (v : Vhf) (band : Option (Option Nat)) (hz : Nat) : Bool :=
  let same (r : Option LoReq) : Bool := match r with | some q => q.hz == hz && q.band == band | none => false
  same (s.lo v.lo).busy || same (s.lo v.lo).queued

/-- A retune of the path's LO, with a span or tile switch where the mode changes (R33, R34). A tile that the guard rejected is not asked
for again until another is asked for, or the host writes the path's mode or tile anew (R435; DEDUCED, log entry 101). -/
def retuneTo (v : Vhf) (tile : Option Nat) (s : State) : State :=
  let hz := match tile with | some c => c * 1000 | none => spanHz v
  let band := if (tileNow s v.path).isSome == tile.isSome then none else some tile
  if headedFor s v band hz || (tile.isSome && (s.path v.path).rejected == tile) then s
  else requestLo v.lo { kind := .retune, hz := hz, band := band } (s.setPath v.path (fun x => { x with rejected := none }))

/-- An ALL pass runs on an idle path: the tile stays where the pass has the LO (R67). -/
def passRuns (s : State) (v : Vhf) : Bool := (s.lo v.lo).pass.isSome && loIdle s v.lo

/-- A VHF path is brought to the span or tile that its mode and its lanes ask for (R33, R35, R38, R40). Moving an AUTO path from span
to tile is TILE_ENTER's. -/
def retile (v : Vhf) (s : State) : State :=
  let p := v.path
  let mode := s.get (Fld.FE.CTRL.MODE p.idx)
  if !(pathOn s p) || modeNow s p == 2 then s
  else match tileNow s p with
    | some c =>
      if mode = 1 ∨ (s.path p).testAt.isSome then retuneTo v none s
      else match wantedTile s v (some c) with
        | some d => keepChosen v (some d) (if d = c || passRuns s v then s else retuneTo v (some d) s)
        | none => keepChosen v none s
    | none =>
      if mode = 2 ∧ (s.path p).testAt.isNone then retuneTo v (some (s.get (Fld.FE.TILE_CENTRE.KHZ p.idx))) s
      else if (s.lo v.lo).pass.isSome && !(passRuns s v) && s.get (Fld.LO.FREQ_HZ.HZ v.lo.idx) != spanHz v then retuneTo v none s
      else s

/-- An LO change applies to its path: its lanes have a GAP, and in tile mode a changed frequency moves the tile (R34, R89). -/
def applyLoChange (l : Lo) (r : LoReq) (s : State) : State :=
  let p := l.vhf.path
  let moved := r.hz != s.get (Fld.LO.FREQ_HZ.HZ l.idx)
  let t := gapPath p (applyLo l r s)
  if r.band.isNone && moved && (tileNow t p).isSome then syncLanes p (t.set (Fld.FE.TILE_NOW.KHZ p.idx) (r.hz / 1000)) else t

/-- A span or tile switch applies (R29, R34): the mode, the gain in force and the lanes follow. -/
def applyBand (v : Vhf) (tile : Option Nat) (s : State) : State :=
  let p := v.path
  if !(pathOn s p) then s
  else
    let t := (s.set (Fld.FE.STAT.MODE_NOW p.idx) tile.isSome.toNat).set (Fld.FE.TILE_NOW.KHZ p.idx) (tile.getD 0)
    let t1 := t.setPath p (fun x => { x with quietEpochs := 0, chosen := if tile.isSome then x.chosen else none })
    syncLanes p (raise (Ev.FE.MODE_CHANGE p.idx) (gapPath p (blankPath p (showGain p (gainStep t1 p) t1))))

/-- TILE_ENTER (R32, R33): three loud refreshes move an AUTO path from span to tile. -/
def tileEnter (v : Vhf) (s : State) : State :=
  let p := v.path
  if pathOn s p && modeNow s p == 0 && s.get (Fld.FE.CTRL.MODE p.idx) == 0 && (s.path p).testAt.isNone
      && decide (3 ≤ (s.path p).loudRefreshes) then
    match wantedTile s v none with
    | some c => keepChosen v (some c) (retuneTo v (some c) s)
    | none => s
  else s

/-- TILE_EXIT (R32): 2 000 quiet epochs return a tiled AUTO path to span. -/
def tileExit (v : Vhf) (s : State) : State :=
  let p := v.path
  if pathOn s p && (tileNow s p).isSome && s.get (Fld.FE.CTRL.MODE p.idx) == 0 && decide (2000 ≤ (s.path p).quietEpochs) then
    retuneTo v none s
  else s

/-- GLIMPSE_HOP (R37, R38): the hop to the next tile is posted for the next boundary divisible by 20. -/
def glimpseHop (v : Vhf) (s : State) : State :=
  match tileNow s v.path with
  | none => s
  | some c =>
    if !(glimpsing s v.path) then s
    else match nextTile s v c with
      | none => s
      | some d => if d = c || headedFor s v none (d * 1000) then s
        else requestLo v.lo { kind := .hop, hz := d * 1000, glimpse := true } s

/-! ## Path test (R40) and the gain-table check (R41) -/

/-- The gain-table check in progress on a path is abandoned. -/
def abandonCheck (p : Path) (s : State) : State :=
  match s.aux.check with
  | some c => if c.path == p then
      raise Ev.AGC.CHECK_ABANDONED (releaseReq .window { s with aux := { s.aux with check := none } }) else s
  | none => s

/-- The posted LO change of a path that a test request withdraws (R40): a hop or retune, or in tile a calibration, not yet announced. -/
def testWithdraws (v : Vhf) (s : State) : Option LoReq :=
  let x := s.lo v.lo
  x.busy.filter (fun r => !x.settling && !(s.plan.any (fun e => e.announced && e.change == .lo v.lo r))
    && (r.kind != .cal || (tileNow s v.path).isSome))

/-- The path's LO is made free for a test to begin within 3 epochs (R40): a posted change that can still be withdrawn is, with what goes
with it; a held hop or retune is superseded; the path goes to span; a calibration so withdrawn is requested anew (DESIGN CHOICE, log
entry 102). -/
def freeForTest (v : Vhf) (s : State) : State :=
  let l := v.lo
  let heldHop : Bool := match (s.lo l).queued with | some q => q.kind != .cal | none => false
  let s1 := if heldHop then dropLoQueue l (raise (Ev.LO.SUPERSEDED l.idx) (s.bumpSat (Fld.LO.SUPERSEDED_CNT.COUNT l.idx))) else s
  let out := testWithdraws v s
  let s2 := if out.isNone then s1
    else withdrawUnannounced (fun c => match c with
      | .lo k _ => k == l
      | .band w _ => w == v
      | .gain p _ .hop => p == v.path
      | _ => false) (s1.setLo l (fun y => { y with busy := none }))
  let s3 := retile v s2
  match out with
  | some r => if r.kind == .cal then requestLo l r s3 else s3
  | none => s3

/-- TEST = 1 is written (R40): refused, or every lane of the path is parked and the test begins on a boundary. On a path that is held off
it is refused as outside WATCH and FULL (DEDUCED, log entry 103). -/
def testRequested (p : Path) (s : State) : State :=
  let fed := (feedingLanes s).any (fun l => s.laneInUse l && (s.lane l).path == p)
  if !(pathOn s p) || (fed && !(s.flag (Fld.FE.CTRL.FORCE p.idx))) then
    raise (Ev.FE.TEST_REFUSED p.idx) (s.put (Fld.FE.CTRL.TEST p.idx) false)
  else
    let t := syncLanes p (s.setPath p (fun x => { x with testAt := some (s.epoch + 1) }))
    match p with
    | .fm => freeForTest .fm t
    | .b3 => freeForTest .b3 t
    | .lf => t

/-- TEST = 0 is written (R40): the injector is disabled and a check abandoned (DEDUCED, log entry 104); the path returns to its mode on
the boundary. -/
def testEnded (p : Path) (s : State) : State :=
  if modeNow s p = 2 then abandonCheck p (s.put Fld.INJ.CTRL.ENABLE false) else s

/-- PATH_TEST_READY (R40): on its boundary a path in span enters TEST. -/
def testReady (p : Path) (s : State) : State :=
  match (s.path p).testAt with
  | some b =>
    if s.time % epochTicks = 0 ∧ b ≤ s.epoch ∧ modeNow s p = 0 ∧ s.flag (Fld.FE.CTRL.TEST p.idx) = true then
      raise (Ev.FE.TEST_READY p.idx)
        ((s.set (Fld.FE.STAT.MODE_NOW p.idx) 2).setPath p (fun x => { x with testAt := none }))
    else s
  | none => s

/-- On a boundary a path whose TEST bit is 0 leaves TEST; its lanes acquire anew (R40). -/
def leaveTest (p : Path) (s : State) : State :=
  if !(s.flag (Fld.FE.CTRL.TEST p.idx)) && (modeNow s p == 2 || (s.path p).testAt.isSome) then
    let t := if modeNow s p = 2 then s.set (Fld.FE.STAT.MODE_NOW p.idx) 0 else s
    syncLanes p (t.setPath p (fun x => { x with testAt := none }))
  else s

/-- A host write of the path's mode or tile asks anew for a tile that the guard rejected (R435). -/
def askAnew (p : Path) (s : State) : State := s.setPath p (fun x => { x with rejected := none })

/-- A write of a front-end CTRL register (R35, R36, R40). -/
def writeFeCtrl (port : Port) (p : Path) (v : Word) (key : Bool) (s : State) : State :=
  let was := s.flag (Fld.FE.CTRL.TEST p.idx)
  let t := askAnew p (plainWrite port (Reg.FE.CTRL p.idx) v key s)
  let now := t.flag (Fld.FE.CTRL.TEST p.idx)
  let t1 := if now && !was then testRequested p t else if was && !now then testEnded p t else t
  match p with
  | .fm => retile .fm t1
  | .b3 => retile .b3 t1
  | .lf => t1

/-- A write of TILE_CENTRE (R33, R35, R36). -/
def writeTileCentre (port : Port) (v : Vhf) (w : Word) (key : Bool) (s : State) : State :=
  retile v (askAnew v.path (plainWrite port (Reg.FE.TILE_CENTRE v.path.idx) w key s))

/-- A write of `AGC.CHECK_CMD` (R41). Path code 3, and a START while a check is in progress, are refused like one outside TEST (DEDUCED,
log entry 104). -/
def writeCheckCmd (v : Word) (s : State) : State :=
  let i := fieldOf v 0 2
  let p := Path.ofIdx i
  if !(v.getLsbD 8) then s
  else if i = 3 ∨ modeNow s p ≠ 2 ∨ s.aux.check.isSome ∨ s.get Fld.RGL.INJ_CEIL.LEVEL < 15 then raise Ev.AGC.CHECK_ABANDONED s
  else { s with aux := { s.aux with check := some { path := p, nextAt := s.epoch + 1 } } }

/-- A check window starts on its boundary once it fits the duty budget and has any grant it waits for (R41, R46). -/
def checkWindow (s : State) : State :=
  match s.aux.check with
  | some c =>
    if s.time % epochTicks ≠ 0 ∨ c.start.isSome ∨ 3 ≤ c.windows ∨ s.epoch < c.nextAt then s
    else
      let go (t : State) : State :=
        showGain c.path (8 * c.windows) { t with aux := { t.aux with check := some { c with start := some t.epoch } } }
      if s.aux.uses.contains .window then (if waitsForGrant s .window then s else go s)
      else if dutyTicks s < usedTicks s + 16 * epochTicks then s
      else
        let t := assertReq .window s
        if waitsForGrant t .window then t else go t
  | none => s

/-- On a boundary a window in progress takes its next entry, or ends after 16 epochs (R41). -/
def checkBoundary (s : State) : State :=
  match s.aux.check with
  | some c => match c.start with
    | some w =>
      if w + 16 ≤ s.epoch then
        releaseReq .window { s with aux := { s.aux with
          check := some { c with start := none, windows := c.windows + 1, nextAt := w + 20 } } }
      else if (s.epoch - w) % 2 = 0 then showGain c.path (8 * c.windows + (s.epoch - w) / 2) s
      else s
    | none => s
  | none => s

/-- GAIN_CHECK_DONE (R41): the measured gains of the 24 entries, 0.01 dB, against their stored values. -/
def checkDone (measured : List Int) (s : State) : State :=
  match s.aux.check with
  | some c =>
    if c.windows < 3 then s
    else
      let dev (k : Nat) : Int := measured.getD k 0 - gainEntry s c.path k
      let worst := ((List.range 24).find? (fun k => (List.range 24).all (fun j => decide ((dev j).natAbs ≤ (dev k).natAbs)))).getD 0
      let pass := decide ((dev worst).natAbs ≤ 50)
      let t := postResult 0 [(Reg.AGC.CHECK_RES0, wordOf [(10, 2, c.path.idx), (12, 1, pass.toNat)]),
        (Reg.AGC.CHECK_RES1, wordOf [(0, 16, ofSigned 16 (dev worst)), (16, 5, worst)])] { s with aux := { s.aux with check := none } }
      raiseIf (!pass) Ev.AGC.TABLE_DRIFT (raise Ev.AGC.CHECK_DONE t)
  | none => s

/-! ## The injector (R42 to R45) -/

/-- The path whose band holds the injected signal, ±SHAPE_BW/2 when shaped (R42). -/
def injPath (s : State) : Option Path :=
  match injFreq s with
  | none => none
  | some n =>
    let half := if s.flag Fld.INJ.CTRL.SHAPED then s.get Fld.INJ.SHAPE_BW.KHZ else 0
    let inside (p : Path) : Bool :=
      decide ((pathRange p).1 * 2 * 2 ^ 32 + half * 2 ^ 32 ≤ n * 327680) && decide (n * 327680 + half * 2 ^ 32 ≤ (pathRange p).2 * 2 * 2 ^ 32)
    [Path.lf, Path.fm, Path.b3].find? inside

/-- The injector refuses (R42, R44). -/
def injRefuse (reason : Nat) (s : State) : State :=
  raise Ev.INJ.REFUSED
    (({ s with aux := { s.aux with maskPending := false } }.put Fld.INJ.CTRL.ENABLE false).set Fld.INJ.STAT.REASON reason)

/-- The level index in use and the clamp: the lowest of LEVEL, the regulatory ceiling and −40 dBm (R43). -/
def showInjLevel (s : State) : State :=
  let want := s.get Fld.INJ.CTRL.LEVEL
  let now := min want (min 30 (s.get Fld.RGL.INJ_CEIL.LEVEL))
  let clamped := decide (now < want)
  raiseIf (clamped && !(s.flag Fld.INJ.STAT.CLAMPED)) Ev.INJ.CLAMPED
    ((s.set Fld.INJ.STAT.LEVEL_NOW now).put Fld.INJ.STAT.CLAMPED clamped)

/-- The conditions of R42 on frequency and TEST: the reason of a refusal, or none. -/
def injReason (s : State) : Option Nat :=
  match injPath s with
  | none => some 3
  | some p => if modeNow s p = 2 then none else some 2

/-- A shaped signal is asked for: its mask check begins (R44). -/
def startMaskCheck (s : State) : State := { s.put Fld.INJ.STAT.MASK_OK false with aux := { s.aux with maskPending := true } }

/-- A write of `INJ.CTRL` (R42, R44, R45): ENABLE = 1 asks for injection; a shaped signal is checked against the mask first, also one that
is asked for while another is injected. -/
def writeInjCtrl (port : Port) (v : Word) (key : Bool) (s : State) : State :=
  let t := plainWrite port Reg.INJ.CTRL v key s
  if t.flag Fld.INJ.STAT.ACTIVE then
    let u := showInjLevel t
    if t.flag Fld.INJ.CTRL.ENABLE && t.flag Fld.INJ.CTRL.SHAPED then
      (if t.aux.shapedNow || t.aux.maskPending then u else startMaskCheck u)
    else { u with aux := { u.aux with maskPending := false } }
  else if t.flag Fld.INJ.CTRL.ENABLE then
    match injReason t with
    | some r => injRefuse r t
    | none =>
      let u := t.set Fld.INJ.STAT.REASON 0
      if t.flag Fld.INJ.CTRL.SHAPED then startMaskCheck u else u
  else { t with aux := { t.aux with maskPending := false } }

/-- A write of a coefficient or of `SHAPE_BW` (R44, R45): while a shaped signal is asked for, the new shape is checked anew (DESIGN CHOICE,
log entry 105). -/
def writeInjShape (port : Port) (a : Nat) (v : Word) (key : Bool) (s : State) : State :=
  let t := plainWrite port a v key s
  if t.flag Fld.INJ.CTRL.ENABLE && t.flag Fld.INJ.CTRL.SHAPED then startMaskCheck t else t

/-- The coefficients of the shaping FIR (R45). -/
def injCoefs (s : State) : List Int := (List.range 64).map (fun i => s.geti (Fld.INJ.COEF.C i))

/-- The mask of R44 on 1 024 points over the DAC's rate, 160 kHz apart: the response at and beyond ±0.6 × SHAPE_BW lies 30 dB, beyond
±SHAPE_BW 50 dB below its peak (DEDUCED, log entry 105). -/
def maskPasses (s : State) : Bool :=
  let r := autocorrs (injCoefs s)
  let power := (List.range 513).map (fun k => (160 * k, firPower r k 1024))
  let peak := maximum 0 (power.map (fun x => x.2))
  let bw := s.get Fld.INJ.SHAPE_BW.KHZ
  power.all (fun x => (decide (10 * x.1 ≤ 6 * bw) || decide (1000 * x.2 ≤ peak)) && (decide (x.1 ≤ bw) || decide (100000 * x.2 ≤ peak)))

/-- The target path's synthesiser settles or calibrates (R42). -/
def injWaits (s : State) (p : Path) : Bool :=
  match p with
  | .lf => false
  | .fm => (s.lo .lof).settling
  | .b3 => (s.lo .lob).settling

/-- The injector is enabled and every condition of R42 met, but the path's synthesiser settles or calibrates; or the gain-table check's
window waits for its grant: WAITING (R42, R45). -/
def injIsWaiting (s : State) : Bool :=
  (s.flag Fld.INJ.CTRL.ENABLE && !(s.flag Fld.INJ.STAT.ACTIVE) && !s.aux.maskPending && injReason s == none
    && (!(s.flag Fld.INJ.CTRL.SHAPED) || s.flag Fld.INJ.STAT.MASK_OK) && (match injPath s with | some p => injWaits s p | none => false))
  || waitsForGrant s .window

/-- INJ_START (R42, R43): on the first boundary after every condition is met. -/
def injStart (s : State) : State :=
  if s.time % epochTicks ≠ 0 || !(s.flag Fld.INJ.CTRL.ENABLE) || s.flag Fld.INJ.STAT.ACTIVE || s.aux.maskPending
      || (s.flag Fld.INJ.CTRL.SHAPED && !(s.flag Fld.INJ.STAT.MASK_OK)) then s
  else match injPath s with
    | none => injRefuse 3 s
    | some p =>
      if modeNow s p ≠ 2 then injRefuse 2 s
      else if injWaits s p then s
      else raise Ev.INJ.STARTED (showInjLevel ({ s with aux := { s.aux with shapedNow := s.flag Fld.INJ.CTRL.SHAPED } }.put
        Fld.INJ.STAT.ACTIVE true))

/-- Injection stops. -/
def injStop (s : State) : State :=
  raise Ev.INJ.STOPPED ({ s with aux := { s.aux with shapedNow := false } }.setWord Reg.INJ.STAT
    (withField (withField (s.word Reg.INJ.STAT) 0 2 0) 8 5 0))

/-- On a boundary the injector stops if ENABLE is 0 or its path has left TEST, and refuses a signal that a write has moved out of the path's
band; the shape that passed its check takes over (R42). -/
def injBoundary (s : State) : State :=
  if !(s.flag Fld.INJ.STAT.ACTIVE) then s
  else if !(s.flag Fld.INJ.CTRL.ENABLE) then injStop s
  else match injReason s with
    | some 2 => injStop s
    | some r => injStop (injRefuse r s)
    | none => if s.aux.maskPending then s else { s with aux := { s.aux with shapedNow := s.flag Fld.INJ.CTRL.SHAPED } }

/-- INJ_MASK_CHECK_DONE (R44): the shape that stands in the registers is judged. -/
def injMaskDone (s : State) : State :=
  if !s.aux.maskPending then s
  else
    let pass := maskPasses s
    let t := { s with aux := { s.aux with maskPending := false } }.put Fld.INJ.STAT.MASK_OK pass
    if pass then t else injRefuse 1 t

/-! ## Coexistence wires (R46 to R49) -/

/-- The path that checks its gain table loses its grant: the check is abandoned (R41.4). -/
def windowFailed (s : State) : State :=
  match s.aux.check with
  | some c => abandonCheck c.path s
  | none => s

/-- What an activity does without its grant (R46). A band search, whose hop settles within 120 µs of its boundary (R62), waits for none
(DEDUCED, log entry 106). -/
def noGrant (u : CoexUse) (s : State) : State :=
  match u with
  | .calibration l => noGrantCal l (releaseReq (.calibration l) s)
  | .window => windowFailed s
  | .sprout _ => s
  | .search _ => s

/-- While COEX_GNT is asserted no activity waits for its grant (R46). -/
def takeGrant (s : State) : State :=
  if !(coexGranted s) then s
  else
    let granted := s.aux.waits.map (fun w => w.use)
    forEach granted (fun u v => match u with | .calibration l => goCal l v | _ => v) { s with aux := { s.aux with waits := [] } }

/-- COEX_GNT changes its level (R46, R49). -/
def gntEdge (high : Bool) (s : State) : State := takeGrant { s with pwr := { s.pwr with gntHigh := high } }

/-- The grants that have not come within GNT_TIMEOUT are missed (R46). -/
def grantTimeout (s : State) : State :=
  let due := s.aux.waits.filter (fun w => decide (w.by_ ≤ s.epoch))
  forEach due (fun w t => noGrant w.use (raise Ev.COX.NO_GRANT t))
    { s with aux := { s.aux with waits := s.aux.waits.filter (fun w => decide (s.epoch < w.by_)) } }

/-- COEX_LIMIT_CUT (R47): the limiter ends an assertion after 20 ms or at the duty ceiling; the activities go on as if no grant had
arrived. -/
def limitCut (s : State) : State :=
  match s.aux.reqSince with
  | some t =>
    if 20 * epochTicks ≤ s.time - t ∨ dutyTicks s ≤ usedTicks s then
      let uses := s.aux.uses.filter (fun u => waitsForGrant s u || u == .window)
      let u := raise Ev.COX.LIMITED (dropReq s)
      forEach uses noGrant { u with aux := { u.aux with waits := [] } }
    else s
  | none => s

/-- COEX_ACT is asserted or released from now on (R48), where it was not so in `s`. -/
def actChanged (s t : State) : State :=
  let on := coexActive t
  if coexActive s == on then t
  else { t with aux := { t.aux with actSince := if on then some t.time else none, actSeen := t.aux.actSeen || on,
                                    actEdges := (t.time, on) :: t.aux.actEdges } }

/-- COEX_ACT changes its level (R48, R49). -/
def actEdge (high : Bool) (s : State) : State := actChanged s { s with pwr := { s.pwr with actHigh := high } }

/-- A write of `COX.CTRL` (R49): a new polarity may assert or release the input pins. -/
def writeCoexCtrl (port : Port) (v : Word) (key : Bool) (s : State) : State := takeGrant (actChanged s (plainWrite port Reg.COX.CTRL v key s))

/-- At a boundary: whether COEX_ACT is asserted in the epoch that begins. -/
def coexBoundary (s : State) : State :=
  { s with aux := { s.aux with actSeen := coexActive s, actFirst := coexActive s, actEdges := [],
                               asserted := s.aux.asserted.filter (fun x => decide (s.time < x.1 + x.2 + secondTicks)) } }

/-! ## The aerial feed (R51, R52) -/

/-- Whether a measured current may be at the limit in force, whose accuracy is ±10 % ±3 mA, or at the analogue limit (R51). -/
def atCurrentLimit (s : State) (ma : Nat) : Bool := decide (9 * aerialCurrentLimit s ≤ 10 * (ma + 3))

/-- The feed's readings over the epoch just ended (R52), and the epochs of a short so far: five in current limit, or one below 1.0 V
(R51). The analogue side says where it limits; it can do so only from the limit's lower tolerance on. -/
def aerialEpoch (o : EpochObs) (s : State) : State :=
  if aerialOn s then
    let limiting := o.aerLimit && atCurrentLimit s o.aerMa
    let t := ((s.put Fld.PMU.AER_STAT.LIMITING limiting).set Fld.PMU.AER_STAT.CURRENT_MA o.aerMa).set Fld.PMU.AER_STAT.VOLT_10MV o.aerVolt
    { t with aux := { t.aux with limiting := if o.aerVolt < 100 then 5 else if limiting then t.aux.limiting + 1 else 0 } }
  else
    let t := ((s.put Fld.PMU.AER_STAT.LIMITING false).set Fld.PMU.AER_STAT.CURRENT_MA 0).set Fld.PMU.AER_STAT.VOLT_10MV 0
    { t with aux := { t.aux with limiting := 0 } }

/-- The feed latches off (R51): 5 ms in current limit, or an output below 1.0 V. -/
def aerialLatch (s : State) : State :=
  if aerialOn s && decide (5 ≤ s.aux.limiting) then
    let t := raise Ev.PMU.AER_SHORT ((s.put Fld.PMU.AER_STAT.LATCHED_OFF true).bumpSat Fld.PMU.AER_SHORT_CNT.COUNT)
    { t with aux := { t.aux with limiting := 0, retryAt := some (s.epoch + 1000) } }
  else s

/-! ## The commands of chapter 2 -/

/-- OVERLOAD_CLEAR (R35). -/
def execOverloadClear (p : Path) (s : State) : Host.Outcome State Fault Refusal :=
  commit s (if s.flag (Fld.FE.STAT.OVERLOAD p.idx) && decide (100 ≤ (s.path p).clearEpochs) then
    s.put (Fld.FE.STAT.OVERLOAD p.idx) false else s)

/-- AGC_ATTACK (R30). -/
def execAgcAttack (p : Path) (s : State) : Host.Outcome State Fault Refusal := commit s (attack p s)

/-- AGC_RELEASE (R30). -/
def execAgcRelease (p : Path) (s : State) : Host.Outcome State Fault Refusal := commit s (release p s)

/-- AGC_MAN_STEP_WRITE (R30, R31). -/
def execAgcManStepWrite (port : Port) (v : Word) (s : State) : Host.Outcome State Fault Refusal :=
  commit s (hostWrite port Reg.AGC.MAN_STEP v (writeManStep port v) s)

/-- TILE_ENTER (R32, R33). -/
def execTileEnter (v : Vhf) (s : State) : Host.Outcome State Fault Refusal := commit s (tileEnter v s)

/-- TILE_EXIT (R32). -/
def execTileExit (v : Vhf) (s : State) : Host.Outcome State Fault Refusal := commit s (tileExit v s)

/-- GLIMPSE_HOP (R37, R38). -/
def execGlimpseHop (v : Vhf) (s : State) : Host.Outcome State Fault Refusal := commit s (glimpseHop v s)

/-- The word of a front-end CTRL write whose TEST bit is `test`. -/
def feCtrlWord (v : Word) (test : Bool) : Word := withField v 2 1 test.toNat

/-- PATH_MODE_WRITE (R35, R36): TEST is written as it stands. -/
def execPathModeWrite (port : Port) (p : Path) (v : Word) (s : State) : Host.Outcome State Fault Refusal :=
  let w := feCtrlWord v (s.flag (Fld.FE.CTRL.TEST p.idx))
  commit s (hostWrite port (Reg.FE.CTRL p.idx) w (writeFeCtrl port p w) s)

/-- TILE_CENTRE_WRITE (R33, R36). -/
def execTileCentreWrite (port : Port) (p : Vhf) (v : Word) (s : State) : Host.Outcome State Fault Refusal :=
  commit s (hostWrite port (Reg.FE.TILE_CENTRE p.path.idx) v (writeTileCentre port p v) s)

/-- PATH_TEST_ENTER (R40). -/
def execPathTestEnter (port : Port) (p : Path) (v : Word) (s : State) : Host.Outcome State Fault Refusal :=
  commit s (hostWrite port (Reg.FE.CTRL p.idx) (feCtrlWord v true) (writeFeCtrl port p (feCtrlWord v true)) s)

/-- PATH_TEST_READY (R40). -/
def execPathTestReady (p : Path) (s : State) : Host.Outcome State Fault Refusal := commit s (testReady p s)

/-- PATH_TEST_EXIT (R40). -/
def execPathTestExit (port : Port) (p : Path) (v : Word) (s : State) : Host.Outcome State Fault Refusal :=
  commit s (hostWrite port (Reg.FE.CTRL p.idx) (feCtrlWord v false) (writeFeCtrl port p (feCtrlWord v false)) s)

/-- GAIN_CHECK_START (R41). -/
def execGainCheckStart (port : Port) (v : Word) (s : State) : Host.Outcome State Fault Refusal :=
  commit s (hostWrite port Reg.AGC.CHECK_CMD (withField v 8 1 1) (fun _ => writeCheckCmd (withField v 8 1 1)) s)

/-- GAIN_CHECK_WINDOW (R41). -/
def execGainCheckWindow (s : State) : Host.Outcome State Fault Refusal := commit s (checkWindow s)

/-- GAIN_CHECK_DONE (R41). -/
def execGainCheckDone (measured : List Int) (s : State) : Host.Outcome State Fault Refusal := commit s (checkDone measured s)

/-- INJ_ENABLE (R42). -/
def execInjEnable (port : Port) (v : Word) (s : State) : Host.Outcome State Fault Refusal :=
  commit s (hostWrite port Reg.INJ.CTRL (withField v 0 1 1) (writeInjCtrl port (withField v 0 1 1)) s)

/-- INJ_MASK_CHECK_DONE (R44): the computation ends `us` µs after its start, which the state does not hold. -/
def execInjMaskCheckDone (_us : Nat) (s : State) : Host.Outcome State Fault Refusal := commit s (injMaskDone s)

/-- INJ_START (R42). -/
def execInjStart (s : State) : Host.Outcome State Fault Refusal := commit s (injStart s)

/-- INJ_DISABLE (R42): the injector stops on the next boundary. -/
def execInjDisable (port : Port) (v : Word) (s : State) : Host.Outcome State Fault Refusal :=
  commit s (hostWrite port Reg.INJ.CTRL (withField v 0 1 0) (writeInjCtrl port (withField v 0 1 0)) s)

/-- COEX_GNT_EDGE (R46). -/
def execCoexGntEdge (high : Bool) (s : State) : Host.Outcome State Fault Refusal := commit s (gntEdge high s)

/-- COEX_GRANT_TIMEOUT (R46). -/
def execCoexGrantTimeout (s : State) : Host.Outcome State Fault Refusal := commit s (grantTimeout s)

/-- COEX_LIMIT_CUT (R47). -/
def execCoexLimitCut (s : State) : Host.Outcome State Fault Refusal := commit s (limitCut s)

/-- COEX_ACT_EDGE (R48). -/
def execCoexActEdge (high : Bool) (s : State) : Host.Outcome State Fault Refusal := commit s (actEdge high s)

/-- COEX_ACT_LONG (R48): an assertion has lasted longer than 10 ms; once for each. -/
def execCoexActLong (s : State) : Host.Outcome State Fault Refusal :=
  commit s (match s.aux.actSince with
    | some t => if t + 10 * epochTicks < s.time then raise Ev.COX.ACT_LONG { s with aux := { s.aux with actSince := none } } else s
    | none => s)

/-- AER_LATCH_OFF (R51). -/
def execAerLatchOff (s : State) : Host.Outcome State Fault Refusal := commit s (aerialLatch s)

/-- AER_RETRY (R51): one second after latching off. -/
def execAerRetry (s : State) : Host.Outcome State Fault Refusal :=
  commit s (match s.aux.retryAt with
    | some b => if b ≤ s.epoch then { s.put Fld.PMU.AER_STAT.LATCHED_OFF false with aux := { s.aux with retryAt := none } } else s
    | none => s)

/-- AER_THERMAL_CUT (R51). -/
def execAerThermalCut (s : State) : Host.Outcome State Fault Refusal :=
  commit s (if aerialOn s then raise Ev.PMU.AER_THERM (s.put Fld.PMU.AER_STAT.THERMAL true) else s)

/-- AER_THERMAL_RESTORE (R51). -/
def execAerThermalRestore (s : State) : Host.Outcome State Fault Refusal := commit s (s.put Fld.PMU.AER_STAT.THERMAL false)

end Sys2Proof.Machine
end

