-- ==== Sys2Proof/Machine/Survey.lean ====
section
/-!
DEFINITION. Survey snapshots and their windows (R91 to R102), the allocation and rotation of watch entries (R108, R109), load-driven
migration (R110) and the offset estimator (R128 to R131).
-/

namespace Sys2Proof

/-- A survey window's number (result windows 1 to 3) less 1, its refresh in epochs, its path, and its entries; the LF window holds
the bin map and then the raster map. -/
def MapSel.idx : MapSel → Nat
  | .fm => 0
  | .b3 => 1
  | .lf => 2

def MapSel.period : MapSel → Nat
  | .fm => 10
  | .b3 => 24
  | .lf => 40

def MapSel.path : MapSel → Path
  | .fm => .fm
  | .b3 => .b3
  | .lf => .lf

def MapSel.entries : MapSel → Nat
  | .fm => 881
  | .b3 => 38
  | .lf => 12223

end Sys2Proof

namespace Sys2Proof.Machine

open Sys2Proof

/-! ## Snapshots (R94 to R96) -/

/-- The survey map of a window. -/
def State.map (s : State) (m : MapSel) : SurveyMap := at' s.maps m.idx {}

/-- `s` with a survey map changed. -/
def State.setMap (s : State) (m : MapSel) (f : SurveyMap → SurveyMap) : State := { s with maps := upd s.maps m.idx f }

/-- The cells after a snapshot: an entry measured in it takes its level with AGE 0, others keep theirs and age (R94). -/
def ageCells (fresh old : List Cell) : List Cell :=
  let held := (old.filter (fun c => fresh.all (fun f => f.index != c.index))).map (fun c => { c with age := satAdd 255 c.age 1 })
  fresh ++ held

/-- Level of entry `i` in a snapshot; −32 768 if it was never measured. -/
def Snapshot.level (x : Snapshot) (i : Nat) : Int :=
  match x.cells.find? (fun c => c.index == i) with
  | some c => c.level
  | none => -32768

/-- Whether an entry of a VHF map lies inside the tile at `c` (R94): an FM entry by its centre, a B3 block by its whole span. -/
def entryInTile (m : MapSel) (i c : Nat) : Bool :=
  match m with
  | .fm => decide (((64000 + 50 * i : Nat) : Int) - c ≤ 5120 ∧ (c : Int) - (64000 + 50 * i : Nat) ≤ 5120)
  | .b3 => decide ((((blockCentres.getD i 0 : Nat) : Int) - c).natAbs + 768 ≤ 5120)
  | .lf => true

/-- STALE of an entry in a snapshot (R95). -/
def Snapshot.stale (x : Snapshot) (m : MapSel) (i : Nat) : Bool :=
  x.staleAll || (match x.tile with | some c => !(entryInTile m i c) | none => false)

/-! ## Levels (R91 to R94) -/

/-- Twice the frequency in kHz of an LF entry: bins, then the two rasters (R92). -/
def lfTwiceKhz (i : Nat) : Nat :=
  if i < 11943 then 290 + 5 * i
  else if i < 11943 + 162 then 2 * (153 + 9 * (i - 11943))
  else 2 * (530 + 10 * (i - 12105))

/-- The centre of a map entry and half its span, Hz (R92). -/
def entrySpan (m : MapSel) (i : Nat) : Int × Int :=
  match m with
  | .fm => (1000 * entryKhz .fm i, 25000)
  | .b3 => (1000 * entryKhz .b3 i, 768000)
  | .lf => (500 * lfTwiceKhz i, if i < 11943 then 1250 else if i < 12105 then 4500 else 5000)

/-- Points of a path's FFT and their spacing in Hz (R91). -/
def fftSize : Path → Nat
  | .lf => 32768
  | _ => 16384

def binSpacing : Path → Nat
  | .lf => 2500
  | _ => 5000

/-- The centre of an FFT bin, Hz: bins of a complex transform in the upper half lie below the LO. -/
def binCentre (p : Path) (lo b : Nat) : Int :=
  if p == .lf || decide (2 * b < fftSize p) then (lo : Int) + binSpacing p * b else (lo : Int) - binSpacing p * (fftSize p - b : Nat)

/-- The overlap of two spans, each given by its centre and half its width. -/
def overlapOf (a b : Int × Int) : Nat := (min (a.1 + a.2) (b.1 + b.2) - max (a.1 - a.2) (b.1 - b.2)).toNat

/-- The epochs of a snapshot in which an entry lay inside the captured range (R94). -/
def entryEpochs (m : MapSel) (i : Nat) (l : List SurveyEpoch) : List SurveyEpoch :=
  l.filter (fun e => match e.tile with | some c => entryInTile m i c | none => true)

/-- The power of an entry over some epochs, each bin's shared in proportion to its overlap (R92), times the bin spacing. -/
def entryPower (m : MapSel) (i : Nat) (l : List SurveyEpoch) : Nat :=
  (l.map (fun e => (e.bins.map (fun b =>
    b.2 * overlapOf (entrySpan m i) (binCentre m.path e.lo b.1, binSpacing m.path / 2))).sum)).sum

/-- Whether L_FS + 10 log₁₀ (`num` / `den`) is at least `x`, in exact arithmetic; L_FS in 0.01 dB, `x` in 0.005 dB. -/
def levelAtLeast (fs : Int) (num den : Nat) (x : Int) : Bool :=
  let e := x - 2 * fs
  decide (den ^ 2000 * 10 ^ e.toNat ≤ num ^ 2000 * 10 ^ (-e).toNat)

/-- LEVEL of R93: round(4L), found bit by bit. -/
def levelCode (fs : Int) (num den : Nat) : Int :=
  (List.range 12).reverse.foldl (fun q b => if levelAtLeast fs num den (50 * (q + 2 ^ b) - 25) then q + 2 ^ b else q) (-2048)

/-- L_FS of an entry in 0.01 dB, with the correction for the tile filter where it lay more than 4.4 MHz from the tile's centre (R93). -/
def entryScale (s : State) (m : MapSel) (i : Nat) (l : List SurveyEpoch) : Int :=
  let off := (l.head?.bind (fun e => e.tile)).map (fun c => ((entrySpan m i).1 - 1000 * c).natAbs / 1000)
  at' s.dsp.fullScale m.path.idx 0 + (match off with | some d => if 4400 < d then Config.tileResponse d else 0 | none => 0)

/-- The level of an entry into which no power fell, 0.01 dB: the reading that is brought for it where the epochs brought no power at all, and
free where none is (log entry 116). -/
def unpowered (m : MapSel) (readings : List (Nat × Int)) (i : Nat) : Int :=
  ((readings.find? (fun r => r.1 == i)).map (fun r => r.2)).getD (Config.noPower m.path.idx i)

/-- An entry as a snapshot measures it: at least 9 usable transforms (LF: 4) while it lay inside the captured range (R94), and
no memory error that touched it (R396). -/
def measureEntry (s : State) (m : MapSel) (readings : List (Nat × Int)) (i : Nat) : Option Cell :=
  let l := entryEpochs m i ((at' s.dsp.surveys m.path.idx []).take m.period)
  let n := (l.map (fun e => e.usable)).sum
  if decide (n < (if m = .lf then 4 else 9)) || s.dsp.touched.contains (m, i) then none
  else
    let num := entryPower m i l
    let den := n * binSpacing m.path * 2 ^ 46
    let fs := entryScale s m i l
    if num = 0 then
      let x := unpowered m readings i
      some { index := i, level := clampInt (-2048) 2047 ((2 * x + 25) / 50), age := 0, strong := m != .lf && decide (10000 < x) }
    else some { index := i, level := levelCode fs num den, age := 0, strong := m != .lf && !(levelAtLeast (-fs) den num (-20000)) }

/-- SNAPSHOT_CLOSE: the snapshot of R9's boundary. -/
def closeSnapshot (m : MapSel) (readings : List (Nat × Int)) (s : State) : State :=
  let p := m.path
  let shut := pathClosed s p
  let seen := (List.range m.entries).filterMap (measureEntry s m readings)
  let snap : Snapshot := { epoch := s.epoch, staleAll := shut, tile := tileNow s p, cells := ageCells seen (s.map m).now.cells }
  let s1 : State := { s with dsp := { s.dsp with touched := s.dsp.touched.filter (fun e => e.1 != m) } }
  let t := s1.setMap m (fun x => { x with now := snap, unposted := true })
  let t1 := t.put ⟨Reg.SRV.STAT, m.idx, 1⟩ (shut || snap.tile.isSome)
  let loud := seen.any (fun c => c.strong)
  if p == .lf then t1 else t1.setPath p (fun x => { x with loudRefreshes := if loud then x.loudRefreshes + 1 else 0 })

/-- `SRV.CTRL` lets the window post (R96). -/
def postsMap (s : State) (m : MapSel) : Bool := s.flag ⟨Reg.SRV.CTRL, m.idx, 1⟩

/-- SNAPSHOT_POSTED: the closed snapshot goes to its window (R96, R97, R102). -/
def postSnapshot (m : MapSel) (s : State) : State :=
  if !(s.map m).unposted then s
  else
    let t := s.setMap m (fun x => { x with unposted := false })
    if !(postsMap s m) then t
    else
      let busy := t.flag (windowValid (m.idx + 1))
      let t1 := t.setMap m (fun x => if busy then { x with side := x.now } else { x with held := x.now })
      let epochReg := Reg.SRV.FM_EPOCH + 4 * m.idx
      let t2 := postResult (m.idx + 1) [(epochReg, lowWord (s.map m).now.epoch)] t1
      raise (Ev.SRV.FM_READY + m.idx) (raiseIf busy Ev.SRV.OVERFLOW t2)

/-! ## Watch allocation (R108, R109) -/

/-- A candidate: its frequency in kHz and level in 0.25 dB. -/
abbrev Cand := Nat × Int

/-- `x` is higher than every other candidate within `w` kHz of it. -/
def isPeak (w : Nat) (all : List Cand) (x : Cand) : Bool :=
  all.all (fun y => y.1 == x.1 || decide (y.2 < x.2) || decide (w < ((y.1 : Int) - x.1).natAbs))

/-- The entries of a snapshot that are not stale, as candidates, that satisfy `p`. -/
def freshCells (s : State) (m : MapSel) (p : Nat → Bool) (khz : Nat → Nat) : List Cand :=
  let x := (s.map m).now
  (x.cells.filter (fun c => p c.index && !(x.stale m c.index))).map (fun c => (khz c.index, c.level))

/-- The candidates of a class before its threshold (R108). A maximum of the LF bin map is a bin of the 5 kHz raster that no other bin
within ±5 kHz equals, those between the raster's points included (DESIGN CHOICE, log entry 107). -/
def rawCandidates (s : State) (c : LaneClass) : List Cand :=
  match c with
  | .rds => let l := freshCells s .fm (fun _ => true) (entryKhz .fm)
    l.filter (isPeak 150 l)
  | .fic => (freshCells s .b3 (fun _ => true) (entryKhz .b3)).filter (fun x => !(engineHolds s x.1))
  | .amw =>
    let rasters := freshCells s .lf (fun i => decide (11943 ≤ i)) (fun i => lfTwiceKhz i / 2)
    let bins := freshCells s .lf (fun i => decide (i < 11943)) lfTwiceKhz
    rasters.filter (fun x => decide (x.1 ≤ 1700) && isPeak 10 rasters x)
      ++ (bins.filter (fun x => decide (3400 < x.1) && x.1 % 10 == 0 && isPeak 10 bins x)).map (fun x => (x.1 / 2, x.2))
  | _ => []

/-- The path a watch class receives on. -/
def LaneClass.path : LaneClass → Path
  | .fm | .rds => .fm
  | .dab | .fic => .b3
  | _ => .lf

/-- Threshold and hysteresis of a watch class, 0.25 dB (R108, R132). -/
def watchThreshold (s : State) (c : LaneClass) : Int :=
  4 * (match c with
    | .rds => s.get Fld.LNM.WATCH_THR.RDS_THR
    | .fic => s.get Fld.LNM.WATCH_THR.FIC_THR
    | _ => s.get Fld.LNM.WATCH_THR.AM_THR)

def watchHyst (s : State) : Int := 4 * s.get Fld.LNM.WATCH_THR.HYST

/-- A list of candidates, strongest first, with one for each frequency: where both LF rasters have an entry, the stronger (DESIGN CHOICE,
log entry 107). -/
def onePerKhz (l : List Cand) : List Cand := l.foldl (fun acc x => if acc.any (fun y => y.1 == x.1) then acc else acc ++ [x]) []

/-- The candidates of a class in an enabled band and inside any tile, strongest first; of equals the lowest frequency (R108). -/
def candidates (s : State) (c : LaneClass) : List Cand :=
  let p := c.path
  let ok (x : Cand) : Bool := withinBand s p x.1 x.1
    && (match tileNow s p with | some t => fitsTile x.1 (halfChannel c.base) t | none => true)
  onePerKhz (sortBy (fun a b => decide (b.2 < a.2) || (a.2 == b.2 && decide (a.1 ≤ b.1))) ((rawCandidates s c).filter ok))

/-- The lane manager allocates this class (R108). -/
def autoWatch (s : State) (c : LaneClass) : Bool :=
  match c with
  | .rds => s.flag Fld.LNM.CTRL.AUTO_RDS
  | .fic => s.flag Fld.LNM.CTRL.AUTO_FIC
  | .amw => s.flag Fld.LNM.CTRL.AUTO_AM
  | _ => false

/-- The level of the candidate an entry holds, for R108: none while its acquisition has timed out (R117). -/
def heldLevel (s : State) (cands : List Cand) (l : Nat) : Int :=
  if (s.lane l).replantAt.isSome then -32768
  else match cands.find? (fun x => x.1 == (s.lane l).khz) with
    | some x => x.2
    | none => candidateLevel s l

/-- The entries of a class that its capacity and the governor leave in use, in ascending order (R111, R344). -/
def usableEntries (s : State) (c : LaneClass) : List Nat :=
  (c.lanes.filter (fun l => (s.lane l).state != .retired)).take (watchLimit s c)

/-- A watch entry takes a candidate: a lane NCO retune (R89, R108), not before boundary `want`. -/
def postWatch (c : LaneClass) (l khz want : Nat) (s : State) : State := post (.tune l c.path khz false) want s

/-- A retune or release of lane `l` is planned. -/
def isTuneOf (l : Nat) (c : Change) : Bool :=
  match c with
  | .tune k _ _ _ => k == l
  | .release k => k == l
  | _ => false

/-- The FIC entries that rotate: the four highest-numbered within the capacity, while there are more candidates than entries (R109). -/
def rotatingEntries (s : State) (cands : List Cand) : List Nat :=
  let es := usableEntries s .fic
  let thr := watchThreshold s .fic
  if s.flag Fld.LNM.CTRL.ROTATE_FIC && decide (es.length < (cands.filter (fun x => decide (thr ≤ x.2))).length) then
    es.drop (es.length - 4) else []

/-- One allocation pass of a watch class (R108): released entries and free ones take the strongest candidates, lowest-numbered
first; then replacements, weakest first; at most four entries change candidate, a free entry that takes its first not being counted
(DESIGN CHOICE, log entry 107). -/
def allocateWatch (c : LaneClass) (s : State) : State :=
  if !(autoWatch s c) || heldOff s c.path || modeNow s c.path == 2 || glimpsing s c.path then s
  else
    let cands := candidates s c
    let thr := watchThreshold s c
    let rot := if c = .fic then rotatingEntries s cands else []
    let es := (usableEntries s c).filter (fun l => !(rot.contains l) && !(isPlanned (isTuneOf l) s))
    let used := es.filter (fun l => s.laneInUse l)
    let weak := sortBy (fun a b => decide (heldLevel s cands a ≤ heldLevel s cands b)) used
    let out := (weak.filter (fun l => decide (heldLevel s cands l < thr - watchHyst s))).take 4
    let keep := weak.filter (fun l => !(out.contains l) && decide (thr - watchHyst s ≤ heldLevel s cands l))
    let heldKhz := (c.lanes.filter (fun l => s.laneInUse l)).map (fun l => (s.lane l).khz)
    let pool := cands.filter (fun x => decide (thr ≤ x.2) && !(heldKhz.contains x.1))
    let takers := es.filter (fun l => out.contains l || (s.lane l).state == .free)
    let t := forEach (takers.zip pool) (fun z u => postWatch c z.1 z.2.1 0 u) s
    let t1 := forEach ((takers.drop pool.length).filter (fun l => out.contains l)) (fun l u => postSoon (.release l) u) t
    let swaps := ((keep.take (4 - out.length)).zip (pool.drop takers.length)).filter
      (fun z => decide (heldLevel s cands z.1 + watchHyst s < z.2.2))
    forEach swaps (fun z u => postWatch c z.1 z.2.1 0 u) t1

/-- The next candidate a rotating entry visits: after `khz` in descending order of level, then from the strongest again, and held by
no entry (R109). -/
def nextVisit (s : State) (cands : List Cand) (khz : Nat) : Option Nat :=
  let busy := (LaneClass.fic.lanes.filter (fun l => s.laneInUse l)).map (fun l => (s.lane l).khz)
  let open_ := (cands.filter (fun x => decide (watchThreshold s .fic ≤ x.2))).map (fun x => x.1)
  let after := (open_.dropWhile (fun f => f != khz)).drop 1
  (after ++ open_).find? (fun f => !(busy.contains f) && !(isPlanned (fun c => match c with | .tune _ _ k _ => k == f | _ => false) s))

/-- A rotating entry goes to its next candidate, on boundary `want` at the earliest. -/
def visitNext (l want : Nat) (s : State) : State :=
  match nextVisit s (candidates s .fic) (s.lane l).khz with
  | some f => postWatch .fic l f want s
  | none => s

/-- After a B3 snapshot: entries that begin to rotate start their first visit; entries that no longer rotate are held (R109), as all are
while the lane manager does not allocate the class (R108). -/
def startRotation (s : State) : State :=
  if !(autoWatch s .fic) then { s with mgr := { s.mgr with dwell := [] } }
  else if heldOff s .b3 then s
  else
    let rot := rotatingEntries s (candidates s .fic)
    let t : State := { s with mgr := { s.mgr with dwell := s.mgr.dwell.filter (fun d => rot.contains d.1) } }
    forEach (rot.filter (fun l => !(t.mgr.dwell.any (fun d => d.1 == l)))) (fun l u =>
      visitNext l 0 { u with mgr := { u.mgr with dwell := u.mgr.dwell ++ [(l, u.epoch + u.get Fld.LNM.FIC_DWELL.EPOCHS)] } }) t

/-- On the boundary of its retune a rotating entry's dwell starts (R109). -/
def startDwell (l : Nat) (s : State) : State :=
  { s with mgr := { s.mgr with dwell := s.mgr.dwell.map (fun d => if d.1 = l then (l, s.epoch + s.get Fld.LNM.FIC_DWELL.EPOCHS) else d) } }

/-- SNAPSHOT_CLOSE (R92 to R95), and the watch allocation it feeds (R108, R109). -/
def execSnapshotClose (m : MapSel) (readings : List (Nat × Int)) (s : State) : Host.Outcome State Fault Refusal :=
  commit s (if s.receiving && s.time % (m.period * epochTicks) == 0 then
    let t := closeSnapshot m readings s
    match m with
    | .fm => allocateWatch .rds t
    | .b3 => startRotation (allocateWatch .fic t)
    | .lf => allocateWatch .amw t
  else s)

/-- SNAPSHOT_POSTED (R96). -/
def execSnapshotPosted (m : MapSel) (s : State) : Host.Outcome State Fault Refusal := commit s (postSnapshot m s)

/-- The visit of rotating entry `l` ends on the boundary at which its dwell does: its next retune names that boundary, two epochs ahead
(R18, R109). -/
def ficRotate (l : Nat) (s : State) : State :=
  match s.mgr.dwell.find? (fun d => d.1 == l) with
  | some d => if d.2 ≤ s.epoch + 2 ∧ autoWatch s .fic ∧ !(isPlanned (isTuneOf l) s) then visitNext l d.2 s else s
  | none => s

/-- FIC_ROTATE (R109): the dwell of entry `e` expires. -/
def execFicRotate (e : Fin 16) (s : State) : Host.Outcome State Fault Refusal := commit s (ficRotate (116 + e.val) s)

/-! ## Load of the cores (R110) -/

/-- The loads of the lanes over an epoch give those of the cores (R132), and the epochs above 95 %. -/
def loadEpoch (loads : List (Nat × Nat)) (s : State) : State :=
  let t := forEach loads (fun x u => u.setLane x.1 (fun y => { y with load := x.2 })) s
  forEach (List.range 6) (fun c u =>
    let sum := min 100 ((lanesOnCore u c).map (fun l => (u.lane l).load)).sum
    let v := u.set (Fld.LNM.CORE_STAT.LOAD c) sum
    { v with mgr := { v.mgr with overload := upd v.mgr.overload c (fun n => if 95 < sum then n + 1 else 0) } }) t

/-- The lane with the smallest load on a core, of those that run there: ACTIVE or MIGRATING (R110; DEDUCED, log entry 109). -/
def lightestLane (s : State) (c : Nat) : Option Nat :=
  let ls := (lanesOnCore s c).filter (fun l => (s.lane l).live)
  ls.find? (fun l => ls.all (fun k => decide ((s.lane l).load ≤ (s.lane k).load)))

/-- CORE_OVERLOAD_MIGRATE (R110): above 95 % for 100 epochs, one lane at a time. -/
def overloadMigrate (c : Nat) (s : State) : State :=
  if 100 ≤ at' s.mgr.overload c 0 ∧ !(migrating s) then
    match lightestLane s c, quietCore s c with
    | some l, some d => migrate l d .load 0 s
    | _, _ => s
  else s

/-- CORE_OVERLOAD_MIGRATE (R110). -/
def execCoreOverloadMigrate (core : Fin 6) (s : State) : Host.Outcome State Fault Refusal := commitLanes s (overloadMigrate core.val s)

/-- SPROUT_SLOT_FREED (R116, R90). -/
def execSproutSlotFreed (s : State) : Host.Outcome State Fault Refusal := commitLanes s (serveSprouts s)

/-- SPROUT_REPLANT_TIMER (R117): 10 000 epochs after a timeout. -/
def execSproutReplantTimer (lane : Fin 156) (s : State) : Host.Outcome State Fault Refusal :=
  commitLanes s (match (s.lane lane.val).replantAt with
    | some e => if e ≤ s.epoch ∧ ((s.lane lane.val).state = .acquiring ∨ (s.lane lane.val).state = .restarting ∨ ((s.lane lane.val).live ∧ !(s.lane lane.val).sync)) then
        plantAcquire lane.val (s.setLane lane.val (fun x => { x with replantAt := none })) else s
    | none => s)

/-! ## The offset estimator (R128 to R131) -/

/-- A report counts: its lane is ACTIVE and its class is used (R128). -/
def ofsSource (s : State) (o : OfsObs) : Bool :=
  (s.lane o.lane).live && (match laneClass o.lane with
    | .dab => true
    | .fic => s.flag Fld.OFS.CTRL.FIC_USE
    | .drm => s.flag Fld.OFS.CTRL.DRM_USE
    | _ => false)

/-- The weight of a report, in units of 1/120 frame: frames × min(SNR, 30 dB) / 30 (R128). -/
def ofsWeight (o : OfsObs) : Nat := o.frames * (clampInt 0 120 o.snr).toNat

/-- Twice the weighted median of the reports (R128.1). -/
def twiceMedian (l : List OfsObs) : Int :=
  let sorted := sortBy (fun a b => decide (a.err ≤ b.err)) l
  let total := (sorted.map ofsWeight).sum
  let upTo (k : Nat) : Nat := ((sorted.take (k + 1)).map ofsWeight).sum
  match (List.range sorted.length).find? (fun k => decide (total ≤ 2 * upTo k)) with
  | some k =>
    let e (j : Nat) : Int := ((sorted[j]?).map (fun o => o.err)).getD 0
    if 2 * upTo k = total ∧ k + 1 < sorted.length then
      e k + ((sorted.drop (k + 1)).find? (fun o => decide (e k < o.err))).elim (e k) (fun o => o.err)
    else 2 * e k
  | none => 0

/-- No estimator step is posted now (R130). -/
def ofsSuspended (s : State) : Bool :=
  anyCoast s || s.flag Fld.CLK.STAT.CORRECTING || s.fab.pause.isSome
    || (match s.loops.closedAt with | some e => decide (s.epoch < e + 100) | none => false)

/-- An estimator step is pending (R129). -/
def stepPending (s : State) : Bool := isPlanned (fun c => match c with | .freq _ _ _ .estimator => true | _ => false) s

/-- A step of at most 50 ppb is posted, cut short at the limit of c, which sets AT_LIMIT and raises RANGE (R129, R131). -/
def postStep (want : Int) (s : State) : State :=
  if stepPending s || ofsSuspended s then s
  else
    let step := clampInt (-50) 50 want
    let cut := clampInt (-30000) 30000 (s.corr + step) - s.corr
    let t := if cut = step then s else raise Ev.OFS.RANGE (s.put Fld.OFS.STAT.AT_LIMIT true)
    if cut = 0 then t
    else post (.freq cut cut cut .estimator) (match s.mgr.lastFreq with | some b => b + 100 | none => 0) t

/-- CONVERGED (R129): three windows in succession below 10 ppb set it, one at 25 ppb or above clears it. `num / den` is r. -/
def ofsConverge (num : Int) (den : Nat) (s : State) : State :=
  let n := if num.natAbs < 10 * den then s.mgr.calm + 1 else 0
  let t : State := { s with mgr := { s.mgr with calm := n } }
  let on := s.flag Fld.OFS.STAT.CONVERGED
  if 25 * den ≤ num.natAbs then t.put Fld.OFS.STAT.CONVERGED false
  else if 3 ≤ n then raiseIf (!on) Ev.OFS.CONVERGED (t.put Fld.OFS.STAT.CONVERGED true)
  else t

/-- A window of 100 epochs closes (R128, R129, R131). -/
def ofsWindow (obs : List OfsObs) (s : State) : State :=
  let src := obs.filter (ofsSource s)
  let med := twiceMedian src
  let used := src.filter (fun o => decide ((2 * o.err - med).natAbs ≤ 600))
  let den := (used.map ofsWeight).sum
  let num := (used.map (fun o => (ofsWeight o : Int) * o.err)).sum
  let mode := s.get Fld.OFS.CTRL.MODE
  let t := s.set Fld.OFS.STAT.SOURCES used.length
  let t1 := if den = 0 then raise Ev.OFS.NO_SOURCE (t.put Fld.OFS.STAT.NO_SOURCE true)
    else
      let u := ofsConverge num den ((t.put Fld.OFS.STAT.NO_SOURCE false).seti Fld.OFS.EST_PPB.PPB (roundDiv (s.corr * den + num) den))
      if mode = 0 ∧ 5 * den ≤ num.natAbs then postStep (roundDiv num den) u else u
  if mode = 2 then
    let want := s.geti Fld.OFS.MAN_PPB.PPB - s.corr
    if want = 0 then t1 else postStep want t1
  else t1

/-- OFS_WINDOW (R128 to R131): on epochs divisible by 100. -/
def execOfsWindow (obs : List OfsObs) (s : State) : Host.Outcome State Fault Refusal :=
  commit s (if s.receiving && s.time % (100 * epochTicks) == 0 then ofsWindow obs s else s)

end Sys2Proof.Machine
end

