-- ==== Sys2Proof/Machine/Fm.lean ====
section
/-!
DEFINITION. FM reception and RDS (chapter 6): tuning, the readings of an epoch, RDS blocks and groups, records and AF lists, the group
FIFOs, captures and alarms.
-/

namespace Sys2Proof.Machine

open Sys2Proof

/-! ## Tuning (R137, R138) -/

/-- The band-plan test of R138: within the range, and ±100 kHz inside one enabled FM band. -/
def fmAllowed (s : State) (khz : Nat) : Bool :=
  decide (64000 ≤ khz) && decide (khz ≤ 108000) && withinBand s .fm (khz - 100) (khz + 100)

/-- A tune of lane `l` that its class accepts or refuses (R137, R164, R178, R194): the register stores an accepted value; in FULL
the retune is posted, for `none` a release. -/
def storeTune (l : Nat) (reg : Nat) (word : Word) (ok : Bool) (refused : Field) (enable ev : Nat) (goal : Option (Path × Nat)) (s : State) :
    State :=
  match goal with
  | some (p, khz) =>
    if !ok || (s.lane l).state == .retired then setChange refused enable ev s
    else
      let t := s.setWord reg word
      if t.pwr.mode == .full then postSoon (.tune l p khz true) t else t
  | none =>
    let t := s.setWord reg word
    if t.pwr.mode == .full && (s.lane l).state != .retired then postSoon (.release l) t else t

/-- A write of `FMFn.TUNE` (R137, R138). -/
def writeFmTune (n : Nat) (v : Word) (s : State) : State :=
  let khz := fieldOf v 0 17
  storeTune n (Reg.FMF.TUNE n) (lowWord khz) (fmAllowed s khz) (Fld.FMF.CHG.REFUSED n) (Reg.FMF.CHG_EN n) (Ev.FMF.CHANGE n)
    (if khz = 0 then none else some (.fm, khz)) s

/-! ## Readings of an epoch (R141 to R145, R149, R157) -/

/-- `FmLane` `n`. -/
def State.fmLane (s : State) (n : Nat) : FmLane := at' s.fm n {}

/-- `s` with an FM lane changed. -/
def State.setFm (s : State) (n : Nat) (f : FmLane → FmLane) : State := { s with fm := upd s.fm n f }

/-- g_cnr in units of 1/`den` per cent: numerator and denominator (R141). `cnr` is in 0.25 dB. -/
def gCnr (s : State) (n : Nat) (cnr : Int) : Int × Int :=
  let full : Int := s.get (Fld.FMF.BLEND.ST_FULL n)
  let mono : Int := s.get (Fld.FMF.BLEND.ST_MONO n)
  if cnr ≤ 4 * mono then (0, 1) else if 4 * full ≤ cnr then (100, 1) else (100 * (cnr - 4 * mono), 4 * (full - mono))

/-- g_mp likewise (R141); with MP_LIMIT and MULTIPATH both 0 both of its clauses hold, and `open_` stands for its value. -/
def gMp (s : State) (n mp : Nat) (open_ : Nat) : Int × Int :=
  let lim := s.get (Fld.FMF.BLEND.MP_LIMIT n)
  if lim = 0 ∧ mp = 0 then (min 100 open_, 1)
  else if 2 * mp ≤ lim then (100, 1) else if lim ≤ mp then (0, 1) else (200 * ((lim : Int) - mp), lim)

/-- The separation wanted, whole per cent: the lower of the two terms (R141). -/
def separationTarget (s : State) (n : Nat) (cnr : Int) (mp open_ : Nat) : Nat :=
  let a := gCnr s n cnr
  let b := gMp s n mp open_
  (if a.1 * b.2 ≤ b.1 * a.2 then roundDiv a.1 a.2 else roundDiv b.1 b.2).toNat

/-- The corner wanted, 100 Hz (R142). -/
def cornerTarget (s : State) (n : Nat) (cnr : Int) : Nat :=
  let start : Int := s.get (Fld.FMF.HICUT_CFG.HC_START n)
  let full : Int := s.get (Fld.FMF.HICUT_CFG.HC_FULL n)
  let least := s.get (Fld.FMF.HICUT_CFG.HC_MIN n)
  if cnr ≤ 4 * full then least else if 4 * start ≤ cnr then 150
  else (roundDiv (least * (4 * (start - full)) + (150 - (least : Int)) * (cnr - 4 * full)) (4 * (start - full))).toNat

/-- `x` moved towards `want` by at most `up` or `down`. -/
def moveBy (up down x want : Nat) : Nat := if x ≤ want then min want (x + up) else max want (x - down)

/-- The pilot's measurement over 16 counted epochs and its presence (R141). -/
def pilotEpoch (n : Nat) (counted : Bool) (pilot : Nat) (s : State) : State :=
  let t := if counted then s.setFm n (fun x => { x with pilots := (pilot :: x.pilots).take 16 }) else s
  let l := (t.fmLane n).pilots
  if l.length < 16 then t
  else if 640 ≤ l.sum then t.put (Fld.FMF.STAT.STEREO n) true
  else if l.sum < 400 then t.put (Fld.FMF.STAT.STEREO n) false
  else t

/-- Separation and corner move for the epoch that begins (R141, R142); `was` is the pilot's presence before this boundary. A pilot
that has just become present ramps from the next boundary (DEDUCED, log entry 42). -/
def blendEpoch (n : Nat) (was : Bool) (cnr : Int) (mp : Nat) (s : State) : State :=
  let s1 := if s.get (Fld.FMF.BLEND.MP_LIMIT n) = 0 ∧ mp = 0 then s.fresh 7 else (0, s)
  let t := s1.2
  let now := t.flag (Fld.FMF.STAT.STEREO n) && !(t.flag (Fld.FMF.CTRL.MONO n))
  let x := t.fmLane n
  let sep := if !now then 0 else if !was then x.sep else moveBy 1 5 x.sep (separationTarget t n cnr mp s1.1)
  let corner := if t.flag (Fld.FMF.CTRL.HICUT_EN n) then moveBy 5 5 x.corner (cornerTarget t n cnr) else 150
  t.setFm n (fun y => { y with sep := sep, corner := corner })

/-- Share of class-3 blocks in a list, per cent (R144). -/
def blockErrors (l : List Nat) : Nat := if l.isEmpty then 0 else (roundDiv (100 * (l.filter (fun c => c == 3)).length) l.length).toNat

/-- Capture trigger: a LEVEL more than 6 dB above the mean of the preceding 16 epochs arms it for 200 (R157). -/
def levelEpoch (c : Nat) (level : Int) (s : State) : State :=
  s.setRds c (fun x =>
    let arms := decide (x.levels.length = 16) && decide (x.levels.sum + 16 * 24 < 16 * level)
    { x with levels := (level :: x.levels).take 16, armedTo := if arms then some (s.epoch - 1 + 200) else x.armedTo })

/-- One epoch enters a lane's quality summary, which holds the epochs since the last boundary divisible by 10 (R145, R170). -/
def QualSum.add (x : QualSum) (first inUse concealed : Bool) (blanked : Nat) (q : Option QualEpoch) : QualSum :=
  let y : QualSum := if first then {} else x
  { epochs := match q with | some e => y.epochs ++ [e] | none => y.epochs
    concealed := y.concealed + concealed.toNat
    blanked := y.blanked + blanked
    used := y.used || inUse }

/-- The epoch that ended was the first of a summary window. -/
def firstOfTen (s : State) : Bool := s.epoch % 10 == 1

/-- Planted and waiting RDS sprouts of a lane that acquire stream `k`, or every upper stream (`none`), end (R149). -/
def pullUpper (l : Nat) (k : Option Nat) (s : State) : State :=
  let mine (stream : Nat) : Bool := match k with | some j => stream == j | none => stream != 0
  let t : State := { s with mgr := { s.mgr with waiting := s.mgr.waiting.filter (fun r => !(r.kind == .rds && r.lane == l && mine r.stream)) } }
  forEach (plantedSlots t (fun x => x.lane == l && x.kind == some .rds && mine x.stream)) (fun i u => pull i .superseded u) t

/-- An upper stream is no longer in sync, and its blocks no longer count (R144, R149). -/
def RdsCtx.dropUpper (k : Nat) (x : RdsCtx) : RdsCtx :=
  { x with upper := x.upper.filter (fun j => j != k), recentUp := x.recentUp.filter (fun y => y.1 != k) }

/-- Upper-stream carriers of an epoch: how long each has shown; one that no longer shows is released (R149). -/
def carrierEpoch (n : Nat) (seen : List Nat) (s : State) : State :=
  forEach [1, 2, 3] (fun k t =>
    let old := (((t.rdsCtx n).carrier.find? (fun x => x.1 == k)).map (fun x => x.2)).getD 0
    let put (v : Nat) (u : State) : State := u.setRds n (fun x => { x with carrier := (k, v) :: x.carrier.filter (fun y => y.1 != k) })
    if seen.contains k then put (min 20 (old + 1)) t
    else pullUpper n (some k) ((put 0 t).setRds n (RdsCtx.dropUpper k))) s

/-- The readings of FM lane `n` over the epoch just ended (R144). -/
def fmReadings (n : Nat) (o : FmObs) (s : State) : State :=
  let live := (s.lane n).live
  let was := s.flag (Fld.FMF.STAT.STEREO n)
  let t := pilotEpoch n (live && (laneGap s n).isNone) o.pilot s
  let x := t.fmLane n
  let c := t.rdsCtx n
  let pilot := if t.flag (Fld.FMF.STAT.STEREO n) then o.pilot else 0
  let t1 := (((t.setWord (Reg.FMF.QUAL n 0) (wordOf [(0, 16, ofSigned 16 o.level), (16, 16, ofSigned 16 o.cnr)])).setWord
    (Reg.FMF.QUAL n 1) (wordOf [(0, 8, min 100 o.multipath), (8, 8, ofSigned 8 o.adj), (16, 16, ofSigned 16 o.fofs)])).setWord
    (Reg.FMF.QUAL n 2) (wordOf [(0, 12, min 4095 o.dev), (12, 8, min 255 pilot), (20, 7, x.sep)])).setWord
    (Reg.FMF.QUAL n 3) (wordOf [(0, 8, x.corner), (8, 8, blockErrors c.recent), (16, 8, blockErrors ((c.recentUp.take 64).map (fun y => y.2)))])
  carrierEpoch n o.carriers (levelEpoch n o.level (blendEpoch n was o.cnr (min 100 o.multipath) t1))

/-- The readings that an FM lane shows, for the summary (R145). -/
def fmQual (s : State) (n : Nat) : QualEpoch :=
  let a := s.word (Reg.FMF.QUAL n 0)
  let b := s.word (Reg.FMF.QUAL n 1)
  { level := toSigned 16 (fieldOf a 0 16), cnr := toSigned 16 (fieldOf a 16 16), peakA := fieldOf b 0 8, peakB := toSigned 8 (fieldOf b 8 8) }

/-- An FM lane at a boundary: readings, concealment (R143), summary, the SUSPECT mark from the epoch after a capture (R157), and
ACTIVE after the epoch of its tuning GAP, with its RDS sprout (R105, R137). -/
def fmEpoch (obs : List FmObs) (n : Nat) (s : State) : State :=
  let used := s.laneInUse n
  let t := match obs.find? (fun o => o.lane == n) with
    | some o => if used && (s.lane n).state != LaneState.parked then fmReadings n o s else s
    | none => s
  let gap := used && blockConcealed s n
  let t1 := (t.put (Fld.FMF.STAT.CONCEALED n) gap).bump (Fld.FMF.CONCEAL_CNT.COUNT n) gap.toNat
  let t2 := (t1.put (Fld.FMF.STAT.SUSPECT n) (used && (t1.rdsCtx n).capture)).setFm n (fun x => { x with
    sum := x.sum.add (firstOfTen s) used gap 0 (if (s.lane n).live then some (fmQual t1 n) else none) })
  if (t2.fmLane n).tuning && (t2.lane n).state == .acquiring then
    let owed := (t2.fmLane n).tuned
    let t3 := (t2.setFm n (fun x => { x with tuning := false, tuned := false })).setLane n (fun x => { x with state := .active })
    plantAcquire n (changeIf owed (Fld.FMF.CHG.TUNED n) (Reg.FMF.CHG_EN n) (Ev.FMF.CHANGE n) t3)
  else t2

/-- A watch entry's level over the epoch just ended, where it was not parked (R156). -/
def rdsWatchEpoch (obs : List WatchObs) (n : Nat) (s : State) : State :=
  match obs.find? (fun o => o.lane == 20 + n) with
  | some o => if s.laneInUse (20 + n) && (s.lane (20 + n)).state != LaneState.parked then levelEpoch (8 + n) o.level s else s
  | none => s

/-- The summary's words LEVEL and CNR: their means, or 0x8000 each where the lane was never ACTIVE (R145). -/
def summaryMeans (q : QualSum) : Word :=
  if q.epochs.isEmpty then 0x80008000
  else wordOf [(0, 16, ofSigned 16 (mean (q.epochs.map (fun e => e.level)))), (16, 16, ofSigned 16 (mean (q.epochs.map (fun e => e.cnr))))]

/-- The maxima of a summary as fields of 8 bits; the manual states none for a window without an ACTIVE epoch, where they are free. -/
def summaryMaxima (q : QualSum) (s : State) : Nat × Nat × State :=
  if q.epochs.isEmpty then
    let a := s.fresh 8
    let b := a.2.fresh 8
    (a.1, b.1, b.2)
  else (ofSigned 8 (maximum (-128) (q.epochs.map (fun e => e.peakA))), ofSigned 8 (maximum (-128) (q.epochs.map (fun e => e.peakB))), s)

/-- The FM summary goes to its result window on a boundary divisible by 10 (R145). -/
def postFmSummary (n : Nat) (s : State) : State :=
  let q := (s.fmLane n).sum
  if s.time % (10 * epochTicks) ≠ 0 ∨ !q.used then s
  else
    let m := summaryMaxima q s
    let t := m.2.2.setFm n (fun x => { x with sum := {} })
    postResult (4 + n) [(Reg.FMF.QRES1 n, summaryMeans q),
      (Reg.FMF.QRES2 n, wordOf [(0, 8, m.1), (8, 8, m.2.1), (16, 8, blockErrors (s.rdsCtx n).recent), (24, 8, q.concealed)]),
      (Reg.FMF.QRES_EPOCH n, lowWord s.epoch)] t

/-! ## Alternative frequencies (R150, R151) -/

/-- The FM code of a frequency in kHz. -/
def afCode (khz : Nat) : Option Nat :=
  if 87600 ≤ khz ∧ khz ≤ 107900 ∧ khz % 100 = 0 then some ((khz - 87500) / 100) else none

/-- A code joins a method A list once, while there is room (R150). -/
def AfList.append (l : AfList) (x : AfEntry) : AfList :=
  if l.entries.any (fun e => e.code == x.code && e.lfmf == x.lfmf) || decide (25 ≤ l.entries.length) then l
  else { l with entries := l.entries ++ [x] }

/-- One code of a method A pair that is not a header (R150). -/
def AfList.code (l : AfList) (c : Nat) : AfList :=
  if c = 250 then { l with nextLfmf := true }
  else
    let m := { l with nextLfmf := false }
    if l.expected = 0 then m
    else if l.nextLfmf then (if 1 ≤ c ∧ c ≤ 135 then m.append { code := c, lfmf := true } else m)
    else if 1 ≤ c ∧ c ≤ 204 then m.append { code := c } else m

/-- A header 224 + `n`: a different N starts the list again; in two groups with the tuned frequency it shows method B (R150). -/
def AfList.header (l : AfList) (n : Nat) (withTuned : Bool) : AfList :=
  let m : AfList := if n = l.expected then l else { expected := n }
  let same := if withTuned then m.sameHeader + 1 else m.sameHeader
  if !m.methodB && decide (2 ≤ same) then { m with methodB := true, entries := [], sameHeader := same, nextLfmf := false }
  else { m with sameHeader := same, nextLfmf := false }

/-- The pair of codes of a group 0A joins the list; `tuned` is the code of the lane's own frequency (R150). -/
def AfList.pair (l : AfList) (a b : Nat) (tuned : Option Nat) : AfList :=
  let own (c : Nat) : Bool := tuned == some c
  if 225 ≤ a ∧ a ≤ 249 then
    if l.methodB && !(own b) then l
    else
      let m := l.header (a - 224) (own b)
      if m.methodB then m else m.code b
  else if l.methodB then
    if own a == own b || !(decide (1 ≤ a) && decide (a ≤ 204) && decide (1 ≤ b) && decide (b ≤ 204))
        || decide (l.expected - 1 ≤ l.entries.length) then l
    else l.append { code := if own a then b else a, regional := decide (a < b), methodB := true }
  else (l.code a).code b

/-- AF_COMPLETE (R150). -/
def AfList.complete (l : AfList) : Bool :=
  decide (0 < l.expected) && decide ((if l.methodB then l.expected - 1 else l.expected) ≤ l.entries.length)

/-- The status of an AF list (R160 AF_STAT). -/
def AfList.status (l : AfList) : Word :=
  wordOf [(0, 5, l.expected), (5, 5, l.entries.length), (10, 1, l.methodB.toNat), (11, 1, l.complete.toNat)]

/-- Word `i` of an AF list: two entries, the earlier in the low half (R151). -/
def AfList.word (l : AfList) (i : Nat) : Word :=
  let half (k : Nat) : Nat := match l.entries[k]? with
    | some e => e.code % 256 + e.lfmf.toNat * 256 + e.verified.toNat * 512 + e.regional.toNat * 1024 + e.methodB.toNat * 2048
    | none => 0
  wordOf [(0, 16, half (2 * i)), (16, 16, half (2 * i + 1))]

/-- A tuned, ACTIVE FM lane or RDS watch entry shows PI `pi` at `khz`: exactly, and apart from bits [11:8] (R151). -/
def piHeard (s : State) (khz pi : Nat) (loose : Bool) : Bool :=
  (List.range 104).any (fun c =>
    let r := (s.rdsCtx c).record
    let x := s.lane (rdsLane c)
    x.live && x.khz == khz && r.piValid && (if loose then r.pi % 256 == pi % 256 && r.pi / 4096 == pi / 4096 else r.pi == pi))

/-- VERIFIED and REGIONAL of an entry, judged anew (R151); REGIONAL of a method B entry stays as its pair gave it. -/
def verifyEntry (s : State) (pi : Nat) (e : AfEntry) : AfEntry :=
  let khz := 87500 + 100 * e.code
  if e.lfmf || !(withinBand s .fm khz khz) then { e with verified := false, regional := e.methodB && e.regional }
  else
    let exact_ := piHeard s khz pi false
    let loose := piHeard s khz pi true
    { e with verified := exact_ || loose, regional := (loose && !exact_) || (e.methodB && e.regional) }

/-- AF_VERIFY: on boundaries divisible by 10 (R151). -/
def verifyAll (s : State) : State :=
  { s with rds := s.rds.map (fun c =>
      if c.record.piValid then
        { c with record := { c.record with af := { c.record.af with entries := c.record.af.entries.map (verifyEntry s c.record.pi) } } }
      else c) }

/-- A write of `WRD.AF_SEL` copies an entry's AF list (R156). -/
def writeAfSel (port : Port) (v : Word) (key : Bool) (s : State) : State :=
  let t := plainWrite port Reg.WRD.AF_SEL v key s
  let n := t.get Fld.WRD.AF_SEL.ENTRY
  if 96 ≤ n then t
  else
    let l := (t.rdsCtx (8 + n)).record.af
    forEach (List.range 13) (fun i u => u.setWord (Reg.WRD.AF_VIEW i) (l.word i)) (t.setWord Reg.WRD.AF_STAT l.status)

/-! ## RDS records (R148) -/

/-- A character list with place `p` of `n` set. -/
def setChar (n : Nat) (l : List Nat) (p c : Nat) : List Nat := (l ++ List.replicate (n - l.length) 0).set p (c % 256)

/-- Two characters of a block. -/
def blockChars (w : Nat) : List Nat := [w / 256 % 256, w % 256]

/-- A PS segment: accepted when two of the last 4 groups of its address agree (R148). -/
def RdsRecord.psSegment (r : RdsRecord) (seg : Nat) (d : RdsBlk) : RdsRecord :=
  let hit := if d.cls ≤ 1 then (seg, d.data / 256, d.data % 256) else (seg, 256, 256)
  let mine := (hit :: r.psSeen.filter (fun x => x.1 == seg)).take 4
  let r1 := { r with psSeen := mine ++ r.psSeen.filter (fun x => x.1 != seg) }
  if d.cls ≤ 1 ∧ 2 ≤ (mine.filter (fun x => x == hit)).length then
    { r1 with ps := setChar 8 (setChar 8 r1.ps (2 * seg) (d.data / 256)) (2 * seg + 1) d.data
              psGot := seg :: r1.psGot.filter (fun x => x != seg) }
  else r1

/-- A RadioText character (R148): class 0 at once, class 1 on two identical receptions. -/
def RdsRecord.rtChar (r : RdsRecord) (p c cls : Nat) : RdsRecord :=
  if 1 < cls then r
  else if cls = 0 ∨ r.rtOnce.contains (p, c) then
    { r with rt := setChar 64 r.rt p c, rtGot := p :: r.rtGot.filter (fun x => x != p), rtOnce := r.rtOnce.filter (fun x => x.1 != p) }
  else { r with rtOnce := (p, c) :: r.rtOnce.filter (fun x => x.1 != p) }

/-- The characters of a block at places from `p` on. -/
def RdsRecord.rtBlock (r : RdsRecord) (p : Nat) (b : RdsBlk) : RdsRecord :=
  (r.rtChar p (b.data / 256 % 256) b.cls).rtChar (p + 1) (b.data % 256) b.cls

/-- A RadioText group 2A or 2B; a toggle of the A/B flag clears the text (R148). -/
def RdsRecord.radioText (r : RdsRecord) (short : Bool) (w : Nat) (c d : RdsBlk) : RdsRecord :=
  let r1 := if r.rtAB == w.testBit 4 then r else { r with rtAB := w.testBit 4, rt := [], rtGot := [], rtOnce := [] }
  let r2 := { r1 with rtShort := short }
  if short then r2.rtBlock (2 * (w % 16)) d else (r2.rtBlock (4 * (w % 16)) c).rtBlock (4 * (w % 16) + 2) d

/-- RT_COMPLETE (R148). -/
def RdsRecord.rtComplete (r : RdsRecord) : Bool :=
  let got (n : Nat) : Bool := (List.range n).all (fun p => r.rtGot.contains p)
  got (if r.rtShort then 32 else 64) || (List.range 64).any (fun p => r.rtGot.contains p && r.rt.getD p 0 == 0x0D && got p)

/-- PTYN characters of a block at places from `p` on. -/
def RdsRecord.ptynBlock (r : RdsRecord) (p : Nat) (b : RdsBlk) : RdsRecord :=
  if b.cls ≤ 1 then { r with ptyn := setChar 8 (setChar 8 r.ptyn p (b.data / 256)) (p + 1) b.data } else r

/-- A clock-time group 4A (R148), in the code of IEC 62106 (PRESUMED, log entry 43). -/
def RdsRecord.clock (r : RdsRecord) (epoch : Nat) (b c d : Nat) : RdsRecord :=
  { r with mjd := b % 4 * 32768 + c / 2, hour := c % 2 * 16 + d / 4096, minute := d / 64 % 64
           lto := ofSigned 8 (if d.testBit 5 then -((d % 32 : Nat) : Int) else (d % 32 : Nat)), ctValid := true, ctEpoch := epoch }

/-- Block `i` of a group. -/
def groupBlk (g : List RdsBlk) (i : Nat) : RdsBlk := g.getD i { data := 0, cls := 3 }

/-- A group of the record's own PI updates the record from its blocks of class 0 or 1 (R148, R150). -/
def RdsRecord.take (r : RdsRecord) (epoch : Nat) (tuned : Option Nat) (g : List RdsBlk) : RdsRecord :=
  let b := groupBlk g 1
  let c := groupBlk g 2
  let d := groupBlk g 3
  if 1 < b.cls then r
  else
    let w := b.data
    let kind := w / 2048 % 32
    let seg := w % 4
    let basic := kind == 0 || kind == 1
    let r1 := { r with seen := true, tp := w.testBit 10, pty := w / 32 % 32 }
    let r2 := if basic || kind == 31 then { r1 with ta := w.testBit 4 } else r1
    let r3 := if kind = 0 then { r2 with ms := w.testBit 3 } else r2
    let bit := 2 ^ (3 - seg)
    let r4 := if basic then { r3 with di := r3.di - r3.di / bit % 2 * bit + (w.testBit 2).toNat * bit } else r3
    let r5 := if basic then r4.psSegment seg d else r4
    let r6 := if kind = 0 ∧ c.cls ≤ 1 then { r5 with af := r5.af.pair (c.data / 256 % 256) (c.data % 256) tuned } else r5
    let r7 := if kind = 4 ∨ kind = 5 then r6.radioText (kind == 5) w c d else r6
    let r8 := if kind = 20 then (r7.ptynBlock (4 * (w % 2)) c).ptynBlock (4 * (w % 2) + 2) d else r7
    if kind = 8 ∧ b.cls = 0 ∧ c.cls = 0 ∧ d.cls = 0 then r8.clock epoch w c.data d.data else r8

/-- What a shadow gathered since its planting continues a record of the same PI (R118, R157). -/
def RdsRecord.merge (old new : RdsRecord) : RdsRecord :=
  let r := if new.seen then { old with pty := new.pty, tp := new.tp, ta := new.ta, ms := new.ms, di := new.di, seen := true } else old
  let ps := new.psGot.foldl (fun l g => setChar 8 (setChar 8 l (2 * g) (new.ps.getD (2 * g) 0)) (2 * g + 1) (new.ps.getD (2 * g + 1) 0)) r.ps
  let r1 := { r with ps := ps, psGot := new.psGot, psSeen := new.psSeen }
  let r2 := if new.rtGot.isEmpty then r1
    else if r1.rtAB == new.rtAB then
      new.rtGot.foldl (fun x p => { x with rt := setChar 64 x.rt p (new.rt.getD p 0), rtGot := p :: x.rtGot.filter (fun q => q != p) })
        { r1 with rtShort := new.rtShort }
    else { r1 with rt := new.rt, rtGot := new.rtGot, rtOnce := new.rtOnce, rtAB := new.rtAB, rtShort := new.rtShort }
  let r3 := if new.ptyn.any (fun c => c != 0) then { r2 with ptyn := new.ptyn } else r2
  let r4 := if new.af.expected = 0 then r3
    else { r3 with af := if r3.af.expected = new.af.expected then new.af.entries.foldl (fun l e => l.append e) r3.af else new.af }
  if new.ctValid then { r4 with mjd := new.mjd, hour := new.hour, minute := new.minute, lto := new.lto, ctValid := true, ctEpoch := new.ctEpoch }
  else { r4 with ctValid := false }

/-! ## Group FIFOs (R152, R153) -/

/-- The FIFO of a context: 0–7 of the lanes, 8 of the watch table. -/
def State.fifo (s : State) (f : Nat) : GroupFifo := if f < 8 then (s.fmLane f).fifo else s.watchFifo

/-- `s` with a FIFO changed. -/
def State.setFifo (s : State) (f : Nat) (g : GroupFifo → GroupFifo) : State :=
  if f < 8 then s.setFm f (fun x => { x with fifo := g x.fifo }) else { s with watchFifo := g s.watchFifo }

/-- A FIFO's capacity, threshold, OVERFLOW, drop counter and GROUPS event. -/
def fifoSize (f : Nat) : Nat := if f < 8 then 128 else 256
def fifoThresh (s : State) (f : Nat) : Nat := if f < 8 then s.get (Fld.FMF.GRP_CFG.THRESH f) else s.get Fld.WRD.GRP_CFG.THRESH
def fifoOverflow (f : Nat) : Field := if f < 8 then Fld.FMF.GRP_STAT.OVERFLOW f else Fld.WRD.GRP_STAT.OVERFLOW
def fifoDrop (f : Nat) : Field := if f < 8 then Fld.FMF.GRP_DROP.COUNT f else Fld.WRD.GRP_DROP.COUNT
def fifoEvent (f : Nat) : Nat := if f < 8 then Ev.FMF.GROUPS f else Ev.WRD.GROUPS

/-- Whether the filters queue a group (R152). -/
def groupWanted (s : State) (f stream : Nat) (typeC : Bool) (g : List RdsBlk) : Bool :=
  let b := groupBlk g 1
  let kind := b.data / 2048 % 32
  decide (b.cls ≤ 2) && (if f < 8 then
      (s.get (Fld.FMF.GRP_CFG.STREAMS f)).testBit stream
        && (if typeC then s.flag (Fld.FMF.GRP_CFG.TYPE_C_EN f) else (s.get (Fld.FMF.GRP_FILT.MASK f)).testBit kind)
    else !typeC && (s.get Fld.WRD.GRP_FILT.MASK).testBit kind)

/-- A group is queued, or dropped where the FIFO is full (R152). -/
def queueGroup (c stream : Nat) (typeC : Bool) (g : List RdsBlk) (s : State) : State :=
  let f := min c 8
  if !(groupWanted s f stream typeC g) then s
  else
    let q := s.fifo f
    if fifoSize f ≤ q.groups.length then
      raiseIf (!(s.flag (fifoOverflow f))) (fifoEvent f) ((s.bump (fifoDrop f)).put (fifoOverflow f) true)
    else
      let r : RdsGroup := { seq := q.next, stream := stream, blocks := g, typeC := typeC, entry := c - 8, epoch := s.epoch }
      let t := s.setFifo f (fun x => { groups := x.groups ++ [r], next := (x.next + 1) % 256 })
      raiseIf (q.groups.length + 1 == fifoThresh s f) (fifoEvent f) t

/-- A write of GRP_ACK consumes the group with that SEQ and all before it, and clears OVERFLOW (R152). -/
def ackGroups (f seq : Nat) (s : State) : State :=
  let l := (s.fifo f).groups
  match lowest l.length (fun i => ((l[i]?).map (fun g => g.seq)) == some seq) with
  | some i => (s.setFifo f (fun x => { x with groups := x.groups.drop (i + 1) })).put (fifoOverflow f) false
  | none => s

/-! ## Alarms (R158, R159) -/

/-- A PI is already in alarm on another lane or entry (R158). -/
def piAlarmed (s : State) (c pi : Nat) : Bool :=
  (List.range 104).any (fun d => d != c && (s.rdsCtx d).alarm && (s.rdsCtx d).record.pi == pi)

/-- The PI filters let an alarm wake the host (R159). -/
def rdsWakes (s : State) (pi : Nat) : Bool :=
  s.flag Fld.WRD.WAKE_CFG.EN && (!(s.flag Fld.WRD.WAKE_CFG.FILT_EN) || (List.range 4).any (fun k =>
    let m := s.get (Fld.WRD.WAKE_PI.MASK k)
    m != 0 && pi &&& m == s.get (Fld.WRD.WAKE_PI.PI k) &&& m))

/-- The alarm of context `c` turns on (R158, R159). -/
def alarmOn (c : Nat) (s : State) : State :=
  let pi := (s.rdsCtx c).record.pi
  let t := s.setRds c (fun x => { x with alarm := true })
  if piAlarmed s c pi then t
  else
    let t1 := t.setWord Reg.WRD.WAKE_SRC (wordOf [(0, 8, rdsLane c), (16, 16, pi)])
    let t2 := if c < 8 then setChange (Fld.FMF.CHG.ALARM_ON c) (Reg.FMF.CHG_EN c) (Ev.FMF.CHANGE c) t1 else markWatch .rds (c - 8) t1
    let t3 := raise Ev.WRD.ALARM t2
    if rdsWakes s pi then hostWake t3 else t3

/-- The alarm of context `c` goes off (R158). -/
def alarmOff (c : Nat) (s : State) : State := s.setRds c (fun x => { x with alarm := false, ptyRun := 0, ptyOff := 0 })

/-- A group's programme type counts towards the alarm (R158). -/
def alarmGroup (c : Nat) (g : List RdsBlk) (s : State) : State :=
  let b := groupBlk g 1
  let x := s.rdsCtx c
  if 1 < b.cls then s.setRds c (fun y => { y with ptyRun := 0 })
  else if b.data / 32 % 32 = 31 then
    let t := s.setRds c (fun y => { y with ptyRun := y.ptyRun + 1, ptyOff := 0 })
    if 2 ≤ x.ptyRun + 1 ∧ !x.alarm then alarmOn c t else t
  else
    let t := s.setRds c (fun y => { y with ptyRun := 0, ptyOff := y.ptyOff + 1 })
    if 8 ≤ x.ptyOff + 1 ∧ x.alarm then alarmOff c t else t

/-! ## Blocks (R147, R157) -/

/-- Error correction and RBDS of a context; the watch page has neither field (log entry 41). -/
def rdsEcc (s : State) (c : Nat) : Nat := if c < 8 then min 2 (s.get (Fld.FMF.CTRL.ECC c)) else Config.watchEcc.val
def rdsRbds (s : State) (c : Nat) : Bool := if c < 8 then s.flag (Fld.FMF.CTRL.RBDS c) else Config.watchRbds

/-- A block's 26 bits, first bit first, after biphase and differential decoding (R147); `last` is the bit before it as received. -/
def rdsBits (last : Bool) (halves : List (Int × Int)) : Nat × Bool :=
  halves.foldl (fun x h =>
    let bit := decide (h.2 < h.1)
    (2 * x.1 + (bit != x.2).toNat, bit)) (0, last)

/-- The remainder of 26 bits by the block code's generator x¹⁰ + x⁸ + x⁷ + x⁵ + x⁴ + x³ + 1 (PRESUMED, log entry 110). -/
def rdsRemainder (bits : Nat) : Nat :=
  (List.range 16).foldl (fun r i => if r.testBit (25 - i) then r ^^^ (0x5B9 * 2 ^ (15 - i)) else r) (bits % 2 ^ 26)

/-- The offset words that a place of a group allows, each with whether it is C′ (PRESUMED, log entry 110). Offset E is 0. -/
def rdsOffsets (place : Nat) : List (Nat × Bool) :=
  match place with
  | 1 => [(0x0FC, false)]
  | 2 => [(0x198, false)]
  | 3 => [(0x168, false), (0x350, true)]
  | _ => [(0x1B4, false)]

/-- The error bursts of exactly `n` bits within a block. -/
def rdsBursts (n : Nat) : List Nat :=
  (List.range (27 - n)).flatMap (fun i => (List.range (2 ^ (n - 2))).map (fun m => (if n < 2 then 1 else 1 + 2 * m + 2 ^ (n - 1)) * 2 ^ i))

/-- The greatest burst that a value of ECC corrects (R147). -/
def eccBurst (ecc : Nat) : Nat := if ecc = 0 then 0 else if ecc = 1 then 2 else 5

/-- A block received at `place` (R147): class 0 where its syndrome is valid, 1 or 2 where a burst that ECC allows is corrected, the
shortest that fits, and else 3, as received. -/
def rdsReceive (ecc place bits : Nat) : RdsBlk :=
  let r := rdsRemainder bits
  let fits (e : Nat) : Option (Nat × Bool) := (rdsOffsets place).find? (fun o => o.1 == r ^^^ rdsRemainder e)
  match fits 0 with
  | some o => { data := bits / 1024, cls := 0, cPrime := o.2 }
  | none =>
    match (List.range (eccBurst ecc)).findSome? (fun k =>
        (rdsBursts (k + 1)).findSome? (fun e => (fits e).map (fun o => (k + 1, bits ^^^ e, o.2)))) with
    | some (n, fixed, prime) => { data := fixed / 1024, cls := if n ≤ 2 then 1 else 2, cPrime := prime }
    | none => { data := bits / 1024, cls := 3 }

/-- The place whose offset a block carries without correction. -/
def rdsPlaceOf (bits : Nat) : Option Nat := [1, 2, 3, 4].find? (fun p => (rdsOffsets p).any (fun o => o.1 == rdsRemainder bits))

/-- The place at which the next block of a stream is expected. -/
def RdsCtx.place (x : RdsCtx) (stream : Nat) : Nat := ((x.next.find? (fun y => y.1 == stream)).map (fun y => y.2)).getD 1

/-- The bits of a block of a stream, as its last bit before lets them be decoded. -/
def RdsCtx.bits (x : RdsCtx) (stream : Nat) (o : RdsObs) : Nat :=
  (rdsBits (((x.lastBit.find? (fun y => y.1 == stream)).map (fun y => y.2)).getD false) o.halves).1

/-- A block of a stream has come in: its last bit is kept, and `place` is that of the next one. -/
def RdsCtx.took (x : RdsCtx) (stream : Nat) (o : RdsObs) (place : Nat) : RdsCtx :=
  { x with next := (stream, place) :: x.next.filter (fun y => y.1 != stream)
           lastBit := (stream, (rdsBits false o.halves).2) :: x.lastBit.filter (fun y => y.1 != stream) }

/-- Stream 0 of context `c` loses synchronisation (R147): a full lane plants a new sprout and stays ACTIVE, a watch entry follows
R106. -/
def rdsLoss (c : Nat) (s : State) : State :=
  if c < 8 then plantAcquire c (pullUpper c none (rdsOff c s)) else laneLost (rdsLane c) s

/-- A capture (R157). -/
def capture (c : Nat) (s : State) : State :=
  let l := rdsLane c
  let t := s.setRds c (fun x => { x with group := [], upper := [], recentUp := [], capture := true, armedTo := none, foreign := none })
  if c < 8 then
    let t1 := setChange (Fld.FMF.CHG.CAPTURE c) (Reg.FMF.CHG_EN c) (Ev.FMF.CHANGE c) (t.setLane l (fun x => { x with sync := false }))
    plantAcquire c (pullUpper c none t1)
  else laneLost l (raise Ev.WRD.CAPTURE t)

/-- A block of context `c` makes a capture, `x` standing for the context with the block counted (R157). -/
def isCapture (s : State) (x : RdsCtx) (place cls data : Nat) (cPrime : Bool) : Bool :=
  let armed := match x.armedTo with | some e => decide (s.epoch < e) | none => false
  let alien := cls == 0 && data != x.record.pi && (place == 1 || (place == 3 && cPrime))
  (armed && (alien || decide (3 ≤ ((x.recent.take 4).filter (fun k => k == 3)).length)))
    || (place == 1 && alien && x.foreign == some data)

/-- A complete group of stream 0 (R148, R152, R155). A group of another PI updates no field of the record; its programme type counts for
the alarm as any other's (R158). -/
def takeGroup (c : Nat) (g : List RdsBlk) (s : State) : State :=
  let t := queueGroup c 0 false g s
  let a := groupBlk g 0
  let third := groupBlk g 2
  let t1 := if (groupBlk g 1).cls = 0 then t.setRds c (fun x => { x with seenAt := some s.epoch, age := 0 }) else t
  let pi := (s.rdsCtx c).record.pi
  if a.data ≠ pi ∨ (third.cPrime ∧ third.data ≠ pi) then alarmGroup c g t1
  else
    let khz := (s.lane (rdsLane c)).khz
    let t2 := t1.setRds c (fun x => { x with record := x.record.take s.epoch (afCode khz) g })
    let newCt := (t2.rdsCtx c).record.ctValid && (t2.rdsCtx c).record.ctEpoch == s.epoch && (groupBlk g 1).data / 2048 % 32 == 8
      && (groupBlk g 1).cls == 0 && third.cls == 0 && (groupBlk g 3).cls == 0
    alarmGroup c g (changeIf (decide (c < 8) && newCt) (Fld.FMF.CHG.CT c) (Reg.FMF.CHG_EN c) (Ev.FMF.CHANGE c) t2)

/-- The blocks of the group in progress of a stream. -/
def groupOf (x : RdsCtx) (stream : Nat) : List RdsBlk := ((x.group.find? (fun g => g.1 == stream)).map (fun g => g.2)).getD []

/-- `x` with the group in progress of a stream replaced. -/
def withGroup (x : RdsCtx) (stream : Nat) (g : List RdsBlk) : RdsCtx :=
  { x with group := (stream, g) :: x.group.filter (fun y => y.1 != stream) }

/-- The group in progress after a block at its place; one that misses a block is given up. -/
def addBlock (g : List RdsBlk) (place : Nat) (b : RdsBlk) : List RdsBlk :=
  if place = 1 then [b] else if g.length + 1 = place then g ++ [b] else []

/-- A block of stream 0 in synchronisation, of bits `bits` (R147, R157). -/
def liveBlock (c bits : Nat) (s : State) : State :=
  let old := s.rdsCtx c
  let place := old.place 0
  let b := rdsReceive (rdsEcc s c) place bits
  let g := addBlock (groupOf old 0) place b
  let alien := place == 1 && b.cls == 0 && b.data != old.record.pi
  let astray := match rdsPlaceOf bits with | some p => p != place | none => false
  let x := { old with recent := (b.cls :: old.recent).take 64, misplaced := if astray then old.misplaced + 1 else 0 }
  let y := withGroup (if place = 1 then { x with foreign := if alien then some b.data else none } else x) 0 (if g.length = 4 then [] else g)
  let t := s.setRds c (fun _ => y)
  if isCapture s x place b.cls b.data b.cPrime then capture c t
  else if 20 ≤ ((x.recent.take 25).filter (fun k => k == 3)).length ∨ 6 ≤ x.misplaced then rdsLoss c t
  else if g.length = 4 then takeGroup c g t
  else t

/-- A block of an upper stream in synchronisation (R144, R149, R152). -/
def upperBlock (c stream bits : Nat) (typeC : Bool) (s : State) : State :=
  let old := s.rdsCtx c
  let b := rdsReceive (rdsEcc s c) (old.place stream) bits
  let g := addBlock (groupOf old stream) (old.place stream) b
  let t := s.setRds c (fun x => withGroup { x with recentUp := ((stream, b.cls) :: x.recentUp).take 192 } stream (if g.length = 4 then [] else g))
  if g.length = 4 then queueGroup c stream typeC g t else t

/-- The planted sprout that acquires a stream of a lane. -/
def rdsSprout (s : State) (l stream : Nat) : Option Nat :=
  (plantedSlots s (fun x => x.lane == l && x.kind == some .rds && x.stream == stream)).head?

/-- A sprout's search after a block: until two blocks in succession stand in sequence, any valid syndrome gives the place of the next
(R117, R147). -/
def Sprout.search (x : Sprout) (bits : Nat) : Sprout :=
  if x.blockSync then { x with next := x.next % 4 + 1 }
  else match rdsPlaceOf bits with
    | some p => { x with next := p % 4 + 1, blockSync := x.next == p }
    | none => { x with next := 0 }

/-- The place of the block just searched: the one before the next. -/
def Sprout.placeNow (x : Sprout) : Nat := if x.next = 1 then 4 else x.next - 1

/-- A group that a sprout in block sync counts (R117, R149): at its block 1 with a valid syndrome, or its block C′ where that had none; a
type C group, which carries no PI, at its end where its four blocks are class 0, for the PI of stream 0. -/
def Sprout.count (x : Sprout) (place : Nat) (b : RdsBlk) (g : List RdsBlk) (typeC : Bool) (ownPi : Nat) : Sprout :=
  let here := x.blockSync && b.cls == 0 && (if typeC then g.length == 4 && g.all (fun k => k.cls == 0)
    else place == 1 || (place == 3 && b.cPrime && (groupBlk g 0).cls != 0))
  if here then { x with groups := (if typeC then ownPi else b.data) :: x.groups } else x

/-- An RDS sprout's criterion is met for `pi` (R117): two consecutive blocks in sequence, then the same PI in two groups; on an upper
stream the PI of stream 0 (R149). -/
def rdsCounts (s : State) (x : Sprout) (pi : Nat) : Bool :=
  let want := if x.stream = 0 then pi else (s.rdsCtx (rdsIndex x.lane)).record.pi
  x.blockSync && decide (2 ≤ (x.groups.filter (fun k => k == want)).length)

/-- A group gathered on a planted sprout (R115, R118): its PI must be the candidate's, and a new candidate starts the shadow anew
(DEDUCED, log entry 44). -/
def shadowGroup (s : State) (c slot : Nat) (g : List RdsBlk) (x : RdsCtx) : RdsCtx :=
  let a := groupBlk g 0
  let p := s.sprout slot
  if a.cls ≠ 0 ∨ (p.met ∧ a.data ≠ p.pi) then x
  else
    let goesOn := x.shadow.piValid && x.shadow.pi == a.data
    let base : RdsRecord := if goesOn then x.shadow else { pi := a.data, piValid := true }
    { x with shadow := base.take s.epoch (afCode (s.lane (rdsLane c)).khz) g
             shadowSeen := if (groupBlk g 1).cls = 0 then some s.epoch else if goesOn then x.shadowSeen else none }

/-- A block received while a sprout searches: nothing that a consumer sees changes (R115). No block is corrected (R147). -/
def shadowBlock (c stream slot bits : Nat) (typeC : Bool) (s : State) : State :=
  let p := (s.sprout slot).search bits
  let b := rdsReceive 0 p.placeNow bits
  let g := addBlock (groupOf (s.rdsCtx c) stream) p.placeNow b
  let t := s.setSprout slot (fun _ => p.count p.placeNow b g typeC (s.rdsCtx c).record.pi)
  t.setRds c (fun x =>
    let y := withGroup x stream (if g.length = 4 then [] else g)
    if g.length = 4 ∧ stream = 0 then shadowGroup s c slot g y else y)

/-- RDS_BLOCK (R147 to R158). With RBDS set, a block with offset E is discarded, and the next is expected at its place. -/
def rdsBlock (c stream : Nat) (o : RdsObs) (s : State) : State :=
  let l := rdsLane c
  let x := s.rdsCtx c
  let bits := x.bits stream o
  let skip := rdsRbds s c && rdsRemainder bits == 0
  let t := s.setRds c (fun y => y.took stream o (if skip then y.place stream else y.place stream % 4 + 1))
  if !(s.laneInUse l) then s
  else if skip then t
  else if (s.lane l).sync && (stream == 0 || x.upper.contains stream) then
    let u := if stream = 0 then liveBlock c bits s else upperBlock c stream bits o.typeC s
    u.setRds c (fun y => y.took stream o (x.place stream % 4 + 1))
  else match rdsSprout s l stream with
    | some i => shadowBlock c stream i bits o.typeC t
    | none => t

/-! ## Roots (R118, R148, R149, R157) -/

/-- The stream that a sprout has acquired goes on where the sprout stands. -/
def RdsCtx.from (x : RdsCtx) (stream next : Nat) : RdsCtx := { x with next := (stream, next) :: x.next.filter (fun y => y.1 != stream) }

/-- Stream 0 of lane `l` roots with PI `pi`: the record continues, or the shadow replaces it; AGE counts from the shadow's last group
(R118, R155). -/
def rootRds (l pi next : Nat) (s : State) : State :=
  let c := rdsIndex l
  let x := s.rdsCtx c
  let old := x.record
  let shadow := { x.shadow with pi := pi, piValid := true }
  let same := old.piValid && old.pi == pi
  let changed := old.piValid && old.pi != pi
  let record := if same then old.merge shadow else shadow
  let t := (if changed && x.alarm then alarmOff c s else s).setRds c (fun y => { y.from 0 next with
    record := record, shadow := {}, shadowSeen := none
    seenAt := y.shadowSeen.orElse (fun _ => y.seenAt)
    age := match y.shadowSeen with | some e => min 255 ((s.epoch - e) / 1000) | none => y.age
    capture := false, recent := [], recentUp := [], misplaced := 0, group := [], foreign := none,
    upper := [], outOfSync := 0, ptyRun := 0, ptyOff := 0 })
  let t1 := t.setLane l (fun y => { y with sync := true, lost := false, state := if y.state == .acquiring || y.state == .restarting then .active else y.state })
  if c < 8 then
    setChanges [(Fld.FMF.CHG.RDS_ROOT c, true), (Fld.FMF.CHG.PI_CHANGE c, changed)] (Reg.FMF.CHG_EN c) (Ev.FMF.CHANGE c)
      (t1.put (Fld.FMF.STAT.SUSPECT c) false)
  else t1

/-- An upper stream of FM lane `n` roots (R149). -/
def rootUpper (n stream next : Nat) (s : State) : State :=
  if (s.lane n).sync then s.setRds n (fun x => { (x.dropUpper stream).from stream next with upper := stream :: x.upper.filter (fun k => k != stream) })
  else s

/-- An upper stream's sprout is planted (R149). -/
def acquireUpper (n stream : Nat) (s : State) : State :=
  let x := s.rdsCtx n
  let busy := s.mgr.waiting.any (fun r => r.kind == .rds && r.lane == n && r.stream == stream)
    || !(plantedSlots s (fun y => y.lane == n && y.kind == some .rds && y.stream == stream)).isEmpty
  if stream = 0 ∨ !(s.flag (Fld.FMF.CTRL.RDS2_EN n)) ∨ !(s.lane n).sync ∨ x.upper.contains stream ∨ busy
      ∨ ((x.carrier.find? (fun y => y.1 == stream)).map (fun y => y.2)).getD 0 < 20 then s
  else plant { kind := .rds, lane := n, stream := stream } s

/-- No upper stream is being acquired where `CTRL.RDS2_EN` is 0 (R149). -/
def rds2Boundary (s : State) : State :=
  forEach (List.range 8) (fun n t => if t.flag (Fld.FMF.CTRL.RDS2_EN n) then t else pullUpper n none t) s

/-- Epochs out of synchronisation in succession, for lanes in use (R158). -/
def rdsIdleEpoch (s : State) : State :=
  forEach (List.range 104) (fun c t =>
    let x := s.lane (rdsLane c)
    if x.inUse && !x.sync then t.setRds c (fun y => { y with outOfSync := y.outOfSync + 1 })
    else if (s.rdsCtx c).outOfSync = 0 then t else t.setRds c (fun y => { y with outOfSync := 0 })) s

/-! ## The commands of chapter 6 -/

/-- FM_TUNE (R137, R138). -/
def execFmTune (port : Port) (n : Fin 8) (v : Word) (s : State) : Host.Outcome State Fault Refusal :=
  commit s (hostWrite port (Reg.FMF.TUNE n.val) v (fun _ => writeFmTune n.val v) s)

/-- FM_RELEASE (R137): a write of 0. -/
def execFmRelease (port : Port) (n : Fin 8) (v : Word) (s : State) : Host.Outcome State Fault Refusal :=
  commit s (hostWrite port (Reg.FMF.TUNE n.val) (withField v 0 17 0) (fun _ => writeFmTune n.val (withField v 0 17 0)) s)

/-- CAPTURE_TRIGGER_EXPIRE (R157). -/
def execCaptureTriggerExpire (ctx : Fin 104) (s : State) : Host.Outcome State Fault Refusal :=
  commit s (match (s.rdsCtx ctx.val).armedTo with
    | some e => if e ≤ s.epoch then s.setRds ctx.val (fun x => { x with armedTo := none }) else s
    | none => s)

/-- RDS_BLOCK (R147). -/
def execRdsBlock (ctx : Fin 104) (stream : Fin 4) (obs : RdsObs) (s : State) : Host.Outcome State Fault Refusal :=
  commitLanes s (rdsBlock ctx.val stream.val obs s)

/-- RDS2_ACQUIRE (R149). -/
def execRds2Acquire (n : Fin 8) (stream : Fin 4) (s : State) : Host.Outcome State Fault Refusal :=
  commit s (acquireUpper n.val stream.val s)

/-- AF_VERIFY (R151). -/
def execAfVerify (s : State) : Host.Outcome State Fault Refusal :=
  commitLanes s (if s.time % (10 * epochTicks) = 0 then verifyAll s else s)

/-- The GRP_ACK register of a FIFO. -/
def groupAckAddr (f : Nat) : Nat := if f < 8 then Reg.FMF.GRP_ACK f else Reg.WRD.GRP_ACK

/-- GROUP_ACK (R152). -/
def execGroupAck (port : Port) (fifo : Fin 9) (v : Word) (s : State) : Host.Outcome State Fault Refusal :=
  commit s (hostWrite port (groupAckAddr fifo.val) v (fun _ => ackGroups fifo.val (fieldOf v 0 8)) s)

/-- AF_SEL_COPY (R156). -/
def execAfSelCopy (port : Port) (v : Word) (s : State) : Host.Outcome State Fault Refusal :=
  commit s (hostWrite port Reg.WRD.AF_SEL v (writeAfSel port v) s)

end Sys2Proof.Machine
end

