-- ==== Sys2Proof/Machine/Sdq.lean ====
section
/-!
DEFINITION. The service data queues (R211 to R214): configuration, delivery and acknowledgement of records.
-/

namespace Sys2Proof.Machine

open Sys2Proof

/-- Bytes a record takes: 16 of header and its payload to a multiple of 4 (R214). -/
def DataRec.size (r : DataRec) : Nat := 16 + (r.bytes.length + 3) / 4 * 4

/-- Bytes queued. -/
def DataQueue.fill (q : DataQueue) : Nat := (q.recs.map DataRec.size).sum

/-- The units that the SIZE fields allot (R212). -/
def queueUnits (s : State) : Nat := ((List.range 16).map (fun q => s.get (Fld.SDQ.QCFG.SIZE q))).sum

/-- A write of `SDQ.QCFGq` (R212): refused where the sum of sizes would exceed the units that remain, else in force on the next
boundary. -/
def writeQcfg (port : Port) (q : Nat) (v : Word) (key : Bool) (s : State) : State :=
  let t := plainWrite port (Reg.SDQ.QCFG q) v key s
  if 384 - s.flt.queueLost < queueUnits t then raise Ev.SDQ.CFG_ERR (s.put Fld.SDQ.STAT.CFG_ERR true)
  else { t.put Fld.SDQ.STAT.CFG_ERR false with queues := upd t.queues q (fun x => { x with reset := true }) }

/-- On a boundary written configurations take effect and empty their queues (R212). -/
def queueBoundary (s : State) : State :=
  { s with queues := Vector.ofFn (fun (i : Fin 16) =>
      let x := at' s.queues i.val {}
      if x.reset then { x with recs := [], cfg := s.word (Reg.SDQ.QCFG i.val), reset := false } else x) }

/-- The queue that receives a selection's data, or X-PAD: the lowest-numbered bound to it (R211). -/
def boundQueue (s : State) (u : DecUser) (pad : Bool) : Option Nat :=
  lowest 16 (fun q => queueBinding s q == some (u.drm, u.engine, u.sel, pad))

/-- A record goes to queue `q`, or is dropped whole where it does not fit (R213). -/
def pushRecord (q kind addr sid : Nat) (bytes : List (BitVec 8)) (s : State) : State :=
  let x := at' s.queues q {}
  let r : DataRec := { seq := x.next, kind := kind, addr := addr, sid := sid, epoch := s.epoch, bytes := bytes }
  if fieldOf x.cfg 8 9 * 4096 < x.fill + r.size then
    raiseIf (!(s.flag (Fld.SDQ.QSTAT.OVERFLOW q))) Ev.SDQ.OVERFLOW ((s.bump (Fld.SDQ.QDROP.FULL q)).put (Fld.SDQ.QSTAT.OVERFLOW q) true)
  else
    let t : State := { s with queues := upd s.queues q (fun y => { y with recs := y.recs ++ [r], next := (y.next + 1) % 65536 }) }
    raiseIf (x.recs.length + 1 == fieldOf x.cfg 20 12) Ev.SDQ.READY t

/-- KIND of a record (R214): 1 for data groups of a DAB selection, 2 for X-PAD data groups, 3 for DRM data units. -/
def dataKind (u : DecUser) (pad : Bool) : Nat := if u.drm then 3 else if pad then 2 else 1

/-- Data of a selection (R211): queued where a queue is bound and the conditions hold; data that fails its check is counted. -/
def deliver (u : DecUser) (sid : Nat) (o : DataObs) (s : State) : State :=
  match boundQueue s u o.pad with
  | none => s
  | some q =>
    if !(queueActive s q) then s
    else if !o.ok then s.bump (Fld.SDQ.QDROP.CRC q)
    else pushRecord q (dataKind u o.pad) o.addr sid (o.bytes.take 16383) s

/-- A write of `SDQ.QACKq` (R213). -/
def ackQueue (q seq : Nat) (s : State) : State :=
  let l := (at' s.queues q {}).recs
  match lowest l.length (fun i => ((l[i]?).map (fun r => r.seq)) == some seq) with
  | some i =>
    { s with queues := upd s.queues q (fun y => { y with recs := y.recs.drop (i + 1) }) }.put (Fld.SDQ.QSTAT.OVERFLOW q) false
  | none => s

/-- QUEUE_CONFIG (R212). -/
def execQueueConfig (port : Port) (q : Fin 16) (v : Word) (s : State) : Host.Outcome State Fault Refusal :=
  commit s (hostWrite port (Reg.SDQ.QCFG q.val) v (writeQcfg port q.val v) s)

/-- QUEUE_ACK (R213). -/
def execQueueAck (port : Port) (q : Fin 16) (v : Word) (s : State) : Host.Outcome State Fault Refusal :=
  commit s (hostWrite port (Reg.SDQ.QACK q.val) v (fun _ => ackQueue q.val (fieldOf v 0 16)) s)

end Sys2Proof.Machine
end

