-- ==== Sys2Proof/Machine/AmDrm.lean ====
section
/-!
DEFINITION. AM and DRM reception (chapter 7): AM lanes and watch entries, AMSS, the watch tables' assignments and ages, DRM engines,
their selections and audio frames.
-/

namespace Sys2Proof.Machine

open Sys2Proof

/-! ## AM full lanes (R164 to R170) -/

/-- AM lane `n`, and `s` with it changed. -/
def State.amLane (s : State) (n : Nat) : AmLane := at' s.am n {}

def State.setAm (s : State) (n : Nat) (f : AmLane → AmLane) : State := { s with am := upd s.am n f }

/-- AM watch entry `n`, and `s` with it changed. -/
def State.watchAm (s : State) (n : Nat) : AmWatch := at' s.amWatch n {}

def State.setWatchAm (s : State) (n : Nat) (f : AmWatch → AmWatch) : State := { s with amWatch := upd s.amWatch n f }

/-- The frequency tests of R164 and R163. -/
def amAllowed (s : State) (khz : Nat) : Bool := decide (144 ≤ khz) && decide (khz ≤ 30000) && withinBand s .lf khz khz

/-- A write of `AMFn.TUNE` (R164). -/
def writeAmTune (n : Nat) (v : Word) (s : State) : State :=
  let khz := fieldOf v 0 15
  storeTune (8 + n) (Reg.AMF.TUNE n) (lowWord khz) (amAllowed s khz) (Fld.AMF.CHG.REFUSED n) (Reg.AMF.CHG_EN n) (Ev.AMF.CHANGE n)
    (if khz = 0 then none else some (.lf, khz)) s

/-- Consecutive epochs above and below two carrier-to-noise limits, 0.25 dB. -/
def countAbove (hi : Int) (carrier : Int) (n : Nat) : Nat := if hi < carrier then n + 1 else 0

def countBelow (lo : Int) (carrier : Int) (n : Nat) : Nat := if carrier < lo then n + 1 else 0

/-- The readings of AM lane `n` over the epoch just ended (R165, R167, R169). -/
def amReadings (n : Nat) (o : AmObs) (s : State) : State :=
  let sat := s.flag (Fld.AMF.STAT.NB_SAT n)
  let on := s.flag (Fld.AMF.CTRL.NB_EN n) && !sat
  let blanked := if on then o.blanked else 0
  let t := ((s.setWord (Reg.AMF.QUAL n 0) (wordOf [(0, 16, ofSigned 16 o.level), (16, 16, ofSigned 16 o.cnr)])).setWord
    (Reg.AMF.QUAL n 1) (wordOf [(0, 8, min 150 o.mod), (8, 8, ofSigned 8 o.adj), (16, 16, ofSigned 16 o.fofs)])).setWord
    (Reg.AMF.QUAL n 2) (wordOf [(0, 16, blanked), (16, 1, (s.get (Fld.AMF.STAT.LOCK n)))])
  let t1 := (t.bump (Fld.AMF.BLANK_CNT.COUNT n) (if on then o.blanks else 0)).put (Fld.AMF.STAT.NB_SAT n) (on && o.nbOver)
  t1.setAm n (fun x => { x with above := countAbove 48 o.carrier x.above, below := countBelow 32 o.carrier x.below })

/-- The readings that an AM lane shows, for the summary (R170). -/
def amQual (s : State) (n : Nat) : QualEpoch :=
  let a := s.word (Reg.AMF.QUAL n 0)
  let b := s.word (Reg.AMF.QUAL n 1)
  { level := toSigned 16 (fieldOf a 0 16), cnr := toSigned 16 (fieldOf a 16 16), peakA := fieldOf b 0 8, peakB := toSigned 8 (fieldOf b 8 8) }

/-- The DET and BW in force follow CTRL, and modes 2–4 fall back to envelope while the loop is unlocked (R165). -/
def amDetection (n : Nat) (s : State) : State :=
  let det := s.get (Fld.AMF.CTRL.DET n)
  (s.put (Fld.AMF.STAT.SYNC_FALLBACK n) (decide (2 ≤ det) && decide (det ≤ 4) && !(s.flag (Fld.AMF.STAT.LOCK n)))).setAm n
    (fun x => { x with det := det, bw := s.get (Fld.AMF.CTRL.BW n) })

/-- The identifier accepted in the epoch before enters a lane's record (R171). -/
def amssEnter (reg : Nat) (next : Option (Nat × Nat)) (s : State) : State :=
  match next with
  | some (si, lang) => s.setWord reg (wordOf [(0, 24, si), (24, 4, lang), (28, 1, 1)])
  | none => s

/-- What the blanker did, where the lane's samples came with the epoch (R167). -/
def withBlanks (s : State) (n : Nat) (o : AmObs) : AmObs :=
  let d := at' s.dsp.am n {}
  if d.fed then { o with blanks := d.blanks, blanked := d.blanked, nbOver := d.excess } else o

/-- An AM lane at a boundary (R105, R165, R167, R168, R170): an epoch without readings leaves NB_SAT at 0, and the total of BLANKED takes
every epoch that has readings. -/
def amEpoch (obs : List AmObs) (n : Nat) (s : State) : State :=
  let l := 8 + n
  let used := s.laneInUse l
  let taken := if used && (s.lane l).state != LaneState.parked then obs.find? (fun o => o.lane == l) else none
  let t := match taken with
    | some o => amReadings n (withBlanks s n o) s
    | none => s.put (Fld.AMF.STAT.NB_SAT n) false
  let gap := used && blockConcealed s l
  let t1 := (t.put (Fld.AMF.STAT.CONCEALED n) gap).bump (Fld.AMF.CONCEAL_CNT.COUNT n) gap.toNat
  let live := used && (s.lane l).live
  let t2 := amssEnter (Reg.AMF.AMSS_SI n) (t1.amLane n).amss.next (amDetection n (t1.setAm n (fun x => { x with
    sum := x.sum.add (firstOfTen s) used gap (if taken.isSome then fieldOf (t1.word (Reg.AMF.QUAL n 2)) 0 16 else 0)
      (if live then some (amQual t1 n) else none) })))
  let t3 := t2.setAm n (fun x => { x with amss := { x.amss with next := none } })
  if (t3.amLane n).tuning && (t3.lane l).state == .acquiring then
    let owed := (t3.amLane n).tuned
    changeIf owed (Fld.AMF.CHG.TUNED n) (Reg.AMF.CHG_EN n) (Ev.AMF.CHANGE n)
      ((t3.setAm n (fun x => { x with tuning := false, tuned := false })).setLane l (fun x => { x with state := .active }))
  else t3

/-- The AM summary goes to its result window on a boundary divisible by 10 (R170). -/
def postAmSummary (n : Nat) (s : State) : State :=
  let q := (s.amLane n).sum
  if s.time % (10 * epochTicks) ≠ 0 ∨ !q.used then s
  else
    let m := summaryMaxima q s
    postResult (12 + n) [(Reg.AMF.QRES1 n, summaryMeans q),
      (Reg.AMF.QRES2 n, wordOf [(0, 8, m.1), (8, 8, m.2.1), (16, 8, q.concealed)]), (Reg.AMF.QRES3 n, lowWord (min 65535 q.blanked)),
      (Reg.AMF.QRES_EPOCH n, lowWord s.epoch)] (m.2.2.setAm n (fun x => { x with sum := {} }))

/-- QUALITY_SUMMARY_POST (R145, R170): FM lanes 0–7, AM lanes 8–13. -/
def execQualitySummaryPost (lane : Fin 14) (s : State) : Host.Outcome State Fault Refusal :=
  commit s (if lane.val < 8 then postFmSummary lane.val s else postAmSummary (lane.val - 8) s)

/-- AM_TUNE (R164). -/
def execAmTune (port : Port) (n : Fin 6) (v : Word) (s : State) : Host.Outcome State Fault Refusal :=
  commit s (hostWrite port (Reg.AMF.TUNE n.val) v (fun _ => writeAmTune n.val v) s)

/-- AM_RELEASE (R164): a write of 0. -/
def execAmRelease (port : Port) (n : Fin 6) (v : Word) (s : State) : Host.Outcome State Fault Refusal :=
  commit s (hostWrite port (Reg.AMF.TUNE n.val) (withField v 0 15 0) (fun _ => writeAmTune n.val (withField v 0 15 0)) s)

/-- AM_CONFIG_WRITE (R165): DET and BW take effect on the next boundary, the rest at once. -/
def execAmConfigWrite (port : Port) (n : Fin 6) (v : Word) (s : State) : Host.Outcome State Fault Refusal :=
  commit s (hostWrite port (Reg.AMF.CTRL n.val) v (plainWrite port (Reg.AMF.CTRL n.val) v) s)

/-- AM_CARRIER_LOCK (R165): above 12 dB for 100 epochs. -/
def execAmCarrierLock (n : Fin 6) (s : State) : Host.Outcome State Fault Refusal :=
  commitLanes s (if s.laneInUse (8 + n.val) && decide (100 ≤ (s.amLane n.val).above) then s.put (Fld.AMF.STAT.LOCK n.val) true else s)

/-- AM_CARRIER_UNLOCK (R165): below 8 dB for 20 epochs. -/
def execAmCarrierUnlock (n : Fin 6) (s : State) : Host.Outcome State Fault Refusal :=
  commitLanes s (if decide (20 ≤ (s.amLane n.val).below) then s.put (Fld.AMF.STAT.LOCK n.val) false else s)

/-! ## AMSS (R171, R172) -/

/-- The context after a block of which `ok` says whether its check word is valid (R171). -/
def AmssCtx.block (x : AmssCtx) (ok : Bool) : AmssCtx :=
  if ok then { x with fails := 0, sync := true }
  else { x with fails := x.fails + 1, sync := x.sync && decide (x.fails + 1 < 8) }

/-- The identifier in a record. -/
def amssHeld (s : State) (reg : Nat) : Option (Nat × Nat) :=
  let w := s.word reg
  if w.getLsbD 28 then some (fieldOf w 0 24, fieldOf w 24 4) else none

/-- A block queued in an AM lane's FIFO (R172). -/
def queueAmss (n : Nat) (o : AmssObs) (s : State) : State :=
  let x := s.amLane n
  let full := Fld.AMF.AMSS_STAT.OVERFLOW n
  if 16 ≤ x.fifo.length then
    raiseIf (!(s.flag full)) (Ev.AMF.AMSS n) ((s.bump (Fld.AMF.AMSS_DROP.COUNT n)).put full true)
  else
    let t := s.setAm n (fun y => { y with
      fifo := y.fifo ++ [{ seq := y.next, bits := o.bits % 2 ^ 48, len := o.len, epoch := s.epoch }], next := (y.next + 1) % 256 })
    raiseIf (x.fifo.length + 1 == s.get (Fld.AMF.AMSS_CFG.THRESH n)) (Ev.AMF.AMSS n) t

/-- An AMSS block of a full lane (R171, R172). A first identifier enters the record at once, a changed one from the next epoch. -/
def amssLane (n : Nat) (o : AmssObs) (s : State) : State :=
  let t := s.setAm n (fun x => { x with amss := x.amss.block o.ok })
  if !o.ok then t
  else
    let u := queueAmss n o t
    match o.ident with
    | none => u
    | some id =>
      let v := u.setAm n (fun x => { x with amss := { x.amss with candidate := some id } })
      if (s.amLane n).amss.candidate ≠ some id then v
      else match amssHeld v (Reg.AMF.AMSS_SI n) with
        | none => setChange (Fld.AMF.CHG.SI n) (Reg.AMF.CHG_EN n) (Ev.AMF.CHANGE n) (amssEnter (Reg.AMF.AMSS_SI n) (some id) v)
        | some old => if old = id ∨ (s.amLane n).amss.next = some id then v
          else setChanges [(Fld.AMF.CHG.SI n, true), (Fld.AMF.CHG.SI_CHANGE n, true)] (Reg.AMF.CHG_EN n) (Ev.AMF.CHANGE n)
            (v.setAm n (fun x => { x with amss := { x.amss with next := some id } }))

/-- An AMSS block of a watch entry (R171, R176, R189): identifiers are accepted as a lane's are. -/
def amssWatch (a : Nat) (o : AmssObs) (s : State) : State :=
  let t := s.setWatchAm a (fun x => { x with amss := x.amss.block o.ok })
  match o.ok, o.ident with
  | true, some id =>
    let v := t.setWatchAm a (fun x => { x with amss := { x.amss with candidate := some id } })
    if (s.watchAm a).amss.candidate ≠ some id then v
    else
      let w := v.setWord (Reg.WAM.A_W3 a) (lowWord s.epoch)
      match amssHeld v (Reg.WAM.A_W2 a) with
      | none => raise Ev.WAM.AMSS (amssEnter (Reg.WAM.A_W2 a) (some id) w)
      | some old => if old = id ∨ (s.watchAm a).amss.next = some id then w
        else raise Ev.WAM.AMSS (w.setWatchAm a (fun x => { x with amss := { x.amss with next := some id } }))
  | _, _ => t

/-- AMSS_BLOCK (R171): AM lanes 0–5 while the loop is locked and AMSS is enabled, entries A0–A23 as 6–29 while CARRIER is set. -/
def amssBlock (i : Nat) (o : AmssObs) (s : State) : State :=
  if i < 6 then
    if (s.lane (8 + i)).live && s.flag (Fld.AMF.CTRL.AMSS_EN i) && s.flag (Fld.AMF.STAT.LOCK i) then amssLane i o s else s
  else if (s.lane (126 + i)).live && s.flag (Fld.WAM.A_W0.CARRIER (i - 6)) then amssWatch (i - 6) o s else s

/-- AMSS_BLOCK (R171). -/
def execAmssBlock (lane : Fin 30) (obs : AmssObs) (s : State) : Host.Outcome State Fault Refusal := commitLanes s (amssBlock lane.val obs s)

/-- A write of AMSS_ACK (R152, R172). -/
def ackAmss (n seq : Nat) (s : State) : State :=
  let l := (s.amLane n).fifo
  match lowest l.length (fun i => ((l[i]?).map (fun r => r.seq)) == some seq) with
  | some i => (s.setAm n (fun x => { x with fifo := x.fifo.drop (i + 1) })).put (Fld.AMF.AMSS_STAT.OVERFLOW n) false
  | none => s

/-- AMSS_ACK (R172). -/
def execAmssAck (port : Port) (n : Fin 6) (v : Word) (s : State) : Host.Outcome State Fault Refusal :=
  commit s (hostWrite port (Reg.AMF.AMSS_ACK n.val) v (fun _ => ackAmss n.val (fieldOf v 0 8)) s)

/-! ## AM watch entries (R173 to R176) -/

/-- The identifier that a watch entry accepted in the epoch before enters its record (R171). -/
def amssWatchEnter (a : Nat) (s : State) : State :=
  (amssEnter (Reg.WAM.A_W2 a) (s.watchAm a).amss.next s).setWatchAm a (fun x => { x with amss := { x.amss with next := none } })

/-- The readings of an AM watch entry over the epoch just ended, where it was not parked (R174, R189). -/
def amWatchReadings (obs : List WatchObs) (a : Nat) (s : State) : State :=
  let l := 132 + a
  match obs.find? (fun o => o.lane == l) with
  | some o =>
    if !(s.laneInUse l) || (s.lane l).state == LaneState.parked then s
    else
      let levels := (o.level :: (s.watchAm a).levels).take 10
      let on := s.flag (Fld.WAM.A_W0.CARRIER a)
      (s.setWatchAm a (fun x => { x with
        levels := levels, above := countAbove 40 o.carrier x.above, below := countBelow 24 o.carrier x.below
        seenAt := if on && decide (40 < o.carrier) then some s.epoch else x.seenAt })).setWord (Reg.WAM.A_W1 a)
          (wordOf [(0, 16, ofSigned 16 (mean levels)), (16, 16, ofSigned 16 o.cnr)])
  | none => s

/-- An AM watch entry at a boundary. -/
def amWatchEpoch (obs : List WatchObs) (a : Nat) (s : State) : State := amWatchReadings obs a (amssWatchEnter a s)

/-- WATCH_CARRIER_SET (R174): above 10 dB for 200 epochs. -/
def carrierSet (a : Nat) (s : State) : State :=
  if (s.lane (132 + a)).live && decide (200 ≤ (s.watchAm a).above) && !(s.flag (Fld.WAM.A_W0.CARRIER a)) then
    ((s.put (Fld.WAM.A_W0.CARRIER a) true).set (Fld.WAM.A_W0.AGE a) 0).setWatchAm a (fun x => { x with seenAt := some s.epoch })
  else s

/-- WATCH_CARRIER_CLEAR (R174): below 6 dB for 200 epochs. -/
def carrierClear (a : Nat) (s : State) : State :=
  if 200 ≤ (s.watchAm a).below then s.put (Fld.WAM.A_W0.CARRIER a) false else s

/-- WATCH_CARRIER_SET (R174). -/
def execWatchCarrierSet (a : Fin 24) (s : State) : Host.Outcome State Fault Refusal := commitLanes s (carrierSet a.val s)

/-- WATCH_CARRIER_CLEAR (R174). -/
def execWatchCarrierClear (a : Fin 24) (s : State) : Host.Outcome State Fault Refusal := commitLanes s (carrierClear a.val s)

/-- DRM_DETECT_WINDOW (R175): a window of 40 epochs ended, with the mode found above the threshold. -/
def detectWindow (a : Nat) (mode : Option Nat) (s : State) : State :=
  if !(s.lane (132 + a)).live then s
  else
    let x := s.watchAm a
    match mode with
    | some m =>
      let t := s.setWatchAm a (fun y => { y with lastMode := some m, misses := 0 })
      if x.lastMode = some m then
        let t1 := (t.put (Fld.WAM.A_W0.DRM a) true).set (Fld.WAM.A_W0.DRM_MODE a) m
        if s.flag (Fld.WAM.A_W0.DRM a) then t1 else raise Ev.WAM.DRM_FOUND (t1.set Fld.WAM.FOUND_SRC.LANE (132 + a))
      else t
    | none =>
      let t := s.setWatchAm a (fun y => { y with lastMode := none, misses := y.misses + 1 })
      if 5 ≤ x.misses + 1 then (t.put (Fld.WAM.A_W0.DRM a) false).set (Fld.WAM.A_W0.DRM_MODE a) 7 else t

/-- DRM_DETECT_WINDOW (R175). -/
def execDrmDetectWindow (a : Fin 24) (mode : Option (Fin 4)) (s : State) : Host.Outcome State Fault Refusal :=
  commitLanes s (detectWindow a.val (mode.map (fun m => m.val)) s)

/-! ## Assignment of watch entries (R154, R173, R195, R215) -/

/-- The class, ASSIGN register and ASSIGN_ERR of a table. -/
def watchClass : WatchTable → LaneClass
  | .rds => .rds
  | .fic => .fic
  | .am => .amw

def assignAddr : WatchTable → Nat
  | .rds => Reg.WRD.ASSIGN
  | .fic => Reg.WFC.ASSIGN
  | .am => Reg.WAM.ASSIGN

def assignErr : WatchTable → Field
  | .rds => Fld.WRD.STAT.ASSIGN_ERR
  | .fic => Fld.WFC.STAT.ASSIGN_ERR
  | .am => Fld.WAM.STAT.ASSIGN_ERR

/-- The entry that an ASSIGN word names. -/
def assignEntry (t : WatchTable) (v : Word) : Nat :=
  match t with
  | .rds => fieldOf v 0 7
  | .fic => fieldOf v 0 4
  | .am => fieldOf v 0 5

/-- The frequency in kHz that it names, if the class's band test takes it (R138, R163, R194). -/
def assignKhz (s : State) (t : WatchTable) (v : Word) : Option Nat :=
  match t with
  | .rds => let k := fieldOf v 8 17
    if fmAllowed s k then some k else none
  | .am => let k := fieldOf v 8 15
    if amAllowed s k then some k else none
  | .fic => let b := fieldOf v 8 6
    if b ≤ 37 ∧ !(heldOff s .b3) then some (blockCentres.getD b 0) else none

/-- A write of an ASSIGN register (R154). Where nothing receives it is checked and not carried out (DEDUCED, log entry 45). -/
def writeAssign (t : WatchTable) (v : Word) (s : State) : State :=
  let c := watchClass t
  let n := assignEntry t v
  let l := c.base + n
  let p := c.path
  let goal := assignKhz s t v
  let release := v.getLsbD 7
  let bad := autoWatch s c || decide (s.get (Fld.LNM.CAPACITY.COUNT c.idx) ≤ n) || (s.lane l).state == .retired
    || (!release && (match goal with | none => true | some k => t == .fic && engineHolds s k))
  let u := s.put (assignErr t) bad
  if bad || !s.receiving then u
  else if release then postSoon (.release l) u
  else match goal with
    | some k => postSoon (.tune l p k true) u
    | none => u

/-- WATCH_ASSIGN (R154, R173, R215): RELEASE is 0. -/
def execWatchAssign (port : Port) (t : WatchTable) (v : Word) (s : State) : Host.Outcome State Fault Refusal :=
  commit s (hostWrite port (assignAddr t) (withField v 7 1 0) (fun _ => writeAssign t (withField v 7 1 0)) s)

/-- WATCH_RELEASE (R154, R173, R215): RELEASE is 1. -/
def execWatchRelease (port : Port) (t : WatchTable) (v : Word) (s : State) : Host.Outcome State Fault Refusal :=
  commit s (hostWrite port (assignAddr t) (withField v 7 1 1) (fun _ => writeAssign t (withField v 7 1 1)) s)

/-! ## Ages (R155, R174, R203, R221) -/

/-- Whole seconds since an epoch, saturating at `top`; `top` itself where there is none. -/
def ageSince (s : State) (top : Nat) (e : Option Nat) : Nat :=
  match e with
  | some x => min top ((s.epoch - x) / 1000)
  | none => top

/-- WATCH_AGE_TICK: the ages of the three watch tables and of the ensembles follow the time since what they count from. -/
def ageTick (s : State) : State :=
  let t : State := { s with
    rds := Vector.ofFn (fun (i : Fin 104) => let c := at' s.rds i.val {}
      if i.val < 8 then c else { c with age := ageSince s 255 c.seenAt })
    dab := Vector.ofFn (fun (i : Fin 20) => let c := at' s.dab i.val {}
      if i.val < 4 then c else { c with age := ageSince s 255 c.seenAt })
    ens := s.ens.map (fun e => { e with age := ageSince s 65535 (some e.seenAt) }) }
  forEach (List.range 24) (fun a u => u.set (Fld.WAM.A_W0.AGE a) (ageSince s 255 (s.watchAm a).seenAt)) t

/-- WATCH_AGE_TICK (R155). -/
def execWatchAgeTick (s : State) : Host.Outcome State Fault Refusal := commit s (ageTick s)

/-! ## DRM engines (R178 to R185) -/

/-- DRM engine `n`, and `s` with it changed. -/
def State.drmEng (s : State) (n : Nat) : DrmEngine := at' s.drm n {}

def State.setDrm (s : State) (n : Nat) (f : DrmEngine → DrmEngine) : State := { s with drm := upd s.drm n f }

/-- A CHG bit of a DRM engine. -/
def drmChange (f : Field) (n : Nat) (s : State) : State := setChange f (Reg.DRM.CHG_EN n) (Ev.DRM.CHANGE n) s

/-- The path and frequency tests of R178. -/
def drmAllowed (s : State) (fm : Bool) (khz : Nat) : Bool :=
  if fm then withinBand s .fm (khz - 50) (khz + 50) else amAllowed s khz

/-- A write of `DRMn.TUNE` (R178). -/
def writeDrmTune (n : Nat) (v : Word) (s : State) : State :=
  let khz := fieldOf v 0 17
  let fm := v.getLsbD 17
  storeTune (18 + n) (Reg.DRM.TUNE n) (wordOf [(0, 17, khz), (17, 1, fm.toNat)]) (drmAllowed s fm khz) (Fld.DRM.CHG.REFUSED n)
    (Reg.DRM.CHG_EN n) (Ev.DRM.CHANGE n) (if khz = 0 then none else some (if fm then .fm else .lf, khz)) s

/-- DRM_TUNE (R178). -/
def execDrmTune (port : Port) (n : Fin 2) (v : Word) (s : State) : Host.Outcome State Fault Refusal :=
  commit s (hostWrite port (Reg.DRM.TUNE n.val) v (fun _ => writeDrmTune n.val v) s)

/-- DRM_RELEASE (R178): a write of 0. -/
def execDrmRelease (port : Port) (n : Fin 2) (v : Word) (s : State) : Host.Outcome State Fault Refusal :=
  commit s (hostWrite port (Reg.DRM.TUNE n.val) (withField v 0 17 0) (fun _ => writeDrmTune n.val (withField v 0 17 0)) s)

/-- A lower-numbered enabled selection names the same identifier (R182). -/
def drmDup (s : State) (n k : Nat) : Bool :=
  (List.range k).any (fun j => s.flag (Fld.DRM.SVC_SEL.EN n j) && s.get (Fld.DRM.SVC_SEL.SID n j) == s.get (Fld.DRM.SVC_SEL.SID n k))

/-- Selection `k` of an engine is matched against the services held (R182). A codec not yet known requests nothing, and
leaves a service that is still present its context (R181). -/
def matchDrmSel (n k : Nat) (s : State) : State :=
  let u : DecUser := { drm := true, engine := n, sel := k }
  let off (t : State) : State := (releaseDecoder u t).setWord (Reg.DRM.SVC_STAT n k) 0
  let holds := (decoderOf s u).isSome || s.decWait.contains u
  if !(s.flag (Fld.DRM.SVC_SEL.EN n k)) then off s
  else match (s.drmEng n).services.find? (fun x => x.sid == s.get (Fld.DRM.SVC_SEL.SID n k)) with
    | none => off s
    | some x =>
      let dup := drmDup s n k
      let unsupported := s.flag (Fld.DRM.STAT.UNSUPPORTED n) || x.ca || (x.audio && (x.codec == 2 || x.codec == 3))
      let wants := x.audio && (decide (x.codec ≤ 1) || (decide (x.codec = 7) && holds)) && !dup && !unsupported
      let t := if wants then s else releaseDecoder u s
      let w := t.word (Reg.DRM.SVC_STAT n k)
      let w1 := withField (withField (withField (withField (withField w 0 2 x.shortId) 2 1 1) 3 1 x.audio.toNat) 6 1 unsupported.toNat) 7 1 dup.toNat
      let t1 := t.setWord (Reg.DRM.SVC_STAT n k) w1
      if wants then requestDecoder u t1 else t1

/-- Every selection of an ACTIVE engine whose SDC is known is matched (R182). -/
def matchDrm (n : Nat) (s : State) : State :=
  if (s.lane (18 + n)).live && s.flag (Fld.DRM.STAT.SDC_VALID n) then forEach (List.range 4) (fun k t => matchDrmSel n k t) s else s

/-- A write of `DRMn.SVC_SELk` (R182, R183): a changed identifier or EN = 0 gives up the context; outside FULL it is only stored
(R333). -/
def writeDrmSel (port : Port) (n k : Nat) (v : Word) (key : Bool) (s : State) : State :=
  let t := plainWrite port (Reg.DRM.SVC_SEL n k) v key s
  let u : DecUser := { drm := true, engine := n, sel := k }
  if s.pwr.mode != .full then t
  else
    let moved := s.get (Fld.DRM.SVC_SEL.SID n k) != t.get (Fld.DRM.SVC_SEL.SID n k)
    let t1 := if moved || !(t.flag (Fld.DRM.SVC_SEL.EN n k)) then (releaseDecoder u t).setWord (Reg.DRM.SVC_STAT n k) 0 else t
    matchDrm n t1

/-- DRM_SERVICE_SELECT (R182). -/
def execDrmServiceSelect (port : Port) (n : Fin 2) (k : Fin 4) (v : Word) (s : State) : Host.Outcome State Fault Refusal :=
  commitLanes s (hostWrite port (Reg.DRM.SVC_SEL n.val k.val) v (writeDrmSel port n.val k.val v) s)

/-- The longest prefix of whole UTF-8 characters within 16 bytes (R185). -/
def cutUtf8 (bytes : List Nat) : List Nat :=
  let cont (i : Nat) : Bool := match bytes[i]? with | some b => decide (128 ≤ b) && decide (b < 192) | none => false
  if bytes.length ≤ 16 then bytes else bytes.take ((highest 17 (fun n => !(cont n))).getD 0)

/-- The SVC_INFO record of short identifier `i` (R191). -/
def showService (n : Nat) (x : DrmSvc) (label : Option (List Nat)) (s : State) : State :=
  let i := x.shortId
  let t := s.setWord (Reg.DRM.SVC_INFO_W0 n i)
    (wordOf [(0, 24, x.sid), (24, 1, x.audio.toNat), (25, 1, x.ca.toNat), (26, 4, x.lang), (30, 1, 1)])
  let a := Reg.DRM.SVC_INFO_W1 n i
  let t1 := t.setWord a (withField (withField (withField (withField (t.word a) 0 5 x.pty) 5 3 x.codec) 8 1 x.sbr.toNat) 9 1 x.ps.toNat)
  match label with
  | none => t1
  | some bytes =>
    let cut := cutUtf8 bytes
    let t2 := (t1.put (Fld.DRM.SVC_INFO_W1.TRUNC n i) (decide (cut.length < bytes.length))).set (Fld.DRM.SVC_INFO_W1.LABEL_LEN n i) cut.length
    forEach (List.range 4) (fun w u => u.setWord (Reg.DRM.SVC_INFO_W2 n i + 4 * w) (packBytes cut w)) t2

/-- The record of a short identifier empties. -/
def clearService (n i : Nat) (s : State) : State :=
  forEach (List.range 8) (fun w u => let a := Reg.DRM.SVC_INFO_W0 n i + 4 * w
    u.setWord a (resetWord a)) s

/-- A service description as it is held. -/
def drmService (o : DrmSvcObs) : DrmSvc :=
  { shortId := o.shortId % 4, sid := o.sid % 2 ^ 24, audio := o.audio, ca := o.ca, lang := o.lang, pty := o.pty, codec := o.codec,
    sbr := o.sbr, ps := o.ps }

/-- An SDC that passed its CRC (R181, R182): the first of a new configuration replaces the services held, another adds to them. -/
def takeSdc (n : Nat) (fresh : Bool) (l : List DrmSvcObs) (s : State) : State :=
  let new := l.map drmService
  let kept := if fresh then [] else (s.drmEng n).services.filter (fun x => new.all (fun y => y.shortId != x.shortId))
  let t := (s.put (Fld.DRM.STAT.SDC_VALID n) true).setDrm n (fun x => { x with services := kept ++ new, newConfig := false })
  let gone := if fresh then (List.range 4).filter (fun i => new.all (fun y => y.shortId != i)) else []
  let t1 := forEach gone (fun i u => clearService n i u) t
  matchDrm n (forEach l (fun o u => showService n (drmService o) o.label u) t1)

/-- No message is held of short identifier `i` (R185). -/
def wipeText (n i : Nat) (s : State) : State :=
  forEach (List.range 32) (fun w u => u.setWord (Reg.DRM.TEXT n (32 * i + w)) 0) (s.setWord (Reg.DRM.TEXT_STAT n i) 0)

/-- A write of `DRMn.CTRL`: messages are held only while TEXT_EN = 1 (R185). -/
def writeDrmCtrl (port : Port) (n : Nat) (v : Word) (key : Bool) (s : State) : State :=
  let t := plainWrite port (Reg.DRM.CTRL n) v key s
  if t.flag (Fld.DRM.CTRL.TEXT_EN n) then t else forEach (List.range 4) (fun i u => wipeText n i u) t

/-- A text message of an audio service (R185). -/
def takeText (n : Nat) (x : DrmText) (s : State) : State :=
  let i := x.shortId % 4
  if !(s.flag (Fld.DRM.CTRL.TEXT_EN n)) then s
  else
    let held := s.flag (Fld.DRM.TEXT_STAT.VALID n i)
    let t := if held && s.flag (Fld.DRM.TEXT_STAT.TOGGLE n i) != x.toggle then wipeText n i s else s
    match x.bytes with
    | none => t
    | some bytes =>
      let b := bytes.take 128
      let t1 := forEach (List.range 32) (fun w u => u.setWord (Reg.DRM.TEXT n (32 * i + w)) (packBytes b w))
        (t.setWord (Reg.DRM.TEXT_STAT n i) (wordOf [(0, 8, b.length), (8, 1, 1), (9, 1, x.toggle.toNat)]))
      raise (Ev.DRM.TEXT n) (drmChange (Fld.DRM.CHG.TEXT n) n t1)

/-- The FAC fields of a frame (R180, R181, R190). -/
def showFac (n : Nat) (f : DrmFac) (s : State) : State :=
  let bad := if f.mode = 4 then decide (2 ≤ f.mscQam) else decide (f.mscQam = 0) || decide (3 ≤ f.mscQam)
  s.setWord (Reg.DRM.STAT n) (wordOf [(3, 3, f.mode), (6, 3, f.occ), (9, 1, f.shortIl.toNat), (10, 2, f.mscQam), (12, 1, f.sdcQam),
    (13, 3, f.services), (16, 1, s.get (Fld.DRM.STAT.SDC_VALID n)), (17, 1, bad.toNat), (18, 1, f.reconfig.toNat)])

/-- The FAC of a frame passes for synchronisation: its CRC and its robustness mode (R180). -/
def facPasses (s : State) (n : Nat) (f : Option DrmFac) : Bool :=
  match f with
  | some x => x.mode == (s.drmEng n).mode
  | none => false

/-- The planted sprouts of a kind on a lane that do not wait for a grant. -/
def sproutsOn (s : State) (k : SproutKind) (l : Nat) : List Nat :=
  (plantedSlots s (fun x => x.lane == l && x.kind == some k)).filter (fun i => !(waitsForGrant s (.sprout i)))

/-- A frame that a planted DRM sprout receives (R117, R122, R126): FAC CRC passes in succession, counted anew after one that a GAP hid; and
its AFC. -/
def drmShadow (l : Nat) (o : DrmObs) (s : State) : State :=
  let on := sproutsOn s .drm l
  if on.isEmpty then s
  else postSoon (.afc l o.afc) (forEach on (fun i t => t.setSprout i (fun x => { x with
    passes := if o.fac.isSome && !o.gap then x.passes + 1 else 0 })) s)

/-- DRM_FRAME (R179 to R182, R185, R190). -/
def drmFrame (n : Nat) (o : DrmObs) (s : State) : State :=
  let l := 18 + n
  if !(s.lane l).live then drmShadow l o s
  else
    let ok := facPasses s n o.fac
    let t := s.bump (if o.fac.isSome then Fld.DRM.FAC_CNT.OK n else Fld.DRM.FAC_CNT.ERR n)
    let t1 := t.setDrm n (fun x => { x with facFails := if ok then 0 else x.facFails + 1 })
    let t2 := ((t1.setWord (Reg.DRM.QUAL0 n) (wordOf [(0, 16, ofSigned 16 o.level), (16, 16, ofSigned 16 o.mer)])).setWord
      (Reg.DRM.QUAL1 n) (wordOf [(0, 16, ofSigned 16 o.wmer), (16, 16, ofSigned 16 o.fofs)])).setWord
      (Reg.DRM.QUAL2 n) (wordOf [(0, 12, o.doppler), (16, 12, o.delay)])
    let t3 := postSoon (.afc l o.afc) (match o.fac with | some f => if ok then showFac n f t2 else t2 | none => t2)
    let fresh := o.newConfig || (t3.drmEng n).newConfig
    let t4 := match o.sdc with
      | some (true, svcs) => takeSdc n (fresh || !(t3.flag (Fld.DRM.STAT.SDC_VALID n))) svcs (t3.bump (Fld.DRM.SDC_CNT.OK n))
      | some (false, _) => (t3.bump (Fld.DRM.SDC_CNT.ERR n)).setDrm n (fun x => { x with newConfig := fresh })
      | none => t3.setDrm n (fun x => { x with newConfig := fresh })
    let t5 := if o.newConfig then drmChange (Fld.DRM.CHG.RECONFIG n) n t4 else t4
    let t6 := match o.time with
      | some (mjd, hour, minute) => drmChange (Fld.DRM.CHG.TIME n) n ((t5.setWord (Reg.DRM.TIME0 n)
          (wordOf [(0, 17, mjd), (17, 5, hour), (22, 6, minute), (28, 1, 1)])).setWord (Reg.DRM.TIME_EPOCH n) (lowWord s.epoch))
      | none => t5
    let t7 := forEach o.texts (fun x u => takeText n x u) t6
    let t8 := forEach o.data (fun d u => deliver { drm := true, engine := n, sel := d.sel } (u.get (Fld.DRM.SVC_SEL.SID n d.sel)) d u) t7
    if (if (s.drmEng n).mode = 4 then 20 else 6) ≤ (t1.drmEng n).facFails then laneLost l (drmChange (Fld.DRM.CHG.LOST n) n t8) else t8

/-- DRM_FRAME (R179). -/
def execDrmFrame (n : Fin 2) (obs : DrmObs) (s : State) : Host.Outcome State Fault Refusal := commitLanes s (drmFrame n.val obs s)

/-- A DRM engine roots (R118, R180, R190): the mode acquired is `mode`. A new configuration is awaited no longer: the first SDC after the
root replaces the services held. -/
def rootDrm (n mode : Nat) (s : State) : State :=
  let owed := (s.drmEng n).tuned
  let t := (s.setDrm n (fun x => { x with facFails := 0, mode := mode, tuned := false, newConfig := false })).setLane (18 + n)
    (fun x => { x with state := .active, sync := true, lost := false })
  let t1 := ((t.set (Fld.DRM.STAT.ROBUST n) mode).put (Fld.DRM.STAT.SDC_VALID n) false).put (Fld.DRM.TIME0.TIME_VALID n) false
  setChanges [(Fld.DRM.CHG.TUNED n, owed), (Fld.DRM.CHG.SYNC n, true)] (Reg.DRM.CHG_EN n) (Ev.DRM.CHANGE n) t1

/-- DECODER_FREED (R183): on a boundary. -/
def execDecoderFreed (s : State) : Host.Outcome State Fault Refusal :=
  commitLanes s (if s.time % epochTicks = 0 then serveDecoders s else s)

/-- AUDIO_FRAME (R184): a frame of a DRM selection that holds a decode context. -/
def audioFrame (n k : Nat) (ok : Bool) (ms : Nat) (s : State) : State :=
  if !(s.flag (Fld.DRM.SVC_STAT.DECODING n k)) || !(s.lane (18 + n)).live then s
  else
    let t := s.bump (if ok then Fld.DRM.SVC_AUD.OK n k else Fld.DRM.SVC_AUD.ERR n k)
    let old := (((s.drmEng n).silent.find? (fun x => x.1 == k)).map (fun x => x.2)).getD 0
    let t1 := t.setDrm n (fun x => { x with silent := (k, if ok then 0 else old + ms) :: x.silent.filter (fun y => y.1 != k) })
    noteConcealed { drm := true, engine := n, sel := k } (!ok).toNat t1

/-- AUDIO_FRAME (R184). -/
def execAudioFrame (n : Fin 2) (k : Fin 4) (ok : Bool) (ms : Nat) (s : State) : Host.Outcome State Fault Refusal :=
  commit s (audioFrame n.val k.val ok ms s)

end Sys2Proof.Machine
end

