-- ==== Sys2Proof/Machine/Dab.lean ====
section
/-!
DEFINITION. DAB and DAB+ (chapter 8): tuning, frames and synchronisation, the FIC database, selections, audio and labels, alarms.
-/

namespace Sys2Proof.Machine

open Sys2Proof

/-! ## Tuning (R194) -/

/-- A write of `DABn.TUNE` (R194). -/
def writeDabTune (n : Nat) (v : Word) (s : State) : State :=
  let b := fieldOf v 0 6
  let on := v.getLsbD 7
  storeTune (14 + n) (Reg.DAB.TUNE n) (wordOf [(0, 6, b), (7, 1, on.toNat)]) (decide (b ≤ 37) && !(heldOff s .b3)) (Fld.DAB.CHG.REFUSED n)
    (Reg.DAB.CHG_EN n) (Ev.DAB.CHANGE n) (if on then some (.b3, blockCentres.getD b 0) else none) s

/-- DAB_TUNE (R194): EN is 1. -/
def execDabTune (port : Port) (n : Fin 4) (v : Word) (s : State) : Host.Outcome State Fault Refusal :=
  commit s (hostWrite port (Reg.DAB.TUNE n.val) (withField v 7 1 1) (fun _ => writeDabTune n.val (withField v 7 1 1)) s)

/-- DAB_RELEASE (R194): EN is 0. -/
def execDabRelease (port : Port) (n : Fin 4) (v : Word) (s : State) : Host.Outcome State Fault Refusal :=
  commit s (hostWrite port (Reg.DAB.TUNE n.val) (withField v 7 1 0) (fun _ => writeDabTune n.val (withField v 7 1 0)) s)

/-- A CHG bit of a DAB engine. -/
def dabChange (f : Field) (n : Nat) (s : State) : State := setChange f (Reg.DAB.CHG_EN n) (Ev.DAB.CHANGE n) s

/-! ## Selections (R205, R206) -/

/-- The component that a selection names, with its sub-channel, in the configuration in force. A sub-channel whose organisation has
not been received counts as absent (R202). -/
def selComponent (s : State) (n k : Nat) : Option (Component × SubChannel) :=
  if !(s.flag (Fld.DAB.SEL_CTRL.EN n k)) then none
  else do
    let e ← ensembleOf s (laneBlock s (14 + n))
    let v ← e.services.find? (fun x => x.sid == s.get (Fld.DAB.SEL_SID.SID n k))
    let c ← v.comps.find? (fun x => x.scids == s.get (Fld.DAB.SEL_CTRL.SCIDS n k))
    let x ← e.subchs.find? (fun y => y.id == c.subch)
    pure (c, x)

/-- A component that an engine does not decode (R205). -/
def notDecoded (c : Component) : Bool :=
  c.ca || (match c.tmid with
    | 0 => c.type != 0 && c.type != 63
    | 3 => !c.known
    | _ => true)

/-- A lower-numbered enabled selection of the engine names the same component (R205). -/
def dabDup (s : State) (n k : Nat) : Bool :=
  (List.range k).any (fun j => s.flag (Fld.DAB.SEL_CTRL.EN n j) && s.get (Fld.DAB.SEL_SID.SID n j) == s.get (Fld.DAB.SEL_SID.SID n k)
    && s.get (Fld.DAB.SEL_CTRL.SCIDS n j) == s.get (Fld.DAB.SEL_CTRL.SCIDS n k))

/-- A selection that is matched in the configuration: served, or LIMIT where its sub-channel would take the engine above 288 CUs or
6 sub-channels. `acc` holds the sub-channels served so far with their sizes. -/
structure SelPlan where
  sel : Nat
  comp : Component
  limit : Bool
  dup : Bool
  deriving DecidableEq, Repr

/-- The plans of an engine's selections in ascending order, and the sub-channels served (R205). -/
def planSelections (s : State) (n : Nat) : List SelPlan × List (Nat × Nat) :=
  (List.range 6).foldl (fun a k => match selComponent s n k with
    | none => a
    | some (c, x) =>
      let dup := dabDup s n k
      let serves := !dup && !notDecoded c
      let isNew := !(a.2.any (fun y => y.1 == c.subch))
      let limit := serves && isNew && (decide (6 ≤ a.2.length) || decide (288 < (a.2.map (fun y => y.2)).sum + x.size))
      (a.1 ++ [{ sel := k, comp := c, limit := limit, dup := dup }], if serves && isNew && !limit then a.2 ++ [(c.subch, x.size)] else a.2))
    ([], [])

/-- A selection without a match: its word clears and its context is released (R202, R205). -/
def clearSel (n k : Nat) (s : State) : State :=
  ((releaseDecoder { drm := false, engine := n, sel := k } s).setWord (Reg.DAB.SEL_STAT n k) 0).setDab n
    (fun x => { x with sels := upd x.sels k (fun _ => {}) })

/-- A matched selection shows its plan, keeps or gives up its context, and an audio selection that is served requests one. -/
def showSel (n : Nat) (p : SelPlan) (s : State) : State :=
  let u : DecUser := { drm := false, engine := n, sel := p.sel }
  let a := Reg.DAB.SEL_STAT n p.sel
  let audio := p.comp.tmid == 0
  let wants := audio && !p.limit && !p.dup && !notDecoded p.comp
  let t := if wants then s else releaseDecoder u s
  let w := t.word a
  let same := w.getLsbD 6 && fieldOf w 0 6 == p.comp.subch
  let t1 := t.setWord a (wordOf [(0, 6, p.comp.subch), (6, 1, 1), (7, 1, audio.toNat), (8, 1, (audio && p.comp.type == 63).toNat),
    (9, 1, (p.comp.tmid == 3).toNat), (10, 2, fieldOf w 10 2), (12, 1, p.limit.toNat), (13, 1, p.dup.toNat),
    (14, 1, (notDecoded p.comp).toNat), (15, 3, fieldOf w 15 3), (18, 6, if same then fieldOf w 18 6 else 0)])
  let t2 := if same then t1 else t1.setDab n (fun x => { x with sels := upd x.sels p.sel (fun _ => {}) })
  if wants then requestDecoder u t2 else t2

/-- The selections of an ACTIVE engine are matched against the configuration in force (R205). -/
def matchDab (n : Nat) (s : State) : State :=
  if !(s.lane (14 + n)).live then s
  else
    let p := planSelections s n
    let t := forEach ((List.range 6).filter (fun k => p.1.all (fun x => x.sel != k))) (fun k u => clearSel n k u) s
    let t1 := forEach p.1 (fun x u => showSel n x u) t
    (t1.set (Fld.DAB.STAT.SUBCH n) p.2.length).set (Fld.DAB.STAT.CU n) (p.2.map (fun y => y.2)).sum

/-- The engines that stand on a block match again. -/
def matchBlock (block : Nat) (s : State) : State :=
  forEach (List.range 4) (fun n t => if laneBlock t (14 + n) == block then matchDab n t else t) s

/-- The register of a selection's SID or CTRL. -/
def selAddr (n k : Nat) (ctrl : Bool) : Nat := if ctrl then Reg.DAB.SEL_CTRL n k else Reg.DAB.SEL_SID n k

/-- A write of `DABn.SELk_SID` or `SELk_CTRL` (R205, R183): a changed component or EN = 0 gives up the context; outside FULL it is only
stored (R333). -/
def writeDabSel (port : Port) (n k : Nat) (ctrl : Bool) (v : Word) (key : Bool) (s : State) : State :=
  let t := plainWrite port (selAddr n k ctrl) v key s
  if s.pwr.mode != .full then t
  else
    let same := s.word (Reg.DAB.SEL_SID n k) == t.word (Reg.DAB.SEL_SID n k) && s.word (Reg.DAB.SEL_CTRL n k) == t.word (Reg.DAB.SEL_CTRL n k)
    let t1 := if !same || !(t.flag (Fld.DAB.SEL_CTRL.EN n k)) then clearSel n k t else t
    matchDab n t1

/-- DAB_SELECT (R205). -/
def execDabSelect (port : Port) (n : Fin 4) (k : Fin 6) (ctrl : Bool) (v : Word) (s : State) : Host.Outcome State Fault Refusal :=
  commitLanes s (hostWrite port (selAddr n.val k.val ctrl) v (writeDabSel port n.val k.val ctrl v) s)

/-! ## Alarms (R216, R217) -/

/-- The EId of the ensemble a context stands on. -/
def eidOf (s : State) (c : Nat) : Nat := ((ensembleOf s (laneBlock s (dabLane c))).map (fun e => e.eid)).getD 0

/-- The EId filters let an alarm wake the host (R217). -/
def dabWakes (s : State) (eid : Nat) : Bool :=
  s.flag Fld.WFC.WAKE_CFG.EN && (!(s.flag Fld.WFC.WAKE_CFG.FILT_EN) || (List.range 4).any (fun k =>
    let m := s.get (Fld.WFC.WAKE_EID.MASK k)
    m != 0 && eid &&& m == s.get (Fld.WFC.WAKE_EID.EID k) &&& m))

/-- The alarm of context `c` turns on (R216). -/
def dabAlarmOn (c subch : Nat) (s : State) : State :=
  let eid := eidOf s c
  let known := (List.range 20).any (fun d => d != c && (s.dabCtx d).alarm && eidOf s d == eid)
  let t := s.setDab c (fun x => { x with alarm := true })
  if known then t
  else
    let t1 := (t.setWord Reg.WFC.WAKE_SRC (wordOf [(0, 8, dabLane c), (8, 6, laneBlock s (dabLane c)), (16, 16, eid)])).set
      Fld.WFC.WAKE_SUBCH.SUBCH subch
    let t2 := raise Ev.WFC.ALARM (if 4 ≤ c then markWatch .fic (c - 4) t1 else t1)
    if dabWakes s eid then hostWake t2 else t2

/-- The alarm of context `c` goes off (R216). -/
def dabAlarmOff (c : Nat) (s : State) : State := s.setDab c (fun x => { x with alarm := false, aswFrames := 0, aswHere := false })

/-- FIG 0/19 for cluster 0xFF: the alarm bit of ASw counts once a frame; the second frame turns the alarm on while Al is 1. The alarm
bit is ASw bit 0 (PRESUMED, log entry 46). -/
def alarmFig (c flags subch : Nat) (s : State) : State :=
  if !(flags.testBit 0) then dabAlarmOff c s
  else
    let t := s.setDab c (fun x => { x with
      aswFrames := if x.aswHere then x.aswFrames else x.aswFrames + 1, aswHere := true, aswEpoch := s.epoch, aswSubch := subch })
    let al := ((ensembleOf t (laneBlock t (dabLane c))).map (fun e => e.al)).getD false
    if al && decide (2 ≤ (t.dabCtx c).aswFrames) && !(t.dabCtx c).alarm then dabAlarmOn c subch t else t

/-- Al = 1 in a FIG 0/0 that follows the two frames of FIG 0/19 turns the alarm on (R216). -/
def lateAlarm (c : Nat) (s : State) : State :=
  let x := s.dabCtx c
  if decide (2 ≤ x.aswFrames) && !x.alarm then dabAlarmOn c x.aswSubch s else s

/-- DAB_ALARM_TIMEOUT (R216): 2 000 epochs without a FIG 0/19 that carries the alarm. -/
def execDabAlarmTimeout (lane : Fin 20) (s : State) : Host.Outcome State Fault Refusal :=
  commitLanes s (if (s.dabCtx lane.val).alarm && decide ((s.dabCtx lane.val).aswEpoch + 2000 ≤ s.epoch) then dabAlarmOff lane.val s else s)

/-- Epochs out of synchronisation in succession (R216). -/
def dabIdleEpoch (s : State) : State :=
  { s with dab := Vector.ofFn (fun (i : Fin 20) =>
      let x := at' s.dab i.val {}
      let l := s.lane (dabLane i.val)
      { x with outOfSync := if l.inUse && !l.sync then x.outOfSync + 1 else 0 }) }

/-- ALARM_OUT_OF_SYNC_TIMEOUT (R158, R216): 10 000 epochs out of synchronisation. -/
def alarmTimeout (l : Nat) (s : State) : State :=
  match laneClass l with
  | .fm | .rds => let x := s.rdsCtx (rdsIndex l)
    if x.alarm && decide (10000 ≤ x.outOfSync) then alarmOff (rdsIndex l) s else s
  | .dab | .fic => let x := s.dabCtx (dabIndex l)
    if x.alarm && decide (10000 ≤ x.outOfSync) then dabAlarmOff (dabIndex l) s else s
  | _ => s

/-- ALARM_OUT_OF_SYNC_TIMEOUT (R158). -/
def execAlarmOutOfSyncTimeout (lane : Fin 156) (s : State) : Host.Outcome State Fault Refusal := commitLanes s (alarmTimeout lane.val s)

/-! ## The FIC database (R200 to R204) -/

/-- The database entry of a block is changed, and made where there is none. -/
def withEnsemble (block : Nat) (f : Ensemble → Ensemble) (s : State) : State :=
  if s.ens.any (fun e => e.block == block) then { s with ens := s.ens.map (fun e => if e.block = block then f e else e) }
  else { s with ens := s.ens ++ [f { block := block, seenAt := s.epoch }] }

/-- A block in sync on an engine or watch entry. -/
def blockSynced (s : State) (block : Nat) : Bool :=
  (List.range 20).any (fun c => (s.lane (dabLane c)).sync && laneBlock s (dabLane c) == block)

/-- An ensemble is deleted with its services and the sets that it alone supplied (R203). -/
def deleteEnsemble (block : Nat) (s : State) : State :=
  let left (x : LinkSet) : LinkSet := { x with suppliers := x.suppliers.filter (fun b => b != block) }
  matchBlock block { s with ens := s.ens.filter (fun e => e.block != block),
                            links := (s.links.filter (fun x => x.suppliers.any (fun b => b != block))).map left }

/-- The ensemble that a full pool deletes for the sake of `block`: of those that no ACTIVE engine or in-sync watch entry holds the one with
the largest AGE (R203). -/
def oldestEnsemble (block : Nat) (s : State) : Option Ensemble :=
  let free := s.ens.filter (fun e => !(blockSynced s e.block) && e.block != block)
  free.find? (fun e => free.all (fun d => decide (e.seenAt ≤ d.seenAt)))

/-- While a pool is full, ensembles are deleted, one DB_FULL for each, until it has room or none can be (R203). -/
def makeRoom (block : Nat) (full : State → Bool) : Nat → State → State
  | 0, s => s
  | fuel + 1, s =>
    if !(full s) then s
    else match oldestEnsemble block s with
      | some e => makeRoom block full fuel (raise Ev.WFC.DB_FULL (deleteEnsemble e.block (s.put Fld.WFC.STAT.DB_FULL true)))
      | none => s

/-- Service records of the whole database, and whether their pool is full; and the pool of linkage sets (R203). -/
def serviceCount (s : State) : Nat := (s.ens.map (fun e => e.records.length)).sum

def servicesFull (s : State) : Bool := decide (512 ≤ serviceCount s)

def linksFull (s : State) : Bool := decide (64 ≤ s.links.length)

/-- A service in ascending order of SId. -/
def insertService (x : DbService) : List DbService → List DbService
  | [] => [x]
  | y :: t => if x.sid < y.sid then x :: y :: t else y :: insertService x t

/-- A service of the configuration takes a record where 64 of the ensemble and 512 in all allow it (R201, R203). -/
def recordService (block sid : Nat) (s : State) : State :=
  match ensembleOf s block with
  | none => s
  | some e =>
    if e.records.any (fun x => x.sid == sid) then s
    else if 64 ≤ e.records.length then withEnsemble block (fun e => { e with trunc := true }) s
    else
      let t := makeRoom block servicesFull 38 s
      if servicesFull t then t
      else withEnsemble block (fun e => { e with services := e.services.map (fun x => if x.sid = sid then { x with recorded := true } else x) }) t

/-- FIG 0/2 in the current configuration (R201, R203): a known service changes its organisation, a new one joins the configuration in force;
either takes a record where it has none and finds a place. -/
def takeService (block sid : Nat) (data : Bool) (comps : List Component) (s : State) : State :=
  let join (e : Ensemble) : List DbService :=
    if e.services.any (fun x => x.sid == sid) then
      e.services.map (fun x => if x.sid = sid then { x with data := data, comps := comps, unseen := 0 } else x)
    else insertService { sid := sid, data := data, comps := comps, recorded := false } e.services
  recordService block sid (withEnsemble block (fun e => { e with services := join e }) s)

/-- A sub-channel's organisation in a list. -/
def putSubch (x : SubChannel) (l : List SubChannel) : List SubChannel :=
  if l.any (fun y => y.id == x.id) then l.map (fun y => if y.id = x.id then x else y) else l ++ [x]

/-- Members join a set, up to 12 (R204). -/
def addMembers (new : List LinkMember) (x : LinkSet) : LinkSet :=
  new.foldl (fun y m => if y.members.contains m then y
    else if 12 ≤ y.members.length then { y with trunc := true } else { y with members := y.members ++ [m] }) x

/-- FIG 0/6 (R204). -/
def takeLinkage (block lsn : Nat) (hard ils : Bool) (key : Nat) (active cei : Bool) (members : List LinkMember) (s : State) : State :=
  let mine (x : LinkSet) : Bool := x.lsn == lsn && x.hard == hard && x.ils == ils && x.key == key
  let take (x : LinkSet) : LinkSet :=
    addMembers members { x with members := if cei then [] else x.members, trunc := !cei && x.trunc, active := active, block := block,
                                unseen := 0, suppliers := block :: x.suppliers.filter (fun b => b != block) }
  if s.links.any mine then { s with links := s.links.map (fun x => if mine x then take x else x) }
  else
    let t := makeRoom block linksFull 38 s
    if linksFull t then t else { t with links := t.links ++ [take { lsn := lsn, hard := hard, ils := ils, key := key }] }

/-- The recorded services with a SId get `f`. -/
def withService (block sid : Nat) (f : DbService → DbService) (s : State) : State :=
  withEnsemble block (fun e => { e with services := e.services.map (fun x => if x.sid = sid ∧ x.recorded then f x else x) }) s

/-- FIG 0/0 says of the configuration what it announces; where it announces nothing, nothing is collected (R202, log entry 113). -/
def Ensemble.announce (e : Ensemble) (eid : Nat) (al : Bool) (flags cif : Nat) (change : Option Nat) : Ensemble :=
  { e with eid := eid, al := al, cif := cif, changeFlags := if change.isSome then flags else 0, changeCif := change
           nextSubchs := if change.isSome then e.nextSubchs else [], nextServices := if change.isSome then e.nextServices else [] }

/-- FIGs 0/1 and 0/2 flagged as next are collected once a reconfiguration is announced (R202). -/
def collectNext (block : Nat) (f : Ensemble → Ensemble) (s : State) : State :=
  withEnsemble block (fun e => if e.changeCif.isSome then f e else e) s

/-- One FIG of a FIB that passed its CRC, received on context `c` in the frame whose null began in epoch `null` (R200 to R204,
R216). -/
def takeFig (c block null : Nat) (f : Fig) (s : State) : State :=
  match f with
  | .ensemble eid al flags cif change =>
    let t := withEnsemble block (fun e => e.announce eid al flags cif change) s
    if al then lateAlarm c t else if (t.dabCtx c).alarm then dabAlarmOff c t else t
  | .subch true x => collectNext block (fun e => { e with nextSubchs := putSubch x e.nextSubchs }) s
  | .subch false x => withEnsemble block (fun e => { e with subchs := putSubch x e.subchs }) s
  | .service true sid data comps => collectNext block (fun e => { e with
      nextServices := insertService { sid := sid, data := data, comps := comps } (e.nextServices.filter (fun x => x.sid != sid)) }) s
  | .service false sid data comps => takeService block sid data comps s
  | .linkage lsn hard ils key active cei members => takeLinkage block lsn hard ils key active cei members s
  | .config services count => withEnsemble block (fun e => { e with confServices := services, confCount := count }) s
  | .userApps sid scids apps => withEnsemble block (fun e => { e with
      apps := (sid, scids, apps) :: e.apps.filter (fun x => !(x.1 == sid && x.2.1 == scids)) }) s
  | .packetFec subch scheme => withEnsemble block (fun e => { e with fec := (subch, scheme) :: e.fec.filter (fun x => x.1 != subch) }) s
  | .compLabel sid scids charset mask bytes => withEnsemble block (fun e => { e with
      compLabels := { sid := sid, scids := scids, charset := charset, mask := mask, bytes := bytes }
        :: e.compLabels.filter (fun x => !(x.sid == sid && x.scids == scids)) }) s
  | .country ecc lto => withEnsemble block (fun e => { e with ecc := ecc, lto := ofSigned 8 lto }) s
  | .time mjd hour minute long => withEnsemble block (fun e =>
      let e1 := { e with mjd := mjd, hour := hour, minute := minute, timeValid := true, timeEpoch := null }
      match long with | some (sec, ms) => { e1 with second := sec, ms := ms } | none => e1) s
  | .pty sid pty => withService block sid (fun x => { x with pty := pty }) s
  | .asu sid flags => withService block sid (fun x => { x with asu := flags }) s
  | .asw cluster flags subch =>
    let t := withEnsemble block (fun e => { e with asw := flags }) s
    if cluster = 0xFF then alarmFig c flags subch t else t
  | .ensLabel charset mask bytes => withEnsemble block (fun e => { e with charset := charset, mask := mask, label := bytes, labelValid := true }) s
  | .svcLabel sid charset mask bytes =>
    withService block sid (fun x => { x with charset := charset, mask := mask, label := bytes, labelValid := true }) s
  | .other => s

/-- The FIGs of a FIB update the database; the engines on the block match again. -/
def takeFib (c null : Nat) (figs : List Fig) (s : State) : State :=
  let block := laneBlock s (dabLane c)
  let t := withEnsemble block (fun e => { e with seenAt := s.epoch, age := 0 }) (s.setDab c (fun x => { x with seenAt := some s.epoch, age := 0 }))
  matchBlock block (forEach figs (fun f u => takeFig c block null f u) t)

/-- A planted DAB sprout on a lane. -/
def dabSprout (s : State) (l : Nat) : Bool := !(plantedSlots s (fun x => x.lane == l && x.kind == some .dab)).isEmpty

/-- FIB_RECEIVED (R200): into the database from a lane in synchronisation, into the shadow from a planted sprout (R115). -/
def fibReceived (c : Nat) (figs : List Fig) (s : State) : State :=
  let l := dabLane c
  let null := (s.dabCtx c).nullAt.getD s.epoch
  if laneBlock s l = 63 then s
  else if (s.lane l).live && (s.lane l).sync then takeFib c null figs s
  else if dabSprout s l then s.setDab c (fun x => { x with shadow := x.shadow ++ [(s.epoch, null, figs)] })
  else s

/-- FIB_RECEIVED (R200). -/
def execFibReceived (lane : Fin 20) (figs : List Fig) (s : State) : Host.Outcome State Fault Refusal :=
  commitLanes s (fibReceived lane.val figs s)

/-- In-sync epochs since a service or set was last repeated (R201, R204). -/
def databaseEpoch (s : State) : State :=
  let on (b : Nat) : Bool := blockSynced s b
  { s with ens := s.ens.map (fun e => if on e.block then { e with services := e.services.map (fun x => { x with unseen := x.unseen + 1 }) } else e)
           links := s.links.map (fun x => if on x.block then { x with unseen := x.unseen + 1 } else x) }

/-- The configuration that follows (R202): what the change flags name is the next one, the rest stays. Change flag bit 0 stands for the
sub-channel organisation and bit 1 for the service organisation (EN 300 401; log entry 113). Services that stay keep what other FIGs gave
them. -/
def Ensemble.changed (e : Ensemble) : Ensemble :=
  let keep (x : DbService) : DbService := match e.services.find? (fun y => y.sid == x.sid) with
    | some y => { y with data := x.data, comps := x.comps }
    | none => { x with recorded := false }
  { e with subchs := if e.changeFlags.testBit 0 then e.nextSubchs else e.subchs
           services := if e.changeFlags.testBit 1 then e.nextServices.map keep else e.services
           nextSubchs := [], nextServices := [], changeCif := none, changeFlags := 0 }

/-- The protection and size of a sub-channel differ: its time de-interleaver restarts (R202). -/
def restartsInterleaver (x y : SubChannel) : Bool :=
  x.size != y.size || x.level != y.level || x.eep != y.eep || x.eepB != y.eepB || x.kbps8 != y.kbps8

/-- What a reconfiguration does to selection `k` of engine `n`, of which `old` was matched (R202): its de-interleaver restarts and needs 16
CIFs, or, where its sub-channel no longer carries the component, the match and the context end. -/
def changeSel (n k : Nat) (old : Option (Component × SubChannel)) (s : State) : State :=
  match old, selComponent s n k with
  | some (c, x), some (d, y) =>
    if c.subch ≠ d.subch then clearSel n k s
    else if restartsInterleaver x y then s.setDab n (fun z => { z with sels := upd z.sels k (fun v => { v with refill := 16 }) })
    else s
  | _, _ => s

/-- DAB_RECONFIG (R201 to R203): at the announced CIF the next configuration applies, and services that it brings take records in ascending
order of SId. -/
def reconfigure (block : Nat) (s : State) : State :=
  match ensembleOf s block with
  | none => s
  | some e =>
    if e.changeCif.isNone then s
    else
      let t := withEnsemble block Ensemble.changed s
      let t1 := forEach (e.changed.services.filter (fun x => !x.recorded)) (fun x u => recordService block x.sid u) t
      let t2 := forEach (List.range 4) (fun n u => if laneBlock u (14 + n) == block && (u.lane (14 + n)).live then
        dabChange (Fld.DAB.CHG.RECONFIG n) n (forEach (List.range 6) (fun k v => changeSel n k (selComponent s n k) v) u) else u) t1
      matchBlock block t2

/-- DAB_RECONFIG (R202). -/
def execDabReconfig (block : Nat) (s : State) : Host.Outcome State Fault Refusal := commitLanes s (reconfigure block s)

/-- SERVICE_LAPSE (R201): 30 s in sync without FIG 0/2. -/
def execServiceLapse (block sid : Nat) (s : State) : Host.Outcome State Fault Refusal :=
  commitLanes s (match ensembleOf s block with
    | some e => if e.services.any (fun x => x.sid == sid && decide (30000 ≤ x.unseen)) then
        matchBlock block (withEnsemble block (fun e => { e with services := e.services.filter (fun x => x.sid != sid) }) s) else s
    | none => s)

/-- ENSEMBLE_DELETE (R203): AGE has reached DB_HOLD. -/
def execEnsembleDelete (block : Nat) (s : State) : Host.Outcome State Fault Refusal :=
  commitLanes s (match ensembleOf s block with
    | some e => if s.get Fld.WFC.DB_HOLD.SECONDS ≤ (s.epoch - e.seenAt) / 1000 then deleteEnsemble block s else s
    | none => s)

/-- LINKAGE_LAPSE (R204): 120 s in sync without a repetition. -/
def execLinkageLapse (index : Nat) (s : State) : Host.Outcome State Fault Refusal :=
  commitLanes s (match s.links[index]? with
    | some x => if 120000 ≤ x.unseen then { s with links := s.links.eraseIdx index } else s
    | none => s)

/-! ## Frames (R197 to R199) -/

/-- A live engine or watch entry loses synchronisation (R106, R197). -/
def dabLoss (c : Nat) (s : State) : State :=
  laneLost (dabLane c) (if c < 4 then dabChange (Fld.DAB.CHG.LOST c) c s else s)

/-- Ticks of a sample at 2.048 MS/s, and the samples of a frame's null symbol, of a symbol and of its guard (R193). -/
def dabSampleTicks : Nat := 80

def nullSamples : Nat := 2656

def symbolSamples : Nat := 2552

def guardSamples : Nat := 504

/-- First and last ticks of the null symbol (symbol 0) and of the useful part of symbol `m` of a frame that begins at tick `start`. -/
def symbolTicks (start m : Nat) : Nat × Nat :=
  let from_ := if m = 0 then 0 else nullSamples + (m - 1) * symbolSamples + guardSamples
  let end_ := if m = 0 then nullSamples else nullSamples + m * symbolSamples
  (start + dabSampleTicks * from_, start + dabSampleTicks * end_ - 1)

/-- A GAP of `gaps` touches symbol `m` (R199). -/
def symbolHidden (start : Nat) (gaps : List (Nat × Nat)) (m : Nat) : Bool :=
  let t := symbolTicks start m
  gaps.any (fun g => decide (g.1 ≤ t.2) && decide (t.1 ≤ g.2))

/-- The symbols of a frame that are erased: their soft decisions are zero ahead of the time de-interleaver (R199). -/
def erasedSymbols (start : Nat) (gaps : List (Nat × Nat)) : List Nat :=
  ((List.range 77).drop 1).filter (symbolHidden start gaps)

/-- A frame whose null symbol or FIC symbols lie in a GAP (R197). -/
def frameHidden (start : Nat) (gaps : List (Nat × Nat)) : Bool := [0, 2, 3, 4].any (symbolHidden start gaps)

/-- The GAPs of context `c`'s lane: those of past epochs, and the present one's. -/
def dabGaps (s : State) (c : Nat) : List (Nat × Nat) :=
  match laneGap s (dabLane c) with
  | some g => (s.epoch * epochTicks + g.1, s.epoch * epochTicks + g.2) :: (s.dabCtx c).gaps
  | none => (s.dabCtx c).gaps

/-- At a boundary the GAPs of the epoch just ended are remembered over the length of a frame. -/
def dabGapEpoch (s : State) : State :=
  let at_ := (s.epoch - 1) * epochTicks
  { s with dab := Vector.ofFn (fun (i : Fin 20) =>
      let x := at' s.dab i.val {}
      let new := match laneGap s (dabLane i.val) with | some g => [(at_ + g.1, at_ + g.2)] | none => []
      if new.isEmpty && x.gaps.isEmpty then x
      else { x with gaps := (new ++ x.gaps).filter (fun g => decide (s.epoch * epochTicks ≤ g.2 + 100 * epochTicks)) }) }

/-- The counts of a frame towards a loss; a frame whose null or FIC lies in a GAP counts for neither (R197). Its symbols in a GAP are
erased (R199). -/
def DabLane.frame (x : DabLane) (gaps : List (Nat × Nat)) (o : DabObs) : DabLane :=
  let y := { x with fibs := (o.fibs.reverse ++ x.fibs).take 120, erased := erasedSymbols o.start gaps }
  if frameHidden o.start gaps then y
  else { y with nullMisses := if o.null then 0 else y.nullMisses + 1, fibMisses := if o.fibs.any (fun b => b) then 0 else y.fibMisses + 1 }

/-- A move of the FFT window by 8 samples or more, at the null that follows the frame; one of more than 64 sets CHG.TIMING (R198). -/
def moveWindow (n : Nat) (target : Int) (s : State) : State :=
  let d := (target - (s.dabCtx n).window).natAbs
  if d < 8 then s
  else
    let t := s.setDab n (fun x => { x with window := target })
    if 64 < d then dabChange (Fld.DAB.CHG.TIMING n) n t else t

/-- Packet checks of a selection over a frame (R219). -/
def countPackets (n : Nat) (p : PacketObs) (s : State) : State :=
  if 6 ≤ p.sel then s
  else (((s.bump (Fld.DAB.ERR_W0.UNIT_OK n p.sel) p.ok).bump (Fld.DAB.ERR_W0.UNIT_FAIL n p.sel) p.fail).bump
    (Fld.DAB.ERR_W1.RS_CORR n p.sel) p.corrected).bump (Fld.DAB.ERR_W1.RS_FAIL n p.sel) p.uncorrectable

/-- A data group of a selection: counted by its CRC, and delivered (R211, R219). -/
def takeData (n : Nat) (d : DataObs) (s : State) : State :=
  if 6 ≤ d.sel then s
  else
    let t := if d.pad then s else s.bump (if d.ok then Fld.DAB.ERR_W2.AU_OK n d.sel else Fld.DAB.ERR_W2.AU_FAIL n d.sel)
    deliver { drm := false, engine := n, sel := d.sel } (t.get (Fld.DAB.SEL_SID.SID n d.sel)) d t

/-- A frame that a planted DAB sprout receives (R117, R122, R126, R196): nulls in succession at their places and the first four FIBs, counted
anew after a frame that a GAP hid; and an engine's AFC. -/
def dabShadow (c : Nat) (o : DabObs) (s : State) : State :=
  let on := sproutsOn s .dab (dabLane c)
  let hid := frameHidden o.start (dabGaps s c)
  let t := forEach on (fun i u => u.setSprout i (fun x => if hid then { x with passes := 0, fibs := [] }
    else { x with passes := if o.null then x.passes + 1 else 0, fibs := (x.fibs ++ o.fibs).take 4 })) s
  if on.isEmpty || 4 ≤ c then t else postSoon (.afc (dabLane c) o.afc) t

/-- DAB_FRAME (R197 to R199): the frame of a live engine or watch entry ends. -/
def dabFrame (c : Nat) (o : DabObs) (s : State) : State :=
  let l := dabLane c
  let s0 := s.setDab c (fun x => { x with nullAt := some s.epoch })
  if !(s.lane l).live || !(s.lane l).sync then dabShadow c o s0
  else
    let q0 := wordOf [(0, 16, ofSigned 16 o.level), (16, 16, ofSigned 16 o.snr)]
    let q1 := wordOf [(0, 16, ofSigned 16 o.fofs), (16, 16, ofSigned 16 (s.dabCtx c).window)]
    let q2 := wordOf [(0, 16, min 65535 o.cber), (16, 12, o.delay)]
    let t := s0.setDab c (fun x => { x.frame (dabGaps s c) o with qual := some (q0, q1, q2), aswHere := false })
    let t1 := if 4 ≤ c then t
      else
        let ok := (o.fibs.filter (fun b => b)).length
        let u := (t.bump (Fld.DAB.FIB_CNT.OK c) ok).bump (Fld.DAB.FIB_CNT.ERR c) (o.fibs.length - ok)
        let u1 := moveWindow c o.target (postSoon (.afc l o.afc) u)
        forEach o.data (fun d v => takeData c d v) (forEach o.packets (fun p v => countPackets c p v) u1)
    let x := t1.dabCtx c
    if 4 ≤ x.nullMisses ∨ 10 ≤ x.fibMisses then dabLoss c t1 else t1

/-- DAB_FRAME (R197). -/
def execDabFrame (lane : Fin 20) (obs : DabObs) (s : State) : Host.Outcome State Fault Refusal := commitLanes s (dabFrame lane.val obs s)

/-- The quality words of the last frame show on the boundary (R218, R221). -/
def dabQualEpoch (s : State) : State :=
  forEach (List.range 20) (fun c t => match (t.dabCtx c).qual with
    | none => t
    | some (q0, q1, q2) =>
      let u := if c < 4 then ((t.setWord (Reg.DAB.QUAL0 c) q0).setWord (Reg.DAB.QUAL1 c) q1).setWord (Reg.DAB.QUAL2 c) q2
        else t.setWord (Reg.WFC.F_W2 (c - 4)) q0
      u.setDab c (fun x => { x with qual := none })) s

/-- A DAB engine or watch entry roots (R118, R196): what its sprout gathered enters the database, and selections are matched. -/
def rootDab (l : Nat) (s : State) : State :=
  let c := dabIndex l
  let x := s.dabCtx c
  let t := (s.setDab c (fun y => { y with nullMisses := 0, fibMisses := 0, window := 0, tuned := false, shadow := [], outOfSync := 0, fibs := [] })).setLane l
    (fun y => { y with state := .active, sync := true, lost := false })
  let t1 := forEach x.shadow (fun f u => takeFib c f.2.1 f.2.2 u) t
  let t2 := match x.shadow.getLast? with
    | some f => withEnsemble (laneBlock t1 l) (fun e => { e with seenAt := f.1 }) (t1.setDab c (fun y => { y with seenAt := some f.1 }))
    | none => t1
  if c < 4 then
    matchDab c (setChanges [(Fld.DAB.CHG.TUNED c, x.tuned), (Fld.DAB.CHG.SYNC c, true)] (Reg.DAB.CHG_EN c) (Ev.DAB.CHANGE c) t2)
  else t2

/-! ## Audio and dynamic labels (R207 to R210) -/

/-- No label is held of a selection (R210). -/
def wipeDls (n k : Nat) (s : State) : State :=
  forEach (List.range 32) (fun w u => u.setWord (Reg.DAB.DLS n (32 * k + w)) 0) (s.setWord (Reg.DAB.DLS_STAT n k) 0)

/-- A write of `DABn.CTRL`: labels are held only while DLS_EN = 1 (R210, R218; log entry 112). -/
def writeDabCtrl (port : Port) (n : Nat) (v : Word) (key : Bool) (s : State) : State :=
  let t := plainWrite port (Reg.DAB.CTRL n) v key s
  if t.flag (Fld.DAB.CTRL.DLS_EN n) then t else forEach (List.range 6) (fun k u => wipeDls n k u) t

/-- A dynamic label of a selection (R210). -/
def takeDls (n k : Nat) (o : DlsObs) (s : State) : State :=
  if !(s.flag (Fld.DAB.CTRL.DLS_EN n)) then s
  else
    let turned (tg : Bool) : Bool := s.flag (Fld.DAB.DLS_STAT.VALID n k) && s.flag (Fld.DAB.DLS_STAT.TOGGLE n k) != tg
    match o with
    | .remove => wipeDls n k s
    | .toggle tg => if turned tg then wipeDls n k s else s
    | .label tg bytes =>
      let b := bytes.take 128
      let t := forEach (List.range 32) (fun w u => u.setWord (Reg.DAB.DLS n (32 * k + w)) (packBytes b w))
        (s.setWord (Reg.DAB.DLS_STAT n k) (wordOf [(0, 8, b.length), (8, 1, 1), (9, 1, tg.toNat)]))
      raise (Ev.DAB.DLS n) (dabChange (Fld.DAB.CHG.DLS n) n t)

/-- The selection holds a context on a live engine. -/
def decodes (s : State) (n k : Nat) : Bool := s.flag (Fld.DAB.SEL_STAT.DECODING n k) && (s.lane (14 + n)).live && (s.lane (14 + n)).sync

/-- The selection's sub-channel is decoded, with a context or without: an audio selection that is matched and served (R205, R206). -/
def decodesPad (s : State) (n k : Nat) : Bool :=
  s.flag (Fld.DAB.SEL_STAT.PRESENT n k) && s.flag (Fld.DAB.SEL_STAT.AUDIO n k) && !(s.flag (Fld.DAB.SEL_STAT.LIMIT n k))
    && !(s.flag (Fld.DAB.SEL_STAT.DUP n k)) && !(s.flag (Fld.DAB.SEL_STAT.UNSUPPORTED n k)) && (s.lane (14 + n)).live && (s.lane (14 + n)).sync

/-- The labels and X-PAD data groups of an audio selection that waits for a context are taken too (R210, R211). -/
def takePad (n k : Nat) (dls : List DlsObs) (data : List DataObs) (s : State) : State :=
  let t := forEach dls (fun d u => takeDls n k d u) s
  forEach data (fun d u => deliver { drm := false, engine := n, sel := k } (u.get (Fld.DAB.SEL_SID.SID n k)) { d with sel := k, pad := true } u) t

/-- A frame of `cifs` CIFs of a selection passes: a restarted de-interleaver needs so many fewer; whether the frame lies in what it still
lacks, and is concealed (R202). -/
def refillSel (n k cifs : Nat) (s : State) : Bool × State :=
  let left := (at' (s.dabCtx n).sels k {}).refill
  (decide (0 < cifs) && decide (cifs ≤ left),
    if left = 0 then s else s.setDab n (fun x => { x with sels := upd x.sels k (fun y => { y with refill := left - cifs }) }))

/-- `bad` frames or access units of a selection are concealed (R209). -/
def concealSel (n k bad : Nat) (s : State) : State :=
  noteConcealed { drm := false, engine := n, sel := k } bad (s.bump (Fld.DAB.ERR_W3.CONCEALED n k) bad)

/-- LAYER2_FRAME (R202, R207, R209, R210): a frame that fails its header or scale-factor check is concealed, and one that a restarted
de-interleaver lacks. -/
def layer2Frame (n k : Nat) (ok : Bool) (scfErrors ms : Nat) (dls : List DlsObs) (s : State) : State :=
  if !(decodes s n k) then (if decodesPad s n k then takePad n k dls [] s else s)
  else
    let r := refillSel n k (ms / 24) s
    let bad := !ok || decide (0 < scfErrors) || r.1
    let t := (r.2.bump (if ok then Fld.DAB.ERR_W0.UNIT_OK n k else Fld.DAB.ERR_W0.UNIT_FAIL n k)).bump
      (if scfErrors = 0 then Fld.DAB.ERR_W2.AU_OK n k else Fld.DAB.ERR_W2.AU_FAIL n k)
    let t1 := (concealSel n k bad.toNat t).setDab n (fun x => { x with
      sels := upd x.sels k (fun y => { y with silent := if bad then y.silent + ms else 0 }) })
    forEach dls (fun o u => takeDls n k o u) t1

/-- LAYER2_FRAME (R207). -/
def execLayer2Frame (n : Fin 4) (k : Fin 6) (ok : Bool) (scfErrors ms : Nat) (dls : List DlsObs) (s : State) :
    Host.Outcome State Fault Refusal :=
  commit s (layer2Frame n.val k.val ok scfErrors ms dls s)

/-- Superframe synchronisation after a firecode at a CIF phase (R208): passes at one phase in two superframes in succession acquire it, three
failures in succession there lose it. -/
def DabSel.firecode (x : DabSel) (synced : Bool) (phase : Nat) (ok : Bool) : DabSel × Bool :=
  if synced then
    let fails := if ok then 0 else x.sfFails + 1
    if 3 ≤ fails then ({ x with sfFails := 0, phase := none, passed := [] }, false) else ({ x with sfFails := fails }, true)
  else if !ok then ({ x with passed := x.passed.filter (fun p => p != phase) }, false)
  else if x.passed.contains phase then ({ x with passed := [], phase := some phase, sfFails := 0 }, true)
  else ({ x with passed := phase :: x.passed }, false)

/-- A synchronised engine reads no superframe at another phase (R208). -/
def otherPhase (s : State) (n k : Nat) (o : SuperframeObs) : Bool :=
  s.flag (Fld.DAB.SEL_STAT.SF_SYNC n k) && (at' (s.dabCtx n).sels k {}).phase != some o.phase

/-- An RS(120,110) codeword with `e` bytes in error and `f` erased is corrected (R208): alone 5 errors or 10 erasures. -/
def rsCorrects (w : Nat × Nat) : Bool := decide (2 * w.1 + w.2 ≤ 10)

/-- Bytes corrected over some codewords, and codewords that are not. -/
def rsCorrected (l : List (Nat × Nat)) : Nat := ((l.filter rsCorrects).map (fun w => w.1 + w.2)).sum

def rsFailed (l : List (Nat × Nat)) : Nat := (l.filter (fun w => !(rsCorrects w))).length

/-- Milliseconds of failed audio in succession after access units of `ms` each (R209). -/
def silentAfter (silent ms : Nat) (good : List Bool) : Nat := good.foldl (fun n ok => if ok then 0 else n + ms) silent

/-- DABPLUS_SUPERFRAME (R202, R208 to R210): every access unit counts by its CRC; one that fails, that lies in a superframe without sync or
in what a restarted de-interleaver lacks, is concealed. -/
def superframe (n k : Nat) (o : SuperframeObs) (s : State) : State :=
  if !(s.flag (Fld.DAB.SEL_STAT.DABPLUS n k)) || otherPhase s n k o then s
  else if !(decodes s n k) then (if decodesPad s n k then takePad n k o.dls o.data s else s)
  else
    let was := s.flag (Fld.DAB.SEL_STAT.SF_SYNC n k)
    let r := refillSel n k 5 s
    let f := (at' (r.2.dabCtx n).sels k {}).firecode was o.phase o.firecode
    let good := if f.2 && !r.1 then o.aus else o.aus.map (fun _ => false)
    let fail := (good.filter (fun b => !b)).length
    let pass := (o.aus.filter (fun b => b)).length
    let t := (r.2.put (Fld.DAB.SEL_STAT.SF_SYNC n k) f.2).setDab n (fun x => { x with
      sels := upd x.sels k (fun _ => { f.1 with silent := silentAfter f.1.silent o.auMs good }) })
    let t1 := if was then t.bump (if o.firecode then Fld.DAB.ERR_W0.UNIT_OK n k else Fld.DAB.ERR_W0.UNIT_FAIL n k) else t
    let t2 := (((t1.bump (Fld.DAB.ERR_W1.RS_CORR n k) (rsCorrected o.words)).bump (Fld.DAB.ERR_W1.RS_FAIL n k) (rsFailed o.words)).bump
      (Fld.DAB.ERR_W2.AU_OK n k) pass).bump (Fld.DAB.ERR_W2.AU_FAIL n k) (o.aus.length - pass)
    let t3 := if f.2 && o.firecode then
        (((t2.put (Fld.DAB.SEL_STAT.SBR n k) o.sbr).put (Fld.DAB.SEL_STAT.PS n k) o.ps).put (Fld.DAB.SEL_STAT.STEREO n k) o.stereo).set
          (Fld.DAB.SEL_STAT.RATE n k) o.rate else t2
    takePad n k o.dls o.data (concealSel n k fail t3)

/-- DABPLUS_SUPERFRAME (R208). -/
def execDabplusSuperframe (n : Fin 4) (k : Fin 6) (obs : SuperframeObs) (s : State) : Host.Outcome State Fault Refusal :=
  commitLanes s (superframe n.val k.val obs s)

end Sys2Proof.Machine
end

