-- ==== Sys2Proof/Machine/Combiner.lean ====
section
/-!
DEFINITION. Programme combining (chapter 9): source entries and their states, joins, alignment, the pool, quality, selection, the
correlated sum and mutes.
-/

namespace Sys2Proof.Machine

open Sys2Proof

/-! ## Slots and sources (R227, R228, R230) -/

/-- Slot `n`, and `s` with it changed. -/
def State.slot (s : State) (n : Nat) : Slot := at' s.slots n {}

def State.setSlot (s : State) (n : Nat) (f : Slot → Slot) : State := { s with slots := upd s.slots n f }

/-- Source entry `k` of slot `n`, and `s` with it changed. -/
def State.src (s : State) (n k : Nat) : Source := at' (s.slot n).srcs k {}

def State.setSrc (s : State) (n k : Nat) (f : Source → Source) : State := s.setSlot n (fun x => { x with srcs := upd x.srcs k f })

/-- The STATE codes of R230. -/
def srcEmpty : Nat := 0
def srcWaiting : Nat := 1
def srcPending : Nat := 2
def srcIn : Nat := 3
def srcOut : Nat := 4
def srcRefused : Nat := 5

/-- The REASON codes of R253. -/
def whyNone : Nat := 0
def whyIdentity : Nat := 1
def whyPool : Nat := 2
def whyInvalid : Nat := 3
def whyLead : Nat := 4
def whyGain : Nat := 5
def whyTimeout : Nat := 6
def whyLost : Nat := 7
def whySuspect : Nat := 8
def whyFloor : Nat := 9
def whyAlign : Nat := 10
def whyDup : Nat := 11

/-- STATE and REASON of an entry. -/
def srcState (s : State) (n k : Nat) : Nat := s.get (Fld.PGM.SRC_STAT.STATE n k)

def srcReason (s : State) (n k : Nat) : Nat := s.get (Fld.PGM.SRC_STAT.REASON n k)

/-- STATE and REASON are shown; a change raises SOURCE (R230). -/
def showSource (n k st why : Nat) (s : State) : State :=
  raiseIf (srcState s n k != st || srcReason s n k != why) (Ev.PGM.SOURCE n)
    ((s.set (Fld.PGM.SRC_STAT.STATE n k) st).set (Fld.PGM.SRC_STAT.REASON n k) why)

/-- In the slot: IN, OUT or PENDING. -/
def inSlot (s : State) (n k : Nat) : Bool := srcState s n k == srcPending || srcState s n k == srcIn || srcState s n k == srcOut

/-- The sources in a slot, and those that are IN. -/
def members (s : State) (n : Nat) : List Nat := (List.range 4).filter (fun k => inSlot s n k)

def insOf (s : State) (n : Nat) : List Nat := (List.range 4).filter (fun k => srcState s n k == srcIn)

/-- KIND, INST and SEL of an entry. -/
def srcKind (s : State) (n k : Nat) : Nat := s.get (Fld.PGM.SRC.KIND n k)

def srcInst (s : State) (n k : Nat) : Nat := s.get (Fld.PGM.SRC.INST n k)

def srcSel (s : State) (n k : Nat) : Nat := s.get (Fld.PGM.SRC.SEL n k)

/-- A pair of AIP0. -/
def isAip (s : State) (n k : Nat) : Bool := srcKind s n k == 5

/-- Pairs of AIP0's format (R259). -/
def aipPairs (s : State) : Nat :=
  if s.get Fld.AIP.CTRL.FORMAT = 2 then (match s.get Fld.AIP.CTRL.SLOTS with | 1 => 2 | 2 => 4 | _ => 1) else 1

/-- The entry is INVALID (R229): out of range, RETIRED, or a pair that the format lacks. -/
def srcInvalid (s : State) (n k : Nat) : Bool :=
  let i := srcInst s n k
  let j := srcSel s n k
  let retired (l : Nat) : Bool := (s.lane l).state == LaneState.retired
  match srcKind s n k with
  | 1 => retired i
  | 2 => decide (6 ≤ i) || retired (8 + i)
  | 3 => decide (4 ≤ i) || decide (6 ≤ j) || retired (14 + i)
  | 4 => decide (2 ≤ i) || decide (4 ≤ j) || retired (18 + i)
  | 5 => decide (aipPairs s ≤ j)
  | _ => false

/-- What an entry names: the parts of it that its kind uses (R228). -/
def srcName (s : State) (n k : Nat) : Nat × Nat × Nat :=
  let kind := srcKind s n k
  (kind, if kind = 5 then 0 else srcInst s n k, if 3 ≤ kind then srcSel s n k else 0)

/-- The entry is DUP (R229): another entry of the slot, taken before, names the same source. -/
def srcDup (s : State) (n k : Nat) : Bool :=
  (List.range 4).any (fun j => j != k && srcKind s n j != 0 && srcName s n j == srcName s n k
    && (decide (j < k) || !(s.src n j).fresh) && !(srcState s n j == srcRefused && (srcReason s n j == whyDup || srcReason s n j == whyInvalid)))

/-- The lane that an entry's source stands on; 255 for AIP0 (log entry 50). -/
def srcLane (s : State) (n k : Nat) : Nat := (entryLane s n k).getD 255

/-- A DAB or DRM selection is served: matched, decoding and not held back (R231). -/
def selServed (s : State) (n k : Nat) : Bool :=
  let i := srcInst s n k
  let j := srcSel s n k
  if srcKind s n k = 3 then
    s.flag (Fld.DAB.SEL_STAT.PRESENT i j) && s.flag (Fld.DAB.SEL_STAT.DECODING i j) && !(s.flag (Fld.DAB.SEL_STAT.NO_DEC i j))
      && !(s.flag (Fld.DAB.SEL_STAT.LIMIT i j)) && !(s.flag (Fld.DAB.SEL_STAT.UNSUPPORTED i j))
  else s.flag (Fld.DRM.SVC_STAT.PRESENT i j) && s.flag (Fld.DRM.SVC_STAT.DECODING i j) && !(s.flag (Fld.DRM.SVC_STAT.NO_DEC i j))
    && !(s.flag (Fld.DRM.SVC_STAT.UNSUPPORTED i j))

/-- What an entry names can deliver audio (R231). -/
def canDeliver (s : State) (n k : Nat) : Bool :=
  let live := (s.lane (srcLane s n k)).live
  if srcInvalid s n k then false
  else match srcKind s n k with
    | 1 => live
    | 2 => live
    | 3 => live && selServed s n k
    | 4 => live && selServed s n k
    | 5 => s.get Fld.AIP.STAT.STATE == 3 || s.get Fld.AIP.STAT.STATE == 4
    | _ => false

/-- The source's audio blocks arrive: at once from a lane or AIP0, from its first block on from a selection. -/
def deliversNow (obs : List SrcObs) (s : State) (n k : Nat) : Bool :=
  canDeliver s n k && (srcKind s n k == 1 || srcKind s n k == 2 || srcKind s n k == 5 || (s.src n k).delivering
    || obs.any (fun o => o.pgm == n && o.src == k))

/-- The identity of an entry's source, where it is available (R232). -/
def identityOf (s : State) (n k : Nat) : Option Identity :=
  let i := srcInst s n k
  let j := srcSel s n k
  match srcKind s n k with
  | 1 => if (s.rdsCtx i).record.piValid then some (1, (s.rdsCtx i).record.pi) else none
  | 2 => let w := s.word (Reg.AMF.AMSS_SI i)
    if w.getLsbD 28 then some (2, fieldOf w 0 24) else none
  | 3 => if s.flag (Fld.DAB.SEL_STAT.PRESENT i j) then some (0, s.get (Fld.DAB.SEL_SID.SID i j) % 2 ^ 24) else none
  | 4 => if s.flag (Fld.DRM.SVC_STAT.PRESENT i j) then some (2, s.get (Fld.DRM.SVC_SEL.SID i j)) else none
  | 5 => if s.flag (Fld.PIB.AIP_ID.VALID j) then some (wordIdentity (s.word (Reg.PIB.AIP_ID j))) else none
  | _ => none

/-- An identity against the identities of a slot's sources other than `no` (R234): the class that holds both, 0x7F for a match without a
class, `none` where it fails. -/
def verifyIdentity (s : State) (n no : Nat) (i : Identity) : Option Nat :=
  let others := ((members s n).filter (fun k => k != no)).filterMap (fun k => identityOf s n k)
  let regional (a b : Identity) : Bool := a.1 == 1 && b.1 == 1 && a.2 / 4096 == b.2 / 4096 && a.2 % 256 == b.2 % 256
  if others.contains i then some 0x7F
  else match others.findSome? (fun o => sharedClass s i o) with
    | some c => some c
    | none => if s.flag (Fld.PGM.POLICY.REGIONAL n) && others.any (fun o => regional i o) then some 0x7F else none

/-- The identity check of a joiner; TRUST takes it as met (R228, R234). -/
def checkIdentity (s : State) (n k : Nat) : Option Nat :=
  match (identityOf s n k).bind (fun i => verifyIdentity s n k i) with
  | some c => some c
  | none => if s.flag (Fld.PGM.SRC.TRUST n k) then some 0x7F else none

/-! ## The pool (R242) -/

/-- 1/256 000 sample in one epoch of audio. -/
def epochUnits : Nat := 12288000

/-- The timeline once the slew has ended. -/
def Slot.goal (x : Slot) : Int := if x.slewBack then x.timeline + x.slew else x.timeline - x.slew

/-- The delay of source `k` against timeline `t`, in 1/256 000 sample. -/
def delayAt (s : State) (n k : Nat) (t : Int) : Nat := (t - 1000 * (s.src n k).arrival).toNat

/-- Blocks that a delay needs. -/
def blocksFor (delay : Nat) : Nat := ceilDiv delay epochUnits + 16

/-- Blocks that an entry holds, with those reserved for a posted root. -/
def heldBlocks (s : State) (n k : Nat) : Nat := max (s.get (Fld.PGM.SRC_STAT.BLOCKS n k)) (s.src n k).reserve

/-- Blocks free in the pool. -/
def poolFree (s : State) : Nat :=
  s.get (Fld.PGM.POOL_TOTAL.TOTAL 0) - s.flt.poolLost - (allEntries.map (fun e => heldBlocks s e.1 e.2)).sum

/-- SLOT_BLOCKS and FREE of every slot follow the blocks held (R253). -/
def showPool (s : State) : State :=
  let blocks (n : Nat) : Nat := ((List.range 4).map (fun k => s.get (Fld.PGM.SRC_STAT.BLOCKS n k))).sum
  let free := s.get (Fld.PGM.POOL_TOTAL.TOTAL 0) - s.flt.poolLost - ((List.range 4).map blocks).sum
  forEach (List.range 4) (fun n t => (t.set (Fld.PGM.POOL.SLOT_BLOCKS n) (blocks n)).set (Fld.PGM.POOL.FREE n) free) s

/-- An entry holds `b` blocks; when a reservation shrinks, sources refused for the pool may be retried (R241). -/
def holdBlocks (n k b : Nat) (s : State) : State :=
  let t := s.set (Fld.PGM.SRC_STAT.BLOCKS n k) b
  if b < s.get (Fld.PGM.SRC_STAT.BLOCKS n k) then markRetry whyPool t else t

/-- Reservations of a slot for roots that no longer stand are given back. -/
def dropReserve (n : Nat) (s : State) : State :=
  if !(plantedSlots s (fun x => x.kind == some .join && x.pgm == n && x.met)).isEmpty then s
  else
    let had := (List.range 4).any (fun k => (s.src n k).reserve != 0)
    let t := s.setSlot n (fun x => { x with srcs := x.srcs.map (fun y => { y with reserve := 0 }) })
    if had then markRetry whyPool t else t

/-! ## Reference, anchor and timeline (R238 to R240, R251) -/

/-- The sources that may be the reference: broadcast ones, or AIP0 where there is none (R251). -/
def refCandidates (s : State) (n : Nat) : List Nat :=
  let b := (members s n).filter (fun k => !(isAip s n k))
  if b.isEmpty then members s n else b

/-- The source with the latest arrival among them (R238). -/
def latestSource (s : State) (n : Nat) : Option Nat :=
  let c := refCandidates s n
  c.find? (fun k => c.all (fun j => decide ((s.src n j).arrival ≤ (s.src n k).arrival)))

/-- STAT.REF shows the reference. -/
def showRef (n : Nat) (s : State) : State :=
  match latestSource s n with
  | some k => s.set (Fld.PGM.STAT.REF n) k
  | none => s

/-- STAT.SLEWING follows the slew. -/
def showSlew (n : Nat) (s : State) : State := s.put (Fld.PGM.STAT.SLEWING n) ((s.slot n).slew != 0)

/-- The timeline of a slot is held where it stands (R238). -/
def holdTimeline (n k : Nat) (s : State) : State :=
  if s.flag (Fld.PGM.STAT.TIMELINE_HELD n) then s
  else (s.put (Fld.PGM.STAT.TIMELINE_HELD n) true).setSlot n (fun x => { x with heldTo := some (s.epoch + 60000), heldBy := k })

/-- The timeline is no longer held. -/
def unholdTimeline (n : Nat) (s : State) : State :=
  (s.put (Fld.PGM.STAT.TIMELINE_HELD n) false).setSlot n (fun x => { x with heldTo := none })

/-- The reservations of a slot shrink to what its delays need (R242). -/
def shrinkBlocks (n : Nat) (s : State) : State :=
  forEach (members s n) (fun k t =>
    holdBlocks n k (min (t.get (Fld.PGM.SRC_STAT.BLOCKS n k)) (blocksFor (delayAt t n k (t.slot n).timeline))) t) s

/-- The timeline moves to `goal` at once, by a crossfade of 150 ms; a move forward shrinks the reservations (R239, R242). -/
def jumpTo (n : Nat) (goal : Int) (s : State) : State :=
  let now := (s.slot n).timeline
  let t := s.setSlot n (fun x => { x with
    timeline := goal, slew := 0, slewBack := decide (now ≤ goal), jump := if now = goal then x.jump else some (now, s.epoch + 150) })
  if now ≤ goal then t else shrinkBlocks n t

/-- A slew to `goal` begins, extends or shortens; with `BLEND.SLEW` = 0 the timeline moves at once (R239). -/
def slewTo (n : Nat) (goal : Int) (s : State) : State :=
  let now := (s.slot n).timeline
  if s.get (Fld.PGM.BLEND.SLEW n) = 0 then showSlew n (jumpTo n goal s)
  else showSlew n (s.setSlot n (fun x => { x with slew := (goal - now).natAbs, slewBack := decide (now ≤ goal) }))

/-- The slew stops where it is. -/
def stopSlew (n : Nat) (s : State) : State := showSlew n (s.setSlot n (fun x => { x with slew := 0 }))

/-- A held timeline is released: it slews forward to the latest source that remains (R238). -/
def releaseTimeline (n : Nat) (s : State) : State :=
  if !(s.flag (Fld.PGM.STAT.TIMELINE_HELD n)) then s
  else match latestSource s n with
    | some k => if (s.slot n).slew != 0 && (s.slot n).slewBack then unholdTimeline n s
      else slewTo n (1000 * (s.src n k).arrival) (unholdTimeline n s)
    | none => unholdTimeline n s

/-- What the timeline does when source `k` has left the slot (R238, R239, R251): a slew goes on while the reference stays; when the reference
has left, a slew back shortens to the latest source that remains where that still lies ahead, any other stops and the timeline is held. A
timeline later than every source that remains is held. With no source left it restarts with the next. -/
def timelineAfter (n k : Nat) (s : State) : State :=
  match latestSource s n with
  | none => stopSlew n (unholdTimeline n (s.setSlot n (fun x => { x with timeline := 0 })))
  | some j =>
    let latest := 1000 * (s.src n j).arrival
    let x := s.slot n
    let t := if x.slew = 0 || decide (s.get (Fld.PGM.STAT.REF n) ≠ k) then s
      else if x.slewBack && decide (x.timeline < latest) then slewTo n latest s
      else holdTimeline n k (stopSlew n s)
    let y := t.slot n
    showRef n (if y.slew = 0 && decide (latest < y.timeline) then holdTimeline n k t else t)

/-- The anchor passes to the source that has been in the slot longest (R240); it is held at no limit. -/
def anchorAfter (n k : Nat) (s : State) : State :=
  if s.get (Fld.PGM.STAT.ANCHOR n) != k then s
  else
    let ms := members s n
    match ms.find? (fun j => ms.all (fun i => decide ((s.src n j).since ≤ (s.src n i).since))) with
    | some j => (s.set (Fld.PGM.STAT.ANCHOR n) j).put (Fld.PGM.SRC_STAT.GAIN_LIMIT n j) false
    | none => s

/-- The lead of source `k` ahead of the latest broadcast source of the slot, 1/256 sample; `none` where there is none (R250). -/
def leadOf (s : State) (n k : Nat) : Option Int :=
  let b := (members s n).filter (fun j => j != k && !(isAip s n j))
  (b.find? (fun j => b.all (fun i => decide ((s.src n i).arrival ≤ (s.src n j).arrival)))).map
    (fun j => (s.src n j).arrival - (s.src n k).arrival)

/-- An AIP0 source's lead is within 0.05–3.9 s, or it has no broadcast source to lead (R250, R251). -/
def leadOk (s : State) (n k : Nat) : Bool :=
  match leadOf s n k with
  | some d => decide (50 * 12288 ≤ d) && decide (d ≤ 3900 * 12288)
  | none => true

/-- The word pair of source `k` in an alignment result (R253): its delay, or an AIP0 source's lead, which reads 0 without a broadcast source
(R250, R251). -/
def alignWords (s : State) (n k : Nat) : List (Nat × Word) :=
  let x := s.src n k
  let here := inSlot s n k
  let delay := if !here then 0 else if isAip s n k then ((leadOf s n k).getD 0).toNat else delayAt s n k (s.slot n).timeline / 1000
  [(Reg.PGM.ALIGN_SRC_W0 n k, wordOf [(0, 26, delay), (26, 1, here.toNat)]),
   (Reg.PGM.ALIGN_SRC_W1 n k, if here then wordOf [(0, 10, x.corr), (10, 10, ofSigned 10 x.gain), (20, 12, ofSigned 12 x.drift)] else 0)]

/-- An alignment result is posted (R253). -/
def postAlign (n : Nat) (s : State) : State :=
  raise (Ev.PGM.ALIGN n) (postResult (18 + n)
    ([(Reg.PGM.ALIGN_RES n, wordOf [(10, 2, s.get (Fld.PGM.STAT.REF n))]), (Reg.PGM.ALIGN_EPOCH n, lowWord s.epoch),
      (Reg.PGM.ALIGN_SLEW n, wordOf [(0, 18, (s.slot n).slew / 256000)])] ++ (List.range 4).flatMap (fun k => alignWords s n k)) s)

/-! ## Scores, selection and sum (R243 to R246) -/

/-- The ranked score shown. -/
def ranked (s : State) (n k : Nat) : Nat := s.get (Fld.PGM.SRC_STAT.Q n k)

/-- The best ranked of some entries; of equals the lowest (R245). -/
def bestOf (s : State) (n : Nat) (l : List Nat) : Option Nat := l.find? (fun k => l.all (fun j => decide (ranked s n j ≤ ranked s n k)))

/-- Entry `k` is selected; `fade` ms of crossfade begin where another was (R245). -/
def select (n k fade : Nat) (s : State) : State :=
  let old := s.get (Fld.PGM.STAT.SELECTED n)
  let t := (s.set (Fld.PGM.STAT.SELECTED n) k).setSlot n (fun x => { x with
    srcs := x.srcs.map (fun y => { y with better := 0 }), fade := if old = k then x.fade else some (old, s.epoch + fade, fade) })
  t.set (Fld.PGM.STAT.MODE_NOW n) 1

/-- The crossfade from the entry selected: 20 ms where it left for SUSPECT, else 150 ms (R244, R245). -/
def fadeFrom (s : State) (n sel : Nat) : Nat := if srcState s n sel == srcOut && srcReason s n sel == whySuspect then 20 else 150

/-- Where nothing is selected yet the best ranked IN source is taken; where the one selected has left IN, it is replaced (R245). -/
def startSelection (n : Nat) (s : State) : State :=
  let sel := s.get (Fld.PGM.STAT.SELECTED n)
  if s.get (Fld.PGM.STAT.MODE_NOW n) = 2 || (s.get (Fld.PGM.STAT.MODE_NOW n) = 1 && srcState s n sel == srcIn) then s
  else match bestOf s n (insOf s n) with
    | some k =>
      if s.get (Fld.PGM.STAT.MODE_NOW n) = 1 then select n k (fadeFrom s n sel) s
      else (s.set (Fld.PGM.STAT.SELECTED n) k).set (Fld.PGM.STAT.MODE_NOW n) 1
    | none => s

/-- The sum set of a slot. -/
def sumSet (s : State) (n : Nat) : List Nat := (List.range 4).filter (fun k => s.flag (Fld.PGM.SRC_STAT.IN_SUM n k))

/-- SELECTED shows the best of the sum set; a set of one lane returns the output to selection by a crossfade of `fade` ms from the sum
(R244, R246). -/
def sumAfter (n fade : Nat) (s : State) : State :=
  if s.get (Fld.PGM.STAT.MODE_NOW n) != 2 then s
  else if 2 ≤ (sumSet s n).length then
    match bestOf s n (sumSet s n) with
    | some k => s.set (Fld.PGM.STAT.SELECTED n) k
    | none => s
  else
    let t := forEach (sumSet s n) (fun k u => u.put (Fld.PGM.SRC_STAT.IN_SUM n k) false) s
    let t1 := match bestOf t n (insOf t n) with
      | some k => select n k fade t
      | none => t.set (Fld.PGM.STAT.MODE_NOW n) 1
    t1.setSlot n (fun x => { x with fade := some (4, s.epoch + fade, fade) })

/-- A lane leaves the sum set; one that leaves for SUSPECT fades out over 20 ms (R244). -/
def leaveSum (n k fade : Nat) (s : State) : State :=
  if !(s.flag (Fld.PGM.SRC_STAT.IN_SUM n k)) then s
  else
    let t := s.put (Fld.PGM.SRC_STAT.IN_SUM n k) false
    let t1 := if fade < 150 then t.setSlot n (fun x => { x with fade := some (k, s.epoch + fade, fade) }) else t
    sumAfter n fade t1

/-! ## Leaving a slot (R229, R231) -/

/-- A candidate that the policy filled entry `k` with is not proposed again for 60 s (R249). -/
def blockOwned (n k : Nat) (s : State) : State :=
  s.setSlot n (fun x => match x.owned.find? (fun o => o.1 == k) with
    | some o => { x with blocked := (o.2.1, s.epoch + 60000) :: x.blocked.filter (fun b => b.1 != o.2.1) }
    | none => x)

/-- The planted JOIN sprouts of entry `k`. -/
def joinsOf (s : State) (n k : Nat) : List Nat := plantedSlots s (fun x => x.kind == some .join && x.pgm == n && x.src == k)

/-- A JOIN of entry `k` is planted or waits for a sprout slot. -/
def joining (s : State) (n k : Nat) : Bool :=
  !(joinsOf s n k).isEmpty || s.mgr.waiting.any (fun r => r.kind == .join && r.pgm == n && r.src == k)

/-- The JOIN of entry `k` ends for `why`; its reservation is given back (R241). -/
def pullJoin (n k : Nat) (why : PullReason) (s : State) : State :=
  if !(joining s n k) then s
  else
    let t : State := { s with mgr := { s.mgr with waiting := s.mgr.waiting.filter (fun r => !(r.kind == .join && r.pgm == n && r.src == k)) } }
    dropReserve n (blockOwned n k ((forEach (joinsOf t n k) (fun i u => pull i why u) t).setSrc n k (fun x => { x with
      coarse := none, agree := 0, holdFrom := none, reserve := 0 })))

/-- Why the JOIN of a source that stops delivering is pulled (R112, R121). -/
def lostReason (s : State) (n k : Nat) : PullReason :=
  match (s.lane (srcLane s n k)).state with
  | .parked => .parked
  | .restarting => .fault
  | .retired => if (s.lane (srcLane s n k)).failed then .fault else .superseded
  | _ => .superseded

/-- Entry `k`'s source is taken out of the slot, or out of its join, and shows `st` and `why` (R229, R231, R237, R242). -/
def leaveSource (n k st why : Nat) (pulled : PullReason) (s : State) : State :=
  let was := inSlot s n k
  let t := pullJoin n k pulled s
  let idle := srcState s n k == srcOut || srcState s n k == srcWaiting
  let t1 := holdBlocks n k 0 (t.setSrc n k (fun x => { x with
    idleSince := if idle && st == srcWaiting then x.idleSince else s.epoch, trackedAt := none, coarseAt := none, gainOk := false, later := false, coarse := none, agree := 0, holdFrom := none, lowFrom := none, below := 0, above := 0,
    better := 0, corrRun := 0, bandLow := List.replicate 8 0, reserve := 0 }))
  let t2 := (showSource n k st why t1).put (Fld.PGM.SRC_STAT.GAIN_LIMIT n k) false
  if was then showPool (postAlign n (timelineAfter n k (anchorAfter n k (leaveSum n k 150 t2)))) else showPool t2

/-- Entry `k` is not admitted (R241): its JOIN is pulled and it shows REFUSED; it is retried after `wait` epochs or on its trigger. -/
def refuse (n k why : Nat) (pulled : PullReason) (wait : Option Nat) (s : State) : State :=
  let t := leaveSource n k srcRefused why pulled (blockOwned n k s)
  let t1 := t.setSrc n k (fun x => { x with retryAt := wait.map (fun w => s.epoch + w), ready := false, ident := identityOf s n k })
  raiseIf (why == whyPool) (Ev.PGM.POOL_FULL n) t1

/-! ## Entering a slot (R229, R239, R241) -/

/-- A source becomes IN: a result is posted, and it is selected where nothing is. -/
def becomeIn (n k : Nat) (s : State) : State :=
  let t := (showSource n k srcIn whyNone s).setSrc n k (fun x => { x with later := false, below := 0, above := 0, better := 0, corrRun := 0, bandLow := List.replicate 8 0 })
  startSelection n t

/-- The output ramps down. -/
def rampsDown (r : Ramp) : Bool := match r with | .down _ => true | _ => false

/-- The first source of a slot enters without a JOIN (R229); it holds 16 blocks, and is refused where the pool has none (log entry
51). Output that still sounds ramps down before it. -/
def enterFirst (n k : Nat) (s : State) : State :=
  let t := pullJoin n k .superseded s
  if poolFree t < 16 then
    if srcState t n k == srcRefused && srcReason t n k == whyPool then t else refuse n k whyPool .superseded none t
  else
    let t1 := (t.setSlot n (fun x => { x with timeline := 0, slew := 0, jump := none, cut := !(t.flag (Fld.PGM.STAT.MUTED n)) && !(rampsDown x.ramp) })).setSrc n k (fun x => { x with
      arrival := 0, gain := 0, wanted := 0, corr := 0, drift := 0, since := s.epoch, later := false, ident := identityOf s n k })
    let t2 := ((unholdTimeline n (showSlew n (holdBlocks n k 16 t1))).set (Fld.PGM.STAT.REF n) k).set (Fld.PGM.STAT.ANCHOR n) k
    showPool (postAlign n (becomeIn n k t2))

/-- A JOIN sprout is planted on entry `k` (R241); a source whose identity is known and fails is refused at once. -/
def plantJoin (n k : Nat) (s : State) : State :=
  let t := plant { kind := .join, lane := srcLane s n k, pgm := n, src := k } (s.setSrc n k (fun x => { x with
    coarse := none, coarseAt := none, agree := 0, trackedAt := none, gainOk := false, holdFrom := none, lowFrom := none, corr := 0 }))
  if (identityOf s n k).isSome && (checkIdentity s n k).isNone then refuse n k whyIdentity .identity none t else t

/-- The gain limit (R240). -/
def clampGain (g : Int) : Int := clampInt (-120) 120 g

/-- The blocks each member of a slot and its joiner `k` need once the timeline stands at `goal`. -/
def joinBlocks (s : State) (n k : Nat) (goal : Int) : List (Nat × Nat) :=
  (List.range 4).filterMap (fun j => if j = k || inSlot s n j then some (j, blocksFor (delayAt s n j goal)) else none)

/-- Where the timeline of slot `n` stands once its slews have ended and entry `k` is in it (R238, R251). -/
def joinGoal (s : State) (n k : Nat) : Int :=
  if isAip s n k && (refCandidates s n).any (fun j => !(isAip s n j)) then (s.slot n).goal else max (s.slot n).goal (1000 * (s.src n k).arrival)

/-- The blocks that a join of entry `k` needs are reserved, with the final delays of every source of the slot (R242). -/
def reserveJoin (n k : Nat) (s : State) : State :=
  forEach (joinBlocks s n k (joinGoal s n k)) (fun z t => t.setSrc n z.1 (fun v => { v with reserve := max v.reserve z.2 })) s

/-- The further checks of the JOIN of sprout `i`, and its root (R118, R241). A gain beyond ±12 dB refuses it where every reading of the hold
asked for one (log entry 114). -/
def admitJoin (i : Nat) (s : State) : State :=
  let n := (s.sprout i).pgm
  let k := (s.sprout i).src
  let need := joinBlocks s n k (joinGoal s n k)
  if poolFree s < (need.map (fun z => z.2 - heldBlocks s n z.1)).sum then refuse n k whyPool .superseded none s
  else if !(s.src n k).gainOk then refuse n k whyGain .superseded (some 60000) s
  else if isAip s n k && !(leadOk s n k) then refuse n k whyLead .superseded (some 1000) s
  else
    let t := reserveJoin n k (s.setSprout i (fun v => { v with met := true, metAt := s.epoch }))
    if s.fab.pause.isSome then t else post (.root i) (s.epoch + 2) t

/-- The JOIN sprouts whose roots were posted in this epoch. -/
def joinedNow (s : State) : List Nat := plantedSlots s (fun x => x.kind == some .join && x.met && x.metAt == s.epoch)

/-- The roots of joins posted in this epoch are taken back, with their reservations, to be checked again in order (R242). -/
def takeBackJoins (s : State) : State :=
  let l := joinedNow s
  let slots := (List.range 4).filter (fun n => l.any (fun i => (s.sprout i).pgm == n))
  let t := forEach l (fun i u => cancelEntries (fun c => c == .root i) (u.setSprout i (fun v => { v with met := false }))) s
  forEach slots (fun n u =>
    forEach (plantedSlots u (fun x => x.kind == some .join && x.pgm == n && x.met)) (fun i v => reserveJoin n (u.sprout i).src v)
      (u.setSlot n (fun x => { x with srcs := x.srcs.map (fun y => { y with reserve := 0 }) }))) t

/-- The checks of a JOIN whose criterion is met (R241). Roots posted in one epoch are checked in order PGM0 to PGM3, and within a slot SRC0
to SRC3 (R242). -/
def joinMet (i : Nat) (s : State) : State :=
  let x := s.sprout i
  let y := s.src x.pgm x.src
  let held := match y.holdFrom with | some e => decide (e + 500 ≤ s.epoch) | none => false
  if x.state != .planted || x.met || !held || decide (y.agree < 2) then s
  else if (checkIdentity s x.pgm x.src).isNone then refuse x.pgm x.src whyIdentity .identity none s
  else if (joinedNow s).isEmpty then admitJoin i s
  else
    let again := i :: joinedNow s
    let inOrder := allEntries.flatMap (fun e => again.filter (fun j => (s.sprout j).pgm == e.1 && (s.sprout j).src == e.2))
    forEach inOrder admitJoin (takeBackJoins s)

/-- A JOIN roots (R118, R239, R241, R252): the source is PENDING with its alignment, gain and blocks; one that arrives later than the
timeline makes it slew back. -/
def rootJoin (i : Nat) (s : State) : State :=
  let x := s.sprout i
  let n := x.pgm
  let k := x.src
  if (members s n).isEmpty then enterFirst n k s
  else
    let cls := (checkIdentity s n k).getD 0x7F
    let at_ := 1000 * (s.src n k).arrival
    let t := forEach (List.range 4) (fun j u => if j = k || inSlot u n j then holdBlocks n j (heldBlocks u n j) u else u) s
    let t1 := (showSource n k srcPending whyNone t).setSrc n k (fun y => { y with
      gain := clampGain y.wanted, since := s.epoch, reserve := 0, later := false, ident := identityOf s n k })
    let back := (s.flag (Fld.PGM.STAT.TIMELINE_HELD n) && (s.slot n).heldBy == k)
    let t2 := dropReserve n (if back then unholdTimeline n t1 else t1)
    let mayLead := (refCandidates t2 n).contains k
    let t3 := if mayLead && decide ((t2.slot n).timeline < at_) then
        (if (t2.slot n).slewBack && decide (at_ ≤ (t2.slot n).goal) then id else slewTo n at_) (unholdTimeline n (t2.setSrc n k (fun y => { y with later := true })))
      else t2
    showPool (postAlign n (showRef n (t3.set (Fld.PGM.STAT.CLASS n) cls)))

/-! ## Alignment (R236, R237, R240, R242) -/

/-- Frames of a contour in 3 s, and the lags of 4 s (R236). -/
def contourWindow : Nat := 600

def contourLags : Nat := 800

/-- The covariance of two contours of equal length, and the product of their variances, times the squares of the length. -/
def covariance (a b : List Int) : Int × Nat :=
  let n : Int := a.length
  let cov (x y : List Int) : Int := n * ((x.zip y).map (fun p => p.1 * p.2)).sum - x.sum * y.sum
  (cov a b, (cov a a * cov b b).toNat)

/-- A candidate lag in frames: the covariance there, and the product of the variances. -/
abbrev LagFit := Int × Int × Nat

/-- The better of two candidates: the one with the larger normalised correlation; of equals the first. -/
def betterFit (a b : LagFit) : LagFit :=
  if b.2.1 ≤ 0 ∨ b.2.2 = 0 then a
  else if a.2.1 ≤ 0 ∨ a.2.2 = 0 then b
  else if b.2.1 ^ 2 * a.2.2 ≤ a.2.1 ^ 2 * b.2.2 then a else b

/-- The latest 3 s of `now` against `past`, which is older by up to 4 s; a lag counts `sign` times. -/
def lagFits (now past : List Int) (sign : Int) : List LagFit :=
  if now.length < contourWindow then []
  else ((List.range (contourLags + 1)).filter (fun d => decide (d + contourWindow ≤ past.length))).map (fun (d : Nat) =>
    (sign * (d : Int), covariance (now.take contourWindow) ((past.drop d).take contourWindow)))

/-- The two searches of R236: the lag in ms of the joiner behind the programme, where the normalised correlation there is 0.60 or more. -/
def coarseSearch (joiner programme : List Int) : Option Int :=
  match lagFits joiner programme 1 ++ lagFits programme joiner (-1) with
  | [] => none
  | x :: t =>
    let b := t.foldl betterFit x
    if 0 < b.2.1 ∧ 0 < b.2.2 ∧ 36 * b.2.2 ≤ 100 * b.2.1.natAbs ^ 2 then some (5 * b.1) else none

/-- COARSE_ALIGN_EVAL (R236): every 500 ms; two evaluations in succession that agree within 10 ms, each at 0.60 or more, are coarse lock. -/
def coarseEval (n k : Nat) (s : State) : State :=
  match (joinsOf s n k).head? with
  | none => s
  | some i =>
    let x := s.src n k
    let early : Bool := match x.coarseAt with | some e => decide (s.epoch < e + 500) | none => false
    if decide (2 ≤ x.agree) || !x.delivering || early then s
    else match coarseSearch x.contour (s.slot n).contour with
      | none => s.setSrc n k (fun y => { y with coarse := none, agree := 0, coarseAt := some s.epoch })
      | some lag =>
        let same := match x.coarse with | some l => decide ((lag - l).natAbs ≤ 10) | none => false
        let t := s.setSrc n k (fun y => { y with
          coarse := some lag, agree := if same then 2 else 1, coarseAt := some s.epoch, place := (s.slot n).timeline / 1000 + lag * 12288 })
        t.setSprout i (fun y => { y with adopted := true, progress := if same then 2 else 1 })

/-- The mean of up to 20 s of a contour, 0.1 dB (R240). -/
def loudness (l : List Int) : Int := if l.isEmpty then 0 else roundDiv l.sum (10 * l.length)

/-- The gain that matches source `k` to the anchor, 0.1 dB (R240). -/
def wantedGain (s : State) (n k : Nat) : Int := loudness (s.src n (s.get (Fld.PGM.STAT.ANCHOR n))).contour - loudness (s.src n k).contour

/-- The reservation of a source grows by 16 blocks as often as its delay needs it; whether the pool could supply it (R242). -/
def growBlocks (n k : Nat) (s : State) : Bool × State :=
  let need := blocksFor (delayAt s n k (s.slot n).timeline)
  let have_ := s.get (Fld.PGM.SRC_STAT.BLOCKS n k)
  let add := ceilDiv (need - have_) 16 * 16
  if add = 0 then (true, s)
  else if poolFree s < add then (false, s)
  else (true, s.set (Fld.PGM.SRC_STAT.BLOCKS n k) (have_ + add))

/-- The gain of a source moves by at most 0.1 dB towards the one wanted; the anchor's stays (R240). -/
def moveGain (n k : Nat) (wanted : Int) (s : State) : State :=
  if s.get (Fld.PGM.STAT.ANCHOR n) = k then s
  else
    let old := (s.src n k).gain
    let new := old + clampInt (-1) 1 (clampGain wanted - old)
    (s.setSrc n k (fun x => { x with gain := new, wanted := wanted })).put (Fld.PGM.SRC_STAT.GAIN_LIMIT n k)
      (decide (120 < wanted.natAbs) && decide (new.natAbs = 120))

/-- A fine search of a source in its slot (R237, R242, R251). Tracking fails where the delay has moved by more than 2 ms per 100 ms since the
last search. -/
def trackSource (o : FineObs) (s : State) : State :=
  let n := o.pgm.val
  let k := o.src.val
  let x := s.src n k
  let low := if o.corr < 500 then some (x.lowFrom.getD s.epoch) else none
  let since := s.epoch - x.trackedAt.getD x.since
  let failed := decide (24576 * max 100 since < 100 * (o.arrival - x.arrival).natAbs)
    || (match low with | some e => decide (e + 2000 ≤ s.epoch) | none => false)
  if failed then leaveSource n k srcWaiting whyAlign .superseded s
  else
    let t := moveGain n k (wantedGain s n k) (s.setSrc n k (fun y => { y with
      arrival := o.arrival, corr := o.corr, drift := clampInt (-2000) 2000 o.drift, lowFrom := low, trackedAt := some s.epoch }))
    if isAip t n k && !(leadOk t n k) then leaveSource n k srcWaiting whyLead .superseded t
    else
      let t1 := showRef n t
      let free := (t1.slot n).slew == 0 && !(t1.flag (Fld.PGM.STAT.TIMELINE_HELD n))
      let t2 := match latestSource t1 n with
        | some j => if free then t1.setSlot n (fun y => { y with timeline := 1000 * (t1.src n j).arrival }) else t1
        | none => t1
      let g := growBlocks n k t2
      if g.1 then showPool g.2
      else raise (Ev.PGM.POOL_FULL n) (leaveSource n k srcWaiting whyPool .superseded g.2)

/-- A fine search of source `k` is due: every 100 ms (R237). -/
def searchDue (s : State) (n k : Nat) : Bool :=
  match (s.src n k).trackedAt with
  | some e => decide (e + 100 ≤ s.epoch)
  | none => true

/-- The fine search of a joiner finds what lies within ±96 samples of the coarse lag (R237). -/
def inReach (s : State) (o : FineObs) : Bool := decide ((o.arrival - (s.src o.pgm.val o.src.val).place).natAbs ≤ 24576)

/-- A joiner's hold starts and stops with the correlation, and remembers whether a gain within ±12 dB was asked for (R241). -/
def holdJoin (o : FineObs) (s : State) : State :=
  let n := o.pgm.val
  let k := o.src.val
  let wanted := wantedGain s n k
  s.setSrc n k (fun y => { y with
    arrival := o.arrival, corr := o.corr, drift := clampInt (-2000) 2000 o.drift, wanted := wanted, trackedAt := some s.epoch
    holdFrom := if o.corr < 800 then none else some (y.holdFrom.getD s.epoch)
    gainOk := (y.holdFrom.isSome && y.gainOk) || decide (wanted.natAbs ≤ 120) })

/-- FINE_ALIGN_TRACK (R237, R241): of a source in the slot, or of a joiner with coarse lock. The lead of an AIP0 source that left for it is
measured on (R251). -/
def fineTrack (o : FineObs) (s : State) : State :=
  let n := o.pgm.val
  let k := o.src.val
  let x := s.src n k
  if !x.delivering || x.fresh || !(searchDue s n k) then s
  else if inSlot s n k then trackSource o s
  else if isAip s n k && srcState s n k == srcWaiting && srcReason s n k == whyLead && !(joining s n k) then
    s.setSrc n k (fun y => { y with arrival := o.arrival, trackedAt := some s.epoch })
  else if (joinsOf s n k).isEmpty || decide (x.agree < 2) || !(inReach s o) || (joinsOf s n k).any (fun i => (s.sprout i).met) then s
  else
    let t := holdJoin o s
    forEach (joinsOf t n k) (fun i u => u.setSprout i (fun y => { y with metric := o.corr })) t

/-! ## Entries taking effect, and slots starting and stopping (R227, R229) -/

/-- A lane that the policy took, and still holds, is released; a selection is switched off (R249). -/
def releaseOwned (o : Nat × Candidate × Nat) (inst sel : Nat) (s : State) : State :=
  let t := match o.2.1.kind with
    | 3 => matchDab inst ((releaseDecoder { drm := false, engine := inst, sel := sel } s).put (Fld.DAB.SEL_CTRL.EN inst sel) false)
    | 4 => matchDrm inst ((releaseDecoder { drm := true, engine := inst, sel := sel } s).put (Fld.DRM.SVC_SEL.EN inst sel) false)
    | _ => s
  if o.2.2 < 20 && (t.lane o.2.2).policy then postSoon (.release o.2.2) t
  else cancelEntries (fun c => match c with | .tune l _ _ host => l == o.2.2 && !host | _ => false) t

/-- What the policy took for entry `k` is released. -/
def dropOwned (n k inst sel : Nat) (s : State) : State :=
  match (s.slot n).owned.find? (fun o => o.1 == k) with
  | some o => releaseOwned o inst sel (s.setSlot n (fun x => { x with owned := x.owned.filter (fun z => z.1 != k) }))
  | none => s

/-- A host write of `PGMn.SRCk` (R228, R229): it replaces the policy's source, and takes effect on the next boundary. -/
def writeSource (port : Port) (n k : Nat) (v : Word) (key : Bool) (s : State) : State :=
  let t := (plainWrite port (Reg.PGM.SRC n k) v key (dropOwned n k (srcInst s n k) (srcSel s n k) s)).put (Fld.PGM.SRC.OWNER n k) false
  t.setSrc n k (fun x => { x with fresh := true })

/-- On the boundary a written entry takes effect (R229): the old source leaves, the new one is INVALID, DUP or WAITING. -/
def takeEntry (n k : Nat) (s : State) : State :=
  if !((s.src n k).fresh) then s
  else
    let t := leaveSource n k srcEmpty whyNone .superseded s
    let t1 := if (t.slot n).heldBy == k then releaseTimeline n t else t
    let t2 := t1.setSrc n k (fun _ => { fresh := true, idleSince := s.epoch })
    let dup := srcDup t2 n k
    let t3 := t2.setSrc n k (fun x => { x with fresh := false })
    if srcKind s n k = 0 then t3
    else if srcInvalid s n k then showSource n k srcRefused whyInvalid t3
    else if dup then showSource n k srcRefused whyDup t3
    else showSource n k srcWaiting whyNone t3

/-- Every source of a slot leaves; entries that name one show WAITING and `why`. -/
def stopSlot (n why : Nat) (s : State) : State :=
  let t := forEach (List.range 4) (fun k u =>
    if srcState u n k = srcEmpty then u else leaveSource n k srcWaiting why .superseded u) s
  t.setSlot n (fun x => { x with proposal := none, failed := false })

/-- The policy's lanes, selections and entries of a slot are released (R227). -/
def releasePolicy (n : Nat) (s : State) : State :=
  forEach ((s.slot n).owned.map (fun o => o.1)) (fun k t =>
    ((dropOwned n k (srcInst t n k) (srcSel t n k) t).setWord (Reg.PGM.SRC n k) 0).setSrc n k (fun x => { x with fresh := true })) s

/-- A write of `PGMn.CTRL` (R227, R247). EN = 0 pulls the joins, releases the reservations and what the policy holds; the ramp follows on
the next boundary. -/
def writePgmCtrl (port : Port) (n : Nat) (v : Word) (key : Bool) (s : State) : State :=
  let t := plainWrite port (Reg.PGM.CTRL n) v key s
  if s.flag (Fld.PGM.CTRL.EN n) && !(t.flag (Fld.PGM.CTRL.EN n)) then releasePolicy n (stopSlot n whyNone t) else t

/-! ## The boundary (R229, R231, R243, R244, R247, R252) -/

/-- The AIP0 pair gave its audio in full over the epoch (R243, R269, R271). -/
def aipWhole (s : State) (pair : Nat) (o : Option SrcObs) : Bool :=
  s.get Fld.AIP.STAT.STATE == 3 && !((at' s.audio.ports 4 {}).slipped) && !((s.get Fld.AIP.STAT.NONAUDIO).testBit pair)
    && (match o with | some x => x.whole | none => true)

/-- The selection that an entry of KIND 3 or 4 names. -/
def srcUser (s : State) (n k : Nat) : DecUser := { drm := srcKind s n k == 4, engine := srcInst s n k, sel := srcSel s n k }

/-- The quality score of an entry's source over the epoch just ended (R243). -/
def quality (s : State) (n k : Nat) (o : Option SrcObs) : Nat :=
  let i := srcInst s n k
  let conc := (((concealedOf s (srcUser s n k)).filter (fun c => decide (s.epoch < c.1 + 2000))).map (fun c => c.2)).sum
  match srcKind s n k with
  | 1 =>
    let cnr := toSigned 16 (fieldOf (s.word (Reg.FMF.QUAL i 0)) 16 16)
    ((clampInt 0 800 (5 * cnr - 200) - 4 * fieldOf (s.word (Reg.FMF.QUAL i 1)) 0 8) / 8).toNat
  | 2 => (clampInt 0 120 (toSigned 16 (fieldOf (s.word (Reg.AMF.QUAL i 0)) 16 16) - 40) / 2).toNat
  | 3 => if s.flag (Fld.DAB.SEL_STAT.DABPLUS i (srcSel s n k)) && !(s.flag (Fld.DAB.SEL_STAT.SF_SYNC i (srcSel s n k))) then 0 else 100 - 10 * conc
  | 4 => 100 - 10 * conc
  | 5 => if aipWhole s (srcSel s n k) o then 90 else 0
  | _ => 0

/-- The block of an entry's source for the epoch just ended carries CONCEALED, or a GAP, or was lost from the pool
(R143, R184, R209, R244, R396). -/
def concealedNow (s : State) (n k : Nat) : Bool :=
  (s.src n k).lostBlocks.any (fun e => e + 1 == s.epoch) ||
  (match srcKind s n k with
  | 1 => s.flag (Fld.FMF.STAT.CONCEALED (srcInst s n k))
  | 2 => s.flag (Fld.AMF.STAT.CONCEALED (srcInst s n k))
  | 3 => (concealedOf s (srcUser s n k)).any (fun c => c.1 + 1 == s.epoch)
  | 4 => (concealedOf s (srcUser s n k)).any (fun c => c.1 + 1 == s.epoch)
  | _ => false)

/-- The source's audio carries SUSPECT (R157). -/
def suspectNow (s : State) (n k : Nat) : Bool := srcKind s n k == 1 && s.flag (Fld.FMF.STAT.SUSPECT (srcInst s n k))

/-- Scores and their runs over the epoch just ended (R243 to R246); a concealed epoch changes no state. -/
def scoreSource (obs : List SrcObs) (n k : Nat) (s : State) : State :=
  let o := obs.find? (fun x => x.pgm == n && x.src == k)
  let bias := toSigned 7 (s.get (Fld.PGM.SRC.BIAS n k))
  let q := if (s.src n k).delivering then (clampInt 0 100 ((quality s n k o : Int) + bias)).toNat else 0
  let floor := s.get (Fld.PGM.BLEND.FLOOR n)
  let t := s.set (Fld.PGM.SRC_STAT.Q n k) q
  let hid := concealedNow s n k
  let low := (List.range 8).map (fun b => decide (((o.map (fun x => x.corrs)).getD []).getD b 0 < 920))
  t.setSrc n k (fun x => { x with
    below := if hid then x.below else if q < floor then x.below + 1 else 0
    above := if hid then x.above else if floor ≤ q then x.above + 1 else 0
    corrRun := if low.any (fun b => b) then 0 else x.corrRun + 1
    bandLow := (low.zip x.bandLow).map (fun b => if b.1 then b.2 + 1 else 0) })

/-- The weights of the sum set in each sub-band follow the sources' SNR estimates by at most 0.05 per epoch (R246), in millionths (DESIGN
CHOICE, log entry 115). -/
def weighSum (obs : List SrcObs) (n : Nat) (s : State) : State :=
  let snr (k b : Nat) : Nat := match obs.find? (fun x => x.pgm == n && x.src == k) with | some o => o.snrs.getD b 0 | none => 0
  let total (b : Nat) : Nat := ((sumSet s n).map (fun k => snr k b)).sum
  forEach (sumSet s n) (fun k t => t.setSrc n k (fun x => { x with weights := (List.range 8).map (fun b =>
    let old := x.weights.getD b 0
    if total b = 0 then old else old - min 50000 (old - 1000000 * snr k b / total b) + min 50000 (1000000 * snr k b / total b - old)) })) s

/-- How long each IN source has led the selected one by more than HYST (R245). -/
def leadRuns (n : Nat) (s : State) : State :=
  let sel := ranked s n (s.get (Fld.PGM.STAT.SELECTED n))
  let hyst := s.get (Fld.PGM.BLEND.HYST n)
  forEach (List.range 4) (fun k t => t.setSrc n k (fun x => { x with
    better := if srcState s n k == srcIn && decide (sel + hyst < ranked s n k) then x.better + 1 else 0 })) s

/-- A concealed epoch is patched where another IN source is good enough (R244). -/
def patchSource (n k : Nat) (s : State) : State :=
  s.put (Fld.PGM.SRC_STAT.PATCHED n k) (srcState s n k == srcIn && concealedNow s n k
    && (insOf s n).any (fun j => j != k && decide (s.get (Fld.PGM.BLEND.FLOOR n) ≤ ranked s n j)))

/-- A source goes OUT (R244); how long it has been idle counts on. -/
def goOut (n k why : Nat) (s : State) : State :=
  leaveSum n k (if why = whySuspect then 20 else 150) ((showSource n k srcOut why s).setSrc n k (fun x => { x with
    idleSince := if srcState s n k == srcOut then x.idleSince else s.epoch, above := 0 }))

/-- The slew of an epoch (R238, R239): the timeline moves, and a forward slew gives blocks back. -/
def slewEpoch (n : Nat) (s : State) : State :=
  let x := s.slot n
  let rate := s.get (Fld.PGM.BLEND.SLEW n) * 12288
  let step := if rate = 0 then x.slew else min rate x.slew
  let t := s.setSlot n (fun y => { y with timeline := if y.slewBack then y.timeline + step else y.timeline - step, slew := y.slew - step })
  if x.slewBack || step = 0 then t else shrinkBlocks n t

/-- Whether samples of an entry's source lie in a GAP in the epoch just ended. -/
def sourceGap (s : State) (n k : Nat) : Bool := (laneGap s (srcLane s n k)).isSome

/-- A GAP starts the hold of a joiner's correlation again (R122). -/
def breakHold (n k : Nat) (s : State) : State :=
  if joining s n k && sourceGap s n k then s.setSrc n k (fun x => { x with holdFrom := none, gainOk := false }) else s

/-- A slot enters a boundary (R252 steps 1 and 2): it starts or stops, written entries take effect, sources that no longer deliver are
LOST, the scores of the epoch follow, SUSPECT sources go OUT and concealed epochs are patched. -/
def slotEnter (obs : List SrcObs) (n : Nat) (s : State) : State :=
  let run := s.flag (Fld.PGM.CTRL.EN n) && s.pwr.mode == .full && !(decide (2 ≤ n) && decide (3 ≤ s.get Fld.PMU.GOV_STAT.LEVEL))
  let starts := run && !((s.slot n).running)
  let t := s.setSlot n (fun x => { x with running := run, srcs := if starts then x.srcs.map (fun y => { y with fresh := true }) else x.srcs })
  let t1 := forEach (List.range 4) (fun k u => takeEntry n k u) t
  if !run then t1
  else
    let t2 := forEach (List.range 4) (fun k u => u.setSrc n k (fun x => { x with delivering := deliversNow obs u n k })) (slewEpoch n t1)
    let lost := (List.range 4).filter (fun k => !((t2.src n k).delivering) && (inSlot t2 n k || joining t2 n k))
    let t3 := forEach lost (fun k u => leaveSource n k srcWaiting whyLost (lostReason u n k) u) t2
    let t4 := weighSum obs n (leadRuns n (forEach (List.range 4) (fun k u => scoreSource obs n k (breakHold n k u)) t3))
    let t5 := forEach ((List.range 4).filter (fun k => suspectNow t4 n k && inSlot t4 n k
        && !(srcState t4 n k == srcOut && srcReason t4 n k == whySuspect)))
      (fun k u => goOut n k whySuspect u) t4
    forEach (List.range 4) (fun k u => patchSource n k u) t5

/-- The delay line of a source holds its delay (R241). -/
def lineFilled (s : State) (n k : Nat) : Bool := decide (ceilDiv (delayAt s n k (s.slot n).timeline) epochUnits ≤ s.epoch - (s.src n k).since)

/-- A source whose SUSPECT has cleared is IN, or PENDING where the timeline or its delay line is not there yet (R241, R244). -/
def comeBack (n k : Nat) (s : State) : State :=
  if (s.src n k).later || !(lineFilled s n k) then showSource n k srcPending whyNone s else postAlign n (becomeIn n k s)

/-- An FM source whose PI has changed on a root is judged again, and so is one that went OUT for SUSPECT once SUSPECT clears; it returns where
its identity passes (R234, R244). -/
def suspectReturn (n k : Nat) (s : State) : State :=
  let now := identityOf s n k
  let back := srcState s n k == srcOut && srcReason s n k == whySuspect
  let passes := now == (s.src n k).ident || (checkIdentity s n k).isSome
  if suspectNow s n k || !(inSlot s n k) then s
  else if back || (srcKind s n k == 1 && now.isSome) then
    if !passes then refuse n k whyIdentity .identity none s
    else
      let t := s.setSrc n k (fun x => { x with ident := now })
      if back then comeBack n k t else t
  else s

/-- A named source that waits enters as the first of its slot, or has a JOIN planted on it (R229, R241). -/
def letIn (n k : Nat) (s : State) : State :=
  let st := srcState s n k
  let why := srcReason s n k
  let due (e : Option Nat) : Bool := match e with | some x => decide (x ≤ s.epoch) | none => true
  if !((s.src n k).delivering) then s
  else if (members s n).isEmpty then
    if st = srcWaiting ∨ (st = srcRefused ∧ why ≠ whyInvalid ∧ why ≠ whyDup) then enterFirst n k s else s
  else if st == srcWaiting && !(joining s n k) && due (s.src n k).retryAt && (why != whyLead || leadOk s n k) then
    plantJoin n k (s.setSrc n k (fun x => { x with retryAt := none }))
  else s

/-- Whether the programme is to be silent (R227, R247, R336, R399). -/
def wantsSilence (s : State) (n : Nat) : Bool :=
  let leaving := match s.pwr.trans with
    | some t => t.leaveAt.isSome && decide (t.since + 2 ≤ s.epoch)
    | none => false
  let recovering := match s.flt.recovery with
    | some (.ramping b, _) => decide (b ≤ s.epoch)
    | some (.resetting, _) => true
    | none => false
  !((s.slot n).running) || s.flag (Fld.PGM.CTRL.MUTE n) || (insOf s n).isEmpty || leaving || recovering

/-- The ramps of R247. A ramp that has begun runs to its end (DEDUCED, log entry 52). Where another source takes over from the only one that
was IN, the output ramps down, and up when that has ended (R229). -/
def muteBoundary (n : Nat) (s : State) : State :=
  let t := s.put (Fld.PGM.STAT.SOFT_MUTE n) ((s.slot n).running && (insOf s n).isEmpty)
  let muted := t.flag (Fld.PGM.STAT.MUTED n)
  let quiet := wantsSilence t n || ((t.slot n).cut && !muted)
  let ramp (r : Ramp) (u : State) : State := u.setSlot n (fun x => { x with ramp := r, cut := false })
  match (t.slot n).ramp with
  | .down _ => t
  | .up e => if s.epoch < e then t else if quiet then ramp (.down (s.epoch + 20)) t else ramp .none t
  | .none =>
    if quiet && !muted then ramp (.down (s.epoch + 20)) t
    else if !quiet && muted then raise (Ev.PGM.MUTE n) (ramp (.up (s.epoch + 20)) (t.put (Fld.PGM.STAT.MUTED n) false))
    else t.setSlot n (fun x => { x with cut := false })

/-- The later joiners that the timeline has reached are IN (R239). -/
def reachJoiners (n : Nat) (s : State) : State :=
  let due := (List.range 4).filter (fun k => srcState s n k == srcPending && (s.src n k).later)
  let t := forEach due (fun k u => becomeIn n k u) ((showSlew n s).setSlot n (fun x => { x with
    srcs := x.srcs.map (fun y => { y with later := false }) }))
  if due.isEmpty then t else postAlign n t

/-- Where every source that was IN has fallen below the floor and a later joiner is good enough, the remaining slew is completed at once and
the output crosses to it (R239). -/
def completeSlew (n : Nat) (s : State) : State :=
  let fallen := (List.range 4).any (fun k => srcState s n k == srcOut && srcReason s n k == whyFloor)
  let good := (List.range 4).any (fun j => srcState s n j == srcPending && (s.src n j).later
    && decide (s.get (Fld.PGM.BLEND.FLOOR n) ≤ ranked s n j))
  if (insOf s n).isEmpty && fallen && good && (s.slot n).slewBack && (s.slot n).slew != 0 then
    reachJoiners n (jumpTo n (s.slot n).goal s)
  else s

/-- A slot leaves a boundary (R252 steps 4 to 6): returns to IN, entries that wait, selection, ramps; every 1 000 epochs a result. -/
def slotLeave (n : Nat) (s : State) : State :=
  let t := if (s.slot n).running then
      forEach (List.range 4) (fun k u => letIn n k (suspectReturn n k u)) (completeSlew n s)
    else s
  let t1 := if (t.slot n).running && !(members t n).isEmpty && s.epoch % 1000 == 0 then postAlign n t else t
  showPool (muteBoundary n t1)

/-! ## The commands of chapter 9 -/

/-- Whether a command that acts on a boundary stands on one. -/
def onBoundary (s : State) : Bool := s.time % epochTicks == 0

/-- SLOT_ENABLE (R227). -/
def execSlotEnable (port : Port) (n : Fin 4) (v : Word) (s : State) : Host.Outcome State Fault Refusal :=
  commit s (hostWrite port (Reg.PGM.CTRL n.val) (withField v 0 1 1) (writePgmCtrl port n.val (withField v 0 1 1)) s)

/-- SLOT_DISABLE (R227). -/
def execSlotDisable (port : Port) (n : Fin 4) (v : Word) (s : State) : Host.Outcome State Fault Refusal :=
  commitLanes s (hostWrite port (Reg.PGM.CTRL n.val) (withField v 0 1 0) (writePgmCtrl port n.val (withField v 0 1 0)) s)

/-- HOST_MUTE (R247): the ramp starts on the next boundary. -/
def execHostMute (port : Port) (n : Fin 4) (v : Word) (s : State) : Host.Outcome State Fault Refusal :=
  commitLanes s (hostWrite port (Reg.PGM.CTRL n.val) (withField v 1 1 1) (writePgmCtrl port n.val (withField v 1 1 1)) s)

/-- HOST_UNMUTE (R247). -/
def execHostUnmute (port : Port) (n : Fin 4) (v : Word) (s : State) : Host.Outcome State Fault Refusal :=
  commitLanes s (hostWrite port (Reg.PGM.CTRL n.val) (withField v 1 1 0) (writePgmCtrl port n.val (withField v 1 1 0)) s)

/-- SOURCE_ENTRY_WRITE (R229). -/
def execSourceEntryWrite (port : Port) (n k : Fin 4) (v : Word) (s : State) : Host.Outcome State Fault Refusal :=
  commitLanes s (hostWrite port (Reg.PGM.SRC n.val k.val) v (writeSource port n.val k.val v) s)

/-- COARSE_ALIGN_EVAL (R236): the evaluation of one entry, named by programme and source. -/
def execCoarseAlignEval (entry : Fin 4 × Fin 4) (s : State) : Host.Outcome State Fault Refusal :=
  commit s (coarseEval entry.1.val entry.2.val s)

/-- FINE_ALIGN_TRACK (R237). -/
def execFineAlignTrack (obs : FineObs) (s : State) : Host.Outcome State Fault Refusal := commit s (fineTrack obs s)

/-- JOIN_RETRY (R241): a refused source's trigger has come, or its time; for IDENTITY a change of the source's identity counts. -/
def joinRetry (n k : Nat) (s : State) : State :=
  let x := s.src n k
  let why := srcReason s n k
  let due : Bool := match x.retryAt with | some e => decide (e ≤ s.epoch) | none => false
  let triggered := x.ready || (why == whyIdentity && identityOf s n k != x.ident)
  if srcState s n k == srcRefused && why != whyInvalid && why != whyDup && (due || triggered) then
    let t := (showSource n k srcWaiting whyNone s).setSrc n k (fun y => { y with retryAt := none, ready := false, idleSince := s.epoch })
    if x.delivering && !(members s n).isEmpty then plantJoin n k t else t
  else s

/-- JOIN_RETRY (R241). -/
def execJoinRetry (n k : Fin 4) (s : State) : Host.Outcome State Fault Refusal := commit s (joinRetry n.val k.val s)

/-- DELAY_LINE_FILLED (R241): an earlier joiner is IN once its delay line holds its delay. -/
def execDelayLineFilled (n k : Fin 4) (s : State) : Host.Outcome State Fault Refusal :=
  commit s (if onBoundary s && srcState s n.val k.val == srcPending && !((s.src n.val k.val).later) && lineFilled s n.val k.val then
    postAlign n.val (becomeIn n.val k.val s) else s)

/-- SLEW_DONE (R238, R239). -/
def slewDone (n : Nat) (s : State) : State := if (s.slot n).slew = 0 then reachJoiners n s else s

/-- SLEW_DONE (R239). -/
def execSlewDone (n : Fin 4) (s : State) : Host.Outcome State Fault Refusal :=
  commit s (if onBoundary s then slewDone n.val s else s)

/-- TIMELINE_HOLD_EXPIRE (R238). -/
def execTimelineHoldExpire (n : Fin 4) (s : State) : Host.Outcome State Fault Refusal :=
  commit s (match (s.slot n.val).heldTo with
    | some e => if e ≤ s.epoch then releaseTimeline n.val s else s
    | none => s)

/-- SOURCE_FLOOR_OUT (R244). Where no IN source is left and a later joiner is good enough, its slew completes at once and the output
crosses to it (R239). -/
def floorOut (n k : Nat) (s : State) : State :=
  if srcState s n k == srcIn && decide (20 ≤ (s.src n k).below) then
    completeSlew n (goOut n k whyFloor s)
  else s

/-- SOURCE_FLOOR_OUT (R244). -/
def execSourceFloorOut (n k : Fin 4) (s : State) : Host.Outcome State Fault Refusal :=
  commit s (if onBoundary s then floorOut n.val k.val s else s)

/-- SOURCE_FLOOR_IN (R244). -/
def execSourceFloorIn (n k : Fin 4) (s : State) : Host.Outcome State Fault Refusal :=
  commit s (if onBoundary s && srcState s n.val k.val == srcOut && srcReason s n.val k.val == whyFloor
      && decide (300 ≤ (s.src n.val k.val).above) then
    postAlign n.val (becomeIn n.val k.val s) else s)

/-- SELECTION_SWITCH (R245). -/
def selectionSwitch (n : Nat) (s : State) : State :=
  if s.get (Fld.PGM.STAT.MODE_NOW n) != 1 then startSelection n s
  else
    let sel := s.get (Fld.PGM.STAT.SELECTED n)
    let ins := insOf s n
    if ins.contains sel then
      match bestOf s n (ins.filter (fun k => decide (300 ≤ (s.src n k).better))) with
      | some k => select n k 150 s
      | none => s
    else match bestOf s n ins with
      | some k => select n k (fadeFrom s n sel) s
      | none => s

/-- SELECTION_SWITCH (R245). -/
def execSelectionSwitch (n : Fin 4) (s : State) : Host.Outcome State Fault Refusal :=
  commit s (if onBoundary s then selectionSwitch n.val s else s)

/-- The conditions of the correlated sum (R246): SUM_EN, and the best ranked IN source is an FM full lane. -/
def sumBest (s : State) (n : Nat) : Option Nat :=
  if !(s.flag (Fld.PGM.BLEND.SUM_EN n)) then none
  else match bestOf s n (insOf s n) with
    | some k => if srcKind s n k = 1 then some k else none
    | none => none

/-- SUM_ENTER (R246). -/
def sumEnter (n : Nat) (s : State) : State :=
  match sumBest s n with
  | none => s
  | some b =>
    let set := (insOf s n).filter (fun k => k != b && srcKind s n k == 1 && decide (200 ≤ (s.src n k).corrRun))
    if set.isEmpty then s
    else
      -- the lane that sounds has all the weight at first, and one selected outside the set fades out
      let sel := s.get (Fld.PGM.STAT.SELECTED n)
      let stays := (b :: set).contains sel && s.get (Fld.PGM.STAT.MODE_NOW n) != 0
      let start (k : Nat) : List Nat := List.replicate 8 (if k = (if stays then sel else b) then 1000000 else 0)
      let t := forEach (b :: set) (fun k u => if u.flag (Fld.PGM.SRC_STAT.IN_SUM n k) then u
        else (u.put (Fld.PGM.SRC_STAT.IN_SUM n k) true).setSrc n k (fun x => { x with weights := start k })) s
      let t1 := if s.get (Fld.PGM.STAT.MODE_NOW n) = 1 && !stays then t.setSlot n (fun x => { x with fade := some (sel, s.epoch + 150, 150) }) else t
      sumAfter n 150 (t1.set (Fld.PGM.STAT.MODE_NOW n) 2)

/-- SUM_ENTER (R246). -/
def execSumEnter (n : Fin 4) (s : State) : Host.Outcome State Fault Refusal :=
  commit s (if onBoundary s then sumEnter n.val s else s)

/-- SUM_LEAVE (R246). -/
def execSumLeave (n k : Fin 4) (s : State) : Host.Outcome State Fault Refusal :=
  commit s (if onBoundary s && (((s.src n.val k.val).bandLow.any (fun b => decide (20 ≤ b)) && sumBest s n.val != some k.val) || srcState s n.val k.val != srcIn
      || (sumBest s n.val).isNone) then leaveSum n.val k.val 150 s else s)

/-- MUTE_RAMP_DONE (R247). -/
def muteRampDone (n : Nat) (s : State) : State :=
  match (s.slot n).ramp with
  | .down e =>
    if s.epoch < e then s
    else
      let t := raise (Ev.PGM.MUTE n) ((s.put (Fld.PGM.STAT.MUTED n) true).setSlot n (fun x => { x with ramp := .none }))
      if (insOf t n).isEmpty then t.set (Fld.PGM.STAT.MODE_NOW n) 0 else t
  | _ => s

/-- MUTE_RAMP_DONE (R247). -/
def execMuteRampDone (n : Fin 4) (s : State) : Host.Outcome State Fault Refusal := commit s (muteRampDone n.val s)

end Sys2Proof.Machine
end

