-- ==== Sys2Proof/Machine/Samples.lean ====
section
/-!
DEFINITION. The samples of the paths (chapter 4): front sections, banks, down-converters and survey transforms, over the converter codes
that an epoch brings. Filters whose coefficients the manual does not give take them from `Config` (log entry 117).
-/

namespace Sys2Proof.Machine

open Sys2Proof

/-! ## Word lengths and words (R84, R85) -/

/-- `num / den` to the nearest integer, an exact half to the even one (R84). -/
def roundEven (num : Int) (den : Nat) : Int :=
  let q := num / den
  let r := num % den
  if 2 * r < den then q else if den < 2 * r then q + 1 else if q % 2 = 0 then q else q + 1

/-- A value in a word of `w` bits, and 1 where it saturated (R84). -/
def narrow (w : Nat) (x : Int) : Int × Nat :=
  let y := clampInt (-(2 ^ (w - 1))) (2 ^ (w - 1) - 1) x
  (y, if x = y then 0 else 1)

/-- A pair of values in words of `w` bits, and how many saturated. -/
def narrowPair (w : Nat) (x : Sample) : Sample × Nat := (((narrow w x.1).1, (narrow w x.2).1), (narrow w x.1).2 + (narrow w x.2).2)

/-- The 64-bit word of a complex sample or an audio frame in Q1.31 (R85). -/
def sampleWord (x : Sample) : BitVec 64 := BitVec.ofInt 32 x.1 ++ BitVec.ofInt 32 x.2

/-- The sample that a word holds. -/
def wordSample (w : BitVec 64) : Sample := ((w.extractLsb' 32 32).toInt, (w.extractLsb' 0 32).toInt)

/-- The words of the LF path stream: two consecutive samples each, the earlier in [63:32] (R85); newest first. -/
def packReal : List Int → List (BitVec 64)
  | b :: a :: t => sampleWord (256 * a, 256 * b) :: packReal t
  | _ => []

/-! ## Filters that decimate -/

/-- A stage of a chain over some samples: its latest inputs, its outputs, and its saturations. -/
structure Stage where
  hist : List Sample
  out : List Sample := []
  sats : Nat := 0

/-- One sample enters a stage that keeps `keep` inputs and answers on every `d`-th of the epoch's samples (R86). -/
def stageTake (keep d : Nat) (f : Nat → List Sample → Sample × Nat) (r : Stage) (x : Sample × Nat) : Stage :=
  let h := (x.1 :: r.hist).take keep
  if x.2 % d = 0 then
    let y := f x.2 h
    { hist := h, out := y.1 :: r.out, sats := r.sats + y.2 }
  else { r with hist := h }

/-- A stage over the samples of an epoch, newest first. -/
def stage (keep d : Nat) (f : Nat → List Sample → Sample × Nat) (hist xs : List Sample) : Stage :=
  xs.reverse.zipIdx.foldl (stageTake keep d f) { hist := hist }

/-- The sum of an FIR over its latest inputs. -/
def firSum (filter : Nat) (h : List Sample) : Sample :=
  let s (v : Sample → Int) : Int := (h.zipIdx.map (fun x => (Config.tap filter x.2).toInt * v x.1)).sum
  (s (fun x => x.1), s (fun x => x.2))

/-- An FIR whose output has `w` bits. -/
def fir (filter w : Nat) (_ : Nat) (h : List Sample) : Sample × Nat :=
  let y := firSum filter h
  narrowPair w (roundEven y.1 (2 ^ 17), roundEven y.2 (2 ^ 17))

/-- Numbers of the FIRs in `Config.tap`: bank prototypes of LF and FM, half-bands, and the compensating FIR of B3 (R81, R87). -/
def lfPrototype : Nat := 0
def fmPrototype : Nat := 1
def frontHalfBand : Nat := 2
def laneHalfBand1 : Nat := 3
def laneHalfBand2 : Nat := 4
def b3HalfBand : Nat := 5
def b3Compensator : Nat := 6

/-! ## Front section (R81 to R83) -/

/-- A converter code behind the offset trim and the gain normaliser, Q1.23 (R81). -/
def normalise (m sh : Nat) (trim code : Int) : Int × Nat := narrow 24 (roundEven ((16 * code - trim) * m) (2 ^ (9 + sh)))

/-- The median of 17 values. -/
def median17 (l : List Int) : Int := (sortBy (fun a b => decide (a ≤ b)) l).getD 8 0

/-- A sample departs from the median by more than K × σ (R82). -/
def RankRule.departs (r : RankRule) (x m : Int) : Bool :=
  !r.off && decide (r.k ^ 2 * r.power < 64 * r.count * (x - m).natAbs ^ 2)

/-- COEX_ACT at a tick of the present epoch (R48). -/
def actAt (s : State) (tick : Nat) : Bool :=
  match s.aux.actEdges.find? (fun e => decide (e.1 % epochTicks ≤ tick)) with
  | some e => e.2
  | none => s.aux.actFirst

/-- The K that holds at a tick for a path, in eighths: the aggressor's while COEX_ACT is asserted and the path is selected (R50, R82). -/
def rankK (s : State) (p : Path) (tick : Nat) : Nat :=
  let aggr := actAt s tick && (s.get Fld.COX.CTRL.ACT_PATHS).testBit p.idx
  max 8 (if aggr then s.get (Fld.CH.RANK_CFG.K_AGGR p.idx) else s.get (Fld.CH.RANK_CFG.K_NORM p.idx))

/-- What a front section makes of an epoch so far: the latest normalised samples, the filter's outputs, replacements and saturations. -/
structure FrontRun where
  recent : List Int
  out : List Sample := []
  power : Nat := 0
  spikes : Nat := 0
  sats : Nat := 0

/-- One converter code of index `i` enters a front section: the filter answers for the sample 8 ticks earlier, which on a blanked boundary is
replaced at ticks 0 to 7 by interpolation between those at −1 and 8 (R81 to R83). -/
def frontTake (norm : Int → Int × Nat) (blank : Bool) (before now : RankRule) (k : Nat → Nat) (r : FrontRun) (x : Int × Nat) : FrontRun :=
  let y := norm x.1
  let w := (y.1 :: r.recent ++ List.replicate 17 0).take 17
  let c := w.getD 8 0
  let m := median17 w
  let i := x.2
  let rule := if i < 8 then before else { now with k := k (i - 8) }
  let blanked := blank && decide (8 ≤ i) && decide (i < 16)
  let spike := !blanked && rule.departs c m
  let v := if blanked then roundEven (w.getD (i + 1) 0 * (16 - i : Nat) + w.getD (i - 8) 0 * (i - 7 : Nat)) 9 else if spike then m else c
  { recent := w.take 16, out := (v, 0) :: r.out, power := r.power + y.1.natAbs ^ 2, spikes := r.spikes + spike.toNat, sats := r.sats + y.2 }

/-- The front section of one ADC over the codes of an epoch: the ADC after it, its share of the path stream, replacements and saturations
(R81). -/
def frontEpoch (s : State) (p : Path) (trim : Int) (codes : List Int) (a : Adc) : Adc × List Int × Nat × Nat :=
  let norm := normalise (s.get (Fld.CH.NORM.M p.idx)) (s.get (Fld.CH.NORM.S p.idx)) trim
  let now : RankRule := { power := a.power, count := a.count, off := s.flag (Fld.CH.RANK_CFG.THR_OFF p.idx) }
  let r := codes.zipIdx.foldl (frontTake norm (s.hdr p).blank a.rule now (rankK s p)) { recent := a.recent }
  let d := stage 47 2 (fir frontHalfBand 24) a.inputs r.out
  ({ recent := r.recent, rule := { now with k := rankK s p (epochTicks - 1) }, power := r.power, count := codes.length, inputs := d.hist },
    d.out.map (fun x => x.1), r.spikes, r.sats + d.sats)

/-- The path stream of the last epoch as samples in Q1.31. -/
def pathSamples (p : Path) (d : PathDsp) : List Sample :=
  if p == .lf then d.stream.flatMap (fun w => [((wordSample w).2, 0), ((wordSample w).1, 0)]) else d.stream.map wordSample

/-- A path over the converter codes of an epoch. -/
def pathDsp (s : State) (p : Path) (adc : List (Int × Int)) (d : PathDsp) : PathDsp :=
  let a := frontEpoch s p (s.geti (Fld.CH.OFFSET.TRIM_I p.idx)) (adc.map (fun x => x.1)) d.i
  if p == .lf then { i := a.1, q := d.q, spikes := a.2.2.1, sats := a.2.2.2, stream := packReal a.2.1 }
  else
    let b := frontEpoch s p (s.geti (Fld.CH.OFFSET.TRIM_Q p.idx)) (adc.map (fun x => x.2)) d.q
    { i := a.1, q := b.1, spikes := a.2.2.1 + b.2.2.1, sats := a.2.2.2 + b.2.2.2
      stream := (a.2.1.zip b.2.1).map (fun x => sampleWord (256 * x.1, 256 * x.2)) }

/-! ## Banks and down-converters (R87 to R89) -/

/-- Channel `k` of a bank of `n` channels at input `t`, Q1.31 (R87). -/
def bankOut (filter n k t : Nat) (h : List Sample) : Sample × Nat :=
  let turn (j : Nat) : Nat := k * ((t + n * h.length - j) % n) % n
  let c (j : Nat) : Int := cosFix (turn j) n
  let q (j : Nat) : Int := cosFix (4 * turn j + n) (4 * n)
  let s (v : Sample → Nat → Int) : Int := (h.zipIdx.map (fun x => (Config.tap filter x.2).toInt * v x.1 x.2)).sum
  narrowPair 32 (roundEven (s (fun x j => x.1 * c j - x.2 * q j)) (2 ^ 97), roundEven (s (fun x j => x.1 * q j + x.2 * c j)) (2 ^ 97))

/-- The sine table at a phase of 32 bits. -/
def sineAt (phase : Nat) : Int := (Config.sine (BitVec.ofNat 32 phase)).toInt

/-- The cosine, a quarter turn ahead. -/
def cosineAt (phase : Nat) : Int := sineAt (phase + 2 ^ 30)

/-- A sample turned by a phase, in words of 32 bits. -/
def turned (phase : Nat) (x : Sample) : Sample × Nat :=
  let c := cosineAt phase
  let q := sineAt phase
  narrowPair 32 (roundEven (x.1 * c - x.2 * q) (2 ^ 17), roundEven (x.1 * q + x.2 * c) (2 ^ 17))

/-- The NCO over the samples of an epoch, newest first (R88): its phase after them, the mixed samples and the saturations. The accumulator
keeps its phase over a change of the word (R89). -/
def mix (w phase : Nat) (xs : List Sample) : Nat × List Sample × Nat :=
  xs.reverse.foldl (fun r x =>
    let y := turned r.1 x
    ((r.1 + w) % 2 ^ 32, y.1 :: r.2.1, r.2.2 + y.2)) (phase, [], 0)

/-- The product of two polynomials with natural coefficients. -/
def polyMul (a b : List Nat) : List Nat :=
  (List.range (a.length + b.length - 1)).map (fun k => ((List.range (k + 1)).map (fun i => a.getD i 0 * b.getD (k - i) 0)).sum)

/-- The response of the 5-stage CIC that decimates by 10 (R87). -/
def cicTaps : List Nat := (List.range 4).foldl (fun p _ => polyMul p (List.replicate 10 1)) (List.replicate 10 1)

/-- The CIC: exact in its 49-bit registers, its gain of 10⁵ removed (R87). -/
def cic (_ : Nat) (h : List Sample) : Sample × Nat :=
  let s (v : Sample → Int) : Int := ((cicTaps.zip h).map (fun x => (x.1 : Int) * v x.2)).sum
  narrowPair 32 (roundEven (s (fun x => x.1)) (10 ^ 5), roundEven (s (fun x => x.2)) (10 ^ 5))

/-- A chain behind its NCO's input: NCO, and the stages of the path for a lane (R87). -/
def chainStages (p : Path) (drm : Bool) (w : Nat) (xs : List Sample) (sats : Nat) (c : Chain) : Chain × Nat :=
  let m := mix w c.phase xs
  match p with
  | .b3 =>
    let a := stage cicTaps.length 10 cic c.first m.2.1
    let b := stage 47 2 (fir b3HalfBand 32) c.second a.out
    let d := stage 63 2 (fir b3Compensator 32) c.third b.out
    ({ c with phase := m.1, first := a.hist, second := b.hist, third := d.hist, stream := d.out.map sampleWord },
      sats + m.2.2 + a.sats + b.sats + d.sats)
  | _ =>
    let a := stage 47 2 (fir laneHalfBand1 32) c.first m.2.1
    if (p == .lf) == drm then
      ({ c with phase := m.1, first := a.hist, stream := a.out.map sampleWord }, sats + m.2.2 + a.sats)
    else
      let b := stage 47 2 (fir laneHalfBand2 32) c.second a.out
      ({ c with phase := m.1, first := a.hist, second := b.hist, stream := b.out.map sampleWord }, sats + m.2.2 + a.sats + b.sats)

/-- A chain over the path's samples of an epoch, behind those of the epochs before: the bank output of channel `k` or, on B3, the path stream
itself (R87). -/
def chainEpoch (p : Path) (drm : Bool) (k w : Nat) (past xs : List Sample) (c : Chain) : Chain × Nat :=
  match p with
  | .lf => let b := stage 8192 512 (bankOut lfPrototype 1024 k) past xs
    chainStages p drm w b.out b.sats c
  | .fm => let b := stage 1024 64 (bankOut fmPrototype 256 k) past xs
    chainStages p drm w b.out b.sats c
  | .b3 => chainStages p drm w xs 0 c

/-- Whether record `k` serves a DRM engine: its lane, or the lane of its sprout (R99). -/
def ddcIsDrm (s : State) (p : Path) (k : Nat) : Bool :=
  let l := if ddcUse s p k == 2 then (s.sprout (s.get (Fld.CH.DDC_W1.SPROUT p.idx k))).lane else s.get (Fld.CH.DDC_W1.LANE p.idx k)
  laneClass l == .drm

/-- The chain of a record; one that the record has not had starts at phase 0. -/
def chainOf (s : State) (p : Path) (k : Nat) : Chain :=
  (s.dsp.chains.find? (fun c => c.path == p.idx && c.ddc == k)).getD { path := p.idx, ddc := k }

/-- The chains of a path's records in use over an epoch, and their saturations. -/
def chainsEpoch (s : State) (p : Path) (past xs : List Sample) : List (Chain × Nat) :=
  ((List.range (ddcTotal p)).filter (fun k => ddcUse s p k != 0)).map (fun k =>
    chainEpoch p (ddcIsDrm s p k) (s.get ⟨Reg.CH.DDC_W1 p.idx k, 15, 10⟩) (s.get (Fld.CH.DDC_W0.NCO p.idx k)) past xs (chainOf s p k))

/-! ## Survey transforms (R91) -/

/-- Transforms of an epoch, and the ticks between their first samples (R91). -/
def transforms : Path → Nat
  | .lf => 4
  | _ => 9

def transformStep (p : Path) : Nat := fftSize p

/-- The ticks of the samples of transform `j`: usable unless one of them lies in a GAP (R91). -/
def transformUsable (p : Path) (gap : Option (Nat × Nat)) (j : Nat) : Bool :=
  match gap with
  | some g => decide (g.2 < transformStep p * j) || decide (transformStep p * j + 2 * fftSize p - 2 < g.1)
  | none => true

/-- Power of bin `b` of a Hann-windowed transform of samples in Q1.23, oldest first, in units of 2⁻⁴⁶ of a sine at 1.0 (R93). -/
def binPower (p : Path) (xs : List Sample) (b : Nat) : Nat :=
  let n := fftSize p
  let hann (i : Nat) : Int := 2 ^ 80 - cosFix i n
  let c (i : Nat) : Int := cosFix (b * i) n
  let q (i : Nat) : Int := cosFix (4 * (b * i % n) + n) (4 * n)
  let re := (xs.zipIdx.map (fun x => hann x.2 * (x.1.1 * c x.2 - x.1.2 * q x.2))).sum
  let im := (xs.zipIdx.map (fun x => hann x.2 * (x.1.1 * q x.2 + x.1.2 * c x.2))).sum
  (roundEven ((re ^ 2 + im ^ 2) * (if p == .lf then 32 else 8)) (3 * n ^ 2 * 2 ^ 322)).toNat

/-- The bins of the usable transforms of an epoch's samples. -/
def epochBins (p : Path) (gap : Option (Nat × Nat)) (xs : List Sample) : List (Nat × Nat) :=
  let old := xs.reverse.map (fun x => (x.1 / 256, x.2 / 256))
  let windows := ((List.range (transforms p)).filter (transformUsable p gap)).map (fun j => (old.drop (fftSize p / 2 * j)).take (fftSize p))
  (List.range (fftSize p)).map (fun b => (b, (windows.map (fun w => binPower p w b)).sum))

/-- What the survey engine of a path gathered in the epoch just ended: nothing in TEST or while the path is off (R91). -/
def surveyEpoch (p : Path) (o : PathObs) (xs : List Sample) (s : State) : State :=
  let gap := (s.hdr p).gap
  let usable := if modeNow s p == 2 || !(pathOn s p) then 0 else ((List.range (transforms p)).filter (transformUsable p gap)).length
  let e : SurveyEpoch := { lo := loHz s p, tile := tileNow s p, usable := usable,
                           bins := if usable = 0 then [] else if xs.isEmpty then o.bins else epochBins p gap xs }
  { s with dsp := { s.dsp with surveys := upd s.dsp.surveys p.idx (fun l => (e :: l).take 40) } }

/-! ## The epoch -/

/-- The samples of a path over the epoch just ended (R81 to R91). -/
def sampleEpoch (p : Path) (o : PathObs) (s : State) : State :=
  if o.adc.isEmpty || !(pathOn s p) then
    surveyEpoch p o [] { s with dsp := { s.dsp with paths := upd s.dsp.paths p.idx (fun d => { d with spikes := 0, sats := 0 }) } }
  else
    let old := at' s.dsp.paths p.idx {}
    let new := pathDsp s p o.adc old
    let xs := pathSamples p new
    let past := (pathSamples p old).take 8192
    let cs := chainsEpoch s p past xs
    let d := { new with sats := new.sats + (cs.map (fun c => c.2)).sum }
    let others := s.dsp.chains.filter (fun c => c.path != p.idx)
    surveyEpoch p o xs { s with dsp := { s.dsp with
      paths := upd s.dsp.paths p.idx (fun _ => d), chains := others ++ cs.map (fun c => c.1) } }

/-- The lane stream of lane `l` over the epoch just ended, newest first; empty where no samples came. -/
def laneStream (s : State) (l : Nat) : List Sample :=
  let p := (s.lane l).path
  match ddcOf s p l with
  | some k => ((chainOf s p k).stream).map wordSample
  | none => []

end Sys2Proof.Machine
end

