-- ==== Sys2Proof/Machine/Audio.lean ====
section
/-!
DEFINITION. Audio, where samples or decoded audio are brought: the FM and AM demodulators (R139 to R143, R165 to R168), concealment
(R143, R184, R209), and the programme combiner's lines, contours and output (R227, R236 to R247). Filters that the manual does not give
stand in `Config` (log entry 117).
-/

namespace Sys2Proof.Machine

open Sys2Proof

/-! ## Shared operations -/

/-- Numbers of the filters in `Config.shaped`: MPX, the 15 kHz low-pass, the FM rate change (by phase), the carrier level of AM, the contour's
300 Hz–3 kHz band, time-scale modification, the ports' converter, the sub-bands of R246, the AM channel filter by BW, its sideband filters, and the AM audio
filter with the rate change (by BW and phase). -/
def mpxFilter : Nat := 0
def audioFilter : Nat := 1
def fmRate (phase : Nat) : Nat := 10 + phase
def carrierFilter : Nat := 20
def contourFilter : Nat := 21
def stretchFilter : Nat := 22
def converterFilter : Nat := 23
def subBand (b : Nat) : Nat := 30 + b
def amChannel (bw : Nat) : Nat := 1000 + bw
def amUpper (bw : Nat) : Nat := 2000 + bw
def amLower (bw : Nat) : Nat := 3000 + bw
def amAudio (bw phase : Nat) : Nat := 4000 + 8 * bw + phase

/-- A value limited to Q1.31. -/
def q31 (x : Int) : Int := (narrow 32 x).1

/-- Both values of a pair changed. -/
def both (f : Int → Int) (x : Sample) : Sample := (f x.1, f x.2)

/-- A filter over the left and the right values of some frames. -/
def shapedPair (filter : Nat) (l : List Sample) : Sample :=
  (q31 (Config.shaped filter (l.map (fun x => x.1))), q31 (Config.shaped filter (l.map (fun x => x.2))))

/-- The sample-rate converter of the ports over two windows (R260). -/
def shapedConverter (l r : List Int) : Sample := (q31 (Config.shaped converterFilter l), q31 (Config.shaped converterFilter r))

/-- 2⁸⁰ times the raised-cosine weight `i` of `n` steps into a crossfade. -/
def fadeWeight (i n : Nat) : Int := if n ≤ i then 2 ^ 80 else (2 ^ 80 - cosFix i (2 * n)) / 2

/-- A frame `w`/2⁸⁰ of the way from `a` to `b`. -/
def crossfade (w : Int) (a b : Sample) : Sample :=
  (roundEven (w * b.1 + (2 ^ 80 - w) * a.1) (2 ^ 80), roundEven (w * b.2 + (2 ^ 80 - w) * a.2) (2 ^ 80))

/-- The angle of a point in units of π/2³¹, found bit by bit in the upper half-plane. -/
def angleOf (x y : Int) : Int :=
  let n := 2 ^ 33
  let v := y.natAbs
  let ahead (m : Nat) : Bool := decide (0 ≤ v * cosFix m n + x * cosFix (4 * m + n) (4 * n))
  let m := (List.range 33).reverse.foldl (fun m b => if m + 2 ^ b ≤ 2 ^ 32 ∧ ahead (m + 2 ^ b) then m + 2 ^ b else m) 0
  let a := ((m + 1) / 2 : Nat)
  if x = 0 ∧ y = 0 then 0 else if 0 ≤ y then a else -(a : Int)

/-- The magnitude of a sample. -/
def magnitude (x : Sample) : Nat := Nat.sqrt (x.1.natAbs ^ 2 + x.2.natAbs ^ 2)

/-- Audio frames of an epoch (R227), and ticks of each in 1/3 (R16). -/
def epochFrames : Nat := 48

/-- The marks of an epoch's frames: those that derive from samples inside a GAP or from the 0.5 ms behind one are concealed (R143). -/
def gapMarks (gap last : Option (Nat × Nat)) : List FrameMark :=
  (List.range epochFrames).map (fun j =>
    let first := j * epochTicks / epochFrames
    let next := (j + 1) * epochTicks / epochFrames
    let inNow : Bool := match gap with | some g => decide (g.1 < next) && decide (first ≤ g.2 + concealTail) | none => false
    let inLast : Bool := match last with | some g => decide (first + epochTicks ≤ g.2 + concealTail) | none => false
    if inNow || inLast then .conceal else .good)

/-! ## FM full lanes (R139 to R142) -/

/-- One step of the discriminator (R139): the phase difference of consecutive samples, 1.0 for 320 kHz. -/
def discriminate (a b : Sample) : Int := q31 (angleOf (b.1 * a.1 + b.2 * a.2) (b.2 * a.1 - b.1 * a.2))

/-- The pilot loop's free-running word at 320 kS/s, 19 kHz (R139). -/
def pilotWord : Nat := 255013683

/-- The pole of the de-emphasis at 320 kS/s, times 2³²: e^(−1/16) for 50 µs, e^(−1/24) for 75 µs (R140; DESIGN CHOICE, log entry 117). -/
def deemphPole (us75 : Bool) : Int := if us75 then 4119687349 else 4034748382

/-- One step of the de-emphasis. -/
def deemphasise (pole x y : Int) : Int := x + roundEven ((y - x) * pole) (2 ^ 32)

/-- The high cut: a second-order low-pass of gain 1 at 0 Hz (R142). -/
def highCut (corner : Nat) (x y : List Int) : Int :=
  let a := Config.highCut corner
  q31 (roundEven ((2 ^ 30 + a.1 + a.2) * (x.getD 0 0 + 2 * x.getD 1 0 + x.getD 2 0) - 4 * a.1 * y.getD 0 0 - 4 * a.2 * y.getD 1 0) (2 ^ 32))

/-- What an FM lane's chapter fixes for an epoch: the de-emphasis, g in per cent, the corner of the high cut in 100 Hz, and the GAP. -/
structure FmSetting where
  pole : Int
  sep : Nat
  corner : Nat
  gap : Option (Nat × Nat)

/-- One sample at 320 kS/s, index `p` (R139, R141, R142): pilot loop, M and S with 1.0 for 150 kHz, de-emphasis, blend and high cut. In
a GAP the loop holds its frequency (R143). -/
def fmAudioStep (c : FmSetting) (p : Nat) (d : FmDemod) : FmDemod :=
  let y := q31 (Config.shaped mpxFilter d.disc)
  let held := match c.gap with | some g => decide (g.1 ≤ 512 * p) && decide (512 * p ≤ g.2) | none => false
  let corr := if held then d.corr else Config.loopStep 0 d.corr (roundEven (y * cosineAt d.phase) (2 ^ 17))
  let mpx := (y :: d.mpx).take 1024
  let side := (q31 (roundEven (2 * y * sineAt (2 * d.phase)) (2 ^ 17)) :: d.side).take 1024
  let level (l : List Int) : Int := q31 (roundEven (32 * Config.shaped audioFilter l) 15)
  let m := deemphasise c.pole (level mpx) d.deM
  let sd := deemphasise c.pole (level side) d.deS
  let f : Sample := both q31 (roundEven (100 * m + c.sep * sd) 100, roundEven (100 * m - c.sep * sd) 100)
  let ins := (f :: d.cutIn).take 3
  let cut : Sample := if 150 ≤ c.corner then f else
    (highCut c.corner (ins.map (fun x => x.1)) (d.cutOut.map (fun x => x.1)), highCut c.corner (ins.map (fun x => x.2)) (d.cutOut.map (fun x => x.2)))
  { d with mpx := mpx, side := side, phase := ((d.phase + pilotWord : Int) + corr).toNat % 2 ^ 32, corr := corr, deM := m, deS := sd,
           cutIn := ins, cutOut := (cut :: d.cutOut).take 2, audio := (cut :: d.audio).take 1024 }

/-- The rate change 3/20 (R139): the frame that falls at index `p` of the 320 kS/s, if one does. -/
def fmFrame (p : Nat) (l : List Sample) : List Sample :=
  let j := (3 * p + 19) / 20
  if 20 * j < 3 * p + 3 then [shapedPair (fmRate (20 * j - 3 * p)) l] else []

/-- One sample of the lane stream, index `i` at 640 kS/s (R139). -/
def fmTake (c : FmSetting) (r : FmDemod × List Sample) (x : Sample × Nat) : FmDemod × List Sample :=
  let d := { r.1 with prev := x.1, disc := (discriminate r.1.prev x.1 :: r.1.disc).take 64 }
  if x.2 % 2 = 1 then (d, r.2)
  else
    let t := fmAudioStep c (x.2 / 2) d
    (t, fmFrame (x.2 / 2) t.audio ++ r.2)

/-- The FM demodulator over an epoch's lane stream, newest first: its frames, newest first (R139). -/
def fmDemodulate (c : FmSetting) (xs : List Sample) (d : FmDemod) : FmDemod × List Sample := xs.reverse.zipIdx.foldl (fmTake c) (d, [])

/-! ## AM full lanes (R165 to R167) -/

/-- One sample meets the blanker (R167): whether it is replaced, and the run left. `loud` says that its magnitude is past the threshold. -/
def blankTake (len : Nat) (loud : Sample → Bool) (r : Nat × Nat × List (Sample × Bool)) (x : Sample) : Nat × Nat × List (Sample × Bool) :=
  if r.1 ≠ 0 then (r.1 - 1, r.2.1, (x, true) :: r.2.2)
  else if loud x then (len - 1, r.2.1 + 1, (x, true) :: r.2.2)
  else (0, r.2.1, (x, false) :: r.2.2)

/-- Sample `i` of a list, oldest first, with the replaced ones interpolated between their neighbours (R167). -/
def unblank (l : List (Sample × Bool)) (i : Nat) : Sample :=
  let at_ (j : Nat) : Sample × Bool := l.getD j ((0, 0), false)
  if !(at_ i).2 then (at_ i).1
  else
    let a := (highest i (fun j => !(at_ j).2))
    let b := (List.range l.length).find? (fun j => decide (i < j) && !(at_ j).2)
    match a, b with
    | some a, some b =>
      let x := (at_ a).1
      let y := (at_ b).1
      (roundEven (x.1 * (b - i : Nat) + y.1 * (i - a : Nat)) (b - a), roundEven (x.2 * (b - i : Nat) + y.2 * (i - a : Nat)) (b - a))
    | some a, none => (at_ a).1
    | none, some b => (at_ b).1
    | none, none => (0, 0)

/-- A sample turned back by the carrier loop's phase. -/
def derotated (x : Sample × Nat) : Sample := (turned (2 ^ 32 - x.2 % 2 ^ 32) x.1).1

/-- The carrier loop takes a sample (R165); in a GAP it holds. -/
def carrierTake (held : Bool) (d : AmDemod) (x : Sample) : AmDemod :=
  let corr := if held then d.corr else Config.loopStep 1 d.corr (derotated (x, d.phase)).2
  { d with clean := ((x, d.phase) :: d.clean).take 2048, corr := corr, phase := ((d.phase : Int) + corr).toNat % 2 ^ 32 }

/-- The detector's output behind the level control, carrier at half of full scale (R165, R166), for detection `mode` (0 envelope, 1 both
sidebands, 2 upper, 3 lower) and BW. -/
def amDetect (mode bw : Nat) (w : List (Sample × Nat)) : Int :=
  let raw := w.map (fun x => x.1)
  let rot := w.map derotated
  let inChannel (f : Sample → Int) (l : List Sample) : Int := Config.shaped (amChannel bw) (l.map f)
  let flat := rot.flatMap (fun x => [x.1, x.2])
  let det : Int := match mode with
    | 0 => magnitude (inChannel (fun x => x.1) raw, inChannel (fun x => x.2) raw)
    | 1 => inChannel (fun x => x.1) rot
    | 2 => Config.shaped (amUpper bw) flat
    | _ => Config.shaped (amLower bw) flat
  let carrier := max 1 (Config.shaped carrierFilter (raw.map (fun x => (magnitude x : Int)))).natAbs
  roundEven (det * 2 ^ 30) carrier

/-- An audio frame of an AM lane behind the audio filter and the rate change, the same on both channels (R165); `phase` of the ratio 6/5. -/
def amFrame (m : Nat × Nat) (phase : Nat) (w : List (Sample × Nat)) : Sample :=
  let v := q31 (Config.shaped (amAudio m.2 phase) ((List.range 256).map (fun n => amDetect m.1 m.2 (w.drop n))))
  (v, v)

/-- The detection that an AM lane's DET, BW and loop call for (R165). -/
def amMode (s : State) (n : Nat) : Nat × Nat :=
  let a := s.amLane n
  let lock := s.flag (Fld.AMF.STAT.LOCK n)
  ((match a.det with
    | 1 => 0
    | 2 => lock.toNat
    | 3 => if lock then 2 else 0
    | 4 => if lock then 3 else 0
    | _ => lock.toNat), a.bw)

/-- The AM demodulator over an epoch's lane stream, newest first: the frames, newest first, of the epoch before it, which the blanker then
knows to both sides (R165, R167). A change of detection crossfades over 2 ms. -/
def amDemodulate (s : State) (n : Nat) (xs : List Sample) (d : AmDemod) : AmDemod × List Sample :=
  let total := (d.sums.map (fun x => x.1)).sum
  let count := (d.sums.map (fun x => x.2)).sum
  let thr := max 8 (s.get (Fld.AMF.NB_CFG.THR n))
  let len := max 1 (s.get (Fld.AMF.NB_CFG.LEN n))
  let on := s.flag (Fld.AMF.CTRL.NB_EN n)
  let loud (x : Sample) : Bool := on && decide (count ≠ 0) && decide (thr * total < 4 * count * magnitude x)
  let b := xs.reverse.foldl (blankTake len loud) (d.run, 0, [])
  let acts := !(s.flag (Fld.AMF.STAT.NB_SAT n))
  let new := b.2.2.reverse.map (fun x => (x.1, x.2 && acts))
  let all := d.last ++ new
  let old := d.last.length
  let held := lastLaneGap s (8 + n)
  let mode := amMode s n
  let turn := mode != d.now
  let e : AmDemod := { d with now := mode, before := if turn then d.now else d.before, changed := if turn then s.epoch - 1 else d.changed }
  let frames (r : AmDemod × List Sample) (i : Nat) : AmDemod × List Sample :=
    let t := carrierTake (held.isSome && decide ((held.getD (0, 0)).1 ≤ 4096 * i) && decide (4096 * i ≤ (held.getD (0, 0)).2)) r.1 (unblank all (old - 40 + i))
    let js := (List.range epochFrames).filter (fun j => 5 * j / 6 == i)
    (t, (js.reverse.map (fun j =>
      let block := s.epoch - 2
      let fresh := amFrame e.now (5 * j % 6) t.clean
      if block < e.changed then amFrame e.before (5 * j % 6) t.clean
      else if block < e.changed + 2 then
        crossfade (fadeWeight ((block - e.changed) * epochFrames + j) 96) (amFrame e.before (5 * j % 6) t.clean) fresh
      else fresh)) ++ r.2)
  let r := if old < 40 then (e, []) else (List.range 40).foldl frames (e, [])
  let blanked := (b.2.2.filter (fun x => x.2)).length
  ({ r.1 with
      last := all.drop (all.length - 80), run := b.1, sums := ((((xs.map magnitude).sum), xs.length) :: d.sums).take 16
      marks := gapMarks (laneGap s (8 + n)) (lastLaneGap s (8 + n)), fed := true, blanks := b.2.1, blanked := blanked
      excess := decide (xs.length < 5 * blanked) }, r.2)

/-! ## Concealment (R143, R184, R209) -/

/-- The feed of a lane, selection or pair. -/
def feedOf (s : State) (lane sel : Nat) : Option Feed := s.dsp.feeds.find? (fun f => f.lane == lane && f.sel == sel)

/-- The distance to the nearest frame among `l` that is not good, within `n`, and whether that one is to be zero. -/
def nearMark (n : Nat) (l : List (Sample × FrameMark)) : Option (Nat × Bool) :=
  ((l.take n).zipIdx.find? (fun x => x.1.2 != .good)).map (fun x => (x.2, x.1.2 == .zero))

/-- Frames by which the repeated audio lies back: 5 ms (DESIGN CHOICE, log entry 118). -/
def repeatFrames : Nat := 240

/-- One frame leaves a feed: `behind` and `ahead` are the frames around it, nearest first, `lead` and `trail` the lengths of the crossfades.
A frame to be concealed repeats the audio that precedes it (R143, R184). -/
def concealFrame (lead trail : Nat) (behind ahead : List (Sample × FrameMark)) (out : List Sample) (x : Sample × FrameMark) : Sample :=
  let rep := out.getD (repeatFrames - 1) (0, 0)
  let fade (m : Option (Nat × Bool)) (n : Nat) : Int := match m with | some v => fadeWeight (v.1 + 1) n | none => 2 ^ 80
  let pre := nearMark trail behind
  let post := nearMark lead ahead
  let silent : Bool := match pre, post with | some v, _ => v.2 | none, some v => v.2 | none, none => false
  match x.2 with
  | .zero => (0, 0)
  | .conceal => rep
  | .good => crossfade (min (fade pre trail) (fade post lead)) (if silent then (0, 0) else rep) x.1

/-- A feed takes a block of frames, newest first, and the block `ahead` blocks before it leaves. -/
def feedBlock (ahead lead trail : Nat) (b : List (Sample × FrameMark)) (f : Feed) : Feed :=
  let blocks := (b :: f.blocks).take (ahead + 6)
  let newer := (blocks.take ahead).flatten
  let older := (blocks.drop (ahead + 1)).flatten
  let mid := blocks.getD ahead []
  let step (r : List Sample × List Bool) (i : Nat) : List Sample × List Bool :=
    let x := mid.getD (mid.length - 1 - i) ((0, 0), .good)
    (concealFrame lead trail (mid.drop (mid.length - i) ++ older) ((mid.take (mid.length - 1 - i)).reverse ++ newer.reverse) r.1 x :: r.1,
      (x.2 != .good) :: r.2)
  let r := (List.range mid.length).foldl step (f.out.map wordSample, f.marks)
  { f with blocks := blocks, out := (r.1.take 384).map sampleWord, marks := r.2.take 384 }

/-- `s` with a block put into a feed. -/
def putBlock (lane sel ahead lead trail : Nat) (b : List (Sample × FrameMark)) (s : State) : State :=
  let f := { feedBlock ahead lead trail b ((feedOf s lane sel).getD { lane := lane, sel := sel }) with last := s.epoch }
  { s with dsp := { s.dsp with feeds := f :: s.dsp.feeds.filter (fun g => !(g.lane == lane && g.sel == sel)) } }

/-- A lane's feed ends with its use. -/
def dropFeeds (s : State) : State :=
  { s with dsp := { s.dsp with feeds := s.dsp.feeds.filter (fun f => f.lane == 255 || s.laneInUse f.lane) } }

/-- Frames brought for an epoch, newest first, each with its mark; a mono service carries its left value on both channels (R184). -/
def broughtFrames (o : AudioObs) (marks : List FrameMark) : List (Sample × FrameMark) :=
  ((o.frames.map (fun x => if o.mono then (x.1, x.1) else x)).zip marks).reverse

/-- The audio of an FM full lane over the epoch just ended (R139 to R143): from its stream, or as it is brought. -/
def fmAudioEpoch (obs : List AudioObs) (n : Nat) (s : State) : State :=
  let marks := gapMarks (laneGap s n) (lastLaneGap s n)
  let xs := laneStream s n
  if !((s.lane n).live) then s
  else if !xs.isEmpty then
    let f := s.fmLane n
    let c : FmSetting := { pole := deemphPole (s.flag (Fld.FMF.CTRL.DEEMPH n)), sep := f.sep, corner := f.corner, gap := laneGap s n }
    let r := fmDemodulate c xs (at' s.dsp.fm n {})
    putBlock n 0 3 96 96 (r.2.zip marks.reverse) { s with dsp := { s.dsp with fm := upd s.dsp.fm n (fun _ => r.1) } }
  else match obs.find? (fun o => o.lane == n) with
    | some o => putBlock n 0 3 96 96 (broughtFrames o marks) s
    | none => s

/-- The audio of an AM full lane (R165 to R168): its frames are those of the epoch before. -/
def amAudioEpoch (obs : List AudioObs) (n : Nat) (s : State) : State :=
  let xs := laneStream s (8 + n)
  let d := at' s.dsp.am n {}
  if !((s.lane (8 + n)).live) then { s with dsp := { s.dsp with am := upd s.dsp.am n (fun x => { x with fed := false }) } }
  else if !xs.isEmpty then
    let r := amDemodulate s n xs d
    let t : State := { s with dsp := { s.dsp with am := upd s.dsp.am n (fun _ => r.1) } }
    if r.2.isEmpty then t else putBlock (8 + n) 0 2 96 96 (r.2.zip d.marks.reverse) t
  else
    let t : State := { s with dsp := { s.dsp with am := upd s.dsp.am n (fun x => { x with fed := false }) } }
    match obs.find? (fun o => o.lane == 8 + n) with
    | some o => putBlock (8 + n) 0 3 96 96 (broughtFrames o (gapMarks (laneGap s (8 + n)) (lastLaneGap s (8 + n)))) t
    | none => t

/-- Milliseconds of failed frames in succession of a selection (R184, R209). -/
def silentMs (s : State) (u : DecUser) : Nat :=
  if u.drm then (((s.drmEng u.engine).silent.find? (fun x => x.1 == u.sel)).map (fun x => x.2)).getD 0
  else (at' (s.dabCtx u.engine).sels u.sel {}).silent

/-- The audio of a decoder: repetition with a fade of 5 ms over concealed epochs, and zeros after 200 ms of failed frames (R184, R209). -/
def decoderAudio (o : AudioObs) (s : State) : State :=
  if o.lane == 255 then putBlock 255 o.sel 3 0 0 (broughtFrames o (List.replicate epochFrames .good)) s
  else if o.lane < 14 || 20 ≤ o.lane || !((s.lane o.lane).live) then s
  else
    let u : DecUser := { drm := decide (18 ≤ o.lane), engine := if 18 ≤ o.lane then o.lane - 18 else o.lane - 14, sel := o.sel }
    let bad := (concealedOf s u).any (fun c => c.1 + 1 == s.epoch)
    let mark : FrameMark := if !bad then .good else if 200 ≤ silentMs s u then .zero else .conceal
    putBlock o.lane o.sel 3 0 240 (broughtFrames o (List.replicate epochFrames mark)) s

/-! ## Delay lines and contours (R236, R237, R242) -/

/-- The feed that an entry's source names: lane and selection. -/
def entryFeed (s : State) (n k : Nat) : Nat × Nat :=
  match srcKind s n k with
  | 1 => (srcInst s n k, 0)
  | 2 => (8 + srcInst s n k, 0)
  | 3 => (14 + srcInst s n k, srcSel s n k)
  | 4 => (18 + srcInst s n k, srcSel s n k)
  | _ => (255, srcSel s n k)

/-- The delay line of an entry. -/
def lineOf (s : State) (n k : Nat) : Option Line := s.dsp.lines.find? (fun l => l.pgm == n && l.src == k)

/-- The line of an entry takes the epoch's frames of its source in 24 bits (R242), zeros where none were brought; a block that the pool lost sounds as a concealed one
(R396). -/
def lineEpoch (n k : Nat) (s : State) : State :=
  let others := s.dsp.lines.filter (fun l => !(l.pgm == n && l.src == k))
  let name := entryFeed s n k
  match (if srcState s n k = srcEmpty || srcState s n k = srcRefused then none else feedOf s name.1 name.2) with
  | none => { s with dsp := { s.dsp with lines := others } }
  | some f =>
    let lost := (s.src n k).lostBlocks.any (fun e => e + 1 == s.epoch)
    let new := if f.last != s.epoch then List.replicate epochFrames ((0, 0), lost) else ((f.out.take epochFrames).map (fun w => both (fun v => (narrow 24 (roundEven v 256)).1) (wordSample w))).zip
      ((f.marks.take epochFrames).map (fun b => b || lost))
    let old := match lineOf s n k with | some l => if l.lane == name.1 && l.sel == name.2 then l.frames else [] | none => []
    let keep := epochFrames * (s.get (Fld.PGM.SRC_STAT.BLOCKS n k) + 24)
    { s with dsp := { s.dsp with lines := { pgm := n, src := k, lane := name.1, sel := name.2, frames := (new ++ old).take keep } :: others } }

/-- A value of a loudness contour (R236): the log RMS of the mono sum between 300 Hz and 3 kHz over 5 ms, 0.01 dB; `id` names the source where
there is no power at all. -/
def contourValue (id : Nat) (l : List Sample) : Int :=
  let mono := l.map (fun x => x.1 + x.2)
  let power := ((List.range repeatFrames).map (fun i => (Config.shaped contourFilter ((mono.drop i).take 1024)).natAbs ^ 2)).sum
  if power = 0 then Config.noPower 3 id else centibel power (repeatFrames * 2 ^ 46)

/-- Blocks by which a line runs ahead of the block that leaves the combiner. -/
def lineAhead : Nat := 2

/-- Contours grow every 5 epochs from the lines and from the programme; where no audio is brought, by the values that the environment reports,
the programme's being those of the source selected, at its delay (R236, R240). -/
def contourEpoch (obs : List SrcObs) (n : Nat) (s : State) : State :=
  let brought (k : Nat) : List Int := match obs.find? (fun x => x.pgm == n && x.src == k) with | some o => o.contour | none => []
  let fresh (k : Nat) : List Int := match lineOf s n k with
    | some l => if s.epoch % 5 = 0 then [contourValue (4 * n + k) ((l.frames.drop (epochFrames * lineAhead)).map (fun x => x.1))] else []
    | none => brought k
  let t := forEach (List.range 4) (fun k u => u.setSrc n k (fun x => { x with contour := (fresh k ++ x.contour).take 4000 })) s
  let sel := s.get (Fld.PGM.STAT.SELECTED n)
  let own := (List.range 4).any (fun k => (lineOf s n k).isSome)
  let new := if own then
      (if s.epoch % 5 = 0 then [contourValue (16 + n) ((at' s.dsp.out n []).map (fun w => both (fun v => v / 256) (wordSample w)))] else [])
    else (((t.src n sel).contour.drop (delayAt t n sel (t.slot n).timeline / (5 * epochUnits))).take (brought sel).length).map
      (fun v => v + 10 * (t.src n sel).gain)
  t.setSlot n (fun x => { x with contour := (new ++ x.contour).take 2000 })

/-! ## The programme's output (R227, R237 to R247) -/

/-- 2¹⁷ times the factor of a gain of `g` tenths of a decibel. -/
def gainFactor (g : Int) : Nat :=
  (List.range 20).reverse.foldl (fun m b => if normAtLeast (-10 * g) 0 (m + 2 ^ b) then m + 2 ^ b else m) 0

/-- Where frame `i` of the block stands in the line of entry `k` for a timeline, in 1/256 frame: 6 epochs behind the source's block (R227), by
its delay (R238), and by the drift since the last fine search (R237). -/
def linePlace (s : State) (n k i : Nat) (timeline : Int) : Nat :=
  let x := s.src n k
  let drift := clampInt (-2000) 2000 x.drift * (epochFrames * (s.epoch - x.trackedAt.getD s.epoch) + i : Nat) * 256 / 10 ^ 7
  256 * (epochFrames * lineAhead + (epochFrames - 1 - i)) + ((timeline / 1000 - x.arrival) - drift).toNat

/-- An aligned frame of entry `k`, scaled by its gain (R237, R240): through the 32-tap fractional-delay filter, or through the time-scale
modification while a slew runs (R239). -/
def alignedFrame (s : State) (n k i : Nat) (timeline : Int) : Sample :=
  let l := ((lineOf s n k).map (fun x => x.frames)).getD []
  let place := linePlace s n k i timeline
  let base := place / 256
  let frac := place % 256
  let at_ (j : Nat) : Sample := (l.getD j ((0, 0), false)).1
  let tapped (v : Sample → Int) : Int :=
    roundEven ((List.range 32).map (fun j => (Config.tap (1000 + frac) j).toInt * v (at_ (base + j - 16)))).sum (2 ^ 17)
  let window (v : Sample → Int) : List Int := (frac : Int) :: (List.range 1024).map (fun j => v (at_ (base + j - 512)))
  let x : Sample :=
    if (s.slot n).slew ≠ 0 then (Config.shaped stretchFilter (window (fun y => y.1)), Config.shaped stretchFilter (window (fun y => y.2)))
    else if frac = 0 then at_ base
    else (tapped (fun y => y.1), tapped (fun y => y.2))
  both (fun v => (narrow 24 (roundEven (v * gainFactor (s.src n k).gain) (2 ^ 17))).1) x

/-- The weight of entry `k`'s own frame against a patch: 0 where it was concealed, with crossfades of 2 ms (R244). -/
def patchWeight (s : State) (n k i : Nat) (timeline : Int) : Int :=
  let l := ((lineOf s n k).map (fun x => x.frames)).getD []
  let base := linePlace s n k i timeline / 256
  match (List.range 97).find? (fun d => (l.getD (base + d) ((0, 0), false)).2 || (decide (d ≤ base) && (l.getD (base - d) ((0, 0), false)).2)) with
  | some d => fadeWeight d 96
  | none => 2 ^ 80

/-- The frame of the selected entry, patched by the best other IN source at or above the floor (R244, R245). -/
def selectedFrame (s : State) (n k i : Nat) (timeline : Int) : Sample :=
  let others := (insOf s n).filter (fun j => j != k && decide (s.get (Fld.PGM.BLEND.FLOOR n) ≤ ranked s n j))
  let own := alignedFrame s n k i timeline
  match bestOf s n others with
  | some j => crossfade (patchWeight s n k i timeline) (alignedFrame s n j i timeline) own
  | none => own

/-- The frame of the correlated sum: in each sub-band the lanes' aligned frames by their weights (R246). -/
def sumFrame (s : State) (n : Nat) (lanes : List Nat) (i : Nat) (timeline : Int) : Sample :=
  let window (k : Nat) (v : Sample → Int) : List Int :=
    (List.range 256).map (fun j => v (alignedFrame s n k i (timeline + 256000 * j)))
  let part (k b : Nat) (v : Sample → Int) : Int := ((s.src n k).weights.getD b 0 : Int) * Config.shaped (subBand b) (window k v)
  let all (v : Sample → Int) : Int := roundEven ((lanes.flatMap (fun k => (List.range 8).map (fun b => part k b v))).sum) (10 ^ 6)
  both (fun v => (narrow 24 v).1) (all (fun x => x.1), all (fun x => x.2))

/-- Frames into a crossfade or ramp of `len` epochs that ends with epoch `to_`. -/
def intoFade (s : State) (to_ len i : Nat) : Nat := (s.epoch + len - to_) * epochFrames + i

/-- Frame `i` of a programme for a timeline, before its ramps: the sum or the source selected, and the crossfade to it (R245, R246). -/
def mixFrame (s : State) (n i : Nat) (timeline : Int) : Sample :=
  let part (k : Nat) : Sample := if k = 4 then sumFrame s n ((List.range 4).filter (fun j => !((s.src n j).weights.isEmpty))) i timeline
    else selectedFrame s n k i timeline
  let new := match s.get (Fld.PGM.STAT.MODE_NOW n) with
    | 2 => sumFrame s n (sumSet s n) i timeline
    | 1 => selectedFrame s n (s.get (Fld.PGM.STAT.SELECTED n)) i timeline
    | _ => (0, 0)
  match (s.slot n).fade with
  | some (old, e, len) => if s.epoch < e then crossfade (fadeWeight (intoFade s e len i) (len * epochFrames)) (part old) new else new
  | none => new

/-- Frame `i` of the programme's block (R227): the crossfade of a timeline that moved at once (R239), and the ramps of R247. -/
def programmeFrame (s : State) (n i : Nat) : Sample :=
  let x := s.slot n
  let new := mixFrame s n i x.timeline
  let v := match x.jump with
    | some (old, e) => if s.epoch < e then crossfade (fadeWeight (intoFade s e 150 i) (150 * epochFrames)) (mixFrame s n i old) new else new
    | none => new
  let ramp (u : Nat) : Int := fadeWeight (intoFade s u 20 i) (20 * epochFrames)
  match x.ramp with
  | .down u => crossfade (ramp u) v (0, 0)
  | .up u => crossfade (ramp u) (0, 0) v
  | .none => if s.flag (Fld.PGM.STAT.MUTED n) then (0, 0) else v

/-- The block of 48 frames that a programme gives in the epoch that begins (R227): zeros from a slot without a source that is IN. -/
def programmeEpoch (n : Nat) (s : State) : State :=
  let given := (List.range 4).any (fun k => (lineOf s n k).isSome)
  let block := if !((s.slot n).running) && !rampsDown (s.slot n).ramp then []
    else if given then (List.range epochFrames).reverse.map (fun i => sampleWord (both (fun v => 256 * v) (programmeFrame s n i)))
    else if (insOf s n).isEmpty then List.replicate epochFrames 0 else []
  { s with dsp := { s.dsp with out := upd s.dsp.out n (fun l => if block.isEmpty then [] else (block ++ l).take 1536) } }

/-! ## The epoch -/

/-- The audio that lanes and decoders gave in the epoch just ended. -/
def audioEpoch (o : EpochObs) (s : State) : State :=
  let t := forEach (List.range 6) (fun n u => amAudioEpoch o.audio n u) (forEach (List.range 8) (fun n u => fmAudioEpoch o.audio n u) (dropFeeds s))
  forEach (o.audio.filter (fun a => decide (14 ≤ a.lane))) decoderAudio t

/-- The delay lines of every source take the epoch's frames. -/
def linesEpoch (s : State) : State := forEach allEntries (fun e u => lineEpoch e.1 e.2 u) s

/-- The programmes of the epoch that begins, and the contours. -/
def programmesBegin (o : EpochObs) (s : State) : State :=
  forEach (List.range 4) (fun n u => contourEpoch o.sources n (programmeEpoch n u)) s

end Sys2Proof.Machine
end

