-- ==== Sys2Proof/Machine/Policy.lean ====
section
/-!
DEFINITION. The source policies of programme slots (R248, R249) and how they take lanes (R107).
-/

namespace Sys2Proof.Machine

open Sys2Proof

/-! ## Candidates (R248) -/

/-- A candidate with the level it is ranked by. -/
abbrev Ranked := Candidate × Int

/-- An identity that passes R234 against a slot. -/
def passesSlot (s : State) (n : Nat) (i : Identity) : Bool := (verifyIdentity s n 4 i).isSome

/-- Level of a survey map entry in the latest closed snapshot. -/
def mapLevel (s : State) (m : MapSel) (i : Nat) : Int := (s.map m).now.level i

/-- DAB services of the database (R248): audio, not CA, not UNSUPPORTED, by the level of their block. -/
def dabCandidates (s : State) (n : Nat) : List Ranked :=
  s.ens.flatMap (fun e => e.records.filterMap (fun v =>
    let c := v.comps.headD {}
    let id := v.sid % 2 ^ 24
    if !v.data && c.tmid == 0 && !(notDecoded c) && !v.comps.isEmpty && passesSlot s n (0, id) then
      some ({ kind := 3, place := e.block, id := v.sid }, mapLevel s .b3 e.block)
    else none))

/-- DRM services in the SDC of ACTIVE engines, by the engine's LEVEL. -/
def drmCandidates (s : State) (n : Nat) : List Ranked :=
  (List.range 2).flatMap (fun e =>
    if (s.lane (18 + e)).live && s.flag (Fld.DRM.STAT.SDC_VALID e) then
      (s.drmEng e).services.filterMap (fun v =>
        if v.audio && passesSlot s n (2, v.sid) then
          some ({ kind := 4, place := e, id := v.sid }, toSigned 16 (fieldOf (s.word (Reg.DRM.QUAL0 e)) 0 16))
        else none)
    else [])

/-- FM frequencies: VERIFIED entries of the AF lists of the slot's FM sources, and RDS watch entries whose PI passes, by FM map level. -/
def fmCandidates (s : State) (n : Nat) : List Ranked :=
  let afs := ((members s n).filter (fun k => srcKind s n k == 1)).flatMap (fun k =>
    let r := (s.rdsCtx (srcInst s n k)).record
    (r.af.entries.filter (fun e => e.verified && !e.lfmf)).map (fun e => (87500 + 100 * e.code, r.pi)))
  let seen := (List.range 96).filterMap (fun i =>
    let r := (s.rdsCtx (8 + i)).record
    if s.laneInUse (20 + i) && r.piValid && passesSlot s n (1, r.pi) then some ((s.lane (20 + i)).khz, r.pi) else none)
  (afs ++ seen).map (fun x => ({ kind := 1, place := x.1, id := x.2 }, mapLevel s .fm ((x.1 - 64000) / 50)))

/-- AM watch entries with a service identifier that passes, by raster level. -/
def amCandidates (s : State) (n : Nat) : List Ranked :=
  (List.range 24).filterMap (fun a =>
    let w := s.word (Reg.WAM.A_W2 a)
    if s.laneInUse (132 + a) && w.getLsbD 28 && passesSlot s n (2, fieldOf w 0 24) then
      some ({ kind := 2, place := (s.lane (132 + a)).khz, id := fieldOf w 0 24 }, candidateLevel s (132 + a))
    else none)

/-- Entry `k` of a slot already carries a candidate's broadcast. -/
def carries (s : State) (n k : Nat) (c : Candidate) : Bool :=
  srcKind s n k == c.kind && (match c.kind with
    | 3 => laneBlock s (14 + srcInst s n k) == c.place && s.get (Fld.DAB.SEL_SID.SID (srcInst s n k) (srcSel s n k)) == c.id
    | 4 => srcInst s n k == c.place && s.get (Fld.DRM.SVC_SEL.SID (srcInst s n k) (srcSel s n k)) == c.id
    | _ => (s.lane (srcLane s n k)).khz == c.place)

/-- A candidate may be proposed: not blocked, and neither carried nor already owned by the slot. -/
def mayPropose (s : State) (n : Nat) (c : Candidate) : Bool :=
  !((s.slot n).blocked.any (fun b => b.1 == c && decide (s.epoch < b.2))) && !((s.slot n).owned.any (fun o => o.2.1 == c))
    && !((List.range 4).any (fun k => carries s n k c))

/-- The best of one kind: the highest level, of equals the first. -/
def bestRanked (l : List Ranked) : Option Candidate := (l.find? (fun x => l.all (fun y => decide (y.2 ≤ x.2)))).map (fun x => x.1)

/-- The candidate that a slot's policy proposes next: in AUTO_ALL the kinds come in the order DAB, DRM, FM, AM (R248). -/
def nextCandidate (s : State) (n : Nat) : Option Candidate :=
  let ok (l : List Ranked) : Option Candidate := bestRanked (l.filter (fun x => mayPropose s n x.1))
  match s.get (Fld.PGM.POLICY.MODE n) with
  | 1 => ok (fmCandidates s n)
  | 2 => [dabCandidates s n, drmCandidates s n, fmCandidates s n, amCandidates s n].findSome? ok
  | _ => none

/-! ## Taking a source (R107, R249) -/

/-- The bit of `LNM.FULL_OWN` of a full lane. -/
def fullOwnBit (l : Nat) : Nat := if l < 14 then l else l + 2

/-- The lowest-numbered FREE instance of a class that a policy may take (R107). -/
def freeLane (s : State) (c : LaneClass) : Option Nat :=
  c.lanes.find? (fun l => (s.lane l).state == LaneState.free && !((s.word Reg.LNM.FULL_OWN).getLsbD (fullOwnBit l)) && !(isPlanned (isTuneOf l) s))

/-- The lowest free selection of a DAB engine on which the component could be served beside the others (R249). -/
def freeDabSel (s : State) (e : Nat) (c : Candidate) : Option Nat :=
  let v := (ensembleOf s c.place).bind (fun x => x.services.find? (fun y => y.sid == c.id))
  let comp : Component := (v.bind (fun y => y.comps.head?)).getD {}
  let size := (((ensembleOf s c.place).bind (fun x => x.subchs.find? (fun y => y.id == comp.subch))).map (fun y => y.size)).getD 0
  let used := (planSelections s e).2
  let fits := used.any (fun u => u.1 == comp.subch) || (decide (used.length < 6) && decide ((used.map (fun u => u.2)).sum + size ≤ 288))
  if fits then lowest 6 (fun k => !(s.flag (Fld.DAB.SEL_CTRL.EN e k))) else none

/-- The selection word for a candidate's primary component. -/
def candidateScids (s : State) (c : Candidate) : Nat :=
  (((ensembleOf s c.place).bind (fun x => x.services.find? (fun y => y.sid == c.id))).bind (fun y => y.comps.head?)).elim 0 (fun x => x.scids)

/-- A DAB selection is set to a candidate. -/
def selectDab (e k : Nat) (c : Candidate) (s : State) : State :=
  matchDab e (((s.set (Fld.DAB.SEL_SID.SID e k) c.id).set (Fld.DAB.SEL_CTRL.SCIDS e k) (candidateScids s c)).put (Fld.DAB.SEL_CTRL.EN e k) true)

/-- A DRM selection is set to a candidate. -/
def selectDrm (e k : Nat) (c : Candidate) (s : State) : State :=
  matchDrm e ((s.set (Fld.DRM.SVC_SEL.SID e k) c.id).put (Fld.DRM.SVC_SEL.EN e k) true)

/-- A source taken for a candidate: its instance and selection, the lane taken (255: none), and the state. -/
def takeSource (s : State) (c : Candidate) : Option (Nat × Nat × Nat × State) :=
  match c.kind with
  | 1 => (freeLane s .fm).map (fun l => (l, 0, l, postSoon (.tune l .fm c.place false) s))
  | 2 => (freeLane s .am).map (fun l => (l - 8, 0, l, postSoon (.tune l .lf c.place false) s))
  | 4 => (lowest 4 (fun k => !(s.flag (Fld.DRM.SVC_SEL.EN c.place k)))).map (fun k => (c.place, k, 255, selectDrm c.place k c s))
  | _ =>
    let here := (List.range 4).findSome? (fun e =>
      if (s.lane (14 + e)).live && laneBlock s (14 + e) == c.place then (freeDabSel s e c).map (fun k => (e, k)) else none)
    match here with
    | some (e, k) => some (e, k, 255, selectDab e k c s)
    | none => (freeLane s .dab).bind (fun l =>
        (lowest 6 (fun k => !(s.flag (Fld.DAB.SEL_CTRL.EN (l - 14) k)))).map (fun k =>
          (l - 14, k, l, selectDab (l - 14) k c (postSoon (.tune l .b3 (blockCentres.getD c.place 0) false) s))))

/-- The policy fills entry `k` with a candidate (R249). -/
def fillEntry (n k : Nat) (c : Candidate) (x : Nat × Nat × Nat × State) : State :=
  let t := x.2.2.2.setWord (Reg.PGM.SRC n k) (wordOf [(0, 3, c.kind), (3, 3, x.1), (6, 3, x.2.1), (24, 1, 1)])
  (t.setSrc n k (fun y => { y with fresh := true })).setSlot n (fun y => { y with
    owned := (k, c, x.2.2.1) :: y.owned.filter (fun o => o.1 != k), proposal := none, failed := false })

/-- The candidates a slot owns whose join is not yet decided: one is proposed at a time (R249). -/
def undecided (s : State) (n : Nat) : Bool :=
  (s.slot n).owned.any (fun o => (s.src n o.1).fresh || srcState s n o.1 == srcWaiting || srcState s n o.1 == srcPending)

/-- POLICY_PROPOSE (R248, R249): a waiting proposal is tried first; where nothing is free it waits, with ALLOC_FAIL once (R107). -/
def propose (n : Nat) (s : State) : State :=
  let x := s.slot n
  let full := decide (max 1 (s.get (Fld.PGM.POLICY.MAX n)) ≤ x.owned.length)
  if !x.running || s.fab.pause.isSome || (members s n).isEmpty || full || undecided s n then s
  else match lowest 4 (fun k => srcKind s n k == 0 && !((s.src n k).fresh)) with
    | none => s
    | some k =>
      let c := match x.proposal with
        | some p => if mayPropose s n p && s.get (Fld.PGM.POLICY.MODE n) != 0 && s.get (Fld.PGM.POLICY.MODE n) != 3 then some p else nextCandidate s n
        | none => nextCandidate s n
      match c with
      | none => s.setSlot n (fun y => { y with proposal := none, failed := false })
      | some p => match takeSource s p with
        | some r => fillEntry n k p r
        | none =>
          let again := x.proposal == some p && x.failed
          raiseIf (!again) Ev.LNM.ALLOC_FAIL (s.setSlot n (fun y => { y with proposal := some p, failed := true }))

/-- POLICY_PROPOSE (R249). -/
def execPolicyPropose (n : Fin 4) (s : State) : Host.Outcome State Fault Refusal := commitLanes s (propose n.val s)

/-- POLICY_RELEASE (R249): a policy source OUT or WAITING for 10 s is released, and its candidate blocked for 60 s. -/
def policyRelease (n k : Nat) (s : State) : State :=
  let idle := srcState s n k == srcOut || srcState s n k == srcWaiting
  if s.flag (Fld.PGM.SRC.OWNER n k) && idle && decide ((s.src n k).idleSince + 10000 ≤ s.epoch) then
    ((dropOwned n k (srcInst s n k) (srcSel s n k) (blockOwned n k s)).setWord (Reg.PGM.SRC n k) 0).setSrc n k (fun x => { x with fresh := true })
  else s

/-- POLICY_RELEASE (R249). -/
def execPolicyRelease (n k : Fin 4) (s : State) : Host.Outcome State Fault Refusal := commitLanes s (policyRelease n.val k.val s)

end Sys2Proof.Machine
end

