-- ==== Sys2Proof/Machine/Health.lean ====
section
/-!
DEFINITION. What a failed migration means for its originator: the results of run-time tests (R392, R393) and the health of a trial
firmware (R361).
-/

namespace Sys2Proof.Machine

open Sys2Proof

/-! ## Run-time test results (R393, R402) -/

/-- A result of the `BST.RES0` window is posted. -/
def postBist (err : Nat) (pass : Bool) (unit inst us : Nat) (s : State) : State :=
  raise Ev.BST.RESULT (postResult 25 [(Reg.BST.RES0, wordOf [(12, 4, err), (16, 1, pass.toNat)]),
    (Reg.BST.RES1, wordOf [(0, 8, unit), (8, 8, inst), (16, 16, min us 65535)])] s)

/-- No run-time test is in progress any more. -/
def endBist (s : State) : State :=
  ({ s with flt := { s.flt with bist := none } }).setWord Reg.BST.STAT 0

/-- A migration that a test needs has failed (R125, R392, R398): the result says so, and the core is retired. -/
def bistMoveFailed (s : State) : State :=
  match s.flt.bist with
  | none => s
  | some j => permanentFault j.unit j.inst 9 0 (countFault (postBist 4 false j.unit j.inst 0 (endBist s)))

/-! ## The firmware stages (R355, R358) -/

/-- The codes of STAGE. -/
def stageIdle : Nat := 0
def stageReceiving : Nat := 1
def stageVerified : Nat := 2
def stageStaging : Nat := 3
def stageTrial : Nat := 4
def stageReverted : Nat := 5
def stageRecovery : Nat := 6

/-- STAGE. -/
def fwStage (s : State) : Nat := s.get Fld.FWU.STAT.STAGE

/-- STAGE moves; a change raises `FWU.STAGE`. -/
def setStage (n : Nat) (s : State) : State := raiseIf (fwStage s != n) Ev.FWU.STAGE (s.set Fld.FWU.STAT.STAGE n)

/-- The swap of lane-core code goes on, or has ended (R360). -/
def showSwap (s : State) : State := s.put Fld.FWU.STAT.SWAPPING s.fw.swap.isSome

/-- A revert begins: a hand-over back to the old firmware is posted (R361). -/
def startRevert (s : State) : State :=
  if fwStage s != stageTrial || s.fw.handOver.isSome then s
  else postSoon .handover (showSwap { s with fw := { s.fw with handOver := some .back, swap := none } })

/-- A health failure of a trial firmware; the third reverts it (R361). -/
def healthFailure (s : State) : State :=
  if fwStage s != stageTrial then s
  else
    let t := s.bumpSat Fld.FWU.STAT.FAULTS
    if 3 ≤ t.get Fld.FWU.STAT.FAULTS then startRevert t else t

/-- A migration of the swap has failed: the swap stops (R360). -/
def swapFailed (s : State) : State := healthFailure (showSwap { s with fw := { s.fw with swap := none } })

/-- A lane stays on its core for good: the request that needed the move fails (R125). -/
def moveFailed (why : MoveFor) (s : State) : State :=
  let t := raise Ev.LNM.MIGRATE_FAIL s
  match why with
  | .bist => bistMoveFailed t
  | .handover => swapFailed t
  | .load => t
  | .repair => t

end Sys2Proof.Machine
end

