-- ==== Sys2Proof/Machine/Sprouts.lean ====
section
/-!
DEFINITION. The commands of the sprout controller (R117 to R125): criteria, timeouts, the sentinel, comparisons and roots.
-/

namespace Sys2Proof.Machine

open Sys2Proof

/-- A sprout whose criterion is met has its root posted for boundary E + 2; during a control-plane pause that follows after it (R118). -/
def postRoot (i : Nat) (s : State) : State := if s.fab.pause.isSome then s else post (.root i) (s.epoch + 2) s

/-- The part of a sprout's criterion that the model counts itself holds (R117): of an RDS sprout, its blocks and groups; of a DAB sprout, two
frames in succession with their nulls before the null that the command reports, and two of the first four FIBs; of a DRM sprout, two FAC CRC
passes in succession. -/
def criterionCounts (s : State) (x : Sprout) (pi : Nat) : Bool :=
  match x.kind with
  | some .rds => rdsCounts s x pi
  | some .dab => decide (2 ≤ x.passes) && decide (2 ≤ (x.fibs.filter (fun b => b)).length)
  | some .drm => decide (2 ≤ x.passes)
  | _ => true

/-- SPROUT_CRITERION_MET (R118): a sprout that waits for its grant (R46) does nothing yet; `pi` is the PI an RDS sprout verified, and the
robustness mode a DRM sprout acquired. -/
def criterionMet (i : Nat) (metric : Int) (pi : Nat) (s : State) : State :=
  let x := s.sprout i
  if x.state != .planted || x.met || waitsForGrant s (.sprout i) || !(criterionCounts s x pi) then s
  else match x.kind with
    | some .join => joinMet i s
    | some .migrate => s
    | none => s
    | some _ => postRoot i (s.setSprout i (fun y => { y with met := true, adopted := true, metric := metric, pi := pi }))

/-- SPROUT_CRITERION_MET (R118). -/
def execSproutCriterionMet (slot : Fin 32) (metric : Int) (pi : Nat) (s : State) : Host.Outcome State Fault Refusal :=
  commit s (criterionMet slot.val metric pi s)

/-- The timeout of a sprout, epochs (R117). -/
def timeoutOf (s : State) (x : Sprout) : Nat :=
  match x.kind with
  | some .dab => 1000
  | some .rds => 2000
  | some .drm => if (s.lane x.lane).path = .fm then 1000 else 3000
  | some .join => 10000
  | _ => 64

/-- After the timeout of an acquisition (R117): lanes that the host tuned plant anew at once, others in 10 000 epochs; an upper RDS
stream while its conditions hold (R149). -/
def replant (x : Sprout) (s : State) : State :=
  if x.stream ≠ 0 then acquireUpper x.lane x.stream s
  else if (s.lane x.lane).host && isFull x.lane then plantAcquire x.lane s
  else s.setLane x.lane (fun y => { y with replantAt := some (s.epoch + 10000) })

/-- SPROUT_TIMEOUT (R117, R125, R241). -/
def sproutTimeout (i : Nat) (s : State) : State :=
  let x := s.sprout i
  if x.state != .planted || x.met || decide (s.epoch < x.plantedAt + timeoutOf s x) then s
  else match x.kind with
    | some .join => refuse x.pgm x.src whyTimeout .timeout (some 60000) s
    | some .migrate => moveFailed x.move (pull i .timeout s)
    | none => s
    | some _ => replant x (pull i .timeout s)

/-- SPROUT_TIMEOUT (R117). -/
def execSproutTimeout (slot : Fin 32) (s : State) : Host.Outcome State Fault Refusal := commitLanes s (sproutTimeout slot.val s)

/-- A posted root has been announced. -/
def rootAnnounced (s : State) (i : Nat) : Bool := s.plan.any (fun e => e.announced && e.change == .root i)

/-- The sprout that replaces a pulled one starts on the new candidate. -/
def adoptNew (x : Sprout) (metric : Int) (s : State) : State :=
  forEach (plantedSlots s (fun y => y.kind == x.kind && y.lane == x.lane && y.stream == x.stream && y.pgm == x.pgm && y.src == x.src))
    (fun i t => t.setSprout i (fun y => { y with adopted := true, progress := 1, metric := metric })) s

/-- SPROUT_SENTINEL (R120, R121): a candidate of at least twice the power pulls the sprout, and a new one of its kind is planted. The
metric of R236 by which a JOIN is judged is not the one shown. -/
def sentinel (i : Nat) (metric : Int) (twice : Bool) (s : State) : State :=
  let x := s.sprout i
  if x.state != .planted || !x.adopted || !twice || rootAnnounced s i then s
  else match x.kind with
    | some .join =>
      let t := (pull i .sentinel s).setSrc x.pgm x.src (fun y => { y with coarse := none, agree := 0, holdFrom := none, lowFrom := none, reserve := 0 })
      adoptNew x 0 (plantNow { kind := .join, lane := x.lane, pgm := x.pgm, src := x.src } (dropReserve x.pgm t))
    | some .migrate => s
    | none => s
    | some k => adoptNew x metric (plantNow { kind := k, lane := x.lane, stream := x.stream } (pull i .sentinel s))

/-- SPROUT_SENTINEL (R120). -/
def execSproutSentinel (slot : Fin 32) (metric : Int) (twice : Bool) (s : State) : Host.Outcome State Fault Refusal :=
  commitLanes s (sentinel slot.val metric twice s)

/-- MIGRATE_COMPARE (R123, R125): the comparison of the epoch before; the first epoch compared follows the boundary after planting. Eight
equal epochs in succession post the root; an epoch that a GAP hides is not compared, and the count starts again (R122). -/
def migrateCompare (i : Nat) (equal : Bool) (s : State) : State :=
  let x := s.sprout i
  if x.state != .planted || x.kind != some .migrate || x.met || decide (s.epoch < x.plantedAt + 2) || decide (s.epoch ≤ x.comparedAt) then s
  else if equal then
    let n := if x.comparedAt + 1 = s.epoch then x.metric + 1 else 1
    let t := s.setSprout i (fun y => { y with metric := n, progress := n.toNat, comparedAt := s.epoch, met := decide (8 ≤ n) })
    if 8 ≤ n then postRoot i t else t
  else
    let t := pull i .mismatch s
    if 3 ≤ x.mismatches + 1 then moveFailed x.move t else migrate x.lane x.toCore x.move (x.mismatches + 1) t

/-- MIGRATE_COMPARE (R123). -/
def execMigrateCompare (slot : Fin 32) (equal : Bool) (s : State) : Host.Outcome State Fault Refusal :=
  commitLanes s (migrateCompare slot.val equal s)

/-- LANE_ALLOC_RETRY (R107): a lane is FREE, and proposals that wait for one are tried again. -/
def allocRetry (l : Nat) (s : State) : State :=
  if (s.lane l).state == LaneState.free then
    forEach ((List.range 4).filter (fun n => (s.slot n).proposal.isSome)) (fun n t => propose n t) s
  else s

/-- LANE_ALLOC_RETRY (R107). -/
def execLaneAllocRetry (lane : Fin 20) (s : State) : Host.Outcome State Fault Refusal := commitLanes s (allocRetry lane.val s)

/-- A sprout's root reaches its boundary (R118): the slot is ROOTED, and what it acquired goes live. -/
def applyRoot (i : Nat) (s : State) : State :=
  let x := s.sprout i
  if x.state != .planted then s
  else
    let t := raise Ev.LNM.SPROUT_ROOTED (endSprout i .rooted .none s)
    match x.kind with
    | some .rds => if x.stream = 0 then rootRds x.lane x.pi x.next t else rootUpper x.lane x.stream x.next t
    | some .dab => rootDab x.lane t
    | some .drm => rootDrm (laneInst x.lane) (if (s.lane x.lane).path = .fm then 4 else min 3 x.pi) t
    | some .join => rootJoin i t
    | some .migrate => rootMigration i t
    | none => t

/-- What the detectors of planted sprouts show (R133); a JOIN and a migration show their own. -/
def sproutEpoch (obs : List SproutObs) (s : State) : State :=
  forEach obs (fun o t =>
    let x := t.sprout o.slot
    match x.kind with
    | some k => if x.state == .planted && k.acquires && !(waitsForGrant t (.sprout o.slot)) then
        t.setSprout o.slot (fun y => { y with metric := o.metric, progress := o.progress, adopted := y.adopted || decide (0 < o.progress) }) else t
    | none => t) s

end Sys2Proof.Machine
end

