-- ==== Sys2Proof/Machine/Ports.lean ====
section
/-!
DEFINITION. Audio ports and pods (chapter 10). Ports 0 to 3 are AOP0–AOP3 and port 4 is AIP0, whose page has the same layout (R272).
-/

namespace Sys2Proof.Machine

open Sys2Proof

/-! ## Formats (R257, R258, R272) -/

/-- Port `p`, and `s` with it changed. -/
def State.port (s : State) (p : Nat) : AudioPort := at' s.audio.ports p {}

def State.setPort (s : State) (p : Nat) (f : AudioPort → AudioPort) : State := { s with audio := { s.audio with ports := upd s.audio.ports p f } }

/-- Pod `m`, and `s` with it changed. -/
def State.pod (s : State) (m : Nat) : PodState := at' s.audio.pods m {}

def State.setPod (s : State) (m : Nat) (f : PodState → PodState) : State := { s with audio := { s.audio with pods := upd s.audio.pods m f } }

/-- The rates of FS_NOM, Hz. -/
def portRates : List Nat := [32000, 44100, 48000, 64000, 88200, 96000, 128000, 176400, 192000]

/-- Slots of a frame, and bits of a slot or word, by code. -/
def slotCount (code : Nat) : Nat := if code = 0 then 2 else if code = 1 then 4 else 8
def slotBits (code : Nat) : Nat := if code = 0 then 16 else if code = 1 then 24 else 32

/-- The format of a CTRL word is legal (R258). -/
def formatLegal (w : Word) : Bool :=
  let fmt := fieldOf w 1 2
  let slots := fieldOf w 3 2
  let bits := fieldOf w 5 2
  let word := fieldOf w 7 2
  let fs := fieldOf w 9 4
  decide (fmt ≤ 2) && decide (slots ≤ 2) && decide (bits ≤ 2) && decide (word ≤ 2) && decide (fs ≤ 8) && decide (word ≤ bits)
    && (fmt == 2 || slots == 0) && decide (portRates.getD fs 0 * slotCount slots * slotBits bits ≤ 24576000)

/-- The format fields of a CTRL word. -/
def formatOf (w : Word) : Nat := fieldOf w 1 15

/-- Frame rate of FS_NOM, Hz, and BCLK periods of a frame. -/
def portFs (s : State) (p : Nat) : Nat := portRates.getD (s.get (Fld.AOP.CTRL.FS_NOM p)) 48000
def frameBits (s : State) (p : Nat) : Nat := slotCount (s.get (Fld.AOP.CTRL.SLOTS p)) * slotBits (s.get (Fld.AOP.CTRL.SLOT_BITS p))

/-- Ticks of the sample clock in one second. -/
def tickRate : Nat := 163840000

/-- `LATENCY`: L rounded to whole ticks (R260). -/
def portLatency (s : State) (p : Nat) : Nat := 81920 + (roundDiv (2 * tickRate) (portFs s p)).toNat

/-! ## States (R261, R263, R264, R272) -/

/-- The STATE codes of R272. -/
def portIdle : Nat := 0
def portLocking : Nat := 1
def portArmed : Nat := 2
def portRunning : Nat := 3
def portZeros : Nat := 4

/-- STATE, CLK_OK and LOCKED of a port. -/
def portState (s : State) (p : Nat) : Nat := s.get (Fld.AOP.STAT.STATE p)
def clkOk (s : State) (p : Nat) : Bool := s.flag (Fld.AOP.STAT.CLK_OK p)
def clkLocked (s : State) (p : Nat) : Bool := s.flag (Fld.AOP.STAT.LOCKED p)

/-- `s` with a port in STATE `st`. -/
def setPortState (p st : Nat) (s : State) : State := s.set (Fld.AOP.STAT.STATE p) st

/-- The event of a port whose STATE, CLK_OK or LOCKED changes (R274). -/
def portEvent (p : Nat) : Nat := if p < 4 then Ev.AOP.STATE p else Ev.AIP.STATE

/-- The conditions under which ports run (R263, R270). -/
def portsRun (s : State) : Bool := s.committed && s.pwr.mode == .full

/-- The members of pod `m`. -/
def podMembers (s : State) (m : Nat) : List Nat := (List.range 4).filter (fun n => (s.get (Fld.POD.POD_CFG.MEMBERS m)).testBit n)

/-- The pod of a port. -/
def podOf (s : State) (p : Nat) : Option Nat := lowest 2 (fun m => (podMembers s m).contains p)

/-- STATE of a pod: 0 IDLE, 1 PENDING, 2 RUNNING. -/
def podState (s : State) (m : Nat) : Nat := s.get (Fld.POD.POD_STAT.STATE m)

/-- STATE events of the ports that changed from `a` to `t`, and the pods' views of their members (R266, R267, R274). -/
def portsAfter (a t : State) : State :=
  let t1 := forEach (List.range 5) (fun p u =>
    raiseIf (fieldOf (a.word (Reg.AOP.STAT p)) 0 5 != fieldOf (u.word (Reg.AOP.STAT p)) 0 5) (portEvent p) u) t
  let t2 := forEach (List.range 4) (fun p u =>
    (u.put (Fld.AOP.STAT.IN_POD p) (podOf u p).isSome).set (Fld.AOP.STAT.POD_ID p) ((podOf u p).getD 0)) t1
  forEach (List.range 2) (fun m u => u.set (Fld.POD.POD_STAT.WAITING m)
    (if podState u m = 1 then (((podMembers u m).filter (fun p => !(clkLocked u p))).map (fun p => 2 ^ p)).sum else 0)) t2

/-- A port that is LOCKED is ARMED, and outside a pod starts after the next boundary; AIP0 waits for it in LOCKING (R264, R270). -/
def arm (p : Nat) (s : State) : State :=
  if portState s p = portLocking ∧ clkLocked s p then
    let t := if p < 4 then setPortState p portArmed s else s
    if (podOf s p).isNone then t.setPort p (fun x => { x with startAt := some (s.epoch + 1) }) else t
  else s

/-- A port goes to LOCKING (R264 step 1). -/
def startLocking (p : Nat) (s : State) : State :=
  if portState s p = portIdle then arm p ((setPortState p portLocking s).setPort p (fun x => { x with stopping := false, startAt := none })) else s

/-- A pod of which every member is IDLE again has stopped (R268). -/
def podStopped (m : Nat) (s : State) : State :=
  if podState s m = 2 ∧ (podMembers s m).all (fun p => portState s p == portIdle) then
    raise Ev.POD.STOPPED (((s.set (Fld.POD.POD_STAT.STATE m) 0).set (Fld.POD.POD_STAT.MISMATCH m) 0).setPod m (fun x => { x with leader := none, late := false }))
  else s

/-- A port's frame carries 0. -/
def carryZeros (p : Nat) (s : State) : State := s.setPort p (fun x => { x with content := .zeros, slots := [] })

/-- A port is IDLE and carries 0. -/
def portOff (p : Nat) (s : State) : State :=
  carryZeros p ((setPortState p portIdle s).setPort p (fun x => { x with stopping := false, startAt := none, heard := [] }))

/-- A port that has stopped after the frame in progress; one that was enabled again meanwhile locks anew (DEDUCED, log entry 60). -/
def portEnds (p : Nat) (s : State) : State :=
  let t := portOff p s
  if t.flag (Fld.AOP.CTRL.EN p) && portsRun t && (podOf t p).isNone then startLocking p t else t

/-- A port stops after the frame in progress, where it sends one (R264 step 4, R270). -/
def stopPort (p : Nat) (s : State) : State :=
  if portState s p = portRunning then s.setPort p (fun x => { x with stopping := true }) else portOff p s

/-- A write of a port's CTRL (R258, R264, R266, R270): after the commit an illegal format, or a new one while not IDLE, is refused. -/
def writePortCtrl (port : Port) (p : Nat) (v : Word) (key : Bool) (s : State) : State :=
  let a := Reg.AOP.CTRL p
  let old := s.word a
  let new := writtenWord a old v (!key) false
  if s.committed && (!(formatLegal new) || (formatOf new != formatOf old && portState s p != portIdle)) then
    s.put (Fld.AOP.STAT.CFG_ERR p) true
  else
    let t := (plainWrite port a v key s).put (Fld.AOP.STAT.CFG_ERR p) false
    if (podOf s p).isSome then t.put (Fld.AOP.CTRL.EN p) (s.flag (Fld.AOP.CTRL.EN p))
    else if !(t.flag (Fld.AOP.CTRL.EN p)) then
      if portState s p = portIdle then t else portsAfter s (stopPort p t)
    else if portsRun t then portsAfter s (startLocking p t) else t

/-! ## Pods (R266 to R268) -/

/-- A MEMBERS write or START is refused. -/
def podRefused (s : State) : State := raise Ev.POD.CFG_ERR (s.put Fld.POD.STAT.CFG_ERR true)

/-- A write of `PODm_CFG` (R266). -/
def writePodCfg (port : Port) (m : Nat) (v : Word) (key : Bool) (s : State) : State :=
  let named := (List.range 4).filter (fun n => v.getLsbD n)
  if podState s m != 0 || named.any (fun n => portState s n != portIdle) || named.any (fun n => (podMembers s (1 - m)).contains n) then podRefused s
  else portsAfter s ((plainWrite port (Reg.POD.POD_CFG m) v key s).put Fld.POD.STAT.CFG_ERR false)

/-- The fields of a CTRL word that a pod's members share (R266). -/
def podFormat (w : Word) : Nat × Nat := (fieldOf w 1 6, fieldOf w 9 7)

/-- START of a pod (R266, R267). Outside FULL, where no port runs, it starts nothing (log entry 62). -/
def podStart (m : Nat) (s : State) : State :=
  let ms := podMembers s m
  if podState s m != 0 || ms.isEmpty || ms.any (fun p => podFormat (s.word (Reg.AOP.CTRL p)) != podFormat (s.word (Reg.AOP.CTRL (ms.headD 0)))) then
    podRefused s
  else
    let t := s.put Fld.POD.STAT.CFG_ERR false
    if !(portsRun s) then t
    else portsAfter s (forEach ms (fun p u => startLocking p u) ((t.set (Fld.POD.POD_STAT.STATE m) 1).setPod m (fun _ => {})))

/-- STOP of a pod (R267, R268). -/
def podStop (m : Nat) (s : State) : State :=
  let ms := podMembers s m
  match podState s m with
  | 1 =>
    if ms.any (fun p => (s.port p).startAt.isSome) then s.setPod m (fun x => { x with late := true })
    else
      let t := forEach ms (fun p u => portOff p u) (cancelEntries (fun c => c == .pod m) s)
      portsAfter s (raise Ev.POD.STOPPED ((t.set (Fld.POD.POD_STAT.STATE m) 0).setPod m (fun _ => {})))
  | 2 => portsAfter s (podStopped m (forEach ms (fun p u => stopPort p u) s))
  | _ => s

/-- A write of `PODm_CMD`; with both bits set it is a STOP (log entry 61). -/
def writePodCmd (m : Nat) (v : Word) (s : State) : State := if v.getLsbD 1 then podStop m s else if v.getLsbD 0 then podStart m s else s

/-- The pod start's boundary (R267): every member starts on its first frame start from here on. -/
def applyPod (m : Nat) (s : State) : State :=
  if podState s m = 1 then
    forEach (podMembers s m) (fun p t => t.setPort p (fun x => { x with startAt := some s.epoch }))
      (s.setPod m (fun x => { x with posted := false, startEpoch := s.epoch }))
  else s

/-- The frames of FS_NOM since the pod's start boundary, rounded (R268). -/
def framesSince (s : State) (m p : Nat) : Nat :=
  (roundDiv ((s.time - boundaryTick (s.pod m).startEpoch) * portFs s p) tickRate).toNat

/-- Leadership of a running pod (R268): it leaves a leader without CLK_OK or in ZEROS for the lowest-numbered member with CLK_OK. -/
def podLeader (m : Nat) (s : State) : State :=
  if podState s m != 2 then s
  else
    let fit := (podMembers s m).filter (fun p => clkOk s p)
    match (s.pod m).leader with
    | some l =>
      if clkOk s l && portState s l != portZeros then s
      else s.setPod m (fun x => { x with leader := ((fit.filter (fun p => p != l)).head?).orElse (fun _ => fit.head?) })
    | none => match fit.head? with
      | some p => (s.set (Fld.AOP.FRAME_CNT.COUNT p) (framesSince s m p)).setPod m (fun x => { x with leader := some p })
      | none => s

/-- Leadership of both pods. -/
def podLeaders (s : State) : State := podLeader 1 (podLeader 0 s)

/-- A port starts on this frame start (R264 step 3): with frame index 0, or in ZEROS where it has lost its lock (R267, R269). -/
def startFrame (p b : Nat) (s : State) : State :=
  ((setPortState p (if clkOk s p && clkLocked s p then portRunning else portZeros)
    ((s.set (Fld.AOP.START_EPOCH.EPOCH p) b).set (Fld.AOP.FRAME_CNT.COUNT p) 0))).setPort p (fun x => { x with startAt := none, stopping := false })

/-- The first frame start of a pending pod after its boundary: it is RUNNING; members without lock carry zeros, and a STOP that came
too late acts now (R267). -/
def podRuns (m b : Nat) (s : State) : State :=
  if podState s m != 1 then s
  else
    let ms := podMembers s m
    let t := raise Ev.POD.STARTED ((s.set (Fld.POD.POD_STAT.STATE m) 2).set (Fld.POD.POD_EPOCH.EPOCH m) b)
    let t1 := forEach ms (fun p u => if clkOk u p && clkLocked u p then u else startFrame p b u) (t.setPod m (fun x => { x with leader := ms.head? }))
    podLeader m t1

/-! ## Frames (R260, R261, R265, R268, R269, R271) -/

/-- The clock check of a frame (R261). -/
def frameCheck (p : Nat) (o : FrameObs) (s : State) : State :=
  let bad := (s.port p).stamp.isSome && o.bclks != frameBits s p
  let inRange := decide ((s.geti (Fld.AOP.PPM.PPM p)).natAbs ≤ 10000)
  let t := if bad then s.bump (Fld.AOP.FRAME_ERR.COUNT p) else s
  t.setPort p (fun x => { x with stamp := some s.time, bad := if bad then x.bad + 1 else 0, good := if bad || !inRange then 0 else x.good + 1 })

/-- New routing takes over at the first frame start after its boundary (R265). -/
def frameRoute (p : Nat) (s : State) : State :=
  match (s.port p).routeAt with
  | some b => if boundaryTick b ≤ s.time then
      s.setPort p (fun x => { x with routeAt := none, route := (s.word (Reg.POD.ROUTE p)).toNat }) else s
  | none => s

/-- The distance of two frame starts from being a whole number of periods apart, in 1/fs ticks. -/
def stampOffset (s : State) (p a b : Nat) : Nat :=
  let r := (((a : Int) - b) * portFs s p % tickRate).toNat
  min r (tickRate - r)

/-- MISMATCH of a member against the leader (R268). -/
def frameMatch (m p : Nat) (s : State) : State :=
  match (s.pod m).leader with
  | none => s
  | some l =>
    match (s.port l).stamp with
    | none => s
    | some ls =>
      if l = p then s
      else
        let off := decide (tickRate < 8 * stampOffset s p s.time ls)
        let t := s.setPort p (fun x => { x with offBy := if off then x.offBy + 1 else 0, matched := if off then 0 else x.matched + 1 })
        let set := s.get (Fld.POD.POD_STAT.MISMATCH m)
        if off && decide (4 ≤ (t.port p).offBy) && !(set.testBit p) then
          raise Ev.POD.MISMATCH (t.set (Fld.POD.POD_STAT.MISMATCH m) (set + 2 ^ p))
        else if set.testBit p && decide (1000 ≤ (t.port p).matched) then t.set (Fld.POD.POD_STAT.MISMATCH m) (set - 2 ^ p)
        else t

/-- The stamp by which a frame's content is due: the leader's own at the same index for a member that matches it, else the port's
(R268). -/
def dueStamp (s : State) (p : Nat) : Nat :=
  match podOf s p with
  | some m => match (s.pod m).leader with
    | some l =>
      if l != p && !((s.get (Fld.POD.POD_STAT.MISMATCH m)).testBit p)
          && s.get (Fld.AOP.FRAME_CNT.COUNT l) == s.get (Fld.AOP.FRAME_CNT.COUNT p) then (s.port l).stamp.getD s.time else s.time
    | none => s.time
  | none => s.time

/-- The programme time due at a stamp: t − L (R260). -/
def dueContent (s : State) (p stamp : Nat) : FrameContent :=
  let fs := portFs s p
  .due (((stamp : Int) - 81920) * fs - 2 * tickRate) fs

/-- The frame of programme `n` at programme time `num`/`fs` ticks, interpolated by the converter (R260; `Config`, log entry 117); sample `i` of
the block of epoch E lies at E × 163 840 + i × 10 240/3 ticks. -/
def programmeAt (s : State) (n : Nat) (num : Int) (fs : Nat) : Sample :=
  let l := at' s.dsp.out n []
  let place := 3 * 256 * (num - (s.epoch * epochTicks * fs : Nat)) / (10240 * fs : Nat)
  let window (v : Sample → Int) : List Int := (place % 256) :: (List.range 64).map (fun (j : Nat) =>
    v (wordSample (l.getD ((epochFrames - 1 : Int) - place / 256 + j - 32).toNat 0)))
  shapedConverter (window (fun x => x.1)) (window (fun x => x.2))

/-- A Q1.31 value in the first WORD_BITS bits of a slot, rounded convergently and saturated, the bits behind it 0 (R257, R259). -/
def slotWord (bits : Nat) (v : Int) : Word := BitVec.ofInt 32 ((narrow bits (roundEven v (2 ^ (32 - bits)))).1 * 2 ^ (32 - bits))

/-- Pairs of a port's format (R259). -/
def portPairs (s : State) (p : Nat) : Nat := slotCount (s.get (Fld.AOP.CTRL.SLOTS p)) / 2

/-- The slots of a frame by the routing in force (R257, R259, R265): each pair zeros or a programme, MONO as (L + R)/2 on both channels. Empty
where no programme has audio. -/
def dueSlots (s : State) (p : Nat) (c : FrameContent) : List Word :=
  match c with
  | .zeros => []
  | .due num fs =>
    if s.dsp.out.toList.all (fun l => l.isEmpty) then []
    else (List.range (portPairs s p)).flatMap (fun j =>
      let src := (s.port p).route / 2 ^ (4 * j) % 8
      let x : Sample := if src = 0 then (0, 0) else programmeAt s (src - 1) num fs
      let y : Sample := if ((s.port p).route / 2 ^ (4 * j)).testBit 3 then (roundEven (x.1 + x.2) 2, roundEven (x.1 + x.2) 2) else x
      let bits := slotBits (s.get (Fld.AOP.CTRL.WORD_BITS p))
      [slotWord bits y.1, slotWord bits y.2])

/-- An event that is raised once per epoch (R269). -/
def noteSlip (p ev : Nat) (s : State) : State :=
  let t := s.setPort p (fun x => { x with noted := true, slipped := true })
  raiseIf (!((s.port p).noted)) ev t

/-- The content of a running output's frame (R260, R269). -/
def emitFrame (p : Nat) (o : FrameObs) (s : State) : State :=
  let t := s.bump (Fld.AOP.LATE_CNT.COUNT p) o.late
  if o.due then t.setPort p (fun x => { x with content := dueContent t p (dueStamp t p), slots := dueSlots t p (dueContent t p (dueStamp t p)) })
  else noteSlip p (Ev.AOP.UNDERRUN p) (carryZeros p (t.bump (Fld.AOP.UNDERRUN_CNT.COUNT p)))

/-- A frame start of an output port (R264, R267, R268, R269). -/
def outFrame (p : Nat) (o : FrameObs) (s : State) : State :=
  let starts (b : Nat) : Bool := decide (boundaryTick b ≤ s.time) && (portState s p == portArmed || (portState s p == portLocking && (podOf s p).isSome))
  match (s.port p).startAt with
  | some b =>
    if !(starts b) then s
    else
      let t := match podOf s p with
        | some m => podRuns m b s
        | none => s
      let u := if portState t p = portZeros then t else emitFrame p o (startFrame p b t)
      match podOf u p with
      | some m => if (u.pod m).late then podStopped m (forEach (podMembers u m) (fun q v => stopPort q v) u) else u
      | none => u
  | none =>
    if (s.port p).stopping then
      let t := portEnds p s
      match podOf t p with
      | some m => podStopped m t
      | none => t
    else if portState s p = portRunning then
      let t := s.bump (Fld.AOP.FRAME_CNT.COUNT p)
      emitFrame p o (match podOf t p with | some m => frameMatch m p t | none => t)
    else if portState s p = portZeros then
      carryZeros p ((s.bump (Fld.AOP.FRAME_CNT.COUNT p)).bump (Fld.AOP.ZERO_CNT.COUNT p))
    else carryZeros p s

/-- A pair's preamble check (R271): `left` and `right` are its slots' words, most significant bit first. -/
def pairFrame (j : Nat) (left right : Word) (s : State) : State :=
  let pre := s.flag Fld.AIP.CTRL.ND_EN && fieldOf left 16 16 == 0xF872 && fieldOf right 16 16 == 0x4E1F
  let t := s.setPort 4 (fun x => { x with quiet := upd x.quiet j (fun n => if pre then 0 else n + 1) })
  let bits := s.get Fld.AIP.STAT.NONAUDIO
  if !pre then t
  else
    let t1 := t.bump Fld.AIP.ND_CNT.COUNT
    if bits.testBit j then t1 else raise Ev.AIP.NONAUDIO (t1.set Fld.AIP.STAT.NONAUDIO (bits + 2 ^ j))

/-- The Q1.31 value of an input slot: its first WORD_BITS bits with zero bits below (R257, R259). -/
def slotValue (bits : Nat) (w : Word) : Int := (w.toInt / 2 ^ (32 - bits)) * 2 ^ (32 - bits)

/-- AIP0 takes a frame: its pairs, zeros where a pair carries a burst (R259, R260, R271). -/
def hearFrame (slots : List Word) (s : State) : State :=
  let bits := slotBits (s.get (Fld.AOP.CTRL.WORD_BITS 4))
  let pair (j : Nat) : Sample := if (s.get Fld.AIP.STAT.NONAUDIO).testBit j then (0, 0)
    else (slotValue bits (slots.getD (2 * j) 0), slotValue bits (slots.getD (2 * j + 1) 0))
  s.setPort 4 (fun x => { x with heard := ((s.time, (List.range (aipPairs s)).map pair) :: x.heard).take 1024 })

/-- The block of pair `j` of AIP0 for the epoch just ended, oldest first: a frame stamped t contributes at programme time t + L (R260, R270;
the converter stands in `Config`, log entry 117). -/
def aipBlock (s : State) (j : Nat) : List Sample :=
  (List.range epochFrames).map (fun i =>
    let due : Int := ((s.epoch - 1) * epochTicks + i * epochTicks / epochFrames : Nat) - portLatency s 4
    let window (v : Sample → Int) : List Int := (s.port 4).heard.flatMap (fun f => [(f.1 : Int) - due, v (f.2.getD j (0, 0))])
    shapedConverter (window (fun x => x.1)) (window (fun x => x.2)))

/-- The pairs of AIP0 over the epoch just ended, where frames came with slots (R270); zeros without a clock (R269). -/
def aipAudioEpoch (s : State) : State :=
  if (s.port 4).heard.isEmpty then s
  else forEach (List.range (aipPairs s)) (fun j t =>
    decoderAudio { lane := 255, sel := j, frames := if portState s 4 = portRunning then aipBlock s j else List.replicate epochFrames (0, 0) } t) s

/-- A frame start of AIP0 (R269 to R271). -/
def inFrame (o : FrameObs) (s : State) : State :=
  if (s.port 4).stopping then portEnds 4 s
  else
    let st := portState s 4
    let t := if st = portIdle then s
      else forEach (List.range (aipPairs s)) (fun j u => pairFrame j (o.slots.getD (2 * j) 0) (o.slots.getD (2 * j + 1) 0) u) s
    if st = portZeros then t.bump Fld.AIP.ZERO_CNT.COUNT
    else if st = portRunning then
      let t1 := if o.full then noteSlip 4 Ev.AIP.SLIP (t.bump Fld.AIP.OVERRUN_CNT.COUNT) else if o.slots.isEmpty then t else hearFrame o.slots t
      if 0 < o.missing then noteSlip 4 Ev.AIP.SLIP (t1.bump Fld.AIP.UNDERRUN_CNT.COUNT o.missing) else t1
    else t

/-- PORT_FRAME (R260): a frame start at the present tick, in the states in which device time runs. -/
def portFrame (p : Nat) (o : FrameObs) (s : State) : State :=
  if !(s.running || s.pwr.mode == .hold) then s
  else
    let t := frameCheck p o s
    portsAfter s (if p < 4 then outFrame p o (frameRoute p t) else inFrame o t)

/-! ## Clocks (R261, R269) -/

/-- A clock fault stands (R261). -/
def clockFault (s : State) (p : Nat) : Bool :=
  let x := s.port p
  let missing := match x.stamp with
    | some t => decide (4 * tickRate ≤ (s.time - t) * portFs s p)
    | none => true
  decide (4 ≤ x.bad) || missing || decide (10000 < (s.geti (Fld.AOP.PPM.PPM p)).natAbs)

/-- PORT_CLOCK_FAULT (R261, R269). -/
def portClockFault (p : Nat) (s : State) : State :=
  if !(clkOk s p) || !(clockFault s p) then s
  else
    let t := (s.put (Fld.AOP.STAT.CLK_OK p) false).setPort p (fun x => { x with good := 0, okEpochs := 0, noClock := 0, unlock := true })
    let t1 := if portState t p = portRunning then
        (if (t.port p).stopping then portEnds p t else carryZeros p (setPortState p portZeros t)) else t
    portsAfter s (podLeaders (match podOf t1 p with | some m => podStopped m t1 | none => t1))

/-- PORT_CLOCK_OK (R261). -/
def portClockOk (p : Nat) (s : State) : State :=
  if clkOk s p || decide ((s.port p).good < 8) || decide (10000 < (s.geti (Fld.AOP.PPM.PPM p)).natAbs) then s
  else portsAfter s (podLeaders ((s.put (Fld.AOP.STAT.CLK_OK p) true).setPort p (fun x => { x with okEpochs := 0 })))

/-- A port whose lock has returned plays on (R269); a pod member at the leader's index. -/
def resume (p : Nat) (s : State) : State :=
  if portState s p != portZeros then s
  else
    let t := setPortState p portRunning s
    match (podOf s p).bind (fun m => (s.pod m).leader) with
    | some l => if l = p then t else t.set (Fld.AOP.FRAME_CNT.COUNT p) (s.get (Fld.AOP.FRAME_CNT.COUNT l))
    | none => t

/-- PORT_LOCKED (R261, R264, R269): CLK_OK has held for 50 epochs. -/
def portLocked (p : Nat) (s : State) : State :=
  if !(onBoundary s) || clkLocked s p || !(clkOk s p) || (s.port p).unlock || decide ((s.port p).okEpochs < 50) then s
  else portsAfter s (podLeaders (resume p (arm p (s.put (Fld.AOP.STAT.LOCKED p) true))))

/-- The ports enter a boundary (R261, R264, R269, R270, R272): rates, lock that goes, AIP0's start. -/
def portBoundary (rates : List (Nat × Nat × Int)) (p : Nat) (s : State) : State :=
  let s1 := match rates.find? (fun r => r.1 == p) with
    | some (_, hz, ppm) => (s.set (Fld.AOP.FS_MEAS.HZ p) hz).seti (Fld.AOP.PPM.PPM p) (clampInt (-32768) 32767 ppm)
    | none => s
  let x := s1.port p
  let t := s1.setPort p (fun y => { y with
    okEpochs := if clkOk s1 p then y.okEpochs + 1 else 0, noClock := if clkOk s1 p then 0 else y.noClock + 1,
    unlock := false, noted := false, slipped := false })
  let t1 := if x.unlock then
      let u := t.put (Fld.AOP.STAT.LOCKED p) false
      if (podOf u p).isSome then (if portState u p = portArmed ∧ (u.port p).startAt = none then setPortState p portLocking u else u)
      else if portState u p = portArmed ∨ portState u p = portLocking then (setPortState p portLocking u).setPort p (fun y => { y with startAt := none })
      else u
    else t
  let due := match (t1.port 4).startAt with | some b => decide (b ≤ t1.epoch) | none => false
  if p == 4 && portState t1 4 == portLocking && due then
    (setPortState 4 portRunning t1).setPort 4 (fun y => { y with startAt := none })
  else t1

/-- The ports enter a boundary. -/
def portsBoundary (rates : List (Nat × Nat × Int)) (s : State) : State :=
  portsAfter s (forEach (List.range 5) (fun p t => portBoundary rates p t) s)

/-- Ports and pods stop as FULL is left (R263, R268, R336). -/
def stopPorts (s : State) : State :=
  let t := forEach [0, 1] (fun m u => podStop m u) s
  portsAfter t (forEach (List.range 5) (fun p u => if portState u p = portIdle ∨ (podOf u p).isSome then u else stopPort p u) t)

/-- Ports outside a pod with EN = 1 lock as FULL is entered (R333). -/
def startPorts (s : State) : State :=
  portsAfter s (forEach (List.range 5) (fun p u => if u.flag (Fld.AOP.CTRL.EN p) && (podOf u p).isNone then startLocking p u else u) s)

/-- A write of `ROUTEn` (R265, R273). -/
def writeRoute (port : Port) (n : Nat) (v : Word) (key : Bool) (s : State) : State :=
  (plainWrite port (Reg.POD.ROUTE n) v key s).setPort n (fun x => { x with routeAt := some (s.epoch + 1) })

/-! ## The commands of chapter 10 -/

/-- PORT_ENABLE (R264). -/
def execPortEnable (port : Port) (p : Fin 5) (v : Word) (s : State) : Host.Outcome State Fault Refusal :=
  commit s (hostWrite port (Reg.AOP.CTRL p.val) (withField v 0 1 1) (writePortCtrl port p.val (withField v 0 1 1)) s)

/-- PORT_DISABLE (R264). -/
def execPortDisable (port : Port) (p : Fin 5) (v : Word) (s : State) : Host.Outcome State Fault Refusal :=
  commit s (hostWrite port (Reg.AOP.CTRL p.val) (withField v 0 1 0) (writePortCtrl port p.val (withField v 0 1 0)) s)

/-- PORT_FORMAT_WRITE (R258). -/
def execPortFormatWrite (port : Port) (p : Fin 5) (v : Word) (s : State) : Host.Outcome State Fault Refusal :=
  commit s (hostWrite port (Reg.AOP.CTRL p.val) v (writePortCtrl port p.val v) s)

/-- PORT_FRAME (R260). -/
def execPortFrame (p : Fin 5) (obs : FrameObs) (s : State) : Host.Outcome State Fault Refusal := commit s (portFrame p.val obs s)

/-- NONAUDIO_RELEASE (R271). -/
def execNonaudioRelease (pair : Fin 4) (s : State) : Host.Outcome State Fault Refusal :=
  let bits := s.get Fld.AIP.STAT.NONAUDIO
  commit s (if bits.testBit pair.val && decide (16384 ≤ at' (s.port 4).quiet pair.val 0) then
    raise Ev.AIP.AUDIO (s.set Fld.AIP.STAT.NONAUDIO (bits - 2 ^ pair.val)) else s)

/-- PORT_CLOCK_FAULT (R261). -/
def execPortClockFault (p : Fin 5) (s : State) : Host.Outcome State Fault Refusal := commit s (portClockFault p.val s)

/-- PORT_CLOCK_OK (R261). -/
def execPortClockOk (p : Fin 5) (s : State) : Host.Outcome State Fault Refusal := commit s (portClockOk p.val s)

/-- PORT_LOCKED (R261). -/
def execPortLocked (p : Fin 5) (s : State) : Host.Outcome State Fault Refusal := commit s (portLocked p.val s)

/-- AIP_CLOCK_TIMEOUT (R269): 1 s without CLK_OK. -/
def execAipClockTimeout (s : State) : Host.Outcome State Fault Refusal :=
  commit s (if portState s 4 = portZeros ∧ 1000 ≤ (s.port 4).noClock then portsAfter s (setPortState 4 portLocking s) else s)

/-- ROUTE_WRITE (R265). -/
def execRouteWrite (port : Port) (n : Fin 4) (v : Word) (s : State) : Host.Outcome State Fault Refusal :=
  commit s (hostWrite port (Reg.POD.ROUTE n.val) v (writeRoute port n.val v) s)

/-- POD_MEMBERS_WRITE (R266). -/
def execPodMembersWrite (port : Port) (m : Fin 2) (v : Word) (s : State) : Host.Outcome State Fault Refusal :=
  commit s (hostWrite port (Reg.POD.POD_CFG m.val) v (writePodCfg port m.val v) s)

/-- POD_START (R267). -/
def execPodStart (port : Port) (m : Fin 2) (v : Word) (s : State) : Host.Outcome State Fault Refusal :=
  commit s (hostWrite port (Reg.POD.POD_CMD m.val) (withField v 0 1 1) (fun _ => writePodCmd m.val (withField v 0 1 1)) s)

/-- POD_START_POST (R267). -/
def execPodStartPost (m : Fin 2) (s : State) : Host.Outcome State Fault Refusal :=
  let x := s.pod m.val
  commit s (if podState s m.val = 1 ∧ x.posted = false ∧ (podMembers s m.val).all (fun p => clkLocked s p && (s.port p).startAt.isNone) then
    postSoon (.pod m.val) (s.setPod m.val (fun y => { y with posted := true })) else s)

/-- POD_STOP (R267, R268). -/
def execPodStop (port : Port) (m : Fin 2) (v : Word) (s : State) : Host.Outcome State Fault Refusal :=
  commit s (hostWrite port (Reg.POD.POD_CMD m.val) (withField v 1 1 1) (fun _ => writePodCmd m.val (withField v 1 1 1)) s)

end Sys2Proof.Machine
end

