-- ==== Sys2Proof/Machine/Twc.lean ====
section
/-!
DEFINITION. The auxiliary two-wire controller (chapter 13): transfers, event scripts, the order of work and its results. What the bus
does (acknowledges, arbitration, bytes read) is an operand of the command that reports it.
-/

namespace Sys2Proof.Machine

open Sys2Proof

/-! ## Results (R325) -/

/-- The controller's part changed. -/
def State.setTwc (s : State) (f : Twc → Twc) : State := { s with twc := f s.twc }

/-- A result is posted: the script it is of, the step at which that ended, and the bytes read. -/
def twcResult (cause : Nat) (script : Option Nat) (step : Nat) (rd : List (BitVec 8)) (s : State) : State :=
  let bytes := rd.map (fun b => b.toNat)
  raise (if cause = 0 then Ev.TWC.DONE else Ev.TWC.ERROR) (postResult 22
    ([(Reg.TWC.RES0, wordOf [(12, 4, cause), (16, 1, script.isSome.toNat), (17, 4, script.getD 0)]),
      (Reg.TWC.RES1, wordOf [(0, 8, step), (8, 6, s.twc.wrDone), (16, 6, rd.length)])] ++
     (List.range 8).map (fun k => (Reg.TWC.RX k, packBytes bytes k))) s)

/-- The work item in progress ends (R323, R325): a host transfer always posts its result, a script run one with a cause, and with
NOTIFY also its success. -/
def endWork (cause : Nat) (rd : List (BitVec 8)) (s : State) : State :=
  let t := s.setTwc (fun x => { x with work := .idle, xfer := none, waitTo := none, losses := 0 })
  match s.twc.work with
  | .idle => t
  | .host => twcResult cause none 0 rd (t.setTwc (fun x => { x with host := none }))
  | .script n step => if cause != 0 || s.twc.notify then twcResult cause (some n) (min 255 step) [] t else t

/-- Bytes the manual does not give: those of a transfer that the device itself breaks off. -/
def freeBytes : Nat → State → List (BitVec 8) × State
  | 0, s => ([], s)
  | k + 1, s =>
    let (b, t) := s.fresh 8
    let (l, u) := freeBytes k t
    (BitVec.ofNat 8 b :: l, u)

/-- The transfer on the bus is broken off (R313, R320): how many of its bytes had passed by then is open (free values). -/
def breakOff (cause : Nat) (s : State) : State :=
  match s.twc.xfer with
  | none => endWork cause [] s
  | some (_, wr, rd) =>
    let (a, t) := s.fresh 6
    let (b, u) := t.fresh 6
    let (bytes, x) := freeBytes (b % (rd + 1)) u
    endWork cause bytes (x.setTwc (fun c => { c with wrDone := a % (wr.length + 1) }))

/-! ## Steps (R324) -/

/-- The step of the running script at `step`. -/
def scriptStep (s : State) (step : Nat) : Word := s.twc.steps.getD step 0

/-- A step word spells a transfer: its address and bytes. -/
def stepTransfer (w : Word) : Option (Nat × List (BitVec 8)) :=
  match fieldOf w 28 4 with
  | 1 => some (fieldOf w 16 7, [BitVec.ofNat 8 (fieldOf w 0 8)])
  | 2 => some (fieldOf w 16 7, [BitVec.ofNat 8 (fieldOf w 8 8), BitVec.ofNat 8 (fieldOf w 0 8)])
  | _ => none

/-- The running script comes to `step`: an END or the end of the memory ends it, a WAIT holds it, a transfer waits for the bus. -/
def enterStep (n step : Nat) (s : State) : State :=
  let t := s.setTwc (fun x => { x with work := .script n step, xfer := none, waitTo := none, losses := 0 })
  if 255 < step then endWork 0 [] t
  else
    let w := scriptStep s step
    match fieldOf w 28 4 with
    | 0 => endWork 0 [] t
    | 1 => t
    | 2 => t
    | 3 => t.setTwc (fun x => { x with waitTo := some (s.epoch + max 1 (fieldOf w 0 16)) })
    | _ => endWork 9 [] t

/-- The sequencer takes its next work item (R323): the pending script first in order, else the host transfer. A run keeps the steps
and configuration it starts with (R325). -/
def nextItem (s : State) : State :=
  match s.twc.order with
  | n :: rest => enterStep n (s.get (Fld.TWC.SCR_CFG.START n)) (s.setTwc (fun x =>
      { x with order := rest, notify := s.flag (Fld.TWC.SCR_CFG.NOTIFY n),
               steps := (List.range 256).map (fun i => s.word (Reg.TWC.STEP i)) }))
  | [] => if s.twc.host.isSome then s.setTwc (fun x => { x with work := .host }) else s

/-- Byte `i` of TX0–TX7 (R315). -/
def txByte (s : State) (i : Nat) : BitVec 8 := BitVec.ofNat 8 (fieldOf (s.word (Reg.TWC.TX (i / 4))) (8 * (i % 4)) 8)

/-- The transfer that the item in progress wants to start. -/
def wantedTransfer (s : State) : Option (Nat × List (BitVec 8) × Nat) :=
  if s.twc.xfer.isSome || s.twc.waitTo.isSome then none
  else match s.twc.work with
    | .idle => none
    | .host => s.twc.host.map (fun h => (h.1, (List.range h.2.1).map (txByte s), h.2.2))
    | .script _ step => (stepTransfer (scriptStep s step)).map (fun x => (x.1, x.2, 0))

/-- `s` with a work item in progress where one can be. -/
def withItem (s : State) : State := if s.twc.work == .idle then nextItem s else s

/-- TWC_WORK_START (R317, R321, R323): the bus is sampled before the START of the next transfer. -/
def workStart (bus : TwcBus) (s : State) : State :=
  if !auxDrives s then s
  else
    let t := withItem s
    match wantedTransfer t with
    | none => t
    | some x =>
      match bus with
      | .stuck => endWork 5 [] ((raise Ev.TWC.STUCK_SDA t).put Fld.TWC.STAT.DISABLED true)
      | _ => t.setTwc (fun c => { c with xfer := some x })

/-- TWC_WORK_START (R323). -/
def execTwcWorkStart (bus : TwcBus) (s : State) : Host.Outcome State Fault Refusal := commit s (workStart bus s)

/-- TWC_BUS_BUSY_TIMEOUT (R317). -/
def busBusyTimeout (s : State) : State :=
  if !auxDrives s then s
  else
    let t := withItem s
    if (wantedTransfer t).isSome then endWork 6 [] t else t

/-- TWC_BUS_BUSY_TIMEOUT (R317). -/
def execTwcBusBusyTimeout (s : State) : Host.Outcome State Fault Refusal := commit s (busBusyTimeout s)

/-- TWC_TRANSFER_DONE (R315, R316, R324): a NACK ends a host transfer and a step without CONT. -/
def transferDone (o : TwcDoneObs) (s : State) : State :=
  match s.twc.xfer with
  | none => s
  | some (_, wr, rd) =>
    let cause := if o.nackAddr then 1 else if o.nackData && !wr.isEmpty then 2 else 0
    let done := if cause = 0 then wr.length else if cause = 1 then min o.wrDone wr.length else min o.wrDone (wr.length - 1)
    let t := s.setTwc (fun x => { x with wrDone := done })
    match s.twc.work with
    | .script n step =>
      if cause = 0 || (scriptStep s step).getLsbD 24 then enterStep n (step + 1) t else endWork cause [] t
    | _ => endWork cause (if cause = 0 then (List.range rd).map (fun i => o.rdBytes.getD i 0) else []) t

/-- TWC_TRANSFER_DONE (R316). -/
def execTwcTransferDone (obs : TwcDoneObs) (s : State) : Host.Outcome State Fault Refusal := commit s (transferDone obs s)

/-- SCRIPT_WAIT_END (R324): the WAIT's boundary has come. -/
def scriptWaitEnd (s : State) : State :=
  match s.twc.waitTo, s.twc.work with
  | some b, .script n step => if b ≤ s.epoch then enterStep n (step + 1) s else s
  | _, _ => s

/-- SCRIPT_WAIT_END (R324). -/
def execScriptWaitEnd (s : State) : Host.Outcome State Fault Refusal := commit s (scriptWaitEnd s)

/-- ARBITRATION_LOST (R320): the transfer is repeated from START while retries are left. -/
def arbitrationLost (s : State) : State :=
  if s.twc.xfer.isNone then s
  else
    let t := s.bumpSat Fld.TWC.ARB_CNT.COUNT
    if t.twc.losses < t.get Fld.TWC.CTRL.ARB_RETRY then t.setTwc (fun x => { x with xfer := none, losses := x.losses + 1 })
    else breakOff 3 t

/-- ARBITRATION_LOST (R320). -/
def execArbitrationLost (s : State) : Host.Outcome State Fault Refusal := commit s (arbitrationLost s)

/-- TWC_STUCK_SCL (R314, R319): the item under way, or about to start, is abandoned. -/
def stuckScl (wrDone rdDone : Nat) (s : State) : State :=
  if !auxDrives s then s
  else
    let t := withItem s
    match t.twc.xfer with
    | some (_, wr, rd) =>
      let (bytes, u) := freeBytes (min rdDone rd) t
      endWork 4 bytes (raise Ev.TWC.STUCK_SCL (u.setTwc (fun x => { x with wrDone := min wrDone wr.length })))
    | none => if (wantedTransfer t).isSome then endWork 4 [] (raise Ev.TWC.STUCK_SCL t) else t

/-- TWC_STUCK_SCL (R319). -/
def execTwcStuckScl (wrDone rdDone : Nat) (s : State) : Host.Outcome State Fault Refusal := commit s (stuckScl wrDone rdDone s)

/-! ## What the host writes -/

/-- A write of `TWC.CMD` (R318); while the port is disabled its work item ends with STUCK_SDA (R321). -/
def writeTwcCmd (v : Word) (s : State) : State :=
  let wr := fieldOf v 8 6
  let rd := fieldOf v 16 6
  if s.twc.host.isSome || decide (32 < wr) || decide (32 < rd) then twcResult 8 none 0 [] s
  else if s.flag Fld.TWC.STAT.DISABLED then twcResult 5 none 0 [] s
  else s.setTwc (fun x => { x with host := some (fieldOf v 0 7, wr, rd) })

/-- TWC_HOST_TRANSFER (R318). -/
def execTwcHostTransfer (port : Port) (v : Word) (s : State) : Host.Outcome State Fault Refusal :=
  commit s (hostWrite port Reg.TWC.CMD v (fun _ => writeTwcCmd v) s)

/-- A write of `CMD_RUN` (R322). -/
def writeTwcRun (v : Word) (s : State) : State := if v.getLsbD 8 then triggerScript (fieldOf v 0 4) s else s

/-- SCRIPT_RUN_CMD (R322). -/
def execScriptRunCmd (port : Port) (v : Word) (s : State) : Host.Outcome State Fault Refusal :=
  let w := withField v 8 1 1
  commit s (hostWrite port Reg.TWC.CMD_RUN w (fun _ => writeTwcRun w) s)

/-- The item in progress ends as the lines are released (R313): by RESET, or because the port may no longer drive. -/
def releaseLines (s : State) : State := if s.twc.work == .idle then s else breakOff 7 s

/-- The device leaves the states in which the port drives (R313): pending runs are discarded and counted. -/
def stopTwc (s : State) : State :=
  let t := releaseLines s
  (t.bumpSat Fld.TWC.SKIP_CNT.COUNT t.twc.order.length).setTwc (fun x => { x with order := [] })

/-- A write of `TWC.CTRL` (R313, R321): RESET and REENABLE act at once; clearing EN releases the lines. -/
def writeTwcCtrl (port : Port) (v : Word) (key : Bool) (s : State) : State :=
  let t := plainWrite port Reg.TWC.CTRL v key s
  let t1 := if v.getLsbD 3 || !(t.flag Fld.TWC.CTRL.EN) then releaseLines t else t
  if v.getLsbD 4 then t1.put Fld.TWC.STAT.DISABLED false else t1

/-- TWC_RESET (R313). -/
def execTwcReset (port : Port) (v : Word) (s : State) : Host.Outcome State Fault Refusal :=
  let w := withField v 3 1 1
  commit s (hostWrite port Reg.TWC.CTRL w (writeTwcCtrl port w) s)

/-- TWC_REENABLE (R321). -/
def execTwcReenable (port : Port) (v : Word) (s : State) : Host.Outcome State Fault Refusal :=
  let w := withField v 4 1 1
  commit s (hostWrite port Reg.TWC.CTRL w (writeTwcCtrl port w) s)

end Sys2Proof.Machine
end

