-- ==== Sys2Proof/Machine/Nv.lean ====
section
/-!
DEFINITION. The NV store (chapter 16): settings generations, the commands of `NVS.CMD`, wear management, the regulatory block and its
seal. The encoding of a generation's body is the firmware's (R371); a generation here holds what the body says.
-/

namespace Sys2Proof.Machine

open Sys2Proof

/-! ## Settings (R371 to R373) -/

/-- The bits of the RWP fields of the register at `a`. -/
def rwpMask (a : Nat) : Word :=
  match regSpec a with
  | none => 0
  | some r => (r.fields.filter (fun f => f.type == .rwp)).foldl (fun m f => m ||| fieldMask f.lo f.width) 0

/-- The byte addresses of one row of the register map. -/
def RegSpec.addrs (r : RegSpec) : List Nat :=
  (List.range r.npages).flatMap (fun p => (List.range r.count).map (fun k => (r.page + p) * 4096 + r.off + r.stride * k))

/-- The registers that have RWP fields. -/
def rwpAddrs : List Nat := (RegMap.table.filter (fun r => r.fields.any (fun f => f.type == .rwp))).flatMap RegSpec.addrs

/-- The settings as they stand: the RWP bits of each register where they differ from its reset word. -/
def settingsOf (s : State) : List (Nat × Word) :=
  rwpAddrs.filterMap (fun a =>
    let w := s.word a &&& rwpMask a
    if w = resetWord a &&& rwpMask a then none else some (a, w))

/-- The RWP bits of the register at `a` take `v` as if the host wrote them (R280, R373). -/
def restoreWord (a : Nat) (v : Word) (s : State) : State :=
  let m := rwpMask a
  let w := (s.word a &&& ~~~m) ||| (v &&& m)
  if a = Reg.COX.CTRL then writeCoexCtrl .spi w false s
  else match lowest 3 (fun n => a == Reg.CLK.CLKOUT_CFG n), lowest 4 (fun n => a == Reg.POD.ROUTE n) with
  | some n, _ => writeClkout .spi n w false s
  | none, some n => writeRoute .spi n w false s
  | none, none => s.setWord a (treat a w)

/-- Every RWP field takes its value of `words`, or its reset value (R373); clock outputs and routing follow as after a write. -/
def restoreWords (words : List (Nat × Word)) (s : State) : State :=
  let t := forEach rwpAddrs (fun a u =>
    let v := ((words.find? (fun c => c.1 == a)).map (fun c => c.2)).getD (resetWord a)
    if u.word a &&& rwpMask a = v &&& rwpMask a then u else restoreWord a v u) s
  portsAfter s t

/-- The host classes of the identity book. -/
def hostClasses (s : State) : List (Nat × PibClass) :=
  (List.range 64).filterMap (fun i => match at' s.pib.classes i none with
    | some c => if c.host then some (i, c) else none
    | none => none)

/-- The host classes are replaced by `l`; classes from linkage follow (R233, R373). -/
def restoreClasses (l : List (Nat × PibClass)) (s : State) : State :=
  let kept := s.pib.classes.map (fun c => match c with | some x => if x.host then none else some x | none => none)
  let t : State := { s with pib := { s.pib with classes := kept } }
  let u := forEach l (fun c v => v.setClass c.1 (some c.2)) t
  let v := if s.pib.classes == u.pib.classes then u else pibChanged u
  pibFollow v

/-- The settings and host classes of a generation come into force. -/
def restoreGen (g : Generation) (s : State) : State := restoreClasses g.classes (restoreWords g.words s)

/-! ## Generations (R371, R372) -/

/-- A generation is complete and passes its checks. -/
def Generation.valid (g : Generation) : Bool := g.marker && g.ok

/-- Generations with the highest numbers first. -/
def byNumber (l : List Generation) : List Generation := sortBy (fun a b => decide (b.num ≤ a.num)) l

/-- The generations of a format, newest first. -/
def gensOf (nv : NvStore) (fmt : Nat) : List Generation := byNumber (nv.gens.filter (fun g => g.fmt == fmt))

/-- What firmware of format `fmt`, converting from `from_` on, restores (R372): the newest valid generation of its format; else the
newest valid one of an older format it converts from, a higher format first (DEDUCED, log entry 70). -/
def pickGen (nv : NvStore) (fmt from_ : Nat) : Option Generation :=
  ((gensOf nv fmt).find? Generation.valid).orElse (fun _ =>
    (nv.gens.filter (fun g => g.valid && decide (from_ ≤ g.fmt) && decide (g.fmt < fmt))).foldl (fun b g => match b with
      | none => some g
      | some x => if x.fmt < g.fmt ∨ (x.fmt = g.fmt ∧ x.num < g.num) then some g else some x) none)

/-- A generation that was read and carries its marker failed its check (R372, R385). -/
def readError (nv : NvStore) (fmt : Nat) : Bool := ((gensOf nv fmt).takeWhile (fun g => !g.valid)).any (fun g => g.marker)

/-- The newest generation of the format could not be restored, and another of the format is (R341, R372). -/
def fellBack (nv : NvStore) (fmt : Nat) : Bool :=
  match gensOf nv fmt with
  | [] => false
  | g :: rest => !g.valid && rest.any Generation.valid

/-- GEN_NOW and WEAR show generation `g` (R371, R383). -/
def showGen (g : Generation) (s : State) : State :=
  ((s.set Fld.NVS.GEN_NOW.FORMAT g.fmt).set Fld.NVS.GEN_NOW.GEN_LO g.num).set Fld.NVS.WEAR.G g.sectors.length

/-! ## Wear (R375, R376) -/

/-- The erase count of a settings sector. -/
def eraseCount (nv : NvStore) (n : Nat) : Nat := ((nv.erases.find? (fun e => e.1 == n)).map (fun e => e.2)).getD 0

/-- Sector `n` is erased once more. -/
def eraseSector (n : Nat) (nv : NvStore) : NvStore :=
  { nv with erases := (n, eraseCount nv n + 1) :: nv.erases.filter (fun e => e.1 != n) }

/-- The settings sectors that hold no live generation, those with the lowest counts first, then by number. -/
def freeSectors (nv : NvStore) : List Nat :=
  let live := (nv.gens.filter (fun g => g.marker)).flatMap (fun g => g.sectors)
  sortBy (fun a b => decide (eraseCount nv a ≤ eraseCount nv b))
    ((List.range 256).filter (fun n => !(live.contains n) && !(nv.lostSettings.contains n)))

/-- MAX_ERASE and RETIRED follow the store (R383). -/
def showWear (s : State) : State :=
  let live := (s.nv.gens.filter (fun g => g.marker)).flatMap (fun g => g.sectors)
  (s.set Fld.NVS.WEAR.MAX_ERASE ((live.map (eraseCount s.nv)).foldl max 0)).set Fld.NVS.WEAR.RETIRED (min 255 s.nv.retired)

/-- The sectors of the areas of R369: the settings area has 0 to 255 and the image slot 256 to 639; then come the two copies of the
image-state record, the regulatory block, calibration, and the BIST records (the numbers are the model's own, log entry 76). -/
def recordSector (b : Bool) : Nat := 640 + b.toNat
def rglSector : Nat := 642
def sectorCount : Nat := 723

/-- The regulatory block is erased and programmed (R378). -/
def putRgl (b : RglBlock) (nv : NvStore) : NvStore := eraseSector rglSector { nv with rgl := some b }

/-- A sector is retired (R376): a spare takes its place, or its area is one sector smaller. Below 16 spares WEAR_LOW is raised once. -/
def retireSector (n : Nat) (s : State) : State :=
  let v : NvStore := { s.nv with retired := s.nv.retired + 1, erases := s.nv.erases.filter (fun e => e.1 != n) }
  let v1 : NvStore := if 0 < v.spares then { v with spares := v.spares - 1 }
    else if n < 256 then { v with lostSettings := n :: v.lostSettings }
    else if n < 640 then { v with lostImage := v.lostImage + 1 }
    else v
  let low := decide (v1.spares < 16) && !v1.lowRaised
  raiseIf low Ev.NVS.WEAR_LOW (raise Ev.NVS.RETIRED (showWear { s with nv := { v1 with lowRaised := v1.lowRaised || low } }))

/-- WEAR_MANAGEMENT (R376): between STOREs and block writes a sector is retired that has reached 100 000 erases or fails. -/
def wearManagement (n : Nat) (failing : Bool) (s : State) : State :=
  if s.nvJob.storing || !s.fw.handed.isEmpty || decide (sectorCount ≤ n) || s.nv.lostSettings.contains n then s
  else if failing || decide (100000 ≤ eraseCount s.nv n) then retireSector n s
  else s

/-- WEAR_MANAGEMENT (R376). -/
def execWearManagement (sector : Nat) (failing : Bool) (s : State) : Host.Outcome State Fault Refusal :=
  commit s (wearManagement sector failing s)

/-! ## The commands (R373 to R375) -/

/-- A result of the NVS window. GEN is stated for a generation stored or restored; elsewhere it is open (log entry 3). -/
def nvResult (op err : Nat) (gen : Option Nat) (s : State) : State :=
  let (g, t) := match gen with
    | some n => (n, s)
    | none => s.fresh 32
  raise Ev.NVS.RESULT (postResult 23 [(Reg.NVS.RESULT, wordOf [(12, 4, op), (16, 4, err)]), (Reg.NVS.RESULT1, lowWord g)] t)

/-- The format of the running firmware. -/
def settingsFormat (s : State) : Nat := s.fw.running.settingsFmt

/-- The number of the next generation of a format (R371). -/
def nextNumber (nv : NvStore) (fmt : Nat) : Nat := ((nv.gens.filter (fun g => g.fmt == fmt)).map (fun g => g.num)).foldl max 0 + 1

/-- The content of a generation taken now. -/
def snapshotGen (s : State) : Generation :=
  { fmt := settingsFormat s, num := nextNumber s.nv (settingsFormat s), sealCount := (s.word Reg.RGL.SEAL_COUNT).toNat,
    words := settingsOf s, classes := hostClasses s }

/-- A generation is kept: of its format the complete one before it stays too, and the sectors of the others are erased (R372, R374). -/
def keepGen (g : Generation) (nv : NvStore) : NvStore :=
  let same := (gensOf nv g.fmt).filter (fun x => x.marker)
  let gone := same.drop 1 ++ (gensOf nv g.fmt).filter (fun x => !x.marker)
  let v : NvStore := { nv with gens := g :: same.take 1 ++ nv.gens.filter (fun x => x.fmt != g.fmt) }
  gone.foldl (fun n x => x.sectors.foldl (fun m i => eraseSector i m) n) v

/-- The regulatory block as the registers have it. -/
def rglNow (s : State) (isSealed : Bool) : RglBlock :=
  { bandPlan := s.get Fld.RGL.BAND_PLAN.BANDS, injCeil := s.get Fld.RGL.INJ_CEIL.LEVEL, coexDuty := s.get Fld.RGL.COEX_DUTY_CEIL.DUTY,
    aerIlim := s.get Fld.RGL.AER_ILIM_CEIL.STEPS, isSealed := isSealed, count := (s.word Reg.RGL.SEAL_COUNT).toNat }

/-- The regulatory block is rewritten while the seal is open, where an RWL field has changed (R374). -/
def storeRgl (s : State) : State :=
  if s.nvJob.rwlDirty && !(s.flag Fld.RGL.SEAL.SEALED) then
    { s with nv := putRgl (rglNow s false) s.nv, nvJob := { s.nvJob with rwlDirty := false } }
  else s

/-- Generation `g` is written on `g.sectors` and comes into force. -/
def writeGen (g : Generation) (s : State) : State := showWear (showGen g { s with nv := keepGen g s.nv })

/-- On a boundary an accepted STORE takes its snapshot (R374). -/
def storeBoundary (s : State) : State :=
  match s.nvJob.snapAt with
  | some b => if b ≤ s.epoch then { s with nvJob := { s.nvJob with snapAt := none, snap := some (snapshotGen s) } } else s
  | none => s

/-- STORE_DONE (R374, R375): the failed sectors are replaced by fresh ones; a second failure, or too few free sectors, ends the STORE
with NV_FAIL. -/
def storeDone (o : NvObs) (s : State) : State :=
  match s.nvJob.snap with
  | none => s
  | some g =>
    let free := freeSectors s.nv
    let n := 1 + clampNat 1 63 o.body
    let bad := (o.failed.eraseDups.filter (fun i => decide (i < n)))
    let done (t : State) : State := { t with nvJob := { t.nvJob with snap := none, storing := false } }
    let chosen := free.take n
    let fresh := (free.drop n).take bad.length
    if free.length < n then done (nvResult 1 4 none s)
    else if o.failedTwice then
      done (nvResult 1 4 none (retireSector (fresh.getD 0 (chosen.getD (bad.getD 0 0) 0)) s))
    else if free.length < n + bad.length then done (nvResult 1 4 none s)
    else
      let sectors := chosen.zipIdx.map (fun x => match bad.idxOf? x.2 with
        | some j => fresh.getD j 0
        | none => x.1)
      done (nvResult 1 0 (some g.num) (storeRgl (writeGen { g with sectors := sectors } s)))

/-- STORE_DONE (R374). -/
def execStoreDone (obs : NvObs) (s : State) : Host.Outcome State Fault Refusal := commit s (storeDone obs s)

/-- The states in which a command is accepted (R373). -/
def nvAccepts (op : Nat) (s : State) : Bool := if op = 1 then s.running || s.pwr.mode == .hold || s.pwr.mode == .safe else s.pwr.mode == .hold

/-- A write of `NVS.CMD` (R373). -/
def writeNvsCmd (v : Word) (s : State) : State :=
  let op := fieldOf v 0 4
  if op = 0 ∨ 3 < op then nvResult op 1 none s
  else if s.nvJob.storing then nvResult op 2 none s
  else if !(nvAccepts op s) then nvResult op 1 none s
  else if op = 1 then { s with nvJob := { s.nvJob with storing := true, snapAt := some (s.epoch + 1) } }
  else if op = 2 then
    match pickGen s.nv (settingsFormat s) s.fw.running.settingsFrom with
    | none => nvResult 2 3 none s
    | some g => nvResult 2 0 (some g.num) (showGen g (restoreGen g (raiseIf (readError s.nv (settingsFormat s)) Ev.NVS.READ_ERR s)))
  else nvResult 3 0 none (restoreClasses [] (restoreWords [] s))

/-- The outcome of a write of `NVS.CMD`. -/
def nvCommand (port : Port) (w : Word) (s : State) : Host.Outcome State Fault Refusal :=
  commit s (hostWrite port Reg.NVS.CMD w (fun _ => writeNvsCmd w) s)

/-- NV_STORE (R373, R374). -/
def execNvStore (port : Port) (v : Word) (s : State) : Host.Outcome State Fault Refusal := nvCommand port (withField v 0 4 1) s

/-- NV_RESTORE (R373). -/
def execNvRestore (port : Port) (v : Word) (s : State) : Host.Outcome State Fault Refusal := nvCommand port (withField v 0 4 2) s

/-- NV_DEFAULTS (R373). -/
def execNvDefaults (port : Port) (v : Word) (s : State) : Host.Outcome State Fault Refusal := nvCommand port (withField v 0 4 3) s

/-- NV_INVALID_OP (R373): an OP as written, listed or not. -/
def execNvInvalidOp (port : Port) (v : Word) (s : State) : Host.Outcome State Fault Refusal := nvCommand port v s

/-! ## The regulatory block (R377 to R380) -/

/-- The registers of the RWL fields. -/
def rglRegs : List Nat := [Reg.RGL.BAND_PLAN, Reg.RGL.INJ_CEIL, Reg.RGL.COEX_DUTY_CEIL, Reg.RGL.AER_ILIM_CEIL]

/-- A write that R377 refuses. -/
def rglRefuse (s : State) : State := raise Ev.RGL.REFUSED (s.put Fld.RGL.STAT.NOT_HOLD true)

/-- A write to a keyed register without its key is recorded (R281). -/
def recordKeyed (port : Port) (a : Nat) (key : Bool) (s : State) : State := if key then s else recordAccess port a 3 true s

/-- A write of a register with an RWL field (R279, R281, R377). Without its key it is recorded, and outside HOLD refused as well. -/
def writeRgl (port : Port) (a : Nat) (v : Word) (key : Bool) (s : State) : State :=
  if s.flag Fld.RGL.SEAL.SEALED then plainWrite port a v key s
  else if s.pwr.mode != .hold then rglRefuse (recordKeyed port a key s)
  else
    let t := plainWrite port a v key s
    if !key then t
    else ({ t with nvJob := { t.nvJob with rwlDirty := t.nvJob.rwlDirty || t.word a != s.word a } }).put Fld.RGL.STAT.NOT_HOLD false

/-- RGL_LIMIT_WRITE (R377). -/
def execRglLimitWrite (port : Port) (r : Fin 4) (v : Word) (s : State) : Host.Outcome State Fault Refusal :=
  let a := rglRegs.getD r.val 0
  commit s (hostWrite port a v (writeRgl port a v) s)

/-- A write of `RGL.SEAL` (R379). -/
def writeSeal (port : Port) (v : Word) (key : Bool) (s : State) : State :=
  let t := recordKeyed port Reg.RGL.SEAL key s
  if !key || !(v.getLsbD 0) then t
  else if s.pwr.mode != .hold || s.flag Fld.RGL.SEAL.SEALED then rglRefuse t
  else { t with nvJob := { t.nvJob with sealing := true } }.put Fld.RGL.STAT.NOT_HOLD false

/-- SEAL (R379). -/
def execSeal (port : Port) (v : Word) (s : State) : Host.Outcome State Fault Refusal :=
  let w := withField v 0 1 1
  commit s (hostWrite port Reg.RGL.SEAL w (writeSeal port w) s)

/-- The sealed block is in NV (R379). -/
def sealNv (s : State) : State :=
  { s with nv := putRgl (rglNow s true) s.nv, nvJob := { s.nvJob with sealing := false, rwlDirty := false } }

/-- SEAL_DONE (R379). -/
def execSealDone (s : State) : Host.Outcome State Fault Refusal :=
  commit s (if s.nvJob.sealing then raise Ev.RGL.SEAL_CHANGE ((sealNv s).put Fld.RGL.SEAL.SEALED true) else s)

/-- A write of `RGL.UNSEAL` (R380). Outside HOLD it is refused as R377 lays down (DEDUCED, log entry 71). -/
def writeUnseal (port : Port) (v : Word) (key : Bool) (s : State) : State :=
  let t := recordKeyed port Reg.RGL.UNSEAL key s
  if !key || !(v.getLsbD 0) then t
  else if s.pwr.mode != .hold then rglRefuse t
  else (({ t with nvJob := { t.nvJob with unsealing := true } }).put Fld.RGL.UNSEAL.BUSY true).put Fld.RGL.STAT.NOT_HOLD false

/-- UNSEAL (R380). -/
def execUnseal (port : Port) (v : Word) (s : State) : Host.Outcome State Fault Refusal :=
  let w := withField v 0 1 1
  commit s (hostWrite port Reg.RGL.UNSEAL w (writeUnseal port w) s)

/-- A valid token unseals (R380): the block is rewritten with SEAL_COUNT one higher. -/
def unsealNow (s : State) : State :=
  let t := (s.setWord Reg.RGL.SEAL_COUNT (s.word Reg.RGL.SEAL_COUNT + 1)).put Fld.RGL.SEAL.SEALED false
  { t with nv := putRgl (rglNow t false) t.nv, nvJob := { t.nvJob with rwlDirty := false } }

/-- UNSEAL_CHECK_DONE (R380). -/
def unsealDone (valid : Bool) (s : State) : State :=
  if !s.nvJob.unsealing then s
  else
    let t := ({ s with nvJob := { s.nvJob with unsealing := false } }).put Fld.RGL.UNSEAL.BUSY false
    if valid then raiseIf (s.flag Fld.RGL.SEAL.SEALED) Ev.RGL.SEAL_CHANGE ((unsealNow t).put Fld.RGL.UNSEAL.ERR false)
    else raise Ev.RGL.REFUSED (t.put Fld.RGL.UNSEAL.ERR true)

/-- UNSEAL_CHECK_DONE (R380). -/
def execUnsealCheckDone (valid : Bool) (s : State) : Host.Outcome State Fault Refusal := commit s (unsealDone valid s)

/-! ## What an abrupt stop leaves (R364, R374, R379) -/

/-- The NV store as an abrupt stop finds it: of a STORE in progress nothing, an incomplete generation or the whole may stand, and a
sealing may be done or not (free values). -/
def abruptNv (s : State) : State :=
  let (k, s0) := s.fresh 2
  let (body, s1) := s0.fresh 6
  let s2 : State := match s1.nvJob.snap with
    | none => s1
    | some g =>
      let h : Generation := { g with sectors := (freeSectors s1.nv).take (1 + max 1 body), marker := k != 1 }
      if k = 0 then s1 else { s1 with nv := if k = 1 then { s1.nv with gens := h :: s1.nv.gens } else keepGen h s1.nv }
  let (b, s3) := if s2.nvJob.sealing then s2.fresh 1 else (0, s2)
  if b = 1 then sealNv s3 else s3

/-- At BOOT the registers take the regulatory block (R378); a lost block starts the device sealed, and is written anew at once. -/
def bootRgl (s : State) : State :=
  match s.nv.rgl with
  | some b =>
    ((((s.set Fld.RGL.BAND_PLAN.BANDS b.bandPlan).set Fld.RGL.INJ_CEIL.LEVEL b.injCeil).set Fld.RGL.COEX_DUTY_CEIL.DUTY b.coexDuty).set
      Fld.RGL.AER_ILIM_CEIL.STEPS b.aerIlim).setWord Reg.RGL.SEAL_COUNT (lowWord b.count) |>.put Fld.RGL.SEAL.SEALED b.isSealed
  | none =>
    let counts := (s.nv.gens.filter (fun g => g.ok)).map (fun g => g.sealCount)
    let n := if counts.isEmpty then 0x10000 else counts.foldl max 0 + 1
    let t := forEach rglRegs (fun a u => u.setWord a 0) ((s.setWord Reg.RGL.SEAL_COUNT (lowWord n)).put Fld.RGL.SEAL.SEALED true)
    (raise Ev.NVS.READ_ERR ({ t with nv := putRgl (rglNow t true) t.nv })).put Fld.RGL.STAT.BLOCK_LOST true

end Sys2Proof.Machine
end

