-- ==== Sys2Proof/Machine/Image.lean ====
section
/-!
DEFINITION. The Oluen image in the NV store (R351 to R355, R370): its blocks and their CRC, its header, the checks that make it valid,
and the image-state record. SHA-256 and the signature are operands of the commands that check them.
-/

namespace Sys2Proof.Machine

open Sys2Proof

/-! ## Blocks (R352) -/

/-- One byte into a reflected CRC-32C. -/
def crc32cByte (c : Word) (b : Nat) : Word :=
  (List.range 8).foldl (fun x _ => if x.getLsbD 0 then (x >>> 1) ^^^ 0x82F63B78 else x >>> 1) (c ^^^ BitVec.ofNat 32 (b % 256))

/-- CRC-32C of bytes (R352). -/
def crc32c (bytes : List Nat) : Word := (bytes.foldl crc32cByte 0xFFFFFFFF) ^^^ 0xFFFFFFFF

/-- The bytes of words, least significant byte first. -/
def wordBytes (ws : List Word) : List Nat := ws.flatMap (fun w => (List.range 4).map (fun j => fieldOf w (8 * j) 8))

/-- A block's last word is the CRC of the words before it (R352). -/
def blockPasses (ws : List Word) : Bool := ws.length == 1024 && ws.getD 1023 0 == crc32c (wordBytes (ws.take 1023))

/-- Block `n` of the image slot; a block that was never written is erased. -/
def imageBlock (nv : NvStore) (n : Nat) : Option (List Word) := (nv.image.find? (fun b => b.1 == n)).map (fun b => b.2)

/-- The header block. -/
def imageHeader (nv : NvStore) : List Word := (imageBlock nv 0).getD []

/-! ## The header (R353) -/

/-- Word `k` of a header. -/
def headerWord (h : List Word) (k : Nat) : Nat := (h.getD k 0).toNat

/-- BLOCK_COUNT. -/
def blockCount (h : List Word) : Nat := headerWord h 6

/-- The header fields that decide what follows. -/
def parseHeader (h : List Word) (digest : Nat) : ImageHeader :=
  { version := headerWord h 3, blocks := blockCount h, settingsFmt := headerWord h 7 % 65536, settingsFrom := headerWord h 7 / 65536,
    stateFmt := headerWord h 8 % 65536, stateFrom := headerWord h 8 / 65536, outputChanging := headerWord h 9 % 128, digest := digest }

/-- MAGIC and HDR_VER have R353's values. -/
def headerKnown (h : List Word) : Bool := headerWord h 0 == 0x4E554C4F && headerWord h 1 == 1

/-- HW_TYPE has. -/
def hwTypeOk (h : List Word) : Bool := headerWord h 2 == 0x0D968000

/-- BLOCK_COUNT lies in 2–384. -/
def countOk (h : List Word) : Bool := decide (2 ≤ blockCount h) && decide (blockCount h ≤ 384)

/-- The sections of a header: type, first block, blocks, length. -/
def sections (h : List Word) : List (Nat × Nat × Nat × Nat) :=
  ((List.range 16).map (fun i => (headerWord h (64 + 4 * i), headerWord h (65 + 4 * i), headerWord h (66 + 4 * i),
    headerWord h (67 + 4 * i)))).filter (fun x => x.1 != 0)

/-- The size limit of a section type in bytes (R351). -/
def sectionLimit : Nat → Nat
  | 1 => 1550868
  | 2 => 65536
  | 3 => 262144
  | 4 => 65536
  | 5 => 524288
  | _ => 0

/-- Check 3 of R354: each of the five sections once, within its limit and its blocks, without overlap, within the image. `lost` blocks of
the slot have no sector any more (R376). -/
def sectionsOk (h : List Word) (lost : Nat) : Bool :=
  let l := sections h
  let fits (x : Nat × Nat × Nat × Nat) : Bool :=
    decide (x.2.2.2 ≤ sectionLimit x.1) && decide (1 ≤ x.2.1) && decide (x.2.1 + x.2.2.1 ≤ blockCount h)
      && x.2.2.1 == ceilDiv x.2.2.2 4092
  let clear (x y : Nat × Nat × Nat × Nat) : Bool :=
    decide (x.2.1 + x.2.2.1 ≤ y.2.1) || decide (y.2.1 + y.2.2.1 ≤ x.2.1)
  countOk h && decide (blockCount h + lost ≤ 384) && l.length == 5
    && [1, 2, 3, 4, 5].all (fun t => (l.filter (fun x => x.1 == t)).length == 1)
    && l.all fits && l.all (fun x => l.all (fun y => x.1 == y.1 || clear x y))

/-- Check 4: BIND_UNIT is the unit's identity, or all ones. -/
def bindingOk (s : State) (h : List Word) : Bool :=
  let lo := h.getD 4 0
  let hi := h.getD 5 0
  (lo == 0xFFFFFFFF && hi == 0xFFFFFFFF) || (lo == s.word Reg.SYS.UNIT_ID_LO && hi == s.word Reg.SYS.UNIT_ID_HI)

/-- What the checks of R354 say of the image in the slot, in their order, as the ERR of R367: 0 where all pass. `bad` blocks fail their
CRC as they are read. -/
def imageError (s : State) (bad : List Nat) (keyOk sigOk : Bool) : Nat :=
  let h := imageHeader s.nv
  let blocks := List.range (blockCount h)
  if blocks.any (fun n => bad.contains n || (imageBlock s.nv n).isNone) then 3
  else if !headerKnown h then 11
  else if !hwTypeOk h then 6
  else if !sectionsOk h s.nv.lostImage then 11
  else if !bindingOk s h then 7
  else if !keyOk then 5
  else if !sigOk then 4
  else 0

/-! ## The image-state record (R355, R370) -/

/-- The copy written last that passes its check; with neither, a confirmed state of nothing. -/
def imageRecord (nv : NvStore) : ImageRecord :=
  match nv.recA.ok, nv.recB.ok with
  | true, true => if nv.recB.writes ≤ nv.recA.writes then nv.recA else nv.recB
  | true, false => nv.recA
  | false, true => nv.recB
  | false, false => {}

/-- The copy that holds the lower count is written, one above the other (R370). -/
def writeRecord (st : Nat) (digest : Nat) (nv : NvStore) : NvStore :=
  let r (other : ImageRecord) : ImageRecord := { state := st, writes := other.writes + 1, digest := digest }
  if nv.recA.writes ≤ nv.recB.writes then eraseSector (recordSector false) { nv with recA := r nv.recB }
  else eraseSector (recordSector true) { nv with recB := r nv.recA }

/-- NV_STATE. -/
def nvState (s : State) : Nat := (imageRecord s.nv).state

/-- NV_STATE is set; the digest of the record is kept. -/
def setNvState (st : Nat) (s : State) : State := { s with nv := writeRecord st (imageRecord s.nv).digest s.nv }

/-- The codes of NV_STATE. -/
def nvConfirmed : Nat := 0
def nvWriting : Nat := 1
def nvVerified : Nat := 2
def nvTrial : Nat := 3
def nvReverted : Nat := 4

end Sys2Proof.Machine
end

