-- ==== Sys2Proof/Machine/Modes.lean ====
section
/-!
DEFINITION. What each change of the operating state does to the blocks (R331 to R336, R344, R436): receive paths up and down, lanes,
programmes and ports in and out of FULL, entry to SAFE, and the governor's limits.
-/

namespace Sys2Proof.Machine

open Sys2Proof

/-- The code `SYS.STATE` shows. -/
def stateCode (s : State) : Nat := if s.pwr.bootShown then Mode.boot.code else s.pwr.mode.code

/-! ## The receive paths -/

/-- MODE_NOW and TILE_NOW of a path read as in span (R36, R39). -/
def spanNow (p : Path) (s : State) : State :=
  let t := s.set (Fld.FE.STAT.MODE_NOW p.idx) 0
  if p == .lf then t else t.set (Fld.FE.TILE_NOW.KHZ p.idx) 0

/-- The receive paths, LOs and lane fabric power up, in span, with their first gain steps (R332, R335, R436). -/
def powerUp (peaks : Path → Int) (s : State) : State :=
  let t := powerLo .lob (powerLo .lof s)
  forEach [Path.lf, Path.fm, Path.b3] (fun p u =>
    let k := initialStep u p (peaks p)
    let v := (spanNow p u).setPath p (fun _ => { startStep := k })
    if heldOff v p then v else showGain p k v) t

/-- What a plan entry changes while no path is powered: frequency epochs and the hand-over alone stay. -/
def needsPaths (c : Change) : Bool :=
  match c with
  | .freq _ _ _ _ => false
  | .handover => false
  | _ => true

/-- The receive paths power down (R332, R336, R437): tests, injection and checks end, every watch entry is FREE with its record cleared. -/
def powerDown (s : State) : State :=
  let t := forEach [Path.lf, Path.fm, Path.b3] (fun p u =>
    let v := (abandonCheck p u).put (Fld.FE.CTRL.TEST p.idx) false
    (spanNow p v).setPath p (fun _ => {})) s
  let t1 := injBoundary (t.put Fld.INJ.CTRL.ENABLE false)
  let t2 := unpowerLo .lob (unpowerLo .lof t1)
  let t3 := forEach (List.range 136) (fun i u =>
    if (u.lane (20 + i)).state == .retired then u else dropLane (20 + i) .superseded .free u) t2
  let t4 := forEach (plantedSlots t3 (fun _ => true)) (fun i u => pull i .superseded u) t3
  let t5 := dropReq (cancelEntries needsPaths t4)
  { t5 with mgr := { t5.mgr with waiting := [], dwell := [], migrated := [] }, aux := { t5.aux with waits := [] } }

/-! ## FULL -/

/-- A full lane is tuned as if its TUNE register had just been written (R333). -/
def retuneStored (l : Nat) (s : State) : State :=
  let i := laneInst l
  match laneClass l with
  | .fm => if s.get (Fld.FMF.TUNE.FREQ_KHZ i) = 0 then s else writeFmTune i (s.word (Reg.FMF.TUNE i)) s
  | .am => if s.get (Fld.AMF.TUNE.FREQ_KHZ i) = 0 then s else writeAmTune i (s.word (Reg.AMF.TUNE i)) s
  | .dab => if s.flag (Fld.DAB.TUNE.EN i) then writeDabTune i (s.word (Reg.DAB.TUNE i)) s else s
  | .drm => if s.get (Fld.DRM.TUNE.FREQ_KHZ i) = 0 then s else writeDrmTune i (s.word (Reg.DRM.TUNE i)) s
  | _ => s

/-- FULL is entered (R333): stored tunes are acted on and ports lock; slots start as they enter the boundary. -/
def enterFull (s : State) : State := startPorts (forEach (List.range 20) retuneStored s)

/-- A full lane stops and keeps its registers (R336, R344). -/
def stopFull (l : Nat) (s : State) : State :=
  if (s.lane l).state == .retired then s
  else dropLane l .superseded .free (cancelEntries (fun c => match c with
    | .tune k _ _ _ => k == l
    | .release k => k == l
    | .afc k _ => k == l
    | _ => false) s)

/-- FULL is left (R336): slots, ports and pods stop, and full lanes. -/
def leaveFull (s : State) : State :=
  let t := forEach (List.range 4) (fun n u => stopSlot n whyLost u) s
  let t1 := forEach (List.range 20) stopFull (stopPorts t)
  { t1 with pwr := { t1.pwr with suspended := [] } }

/-! ## Changes of state -/

/-- The state shown has changed: `SYS.STATE` is raised (R334). -/
def stateChanged (a t : State) : State := raiseIf (stateCode a != stateCode t) Ev.SYS.STATE t

/-- The device is in `new` from now on. -/
def changeMode (new : Mode) (peaks : Path → Int) (s : State) : State :=
  let toRx := new == .watch || new == .full
  let t := if s.pwr.mode == .full && new != .full then leaveFull s else s
  let t1 := if s.receiving && !toRx then powerDown t else t
  let t2 : State := { t1 with pwr := { t1.pwr with mode := new, bootShown := false } }
  let t3 := if toRx && !s.receiving then powerUp peaks t2 else t2
  let t4 := if new == .full && s.pwr.mode != .full then enterFull t3 else t3
  let t5 := if s.running && !t4.running then stopTwc t4 else t4
  let t6 := if t5.running then t5 else t5.put Fld.SYS.WAKE_CFG.ASSERTED false
  stateChanged s (if new == .hold then t6.put Fld.SYS.CFG_STATUS.COMMITTED false else t6)

/-- An orderly stop to OFF or SLEEP is under way (R438). -/
def stopping (s : State) : Bool :=
  match s.pwr.trans with
  | some t => t.target == .off || t.target == .sleep
  | none => false

/-- SAFE is entered for cause `why` (R400); a held request and a transition are discarded (R334). -/
def enterSafe (why : Nat) (s : State) : State :=
  let t := changeMode .safe (fun _ => 0) { s with pwr := { s.pwr with trans := none, held := none },
                                                   flt := { s.flt with safeAt := none, recovery := none } }
  raise Ev.FLT.SAFE ((t.put Fld.FLT.STAT.RECOVERING false).set Fld.FLT.STAT.SAFE_WHY why)

/-! ## The governor's limits (R344) -/

/-- The governor's level in force. -/
def govLevel (s : State) : Nat := s.get Fld.PMU.GOV_STAT.LEVEL

/-- Lane `l` feeds a programme that the governor keeps. -/
def govFeeds (s : State) (l : Nat) : Bool :=
  allEntries.any (fun e => (decide (govLevel s < 3) || decide (e.1 < 2)) && entryFeeds s e.1 e.2 l)

/-- Lane `l` feeds PGM2 or PGM3 while that still ramps to silence. -/
def govFading (s : State) (l : Nat) : Bool :=
  allEntries.any (fun e => decide (2 ≤ e.1) && entryFeeds s e.1 e.2 l && !(s.flag (Fld.PGM.STAT.MUTED e.1)))

/-- Watch entries beyond a limit are released, weakest first, and rotation has stopped (R344). -/
def limitWatch (s : State) : State :=
  let t := forEach [LaneClass.rds, LaneClass.fic, LaneClass.amw] (fun c u =>
    let used := c.lanes.filter (fun l => u.laneInUse l)
    forEach ((weakestFirst u c).take (used.length - watchLimit u c)) (fun l v => dropLane l .superseded .free v) u) s
  { t with mgr := { t.mgr with dwell := [] } }

/-- On a boundary the limits of the governor's level act, and what it no longer limits returns as R333 lays down (R344). -/
def governorBoundary (s : State) : State :=
  let t := if govLevel s = 0 then s else limitWatch s
  if t.pwr.mode != .full then t
  else
    let out := if govLevel t < 2 then []
      else (List.range 20).filter (fun l => t.laneInUse l && !(govFeeds t l) && !(govFading t l))
    let back := t.pwr.suspended.filter (fun l => decide (govLevel t < 2) || govFeeds t l)
    let keep := (t.pwr.suspended ++ out).filter (fun l => !(back.contains l))
    let t1 := forEach back retuneStored (forEach out stopFull t)
    let t2 : State := { t1 with pwr := { t1.pwr with suspended := keep.eraseDups } }
    let t3 := forEach (decodersUsed t2) (fun c u => match at' u.decoders c none with
      | some x => if mayDecode u x then u
        else showDecoder x false true 0 { u with decoders := upd u.decoders c (fun _ => none), decWait := u.decWait ++ [x] }
      | none => u) t2
    if govLevel t3 < 3 then t3
    else forEach [2, 3] (fun n u => if u.flag (Fld.PGM.STAT.MUTED n) && !(members u n).isEmpty then stopSlot n whyLost u else u) t3

end Sys2Proof.Machine
end

