-- ==== Sys2Proof/Machine/Start.lean ====
section
/-!
DEFINITION. BOOT (R339 to R341): the repair map at step 7 (R389 to R391), the image at step 8 (R351, R355, R365), the settings at
step 10, BOOTED, and entry to RECOVERY (R366).
-/

namespace Sys2Proof.Machine

open Sys2Proof

/-! ## The repair map (R389 to R391) -/

/-- What is known of the memory and logic faults at BOOT: the newest result set, and failed run-time tests. -/
def bootRecords (nv : NvStore) : List BistRecord := (match nv.sets with | x :: _ => x.records | [] => []) ++ nv.runFails

/-- Spare use of a macro so far. -/
def macroMap (nv : NvStore) (m : Nat) : MacroMap := (nv.repair.find? (fun x => x.macro_ == m)).getD { macro_ := m }

/-- The macro's repair map brought up to date (R391): columns that fail in three or more rows, then the other rows and the pending
ones; `none` where the free spares do not suffice. -/
def repairMacro (old : MacroMap) (cells : List (Nat × Nat)) (whole : List Nat) : Option MacroMap :=
  let fresh := cells.filter (fun c => !(old.rows.contains c.1) && !(old.cols.contains c.2))
  let cols := ((fresh.map (fun c => c.2)).eraseDups).filter (fun k =>
    decide (3 ≤ (((fresh.filter (fun c => c.2 == k)).map (fun c => c.1)).eraseDups).length))
  let rows := (((fresh.filter (fun c => !(cols.contains c.2))).map (fun c => c.1)) ++
    whole.filter (fun r => !(old.rows.contains r))).eraseDups
  if old.rows.length + rows.length ≤ 8 ∧ old.cols.length + cols.length ≤ 4 then
    some { old with rows := old.rows ++ rows, cols := old.cols ++ cols }
  else none

/-- The failing cells and whole rows that macro `m` must repair. -/
def macroNeeds (nv : NvStore) (m : Nat) : List (Nat × Nat) × List Nat :=
  let mine := (bootRecords nv).filter (fun r => r.unit == 7 && r.inst == m)
  let pending := nv.pendingRows.filter (fun r => r.unit == 7 && r.inst == m)
  ((mine.filter (fun r => r.col != 1023)).map (fun r => (r.row, r.col)),
    (mine.filter (fun r => r.col == 1023)).map (fun r => r.row) ++ pending.map (fun r => r.row))

/-- The macros that cannot be repaired: their needs exceed their spares, or their records were cut (R388, R391). -/
def badMacros (nv : NvStore) : List Nat :=
  (List.range 72).filter (fun m =>
    let needs := macroNeeds nv m
    (repairMacro (macroMap nv m) needs.1 needs.2).isNone || (match nv.sets with | x :: _ => x.cut.contains m | [] => false))

/-- The banks retired, and the logic units whose BIST failed (R391). -/
def badBanks (nv : NvStore) : List Nat := ((badMacros nv).map (fun m => m / 4)).eraseDups

def badUnits (nv : NvStore) : List UnitId :=
  (((bootRecords nv).filter (fun r => r.kind == 6 && hasReset r.unit)).map (fun r => (r.unit, r.inst))).eraseDups

/-- What became of a record (R390 ACTION). -/
def recordAction (nv : NvStore) (bad : List Nat) (r : BistRecord) : BistRecord :=
  if r.kind = 6 then { r with action := 3 }
  else if r.unit != 7 then r
  else if bad.contains r.inst then { r with action := 3 }
  else if (macroMap nv r.inst).cols.contains r.col then { r with action := 2 }
  else { r with action := 1 }

/-- One BOOT more lies between a record and now. -/
def ageRecord (r : BistRecord) : BistRecord := { r with bootsAgo := r.bootsAgo + 1 }

/-- The repair area after step 7. The pending rows of an unrepairable macro stay pending. Sets age unless the last stop took the
newest (R388); the orderly-stop marker is cleared (R348). -/
def repairNv (nv : NvStore) : NvStore :=
  let bad := badMacros nv
  let maps := (List.range 72).filterMap (fun m =>
    let needs := macroNeeds nv m
    let x := if bad.contains m then macroMap nv m else (repairMacro (macroMap nv m) needs.1 needs.2).getD (macroMap nv m)
    if x.rows.isEmpty && x.cols.isEmpty then none else some x)
  let v : NvStore := { nv with repair := maps }
  let age (fresh : Bool) (x : ResultSet) : ResultSet :=
    if fresh then x else { x with bootsSince := x.bootsSince + 1, records := x.records.map ageRecord }
  let sets := nv.sets.zipIdx.map (fun x =>
    let y := age (x.2 == 0 && nv.stopTest == 0) x.1
    if x.2 = 0 then { y with records := y.records.map (recordAction v bad) } else y)
  { v with sets := sets, runFails := [], marker := false, lastBanks := badBanks nv, lastUnits := badUnits nv,
           pendingRows := (nv.pendingRows.filter (fun r => bad.contains r.inst)).map ageRecord }

/-- The map, a bank or a unit changed at this BOOT (R391). -/
def repairChanged (nv : NvStore) : Bool :=
  let v := repairNv nv
  v.repair != nv.repair || v.lastBanks != nv.lastBanks || v.lastUnits != nv.lastUnits

/-- The pool size with `n` programme banks retired (R242). -/
def poolBlocks (n : Nat) : Nat :=
  match n with
  | 0 => 21845
  | 1 => 18204
  | 2 => 14563
  | _ => 10922

/-- BST.LAST as BOOT finds it (R388, R402). -/
def lastWord (nv : NvStore) : Word :=
  match nv.sets with
  | [] => wordOf [(0, 2, 3), (2, 3, nv.stopTest)]
  | x :: _ => wordOf [(0, 2, if x.pass then 0 else 1), (2, 3, nv.stopTest), (5, 1, x.trunc.toNat), (8, 8, min 255 x.bootsSince),
      (16, 10, x.records.length)]

/-- Step 7: the repair map is applied, banks and units are marked (R11, R111, R391). -/
def bootRepair (s : State) : State :=
  let banks := badBanks s.nv
  let units := badUnits s.nv
  let bankBits := (banks.map (fun b => 2 ^ b)).sum
  let pool := poolBlocks (banks.filter (fun b => decide (8 ≤ b))).length
  let t : State := { s with nv := repairNv s.nv, pwr := { s.pwr with repaired := repairChanged s.nv },
                            flt := { s.flt with retired := units } }
  let t1 := (t.set Fld.BST.BANKS_RETIRED.BANKS bankBits).setWord Reg.BST.LAST (lastWord t.nv)
  let t2 := forEach (List.range 6) (fun c u =>
    let ok := !(units.contains (1, c))
    (u.put (Fld.LNM.CORE_STAT.HEALTHY c) ok).put (Fld.LNM.CORE_STAT.RETIRED c) (!ok)) t1
  let t3 := t2.setWord Reg.LNM.ACCEL_STAT (units.foldl (fun w x =>
    if x.1 = 1 then w else withField w (accelBit x.1 x.2) 1 0) 0x7FFF)
  showPool (forEach (List.range 4) (fun n u => u.set (Fld.PGM.POOL_TOTAL.TOTAL n) pool) t3)

/-! ## The steps of R339 -/

/-- The reference class of a counted frequency (R55): the nearest of the four, within 10 %. -/
def classifyRef (hz : Nat) : Option Nat :=
  ([(1, 19200000), (2, 26000000), (3, 38400000), (4, 52000000)].find? (fun c =>
    decide (9 * c.2 ≤ 10 * hz) && decide (10 * hz ≤ 11 * c.2))).map (fun c => c.1)

/-- The correction that the boot ROM reads from a settings-generation header: that of the highest number of any format (R131). -/
def bootCorrection (nv : NvStore) : Word :=
  match (byNumber (nv.gens.filter Generation.valid)).head? with
  | some g => ((g.words.find? (fun c => c.1 == Reg.OFS.BOOT_PPB)).map (fun c => c.2)).getD 0
  | none => 0

/-- RECOVERY is entered (R365, R366): the loader serves SYS and FWU, with the four FWU events enabled. -/
def enterRecovery (why : Nat) (s : State) : State :=
  let t : State := { s with pwr := { s.pwr with mode := .recovery, trans := none, held := none } }
  let t1 := ((t.set Fld.FWU.STAT.STAGE stageRecovery).set Fld.FWU.RECOVERY_WHY.WHY why).setWord (evEnAddr 0x06A) 0xF
  let t2 := (t1.set Fld.SYS.BOOT_STAT.CAUSE s.pwr.cause).set Fld.SYS.BOOT_STAT.LAST_STOP s.pwr.lastStop
  stateChanged s t2

/-- Step 8's finding: why the slot's image leads to RECOVERY, or none (R355, R365). A VERIFIED or TRIAL image that fails counts as
IMAGE (DEDUCED, log entry 72). -/
def imageProblem (o : BootObs) (s : State) : Option Nat :=
  let st := nvState s
  if st = nvWriting then some 1
  else if st = nvReverted then some 2
  else if headerWord (imageHeader s.nv) 0 != 0x4E554C4F then some 4
  else if !o.blocksOk || imageError s [] o.keyOk o.sigOk != 0 then some 3
  else none

/-- The settings generation of R372 is restored. -/
def bootSettings (s : State) : State :=
  let fmt := settingsFormat s
  let t := raiseIf (readError s.nv fmt) Ev.NVS.READ_ERR s
  match pickGen s.nv fmt s.fw.running.settingsFrom with
  | some g => { showWear (showGen g (restoreGen g t)) with pwr := { t.pwr with fallback := fellBack s.nv fmt, nvEmpty := false } }
  | none => { t with pwr := { t.pwr with fallback := false, nvEmpty := true } }

/-- Steps 6 to 10, once the reference has class `c`: PLL-S locks and SYS.TIME starts at 0. Where several reasons for RECOVERY hold, the
pin comes first, then the banks, then the image (DEDUCED, log entry 72). -/
def bootOn (c : Nat) (o : BootObs) (s : State) : State :=
  let s0 : State := { s with time := 0 }
  let s1 := (s0.set Fld.CLK.REF_CFG.REF_FREQ c).set Fld.CLK.REF_CFG.REFDIV (if c = 4 then 2 else 1)
  let s2 := ((s1.put Fld.CLK.STAT.LOCKED true).put Fld.CLK.STAT.REF_VALID true).put Fld.PMU.STAT.GRADE_E o.gradeE
  let s3 := setPllWords ({ s2 with loops := { s2.loops with sys := { s2.loops.sys with phaseOut := false } } }.setWord Reg.OFS.CORR_PPB (bootCorrection s.nv))
  let t := bootRepair (s3.put Fld.OFS.STAT.AT_LIMIT (decide (30000 ≤ s3.corr.natAbs)))
  let banks := badBanks s.nv
  if t.pwr.recoveryPin then enterRecovery 5 t
  else if banks.any (fun b => decide (b < 4)) then enterRecovery 6 t
  else if 4 ≤ (banks.filter (fun b => decide (8 ≤ b))).length then enterRecovery 7 t
  else match imageProblem o t with
    | some why => enterRecovery why t
    | none =>
      let h := parseHeader (imageHeader t.nv) o.digest
      let u : State := { t with fw := { t.fw with running := h } }
      let u1 := bootCapacity (bootRgl (u.setWord Reg.FWU.RUN_VER (lowWord h.version)))
      let u2 := bootSettings u1
      { u2 with pwr := { u2.pwr with stage := .ready, bootMs := o.bootMs } }

/-- Step 5 (R55, R340): without a valid reference BOOT stays. -/
def bootReference (o : BootObs) (s : State) : State :=
  match o.refHz.bind classifyRef with
  | some c => bootOn c o s
  | none => { s with pwr := { s.pwr with stage := .reference } }

/-- A new BOOT: everything but the NV store, the supplies, the always-on domain, and what belongs to the model stands at reset. The AON
periods that passed since the last boundary are open (log entry 3). -/
def freshBoot (cause : Nat) (keepAon : Bool) (s : State) : State :=
  let (n, s1) := s.fresh 48
  { nv := s1.nv, free := s1.free, pending := s1.pending,
    pwr := { mode := .boot, pwrEn := s.pwr.pwrEn, vddio := s.pwr.vddio, vsysOk := s.pwr.vsysOk, cause := cause, lastStop := s.pwr.lastStop,
             aonTime := if keepAon then s.pwr.aonTime + n else 0, aonCrystal := s.pwr.aonCrystal, gpioExt := s.pwr.gpioExt, gntHigh := s.pwr.gntHigh,
             actHigh := s.pwr.actHigh, tj := s.pwr.tj } }

/-- Step 1 samples the straps and goes on; without VDDIO BOOT holds there (R303, R365, R411). -/
def sampleStraps (o : BootObs) (s : State) : State :=
  let base := 0x60 + 2 * (o.addrSel % 4)
  let t : State := { s with pwr := { s.pwr with addrSel := o.addrSel % 4, recoveryPin := o.recoveryLow } }
  bootReference o ((t.set Fld.TWT.STAT.ADDR_SEL (o.addrSel % 4)).set Fld.TWT.STAT.BASE base)

/-- A start from OFF or SLEEP, or after the rails were removed (R335, R339, R411). -/
def coldBoot (cause : Nat) (keepAon : Bool) (o : BootObs) (s : State) : State :=
  let t := freshBoot cause keepAon { s with pwr := { s.pwr with vddio := o.vddio } }
  if o.vddio then sampleStraps o t else { t with pwr := { t.pwr with stage := .vddio } }

/-! ## BOOTED (R341) -/

/-- A trial image boots into TRIAL with a full window; one that was VERIFIED first converts the settings in force and writes them in
its format (R355, R362, R363). -/
def bootTrial (s : State) : State :=
  let st := nvState s
  if st = nvVerified ∨ st = nvTrial then
    let t : State := { s with fw := { s.fw with trialEnd := s.epoch + 60000 * s.get Fld.FWU.CFG.WINDOW_MIN } }
    setStage stageTrial (if st = nvVerified then setNvState nvTrial t else t)
  else s

/-- The settings in force are written as a generation of the running firmware's format, where the store has none of it (R363; with one
format for both firmwares there is nothing to convert, DEDUCED, log entry 120). How many sectors they take is the firmware's (free
value). -/
def convertSettings (s : State) : State :=
  if !(gensOf s.nv (settingsFormat s)).isEmpty then s
  else
    let (n, t) := s.fresh 6
    writeGen { snapshotGen t with sectors := (freeSectors t.nv).take (1 + max 1 n) } t

/-- The events of step 3 of R341, and those of the repair and of the results (R388, R391). -/
def bootEvents (s : State) : State :=
  let aged := match s.nv.sets with | x :: _ => decide (0 < x.bootsSince) | [] => false
  let t := raise Ev.SYS.BOOTED s
  let t1 := raiseIf s.pwr.fallback Ev.SYS.FALLBACK t
  let t2 := raiseIf (s.pwr.lastStop == 5) Ev.PMU.RAIL_FAULT t1
  let t3 := raiseIf (s.pwr.lastStop == 6) Ev.PMU.TRIP_SEEN t2
  raiseIf s.pwr.repaired Ev.BST.REPAIR (raiseIf aged Ev.BST.AGED t3)

/-- BOOT_STAT (R348). -/
def bootStat (s : State) : Word :=
  wordOf [(0, 3, s.pwr.cause), (4, 3, s.pwr.lastStop), (7, 1, s.pwr.fallback.toNat), (8, 8, min 255 s.pwr.bootMs),
    (16, 1, s.pwr.nvEmpty.toNat)]

/-- BOOTED (R113, R341): three effective cores or fewer lead to SAFE; else the device is in HOLD, and commits where AUTO_COMMIT asks. -/
def reachBooted (s : State) : State :=
  let wasVerified := nvState s == nvVerified
  let t := (bootEvents (s.setWord Reg.SYS.BOOT_STAT (bootStat s))).setWord (evEnAddr 0) 7
  let t1 := bootTrial t
  let t2 := if wasVerified then convertSettings t1 else t1
  let hold : State := { t2 with pwr := { t2.pwr with mode := .hold, stage := .ready } }
  if effectiveCores s ≤ 3 then enterSafe 3 hold
  else if s.pwr.nvEmpty then stateChanged s (hold.setWord Reg.SYS.CFG_STATUS 1)
  else if s.flag Fld.SYS.BOOT_CFG.AUTO_COMMIT then
    let u : State := { hold with pwr := { hold.pwr with bootShown := true } }
    (u.set Fld.SYS.STATE_REQ.CODE (s.get Fld.SYS.BOOT_CFG.TARGET)).put Fld.SYS.CFG_STATUS.CHECKING true
  else stateChanged s hold

/-- BOOTED (R341). -/
def execBooted (s : State) : Host.Outcome State Fault Refusal :=
  commit s (if s.pwr.mode == .boot && s.pwr.stage == .ready && s.pwr.trans.isNone then reachBooted s else s)

/-! ## What starts and continues BOOT -/

/-- REF_CLASSIFY_RETRY (R340): every 100 ms. -/
def execRefClassifyRetry (obs : BootObs) (s : State) : Host.Outcome State Fault Refusal :=
  commit s (if s.pwr.mode == .boot && s.pwr.stage == .reference then bootReference obs s else s)

/-- VDDIO_PRESENT (R411): a BOOT held at step 1 continues, and the straps are sampled; otherwise the pins resume. -/
def execVddioPresent (obs : BootObs) (s : State) : Host.Outcome State Fault Refusal :=
  let t : State := takeGrant (actChanged s { s with pwr := { s.pwr with vddio := true } })
  commit s (if t.pwr.mode == .boot && t.pwr.stage == .vddio then sampleStraps obs t else t)

/-- VDDIO_ABSENT (R411): the device keeps its state, and every input is inactive. -/
def execVddioAbsent (s : State) : Host.Outcome State Fault Refusal :=
  commit s (actChanged s { s with pwr := { s.pwr with vddio := false } })

end Sys2Proof.Machine
end

