-- ==== Sys2Proof/Machine/Power.lean ====
section
/-!
DEFINITION. State requests and transitions (R334 to R338, R438), the configuration gate (R342, R439), supply and thermal faults (R343),
telemetry and the governor (R345, R401), HOST_WAKE and GPIO (R346, R347).
-/

namespace Sys2Proof.Machine

open Sys2Proof

/-! ## Requests (R334) -/

/-- The state a request code names. -/
def requestMode (code : Nat) : Option Mode :=
  match code with
  | 2 => some .quiet
  | 3 => some .watch
  | 4 => some .full
  | 5 => some .hold
  | 8 => some .sleep
  | 9 => some .off
  | _ => none

/-- A transition to `m` starts now. Leaving FULL takes until boundary E + 22 (R336); a stop begun where no output drives has none to
release (R438). -/
def startTransition (m : Mode) (s : State) : State :=
  let stop := m == .off || m == .sleep
  let free := stop && !s.running
  let t : State := { s with pwr := { s.pwr with
    trans := some { target := m, since := s.epoch, leaveAt := if s.pwr.mode == .full then some (s.epoch + 22) else none, released := free } } }
  if free then t.put Fld.SYS.CFG_STATUS.COMMITTED false else t

/-- An accepted request for state `m`, code `code` (R334): held during a transition, where a request for OFF stays; in HOLD the running
states only name the target of the next commit. -/
def acceptRequest (m : Mode) (code : Nat) (s : State) : State :=
  let t := s.set Fld.SYS.STATE_REQ.CODE code
  if s.pwr.trans.isSome then
    if s.pwr.held == some 9 then s else { t with pwr := { t.pwr with held := some code } }
  else if s.pwr.mode == .hold && (m == .quiet || m == .watch || m == .full) then t
  else if s.pwr.mode == m then t
  else startTransition m t

/-- A write of STATE_REQ (R334). -/
def writeStateReq (v : Word) (s : State) : State :=
  let code := fieldOf v 0 8
  match requestMode code with
  | none => raise Ev.SYS.REQ_REFUSED s
  | some m =>
    if (s.pwr.mode == .safe || s.pwr.mode == .recovery) && m != .sleep && m != .off then raise Ev.SYS.REQ_REFUSED s
    else acceptRequest m code s

/-- The request held during a transition that has completed is taken (R334). -/
def takeHeld (s : State) : State :=
  match s.pwr.held with
  | none => s
  | some code => match requestMode code with
    | some m => acceptRequest m code { s with pwr := { s.pwr with held := none } }
    | none => s

/-- A write of STATE_REQ with code `code`. -/
def stateRequest (port : Port) (code : Nat) (s : State) : Host.Outcome State Fault Refusal :=
  commit s (hostWrite port Reg.SYS.STATE_REQ (lowWord code) (fun _ => writeStateReq (lowWord code)) s)

/-- REQUEST_QUIET (R334). -/
def execRequestQuiet (port : Port) (s : State) : Host.Outcome State Fault Refusal := stateRequest port 2 s

/-- REQUEST_WATCH (R334). -/
def execRequestWatch (port : Port) (s : State) : Host.Outcome State Fault Refusal := stateRequest port 3 s

/-- REQUEST_FULL (R334). -/
def execRequestFull (port : Port) (s : State) : Host.Outcome State Fault Refusal := stateRequest port 4 s

/-- REQUEST_HOLD (R334). -/
def execRequestHold (port : Port) (s : State) : Host.Outcome State Fault Refusal := stateRequest port 5 s

/-- REQUEST_SLEEP (R334). -/
def execRequestSleep (port : Port) (s : State) : Host.Outcome State Fault Refusal := stateRequest port 8 s

/-- REQUEST_OFF (R334, R337). -/
def execRequestOff (port : Port) (s : State) : Host.Outcome State Fault Refusal := stateRequest port 9 s

/-- REQUEST_INVALID (R334): a write of any code; one that R334 does not list is refused. -/
def execRequestInvalid (port : Port) (v : Word) (s : State) : Host.Outcome State Fault Refusal :=
  commit s (hostWrite port Reg.SYS.STATE_REQ v (fun _ => writeStateReq v) s)

/-! ## Stops (R336 to R338, R387, R438) -/

/-- The outputs are released on this boundary: the device reads HOLD and COMMITTED 0 (R438). -/
def releaseOutputs (s : State) : State :=
  let t := changeMode .hold (fun _ => 0) s
  { t with pwr := { t.pwr with trans := t.pwr.trans.map (fun x => { x with released := true, leaveAt := none }) } }

/-- On a boundary a stop from QUIET or WATCH releases its outputs (R337 step 2); FULL is left by LEAVE_FULL_COMMIT. -/
def stopBoundary (s : State) : State :=
  match s.pwr.trans with
  | some x => if stopping s && !x.released && x.leaveAt.isNone && decide (x.since < s.epoch) then releaseOutputs s else s
  | none => s

/-- Why the shutdown test does not run, as STOP_TEST shows it; 0 where it runs (R387). -/
def stopReason (o : StopObs) (s : State) : Nat :=
  if !(s.flag Fld.BST.CFG.SHUTDOWN_TEST) then 1
  else if o.vcoreMv < 720 ∨ 800 < o.vcoreMv then 2
  else if !(s.flag Fld.CLK.STAT.LOCKED) || s.flag Fld.CLK.STAT.COAST || !(s.flag Fld.CLK.STAT.REF_VALID) then 3
  else if o.tj < -320 ∨ 1680 < o.tj then 4
  else 0

/-- The records the test makes: of units that are not retired, and without LOGIC none of logic (R387). -/
def testRecords (o : StopObs) (s : State) : List BistRecord :=
  o.records.filter (fun r => if r.kind = 6 then s.flag Fld.BST.CFG.LOGIC && !(s.flt.retired.contains (r.unit, r.inst)) else true)

/-- The result set of a shutdown test (R388): cut at 512 records. -/
def resultSet (records : List BistRecord) : ResultSet :=
  { records := records.take 512, trunc := decide (512 < records.length), pass := records.isEmpty,
    cut := (((records.drop 512).filter (fun r => r.unit == 7)).map (fun r => r.inst)).eraseDups }

/-- The NV store after the shutdown's steps 4 and 5 (R337, R387, R388). -/
def shutdownNv (o : StopObs) (s : State) : NvStore :=
  let why := stopReason o s
  let v : NvStore := { s.nv with stopTest := why, marker := true }
  if why = 0 then { v with sets := resultSet (testRecords o s) :: v.sets.take 1, runFails := [] } else v

/-- OFF is reached (R337): a PWR_EN that rose meanwhile boots the device again. -/
def reachOff (o : TransObs) (s : State) : State :=
  let t : State := { s with nv := shutdownNv o.stop s,
                            pwr := { s.pwr with mode := .off, down := none, trans := none, held := none, lastStop := 0, aonTime := 0 } }
  if t.pwr.risen && t.pwr.vsysOk then coldBoot 0 false o.boot t else t

/-- SLEEP is reached (R338): no test ran, and a STORE in progress is cut off. -/
def reachSleep (s : State) : State :=
  let t := abruptNv s
  { t with nv := { t.nv with stopTest := 5 }, pwr := { t.pwr with mode := .sleep, trans := none, held := none, lastStop := 1 } }

/-- The peaks of an observation by path. -/
def pathPeak (o : TransObs) : Path → Int
  | .lf => o.peakLf
  | .fm => o.peakFm
  | .b3 => o.peakB3

/-- A transition completes (R335, R337): stops once their outputs are released, and OFF once no STORE is in progress; the others on a
boundary after their request. -/
def completeTransition (o : TransObs) (s : State) : State :=
  match s.pwr.trans with
  | none => s
  | some x =>
    if x.target == .off then if !x.released || s.nvJob.storing then s else reachOff o s
    else if x.target == .sleep then if !x.released then s else reachSleep s
    else if onBoundary s && decide (x.since < s.epoch) && x.leaveAt.isNone then
      let t := changeMode x.target (pathPeak o) s
      takeHeld { t with pwr := { t.pwr with trans := none } }
    else s

/-- TRANSITION_COMPLETE (R335). -/
def execTransitionComplete (obs : TransObs) (s : State) : Host.Outcome State Fault Refusal := commitLanes s (completeTransition obs s)

/-- FULL is left on boundary E + 22 (R336): for OFF and SLEEP the outputs are released, else the target is reached. -/
def leaveFullNow (s : State) : State :=
  match s.pwr.trans with
  | none => s
  | some x => match x.leaveAt with
    | none => s
    | some b =>
      if !(onBoundary s) || s.epoch < b then s
      else if stopping s then releaseOutputs s
      else
        let t := changeMode x.target (fun _ => 0) s
        takeHeld { t with pwr := { t.pwr with trans := none } }

/-- LEAVE_FULL_COMMIT (R336). -/
def execLeaveFullCommit (s : State) : Host.Outcome State Fault Refusal := commitLanes s (leaveFullNow s)

/-! ## The configuration gate (R342, R439) -/

/-- A commit ends or is turned away with a reason. -/
def cfgResult (reason detail : Nat) (s : State) : State :=
  raise Ev.SYS.CFG_RESULT ((s.set Fld.SYS.CFG_STATUS.REASON reason).set Fld.SYS.CFG_STATUS.DETAIL detail)

/-- A write of CFG_COMMIT (R342). -/
def writeCfgCommit (v : Word) (s : State) : State :=
  if !(v.getLsbD 0) then s
  else if s.pwr.mode != .hold then cfgResult 2 (stateCode s) s
  else if s.flag Fld.SYS.CFG_STATUS.CHECKING then cfgResult 3 0 s
  else s.put Fld.SYS.CFG_STATUS.CHECKING true

/-- CFG_COMMIT (R342). -/
def execCfgCommit (port : Port) (v : Word) (s : State) : Host.Outcome State Fault Refusal :=
  commit s (hostWrite port Reg.SYS.CFG_COMMIT v (fun _ => writeCfgCommit v) s)

/-- The members of pod `m` differ in a field that R266 requires equal. -/
def podDiffers (s : State) (m : Nat) : Bool :=
  match podMembers s m with
  | [] => false
  | p :: rest => rest.any (fun q => podFormat (s.word (Reg.AOP.CTRL q)) != podFormat (s.word (Reg.AOP.CTRL p)))

/-- The first check that fails, as REASON and DETAIL; ACCEPTED where none does (R342, R439). -/
def cfgCheck (s : State) : Nat × Nat :=
  let target := s.get Fld.SYS.STATE_REQ.CODE
  let badPod := lowest 2 (fun m => podDiffers s m || (m == 1 && (podMembers s 1).any (fun p => (podMembers s 0).contains p)))
  if target < 2 ∨ 4 < target then (4, target)
  else match lowest 5 (fun p => !(formatLegal (s.word (Reg.AOP.CTRL p)))) with
    | some p => (5, p)
    | none => match badPod with
      | some m => (6, m)
      | none => if s.get Fld.RGL.BAND_PLAN.BANDS = 0 then (7, 0) else (0, 0)

/-- The check ends (R342): an accepted commit starts the transition to the target. -/
def cfgDone (s : State) : State :=
  if !(s.flag Fld.SYS.CFG_STATUS.CHECKING) then s
  else
    let r := cfgCheck s
    let t := cfgResult r.1 r.2 (s.put Fld.SYS.CFG_STATUS.CHECKING false)
    if r.1 = 0 then
      let u := if stopping t then t else t.put Fld.SYS.CFG_STATUS.COMMITTED true
      match requestMode (s.get Fld.SYS.STATE_REQ.CODE) with
      | some m => if u.pwr.trans.isSome then u else startTransition m u
      | none => u
    else stateChanged s { t with pwr := { t.pwr with bootShown := false } }

/-- CFG_CHECK_DONE (R342). -/
def execCfgCheckDone (s : State) : Host.Outcome State Fault Refusal := commit s (cfgDone s)

/-! ## PWR_EN and RESET_N (R335, R337, R338) -/

/-- Below 100 °C, where a tripped device may start (R343). -/
def coolEnough (o : BootObs) : Bool := decide (o.tj < 1600)

/-- PWR_EN rises (R335, R337, R338, R343). -/
def powerEnable (o : BootObs) (s : State) : State :=
  if s.pwr.pwrEn then s
  else
    let t : State := { s with pwr := { s.pwr with pwrEn := true } }
    if !t.pwr.vsysOk then t
    else match t.pwr.mode with
      | .off => match t.pwr.down with
        | none => coldBoot 0 false o t
        | some .trip => if coolEnough o then coldBoot 0 true o t else t
        | some .uvlo => coldBoot 0 true o t
        | some .rail => coldBoot 0 true o t
        | some .lost => coldBoot 0 false o t
      | .sleep => coldBoot 1 true o t
      | _ => if stopping t then { t with pwr := { t.pwr with risen := true } } else t

/-- PWR_EN_RISE (R339). -/
def execPwrEnRise (obs : BootObs) (s : State) : Host.Outcome State Fault Refusal := commit s (powerEnable obs s)

/-- PWR_EN goes low (R337, R338): from every state but OFF and SLEEP the orderly shutdown runs; a stop or a leaving of FULL already
under way goes on towards OFF. -/
def powerDisable (s : State) : State :=
  let t : State := { s with pwr := { s.pwr with pwrEn := false, risen := false } }
  if s.pwr.mode == .off || s.pwr.mode == .sleep then t
  else match s.pwr.trans with
    | some x =>
      if stopping s || x.leaveAt.isSome then { t with pwr := { t.pwr with trans := some { x with target := .off }, held := none } }
      else startTransition .off { t with pwr := { t.pwr with held := none } }
    | none => startTransition .off t

/-- PWR_EN_FALL (R337). -/
def execPwrEnFall (s : State) : Host.Outcome State Fault Refusal := commit s (powerDisable s)

/-- The device stops at once, without a test (R335, R343, R387). -/
def stopAtOnce (lastStop : Nat) (s : State) : State :=
  let t := abruptNv s
  { t with nv := { t.nv with stopTest := 5 }, pwr := { t.pwr with trans := none, held := none, lastStop := lastStop } }

/-- RESET_ASSERT (R335): in OFF and SLEEP it has no effect. -/
def execResetAssert (s : State) : Host.Outcome State Fault Refusal :=
  commit s (if s.pwr.mode == .off || s.pwr.mode == .sleep then s
    else
      let t := stopAtOnce 3 s
      { t with pwr := { t.pwr with mode := .boot, stage := .reset, cause := 3, bootShown := false } })

/-- RESET_RELEASE (R335, R339, R343): BOOT starts; after a thermal trip the rails come up again first. -/
def execResetRelease (obs : BootObs) (s : State) : Host.Outcome State Fault Refusal :=
  commit s (if s.pwr.mode == .boot && s.pwr.stage == .reset then
      let t := freshBoot 3 true s
      if t.pwr.vddio then sampleStraps obs t else { t with pwr := { t.pwr with stage := .vddio } }
    else if s.pwr.mode == .off && s.pwr.down == some .trip && s.pwr.vsysOk && coolEnough obs then coldBoot 3 true obs s
    else s)

/-! ## Supply and thermal faults (R343) -/

/-- The rails are up: supply and temperature are watched. -/
def railsUp (s : State) : Bool := !(s.pwr.mode == .off || s.pwr.mode == .sleep)

/-- A warning flag of PMU.STAT sets, and its event is raised. -/
def warn (f : Field) (g : Nat) (s : State) : State := if railsUp s && !(s.flag f) then raise g (s.put f true) else s

/-- VSYS_LOW (R343). -/
def execVsysLow (s : State) : Host.Outcome State Fault Refusal := commit s (warn Fld.PMU.STAT.VSYS_LOW Ev.PMU.VSYS_LOW s)

/-- VSYS_LOW_CLEAR (R343). -/
def execVsysLowClear (s : State) : Host.Outcome State Fault Refusal := commit s (s.put Fld.PMU.STAT.VSYS_LOW false)

/-- TJ_WARN (R343). -/
def execTjWarn (s : State) : Host.Outcome State Fault Refusal := commit s (warn Fld.PMU.STAT.TJ_WARN Ev.PMU.TJ_WARN s)

/-- TJ_WARN_CLEAR (R343). -/
def execTjWarnClear (s : State) : Host.Outcome State Fault Refusal := commit s (s.put Fld.PMU.STAT.TJ_WARN false)

/-- The rails are removed at once (R343). -/
def railsDown (d : Down) (lastStop : Nat) (s : State) : State :=
  let t := stopAtOnce lastStop s
  { t with pwr := { t.pwr with mode := .off, down := some d, bootShown := false } }

/-- UVLO (R343). -/
def execUvlo (s : State) : Host.Outcome State Fault Refusal :=
  let t : State := { s with pwr := { s.pwr with vsysOk := false } }
  commit s (if railsUp s then railsDown .uvlo 4 t else t)

/-- RAIL_FAULT (R343). -/
def execRailFault (s : State) : Host.Outcome State Fault Refusal := commit s (if railsUp s then railsDown .rail 5 s else s)

/-- RAIL_RESTART (R343): 10 ms after a rail fault, with PWR_EN still high. -/
def execRailRestart (obs : BootObs) (s : State) : Host.Outcome State Fault Refusal :=
  commit s (if s.pwr.down == some .rail && s.pwr.pwrEn && s.pwr.vsysOk then coldBoot 5 true obs s else s)

/-- THERMAL_TRIP (R343). -/
def execThermalTrip (s : State) : Host.Outcome State Fault Refusal := commit s (if railsUp s then railsDown .trip 6 s else s)

/-- VSYS is lost (R343): the always-on domain loses its state, so that the orderly-stop marker alone tells the next BOOT (R348). -/
def loseVsys (s : State) : State :=
  let t := if railsUp s then railsDown .lost 2 s else { s with pwr := { s.pwr with mode := .off, down := some .lost } }
  { t with pwr := { t.pwr with vsysOk := false, aonTime := 0, aonCrystal := true, lastStop := if t.nv.marker then 0 else 2 } }

/-- VSYS_LOST (R343). -/
def execVsysLost (s : State) : Host.Outcome State Fault Refusal := commit s (loseVsys s)

/-- VSYS returns above 3.0 V (R335, R343). -/
def vsysBack (o : BootObs) (s : State) : State :=
  let t : State := { s with pwr := { s.pwr with vsysOk := true } }
  match s.pwr.down with
  | some .uvlo => if t.pwr.pwrEn then coldBoot 4 true o t else { t with pwr := { t.pwr with down := none } }
  | some .lost => if t.pwr.pwrEn then coldBoot 0 false o t else { t with pwr := { t.pwr with down := none } }
  | some .rail => t
  | some .trip => t
  | none => t

/-- VSYS_RETURN (R343). -/
def execVsysReturn (obs : BootObs) (s : State) : Host.Outcome State Fault Refusal := commit s (if s.pwr.vsysOk then s else vsysBack obs s)

/-! ## Telemetry and the governor (R345, R401, R405) -/

/-- The hottest of the four sensors. -/
def hottest (o : TelObs) : Int := max (max o.rf o.fabric) (max o.cores o.pmu)

/-- Ta_est in 1/10 000 °C: Tj − THETA × P (R344's introduction), and as TA_EST shows it, 0.0625 °C. -/
def ambientTenK (s : State) (o : TelObs) : Int := 625 * (hottest o) - s.get Fld.PMU.GOV_CFG.THETA * o.power
def ambientShown (s : State) (o : TelObs) : Int := roundDiv (ambientTenK s o) 625

/-- The governor reads a snapshot (R345): the ambient rule, the junction rule and stepping down. -/
def governorReads (o : TelObs) (s : State) : State :=
  let l := govLevel s
  let eGrade := s.flag Fld.PMU.STAT.GRADE_E
  let ta := ambientTenK s o
  let limit : Int := 16 * s.get Fld.PMU.GOV_CFG.TJ_GOV
  let ambient := eGrade && decide (70 * 10000 < ta)
  let hot := if s.flag Fld.PMU.GOV_CFG.TJ_EN && decide (limit < hottest o) then s.pwr.hot + 1 else 0
  let cool := if decide ((hottest o) ≤ limit - 80) && (!eGrade || decide (ta ≤ 67 * 10000) || decide (3 ≤ l)) then s.pwr.cool + 1 else 0
  let l1 := if 3 ≤ hot then min 3 (l + 1) else if 50 ≤ cool then l - 1 else l
  let new := if ambient then max 2 l1 else l1
  let t := (s.put Fld.PMU.GOV_STAT.AMBIENT ambient).seti Fld.PMU.GOV_STAT.TA_EST (ambientShown s o)
  { t with pwr := { t.pwr with hot := if 3 ≤ hot then 0 else hot, cool := if 50 ≤ cool then 0 else cool,
                               govNext := if new = l then none else some (new, s.epoch + 1) } }

/-- Mean load of the lane cores in service, %. -/
def meanLoad (s : State) : Nat :=
  (mean (((List.range 6).filter (fun c => s.flag (Fld.LNM.CORE_STAT.HEALTHY c))).map (fun c => (s.get (Fld.LNM.CORE_STAT.LOAD c) : Int)))).toNat

/-- The words of a snapshot (R405). The counts stand at their greatest value where they do not fit (DEDUCED). -/
def telWords (o : TelObs) (s : State) : List (Nat × Word) :=
  let pair (a b : Nat) : Word := wordOf [(0, 16, a), (16, 16, b)]
  let deg (i : Int) : Nat := ofSigned 16 i
  [(Reg.TEL.RES0, wordOf [(10, 2, govLevel s)]), (Reg.TEL.EPOCH, lowWord s.epoch), (Reg.TEL.TJ0, pair (deg o.rf) (deg o.fabric)),
    (Reg.TEL.TJ1, pair (deg o.cores) (deg o.pmu)), (Reg.TEL.TJ_MAX, pair (deg (hottest o)) 0), (Reg.TEL.SUPPLY, pair o.vsys o.power),
    (Reg.TEL.RAILS, pair o.vcore o.vio18),
    (Reg.TEL.LOAD, wordOf [(0, 8, meanLoad s), (8, 8, min 255 s.flt.sinceSnap), (16, 16, min 65535 s.flt.ceSinceSnap)])]

/-- A telemetry snapshot (R9, R345, R349, R401), on boundaries divisible by 100. TJ_HIGH is raised whether or not the window takes the
snapshot (DEDUCED, log entry 79). -/
def telemetry (o : TelObs) (s : State) : State :=
  let t := (((s.set Fld.PMU.VSYS.MV o.vsys).set Fld.PMU.POWER.MW o.power).seti Fld.PMU.TJ.TJ (hottest o))
  let t0 := if t.flag Fld.TEL.CTRL.EN then raise Ev.TEL.READY (postResult 26 (telWords o s) t) else t
  let t1 := raiseIf (decide (16 * (s.get Fld.TEL.TJ_THR.DEG_C : Int) < hottest o)) Ev.TEL.TJ_HIGH t0
  governorReads o { t1 with flt := { t1.flt with sinceSnap := 0, ceSinceSnap := 0 }, pwr := { t1.pwr with tj := hottest o } }

/-- The control cores run. -/
def controlRuns (s : State) : Bool := s.running || s.pwr.mode == .hold || s.pwr.mode == .safe

/-- TELEMETRY_SNAPSHOT (R401). -/
def execTelemetrySnapshot (obs : TelObs) (s : State) : Host.Outcome State Fault Refusal :=
  commit s (if controlRuns s && onBoundary s && s.epoch % 100 == 0 then telemetry obs s else s)

/-- The governor's level takes effect (R344, R345). -/
def governorSets (s : State) : State :=
  match s.pwr.govNext with
  | some (l, b) =>
    if onBoundary s && decide (b ≤ s.epoch) then
      governorBoundary (raise Ev.PMU.GOV_STEP ({ s with pwr := { s.pwr with govNext := none } }.set Fld.PMU.GOV_STAT.LEVEL l))
    else s
  | none => s

/-- GOVERNOR_LEVEL (R345). -/
def execGovernorLevel (s : State) : Host.Outcome State Fault Refusal := commitLanes s (governorSets s)

/-! ## HOST_WAKE, GPIO and the always-on clock (R338, R346, R347) -/

/-- WAKE_PULSE_END (R346): PULSE_MS ms after the pins were asserted they are released; a millisecond is 163 840 ticks. -/
def execWakePulseEnd (s : State) : Host.Outcome State Fault Refusal :=
  let ms := s.get Fld.SYS.WAKE_CFG.PULSE_MS
  commit s (if s.flag Fld.SYS.WAKE_CFG.ASSERTED && ms != 0 && decide (s.pwr.wakeSince + ms * epochTicks ≤ s.time) then
    s.put Fld.SYS.WAKE_CFG.ASSERTED false else s)

/-- A write of `GPIO_CFGn` (R347), at once. With no HOST_WAKE pin left, none is asserted. -/
def writeGpio (port : Port) (n : Nat) (v : Word) (key : Bool) (s : State) : State :=
  let t := plainWrite port (Reg.SYS.GPIO_CFG n) v key s
  if (List.range 8).any (fun k => t.get (Fld.SYS.GPIO_CFG.FUNC k) == 2) then t else t.put Fld.SYS.WAKE_CFG.ASSERTED false

/-- GPIO_CONFIG_WRITE (R347). -/
def execGpioConfigWrite (port : Port) (n : Fin 8) (v : Word) (s : State) : Host.Outcome State Fault Refusal :=
  commit s (hostWrite port (Reg.SYS.GPIO_CFG n.val) v (writeGpio port n.val v) s)

/-- AON_CLOCK_SWITCH (R338): from the crystal to the RC. -/
def execAonClockSwitch (s : State) : Host.Outcome State Fault Refusal :=
  commit s (if s.pwr.mode == .off || !s.pwr.aonCrystal then s
    else raise Ev.SYS.AON_CLOCK { s with pwr := { s.pwr with aonCrystal := false } })

end Sys2Proof.Machine
end

