-- ==== Sys2Proof/Machine/Firmware.lean ====
section
/-!
DEFINITION. Firmware update (chapter 15): the block window and the Husk, the commands of `FWU.CMD`, hand-over, the swap of lane-core
code, trial, revert and confirmation.
-/

namespace Sys2Proof.Machine

open Sys2Proof

/-! ## Results (R358, R367) -/

/-- Codes of OP and ERR. -/
def FwOp.code : FwOp → Nat
  | .verify => 1
  | .activate => 2
  | .confirm => 3
  | .revert => 4
  | .begin_ => 5

def fwState : Nat := 1
def fwIncomplete : Nat := 2
def fwCrc : Nat := 3
def fwStateFormat : Nat := 8
def fwHandover : Nat := 9
def fwBusy : Nat := 10

/-- The firmware part changed. -/
def State.setFw (s : State) (f : Firmware → Firmware) : State := { s with fw := f s.fw }

/-- A result of the FWU window. VERSION is stated for a VERIFY; elsewhere it is open (log entry 3). -/
def fwResult (op err : Nat) (version : Option Nat) (s : State) : State :=
  let (v, t) := match version with
    | some n => (n, s)
    | none => s.fresh 32
  raise Ev.FWU.RESULT (postResult 24 [(Reg.FWU.RES0, wordOf [(12, 4, op), (16, 8, err)]), (Reg.FWU.RES1, lowWord v)] t)

/-! ## The block window (R356, R357) -/

/-- Byte address of a slot. -/
def slotAddr (k : Nat) : Nat := 0x200000 + 0x1000 * k

/-- The word of the block window at an address. -/
def windowWord (s : State) (a : Nat) : Word := ((s.fw.window.find? (fun c => c.1 == a)).map (fun c => c.2)).getD 0

/-- The block in a slot. -/
def slotBlock (s : State) (k : Nat) : List Word := (List.range 1024).map (fun i => windowWord s (slotAddr k + 4 * i))

/-- A rejection is recorded, if none is yet, and raised (R357, R367). -/
def rejectBlock (blk cause : Nat) (s : State) : State :=
  raise Ev.FWU.BLOCK_ERR (if s.flag Fld.FWU.BLOCK_ERR.VALID then s
    else s.setWord Reg.FWU.BLOCK_ERR (wordOf [(0, 9, blk), (12, 4, cause), (31, 1, 1)]))

/-- A word is written into the block window; the slot's last word hands it to the Husk (R356). A busy slot keeps its words: over SPI
the write is discarded and recorded, over the two-wire port it waits and is not made (R306). -/
def writeWindow (port : Port) (a : Nat) (v : Word) (s : State) : State :=
  let k := (a - 0x200000) / 0x1000
  if (s.get Fld.FWU.SLOT_BUSY.BUSY).testBit k then
    if port == .spi then rejectBlock (s.get Fld.FWU.DL_BASE.BASE + k) 5 s else s
  else
    let t := s.setFw (fun x => { x with window := if v = 0 then x.window.filter (fun c => c.1 != a)
                                                  else (a, v) :: x.window.filter (fun c => c.1 != a) })
    if a % 0x1000 = 0xFFC then
      (t.setFw (fun x => { x with handed := x.handed ++ [(k, s.get Fld.FWU.DL_BASE.BASE + k)] })).set Fld.FWU.SLOT_BUSY.BUSY
        (s.get Fld.FWU.SLOT_BUSY.BUSY + 2 ^ k)
    else t

/-- BLOCK_HANDOFF (R356). -/
def execBlockHandoff (port : Port) (slot : Fin 16) (v : Word) (s : State) : Host.Outcome State Fault Refusal :=
  commit s (hostWrite port (slotAddr slot.val + 0xFFC) v (fun _ => writeWindow port (slotAddr slot.val + 0xFFC) v) s)

/-- Why a handed-off block is rejected before any write to NV; 0 where it is not (R357). Where several causes hold, the closed window
comes first, then the CRC, then the block's number and header (DEDUCED, log entry 73). -/
def blockCause (s : State) (blk : Nat) (ws : List Word) : Nat :=
  let expected := s.get Fld.FWU.RX_COUNT.EXPECTED
  if fwStage s != stageReceiving then 6
  else if !blockPasses ws then 1
  else if 384 ≤ blk then 2
  else if blk = 0 then (if headerKnown ws && hwTypeOk ws && countOk ws then 0 else 4)
  else if expected = 0 then 3
  else if expected ≤ blk then 2
  else 0

/-- A block is written into the image slot (R357): block 0 clears the receive map and counts as the first. -/
def storeBlock (blk : Nat) (ws : List Word) (s : State) : State :=
  let nv := eraseSector (256 + blk) { s.nv with image := (blk, ws) :: s.nv.image.filter (fun b => b.1 != blk) }
  let map := if blk = 0 then [] else s.fw.received.filter (fun b => b != blk)
  let t : State := { s with nv := nv, fw := { s.fw with received := blk :: map } }
  if blk = 0 then t.set Fld.FWU.RX_COUNT.EXPECTED (blockCount ws) else t

/-- The first write to NV since BEGIN is on its way (R355, R357). -/
def openSlot (s : State) : State := if s.fw.wrote then s else setNvState nvWriting (s.setFw (fun x => { x with wrote := true }))

/-- The write of a block failed its read-back twice (R357, R375): the block's place is lost with its sector. -/
def failBlock (blk : Nat) (s : State) : State :=
  let t : State := { s with nv := { s.nv with image := s.nv.image.filter (fun b => b.1 != blk) },
                            fw := { s.fw with received := s.fw.received.filter (fun b => b != blk) } }
  rejectBlock blk 7 (retireSector (256 + blk) t)

/-- The Husk deals with the oldest handed-off slot (R356, R357); a STORE in progress holds its write. -/
def blockWritten (nvFail : Bool) (s : State) : State :=
  match s.fw.handed with
  | [] => s
  | (k, blk) :: rest =>
    let ws := slotBlock s k
    let cause := blockCause s blk ws
    if cause = 0 ∧ s.nvJob.storing then s
    else
      let t := if cause != 0 then rejectBlock blk cause s
        else if nvFail then failBlock blk (openSlot s)
        else storeBlock blk ws (openSlot s)
      let u := (t.setFw (fun x => { x with handed := rest })).set Fld.FWU.SLOT_BUSY.BUSY (t.get Fld.FWU.SLOT_BUSY.BUSY - 2 ^ k)
      raise Ev.FWU.SLOT_FREE u

/-- BLOCK_WRITTEN (R357). -/
def execBlockWritten (nvFail : Bool) (s : State) : Host.Outcome State Fault Refusal := commit s (blockWritten nvFail s)

/-! ## Commands (R358 to R362, R366) -/

/-- The reference frequency of a class (R55), Hz. -/
def refHzOf : Nat → Nat
  | 1 => 19200000
  | 2 => 26000000
  | 3 => 38400000
  | _ => 52000000

/-- ACTIVATE in RECOVERY starts a BOOT (R366); without an observation of its start that waits at step 5. -/
def exitRecovery (o : Option BootObs) (s : State) : State :=
  let t := freshBoot 6 true s
  match o with
  | some x => sampleStraps x t
  | none => { t with pwr := { t.pwr with stage := .reference, addrSel := s.pwr.addrSel } }

/-- The header of the image in the slot, with the digest recorded for it. -/
def slotHeader (s : State) : ImageHeader := parseHeader (imageHeader s.nv) (imageRecord s.nv).digest

/-- BEGIN (R358): the window opens with an empty receive map. -/
def fwBegin (s : State) : State :=
  let t := s.setFw (fun x => { x with received := [], wrote := false, armed := x.armed || fwStage s == stageReverted })
  fwResult 5 0 none (setStage stageReceiving (t.set Fld.FWU.RX_COUNT.EXPECTED 0))

/-- ACTIVATE from VERIFIED (R359 step 1). -/
def fwActivate (s : State) : State :=
  let new := slotHeader s
  if s.fw.running.stateFmt < new.stateFrom ∨ s.fw.running.settingsFmt < new.settingsFrom then fwResult 2 fwStateFormat none s
  else if (List.range 6).any (fun c => s.flag (Fld.LNM.CORE_STAT.IN_TEST c)) then fwResult 2 fwBusy none s
  else setStage stageStaging (s.setFw (fun x => { x with job := some .activate }))

/-- The settings of other formats than the running firmware's are erased (R362). -/
def eraseOldFormats (s : State) : State :=
  let old := s.nv.gens.filter (fun g => g.fmt != settingsFormat s)
  let nv : NvStore := { s.nv with gens := s.nv.gens.filter (fun g => g.fmt == settingsFormat s) }
  showWear { s with nv := old.foldl (fun n g => g.sectors.foldl (fun m i => eraseSector i m) n) nv }

/-- CONFIRM (R362). -/
def fwConfirm (s : State) : State :=
  if s.fw.swap.isSome || s.fw.handOver.isSome then fwResult 3 fwBusy none s
  else
    let t := eraseOldFormats (setNvState nvConfirmed (s.setFw (fun x => { x with old := none, oldLost := false })))
    fwResult 3 0 none (setStage stageIdle t)

/-- REVERT (R361). -/
def fwRevert (s : State) : State :=
  if s.fw.handOver.isSome then fwResult 4 fwBusy none s
  else startRevert (s.setFw (fun x => { x with job := some .revert }))

/-- Stages from which BEGIN is taken (R358, R366). -/
def beginStage (st : Nat) : Bool :=
  st == stageIdle || st == stageReceiving || st == stageVerified || st == stageReverted || st == stageRecovery

/-- A write of `FWU.CMD` under its key (R358, R366). -/
def fwCommand (op : Nat) (o : Option BootObs) (s : State) : State :=
  let st := fwStage s
  if s.fw.job.isSome then fwResult op fwBusy none s
  else if op = 5 ∧ beginStage st = true then fwBegin s
  else if op = 1 ∧ st = stageReceiving then s.setFw (fun x => { x with job := some .verify })
  else if op = 2 ∧ s.pwr.mode = .recovery then
    if nvState s = nvConfirmed then exitRecovery o s else fwResult 2 fwState none s
  else if op = 2 ∧ st = stageVerified then fwActivate s
  else if op = 3 ∧ st = stageTrial then fwConfirm s
  else if op = 4 ∧ st = stageTrial then fwRevert s
  else fwResult op fwState none s

/-- A write of `FWU.CMD` (R281, R358). -/
def writeFwuCmd (port : Port) (v : Word) (o : Option BootObs) (key : Bool) (s : State) : State :=
  if key then fwCommand (fieldOf v 0 4) o s else recordKeyed port Reg.FWU.CMD key s

/-- The outcome of a write of `FWU.CMD` that takes no observation. -/
def fwuWrite (port : Port) (w : Word) (s : State) : Host.Outcome State Fault Refusal :=
  commit s (hostWrite port Reg.FWU.CMD w (writeFwuCmd port w none) s)

/-- FWU_BEGIN (R358). -/
def execFwuBegin (port : Port) (v : Word) (s : State) : Host.Outcome State Fault Refusal := fwuWrite port (withField v 0 4 5) s

/-- FWU_VERIFY (R358). -/
def execFwuVerify (port : Port) (v : Word) (s : State) : Host.Outcome State Fault Refusal := fwuWrite port (withField v 0 4 1) s

/-- FWU_ACTIVATE (R359, R366). -/
def execFwuActivate (port : Port) (v : Word) (obs : BootObs) (s : State) : Host.Outcome State Fault Refusal :=
  let w := withField v 0 4 2
  commit s (hostWrite port Reg.FWU.CMD w (writeFwuCmd port w (some obs)) s)

/-- FWU_CONFIRM (R362). -/
def execFwuConfirm (port : Port) (v : Word) (s : State) : Host.Outcome State Fault Refusal := fwuWrite port (withField v 0 4 3) s

/-- FWU_REVERT (R361). -/
def execFwuRevert (port : Port) (v : Word) (s : State) : Host.Outcome State Fault Refusal := fwuWrite port (withField v 0 4 4) s

/-- FWU_INVALID_OP (R358): an OP as written, listed or not. -/
def execFwuInvalidOp (port : Port) (v : Word) (s : State) : Host.Outcome State Fault Refusal := fwuWrite port v s

/-! ## The checks and staging (R354, R358, R359) -/

/-- The ERR of a VERIFY; 0 where the image passes. -/
def verifyError (o : VerifyObs) (s : State) : Nat :=
  let n := s.get Fld.FWU.RX_COUNT.EXPECTED
  if n = 0 ∨ (List.range n).any (fun b => !(s.fw.received.contains b)) = true then fwIncomplete
  else imageError s o.badBlocks o.keyOk o.sigOk

/-- VERIFY ends (R358, R361, R366). -/
def verifyDone (o : VerifyObs) (s : State) : State :=
  let e := verifyError o s
  let t := s.setFw (fun x => { x with job := none })
  let version := some (headerWord (imageHeader s.nv) 3)
  if e != 0 then fwResult 1 e version t
  else
    let same := s.fw.armed && o.digest == s.fw.running.digest
    let st := if same || s.pwr.mode == .recovery then nvConfirmed else nvVerified
    let u : State := { t with nv := writeRecord st o.digest t.nv, fw := { t.fw with armed := false } }
    fwResult 1 0 version (setStage (if same then stageIdle else stageVerified) u)

/-- VERIFY_DONE (R354). -/
def execVerifyDone (obs : VerifyObs) (s : State) : Host.Outcome State Fault Refusal :=
  commit s (if s.fw.job == some .verify then verifyDone obs s else s)

/-- Staging ends (R359): a block that fails its CRC sends the update back to RECEIVING; else the hand-over is posted. -/
def stagingDone (bad : Option Nat) (s : State) : State :=
  match bad with
  | some b =>
    let t := setNvState nvWriting (s.setFw (fun x => { x with job := none, wrote := true, received := x.received.filter (fun n => n != b) }))
    fwResult 2 fwCrc none (setStage stageReceiving t)
  | none => postSoon .handover (s.setFw (fun x => { x with handOver := some .forward }))

/-- STAGING_DONE (R359). -/
def execStagingDone (badBlock : Option Nat) (s : State) : Host.Outcome State Fault Refusal :=
  commit s (if s.fw.job == some .activate && fwStage s == stageStaging && s.fw.handOver.isNone then stagingDone badBlock s else s)

/-! ## Hand-over (R359, R361, R363) -/

/-- The lowest-numbered lane core in service. -/
def firstCore (s : State) : Option Nat := lowest 6 (fun c => s.flag (Fld.LNM.CORE_STAT.HEALTHY c))

/-- The new lane-core code goes onto one core after another (R360). -/
def startSwap (d : HandOver) (s : State) : State := showSwap (s.setFw (fun x => { x with swap := (firstCore s).map (fun c => (c, d)) }))

/-- The new firmware runs (R359 step 5, R362, R363). -/
def handForward (s : State) : State :=
  let new := slotHeader s
  let t := s.setFw (fun x => { x with old := some x.running, oldLost := false, running := new, handOver := none, job := none })
  let t1 := setStage stageTrial (setNvState nvTrial ((t.setWord Reg.FWU.RUN_VER (lowWord new.version)).set Fld.FWU.STAT.FAULTS 0))
  fwResult 2 0 none (convertSettings (startSwap .forward t1))

/-- The new firmware does not accept the record: the old one resumes (R359). -/
def handRefused (s : State) : State :=
  fwResult 2 fwHandover none (setStage stageVerified (s.setFw (fun x => { x with handOver := none, job := none })))

/-- The generations of the trial firmware's format are discarded, where its predecessor wrote another (R361, R363). -/
def dropTrialSettings (trial old : Nat) (s : State) : State :=
  if trial = old then s
  else
    let gone := s.nv.gens.filter (fun g => g.fmt == trial)
    let nv : NvStore := { s.nv with gens := s.nv.gens.filter (fun g => g.fmt != trial) }
    let t : State := { s with nv := gone.foldl (fun n g => g.sectors.foldl (fun m i => eraseSector i m) n) nv }
    showWear (match (gensOf t.nv old).find? Generation.valid with | some g => showGen g t | none => t)

/-- The old bank was lost (R396): the device starts again by itself, into RECOVERY with WHY = REVERTED. -/
def revertLost (s : State) : State :=
  let o : BootObs := { vddio := s.pwr.vddio, addrSel := s.pwr.addrSel, refHz := some (refHzOf (s.get Fld.CLK.REF_CFG.REF_FREQ)) }
  sampleStraps o (freshBoot s.pwr.cause true (setNvState nvReverted s))

/-- The old firmware runs again (R361). After a BOOT in TRIAL none is kept, and the bank counts as lost (DEDUCED, log entry 74). -/
def handBack (s : State) : State :=
  match s.fw.old, s.fw.oldLost with
  | some old, false =>
    let byHost := s.fw.job == some .revert
    let t := dropTrialSettings s.fw.running.settingsFmt old.settingsFmt s
    let t1 := t.setFw (fun x => { x with running := old, old := none, handOver := none, job := none })
    let t2 := setStage stageReverted (setNvState nvReverted (t1.setWord Reg.FWU.RUN_VER (lowWord old.version)))
    let t3 := startSwap .back t2
    if byHost then fwResult 4 0 none t3 else t3
  | _, _ => revertLost s

/-- HANDOVER_DONE (R359, R361), in the control-plane pause. -/
def execHandoverDone (accepted : Bool) (s : State) : Host.Outcome State Fault Refusal :=
  commit s (if s.fab.pause == some .handover then
    (match s.fw.handOver with
      | some .forward => if accepted then handForward s else handRefused s
      | some .back => handBack s
      | none => s)
    else s)

/-! ## The swap of lane-core code (R360) -/

/-- One step of moving the lanes off core `c` to `d`: they migrate one at a time, whatever their state (R110, R123, R360, R393). -/
def moveOff (c : Nat) (d : Option Nat) (why : MoveFor) (s : State) : State :=
  match d with
  | none => moveFailed why s
  | some k =>
    if migrating s then s
    else match (lanesOnCore s c).head? with
      | some l => migrate l k why 0 s
      | none => s

/-- Core `c` carries no lane, and no origin context either (R123). -/
def coreEmpty (s : State) (c : Nat) : Bool := (lanesOnCore s c).isEmpty && s.mgr.migrated.all (fun m => m.2.1 != c)

/-- Where the lanes of core `c` go in a swap: those of the first to the quietest core, those of the last to the lowest-numbered, the
others to the core before it. -/
def swapTarget (s : State) (c : Nat) : Option Nat :=
  let cores := (List.range 6).filter (fun k => s.flag (Fld.LNM.CORE_STAT.HEALTHY k))
  if cores.head? == some c then quietCore s c
  else if cores.getLast? == some c then cores.head?
  else (cores.filter (fun k => decide (k < c))).getLast?

/-- A step of the swap (R360). -/
def swapStep (s : State) : State :=
  match s.fw.swap with
  | none => s
  | some (c, d) =>
    if s.fab.pause.isSome then s
    else if coreEmpty s c then
      let next := (List.range 6).find? (fun k => decide (c < k) && s.flag (Fld.LNM.CORE_STAT.HEALTHY k))
      match next with
      | some k => s.setFw (fun x => { x with swap := some (k, d) })
      | none => showSwap (s.setFw (fun x => { x with swap := none, reloadAt := some (s.epoch + 1) }))
    else moveOff c (swapTarget s c) .handover s

/-- CORE_SWAP_STEP (R360). -/
def execCoreSwapStep (s : State) : Host.Outcome State Fault Refusal := commitLanes s (swapStep s)

/-- On the first boundary after the swap the survey tables and combiner microcode of the new image are loaded (R360). -/
def reloadBoundary (s : State) : State :=
  match s.fw.reloadAt with
  | some b => if b ≤ s.epoch then s.setFw (fun x => { x with reloadAt := none }) else s
  | none => s

/-! ## The trial (R361, R362) -/

/-- HEARTBEAT_MISS (R361). -/
def execHeartbeatMiss (s : State) : Host.Outcome State Fault Refusal := commit s (startRevert s)

/-- TRIAL_WINDOW_EXPIRE (R362). -/
def execTrialWindowExpire (s : State) : Host.Outcome State Fault Refusal :=
  commit s (if fwStage s == stageTrial && decide (s.fw.trialEnd ≤ s.epoch) then startRevert s else s)

end Sys2Proof.Machine
end

