-- ==== Sys2Proof/Machine/Views.lean ====
section
/-!
DEFINITION. What a register reads (R276 to R279): the stored word, or a word put together from the parts of the unit behind it; the
page header (R277, R278), the data windows (R213, R214, R356), the latched groups (R282), and a host read.
-/

namespace Sys2Proof.Machine

open Sys2Proof

/-- `w` with some fields shown anew: each its lowest bit, width and value. -/
def shown (w : Word) (fields : List (Nat × Nat × Nat)) : Word := fields.foldl (fun v f => withField v f.1 f.2.1 f.2.2) w

/-! ## The page header (R277, R278) -/

/-- The blocks with more than one instance: code and instances. -/
def sharedBlocks : List (Nat × Nat) :=
  [(0x003, 2), (0x008, 3), (0x010, 3), (0x020, 8), (0x028, 6), (0x030, 4), (0x034, 2), (0x048, 4), (0x050, 4)]

/-- The block code of a page. -/
def blockCode (p : Nat) : Nat :=
  ((sharedBlocks.find? (fun b => decide (b.1 ≤ p) && decide (p < b.1 + b.2))).map (fun b => b.1)).getD p

/-- The word of LOCKKEY (R281). -/
def lockKeyWord (s : State) (p : Nat) : Word :=
  match s.fab.keys.find? (fun k => k.page == p && k.left != 0) with
  | some k => wordOf [(0, 1, 1), (1, 1, k.port.idx)]
  | none => 0

/-- A header register of page `p` at offset `o`; CTRL and STAT belong to the page's chapter. -/
def headerRead (s : State) (p o : Nat) : Word :=
  if o = 0x00 then wordOf [(0, 16, p - blockCode p), (16, 16, blockCode p)]
  else if o = 0x04 then (if p = 0 then 0xB1 else 1)
  else if o = 0x10 then s.word (evRawAddr p)
  else if o = 0x14 then s.word (evEnAddr p)
  else if o = 0x18 then lowWord (pendingOf s p)
  else if o = 0x20 then lockKeyWord s p
  else 0

/-! ## System pages -/

/-- The level at a GPIO pin (R347): what the device drives, or what the board sets; without VDDIO it is inactive (R411). -/
def gpioLevel (s : State) (n : Nat) : Bool :=
  match gpioPin s n with
  | .high => true
  | .low => false
  | .hiZ => s.pwr.vddio && s.pwr.gpioExt.testBit n

/-- SYS (R14, R15, R23, R24, R291, R348). -/
def sysRead (s : State) (o : Nat) : Word :=
  let w := s.word o
  if o = 0x40 then lowWord (stateCode s)
  else if o = 0x44 then shown w [(8, 1, s.pwr.held.isSome.toNat)]
  else if o = 0x50 then lowWord s.time
  else if o = 0x54 then lowWord (s.time / 2 ^ 32)
  else if o = 0x58 then lowWord s.epoch
  else if o = 0x5C then lowWord (s.epoch / 2 ^ 32)
  else if o = 0x70 then lowWord s.pwr.aonTime
  else if o = 0x74 then lowWord (s.pwr.aonTime / 2 ^ 32)
  else if 0x80 ≤ o ∧ o < 0xA0 then eventSummary s ((o - 0x80) / 4)
  else if o = 0xA0 then shown w [(2, 1, (irqAsserted s).toNat), (16, 9, firstPending s)]
  else if o = 0xA4 then shown w [(0, 7, s.plan.length)]
  else if o = 0xB4 then wordOf [(0, 1, s.fab.pause.isSome.toNat), (16, 9, s.fab.held.length)]
  else if 0xC0 ≤ o ∧ o < 0xE0 then shown w [(5, 1, (gpioLevel s ((o - 0xC0) / 4)).toNat)]
  else if 0x200 ≤ o ∧ o < 0x400 then schedWord s ((o - 0x200) / 8) ((o / 4) % 2)
  else w

/-- The rails in regulation (R329, R332, R349): VCORE, VIO18 and VPLL while the device runs, VRF and VADC while the RF paths are powered
(DEDUCED, log entry 119). -/
def railsOk (s : State) : Nat := if s.receiving then 0x1F else 0x13

/-- PMU (R52, R349) and CLK (R78). -/
def pmuRead (s : State) (o : Nat) : Word :=
  let w := s.word (0x001000 + o)
  if o = 0x54 then lowWord (railsOk s) else if o = 0xC4 then shown w [(0, 1, (aerialOn s).toNat)] else w

def clkRead (s : State) (o : Nat) : Word :=
  if o = 0x6C then wordOf ((List.range 3).map (fun n => (n, 1, (clkoutRuns s n).toNat))) else s.word (0x002000 + o)

/-- FLF, FFM and FB3 (R36). -/
def feRead (s : State) (p o : Nat) : Word :=
  let w := s.word (p * 4096 + o)
  if o = 0x0C then shown w [(2, 1, (glimpsing s (Path.ofIdx (p - 8))).toNat)] else w

/-- INJ (R45): WAITING. -/
def injRead (s : State) (o : Nat) : Word :=
  let w := s.word (0x00C000 + o)
  if o = 0x0C then shown w [(2, 1, (injIsWaiting s).toNat)] else w

/-- COX (R47, R49): USED_US is the assertion time of the last second in whole µs. -/
def coxRead (s : State) (o : Nat) : Word :=
  let w := s.word (0x00D000 + o)
  if o = 0x0C then shown w [(1, 1, (coexGranted s).toNat), (2, 1, (coexActive s).toNat),
    (3, 1, (decide (dutyTicks s ≤ usedTicks s)).toNat), (8, 16, usedTicks s * 100 / 16384)]
  else if o = 0x40 then shown w [(0, 6, dutyCeiling s)]
  else w

/-- CLF, CFM and CB3 (R98). -/
def chRead (s : State) (p o : Nat) : Word :=
  let w := s.word (p * 4096 + o)
  let path := Path.ofIdx (p - 0x10)
  if o = 0x0C then shown w [(0, 8, ((List.range (ddcTotal path)).filter (fun k => ddcUse s path k != 0)).length)] else w

/-- An entry word of a survey map (R95, R101); beyond its end 0. `strong` is shown on the VHF maps. -/
def entryWord (x : Snapshot) (m : MapSel) (i : Nat) (strong : Bool) : Word :=
  match x.cells.find? (fun c => c.index == i) with
  | some c => wordOf [(0, 16, ofSigned 16 c.level), (16, 1, (x.stale m i).toNat), (17, 1, (decide (0 < c.age)).toNat),
      (18, 1, (strong && c.strong).toNat), (24, 8, c.age)]
  | none => wordOf [(0, 16, 0x8000), (16, 1, (x.stale m i).toNat), (24, 8, 255)]

/-- SRV (R97, R100): DATA shows the map and block that VIEW selects. -/
def srvRead (s : State) (o : Nat) : Word :=
  if 0x800 ≤ o then
    let i := 512 * s.get Fld.SRV.VIEW.BLOCK + (o - 0x800) / 4
    match s.get Fld.SRV.VIEW.MAP with
    | 0 => if i < 881 then entryWord (s.map .fm).held .fm i true else 0
    | 1 => if i < 38 then entryWord (s.map .b3).held .b3 i true else 0
    | 2 => if i < 11943 then entryWord (s.map .lf).held .lf i false else 0
    | _ => if i < 280 then entryWord (s.map .lf).held .lf (11943 + i) false else 0
  else s.word (0x014000 + o)

/-! ## Lanes and sprouts -/

/-- The state code of a sprout, and of the reason why it was pulled (R133). -/
def SproutState.code : SproutState → Nat
  | .empty => 0
  | .planted => 1
  | .rooted => 2
  | .pulled => 3

def PullReason.code : PullReason → Nat
  | .none => 0
  | .timeout => 1
  | .sentinel => 2
  | .superseded => 3
  | .parked => 4
  | .mismatch => 5
  | .fault => 6
  | .identity => 7

/-- Word `w` of sprout record `i` (R133). -/
def sproutWord (s : State) (i w : Nat) : Word :=
  let x := s.sprout i
  match w with
  | 0 => wordOf [(0, 4, (x.kind.map SproutKind.code).getD 0), (4, 2, x.state.code), (8, 8, x.lane), (16, 4, x.reason.code),
      (20, 3, x.fromCore), (23, 3, x.toCore), (26, 2, x.pgm), (28, 2, x.src)]
  | 1 => lowWord x.plantedAt
  | 2 => if x.state == .planted then 0 else lowWord x.endedAt
  | _ => wordOf [(0, 16, ofSigned 16 x.metric), (16, 8, x.progress), (24, 8, x.gen)]

/-- The word of LANE_TAB (R134). -/
def laneWord (s : State) (l : Nat) : Word :=
  let x := s.lane l
  let slot := (plantedSlots s (fun y => y.lane == l)).head?
  wordOf [(0, 3, x.state.code), (3, 3, x.core), (6, 1, (feeds s l).toNat), (7, 1, x.host.toNat), (8, 5, slot.getD 0),
    (13, 1, slot.isSome.toNat), (14, 2, x.path.idx)]

/-- Instances in use of the class that CAPACITY register `k` describes (R132); 7 is the audio-decode contexts. -/
def inUseCount (s : State) (k : Nat) : Nat :=
  match allClasses[k]? with
  | some c => (c.lanes.filter (fun l => s.laneInUse l)).length
  | none => (decodersUsed s).length

/-- LNM (R132). -/
def lnmRead (s : State) (o : Nat) : Word :=
  let w := s.word (0x018000 + o)
  if o = 0x0C then
    wordOf ((List.range 6).map (fun c => (c, 1, s.get (Fld.LNM.CORE_STAT.HEALTHY c)))
      ++ [(8, 6, (plantedSlots s (fun _ => true)).length), (14, 1, (!s.mgr.waiting.isEmpty).toNat), (16, 8, s.mgr.waiting.length)])
  else if 0x40 ≤ o ∧ o < 0x60 then shown w [(16, 8, inUseCount s ((o - 0x40) / 4))]
  else if 0x80 ≤ o ∧ o < 0x98 then shown w [(16, 8, (lanesOnCore s ((o - 0x80) / 4)).length)]
  else if 0x100 ≤ o ∧ o < 0x300 then sproutWord s ((o - 0x100) / 16) ((o / 4) % 4)
  else if 0x400 ≤ o ∧ o < 0x670 then laneWord s ((o - 0x400) / 4)
  else w

/-- OFS (R130, R135). -/
def ofsRead (s : State) (o : Nat) : Word :=
  let w := s.word (0x040000 + o)
  if o = 0x0C then shown w [(3, 1, (ofsSuspended s).toNat)] else w

/-! ## FM and RDS -/

/-- Word 1 of a watch record (R156). -/
def rdsInfo (r : RdsRecord) : Word :=
  wordOf [(0, 16, r.pi), (16, 5, r.pty), (21, 1, r.tp.toNat), (22, 1, r.ta.toNat), (23, 1, r.ms.toNat), (24, 4, r.di),
    (28, 1, r.piValid.toNat), (29, 1, (decide (r.psGot.eraseDups.length = 4)).toNat)]

/-- Word 5 of a watch record (R156). -/
def rdsClock (r : RdsRecord) : Word := wordOf [(0, 17, r.mjd), (17, 5, r.hour), (22, 6, r.minute), (28, 1, r.ctValid.toNat)]

/-- Word `w` of a group record (R153). -/
def groupWord (g : RdsGroup) (w : Nat) : Word :=
  let b (i : Nat) : RdsBlk := groupBlk g.blocks i
  match w with
  | 0 => wordOf [(0, 16, (b 0).data), (16, 16, (b 1).data)]
  | 1 => wordOf [(0, 16, (b 2).data), (16, 16, (b 3).data)]
  | 2 => wordOf [(0, 8, g.seq), (8, 2, g.stream), (10, 1, ((b 2).cPrime).toNat), (11, 1, g.typeC.toNat), (12, 2, (b 0).cls),
      (14, 2, (b 1).cls), (16, 2, (b 2).cls), (18, 2, (b 3).cls), (20, 7, g.entry)]
  | _ => lowWord g.epoch

/-- The SEQ of a queue's oldest record. Of an empty queue the spec gives none: 0 before the first record, then a free value of `w`
bits (log entry 3). -/
def headSeq (s : State) (w : Nat) (first : Option Nat) (next : Nat) : Nat :=
  match first with
  | some n => n
  | none => if next = 0 then 0 else (Config.freeValue w s.free).toNat

/-- COUNT and HEAD_SEQ of a group FIFO. -/
def fifoHead (s : State) (f : Nat) : Nat := headSeq s 8 ((s.fifo f).groups.head?.map (fun g => g.seq)) (s.fifo f).next

/-- FMFn (R160). -/
def fmfRead (s : State) (n o : Nat) : Word :=
  let w := s.word ((0x20 + n) * 4096 + o)
  let x := s.rdsCtx n
  let r := x.record
  let y := s.lane n
  if o = 0x0C then shown w [(0, 3, y.shown.code), (4, 1, y.sync.toNat), (5, 1, (x.upper.contains 1).toNat),
      (6, 1, (x.upper.contains 2).toNat), (7, 1, (x.upper.contains 3).toNat), (9, 1, x.capture.toNat), (10, 1, x.alarm.toNat)]
  else if o = 0xB0 then shown (rdsInfo r) [(30, 1, r.rtComplete.toNat), (31, 1, r.rtAB.toNat)]
  else if o = 0xB4 ∨ o = 0xB8 then packBytes r.ps ((o - 0xB4) / 4)
  else if o = 0xBC ∨ o = 0xC0 then packBytes r.ptyn ((o - 0xBC) / 4)
  else if o = 0xC4 then rdsClock r
  else if o = 0xC8 then wordOf [(0, 8, r.lto)]
  else if o = 0xCC then lowWord r.ctEpoch
  else if o = 0xD0 then r.af.status
  else if 0x100 ≤ o ∧ o < 0x140 then packBytes r.rt ((o - 0x100) / 4)
  else if 0x140 ≤ o ∧ o < 0x174 then r.af.word ((o - 0x140) / 4)
  else if o = 0x208 then shown w [(0, 8, (s.fifo n).groups.length), (8, 8, fifoHead s n)]
  else if 0x400 ≤ o ∧ o < 0xC00 then
    match (s.fifo n).groups[(o - 0x400) / 16]? with
    | some g => groupWord g ((o / 4) % 4)
    | none => 0
  else w

/-- A mean level field, 0x8000 before the first reading. -/
def meanLevel (l : List Int) : Nat := if l.isEmpty then 0x8000 else ofSigned 16 (mean (l.take 10))

/-- Word `w` of RDS watch record `n` (R156). -/
def watchWord (s : State) (n w : Nat) : Word :=
  let x := s.rdsCtx (8 + n)
  let r := x.record
  let y := s.lane (20 + n)
  match w with
  | 0 => wordOf [(0, 17, if y.inUse then y.khz else 0), (17, 3, y.shown.code), (20, 1, y.host.toNat), (21, 1, y.sync.toNat),
      (22, 1, x.alarm.toNat), (23, 1, x.capture.toNat), (24, 8, x.age)]
  | 1 => rdsInfo r
  | 2 => packBytes r.ps 0
  | 3 => packBytes r.ps 1
  | 4 => wordOf [(0, 16, meanLevel x.levels), (16, 8, blockErrors x.recent), (24, 5, r.af.entries.length), (29, 1, r.af.complete.toNat)]
  | 5 => rdsClock r
  | 6 => wordOf [(0, 8, r.lto)]
  | _ => lowWord r.ctEpoch

/-- WRD (R161). -/
def wrdRead (s : State) (o : Nat) : Word :=
  let w := s.word (0x038000 + o)
  if o = 0x0C then shown w [(8, 7, (LaneClass.rds.lanes.filter (fun l => (s.lane l).sync)).length)]
  else if o = 0x4C then shown w [(0, 9, (s.fifo 8).groups.length), (16, 8, fifoHead s 8)]
  else if 0x100 ≤ o ∧ o < 0x300 then
    match (s.fifo 8).groups[(o - 0x100) / 16]? with
    | some g => groupWord g ((o / 4) % 4)
    | none => 0
  else if 0x400 ≤ o then watchWord s ((o - 0x400) / 32) ((o / 4) % 8)
  else w

/-! ## AM and DRM -/

/-- Word `w` of an AMSS block record (R187). -/
def amssWord (g : AmssRec) (w : Nat) : Word :=
  match w with
  | 0 => lowWord g.bits
  | 1 => wordOf [(0, 16, g.bits / 2 ^ 32), (16, 6, g.len), (24, 8, g.seq)]
  | 2 => lowWord g.epoch
  | _ => 0

/-- AMFn (R186). -/
def amfRead (s : State) (n o : Nat) : Word :=
  let w := s.word ((0x28 + n) * 4096 + o)
  let x := s.amLane n
  if o = 0x0C then shown w [(0, 3, (s.lane (8 + n)).shown.code), (6, 1, x.amss.sync.toNat)]
  else if o = 0x200 then shown w [(0, 5, x.fifo.length), (8, 8, headSeq s 8 (x.fifo.head?.map (fun g => g.seq)) x.next)]
  else if 0x300 ≤ o ∧ o < 0x400 then
    match x.fifo[(o - 0x300) / 16]? with
    | some g => amssWord g ((o / 4) % 4)
    | none => 0
  else w

/-- WAM (R188, R189). -/
def wamRead (s : State) (o : Nat) : Word :=
  let w := s.word (0x03A000 + o)
  if o = 0x0C then shown w [(8, 5, ((List.range 24).filter (fun n => s.flag (Fld.WAM.A_W0.CARRIER n))).length)]
  else if 0x400 ≤ o ∧ o < 0x580 ∧ o % 16 = 0 then
    let y := s.lane (132 + (o - 0x400) / 16)
    shown w [(0, 15, if y.inUse then y.khz else 0), (15, 3, y.shown.code), (18, 1, y.host.toNat)]
  else w

/-- DRMn (R190). -/
def drmRead (s : State) (n o : Nat) : Word :=
  let w := s.word ((0x34 + n) * 4096 + o)
  if o = 0x0C then shown w [(0, 3, (s.lane (18 + n)).shown.code)] else w

/-! ## DAB -/

/-- DABn (R218). An engine out of synchronisation decodes no sub-channel. -/
def dabRead (s : State) (n o : Nat) : Word :=
  let w := s.word ((0x30 + n) * 4096 + o)
  if o = 0x0C then
    let b := laneBlock s (14 + n)
    let pending := match ensembleOf s b with | some e => e.changeCif.isSome | none => false
    let x := s.lane (14 + n)
    let v := if x.live && x.sync then w else withField w 10 13 0
    shown v [(0, 3, x.shown.code), (3, 6, b), (9, 1, pending.toNat)]
  else w

/-- FIB errors in percent of the last 120 (R221). -/
def fibErrors (l : List Bool) : Nat := if l.isEmpty then 0 else (roundDiv (100 * (l.filter (fun b => !b)).length) l.length).toNat

/-- Word `w` of FIC watch record `n` (R221). -/
def ficWord (s : State) (n w : Nat) : Word :=
  let l := 116 + n
  let x := s.dabCtx (4 + n)
  let y := s.lane l
  let e := ensembleOf s (laneBlock s l)
  match w with
  | 0 => wordOf [(0, 6, laneBlock s l), (6, 3, y.shown.code), (9, 1, y.host.toNat), (10, 1, y.sync.toNat), (11, 1, x.alarm.toNat),
      (12, 1, (s.mgr.dwell.any (fun d => d.1 == l)).toNat), (24, 8, x.age)]
  | 1 => match e with
    | some r => wordOf [(0, 16, r.eid), (16, 8, r.ecc), (24, 8, r.records.length)]
    | none => 0
  | 3 => wordOf [(0, 8, fibErrors x.fibs)]
  | _ => s.word (Reg.WFC.F_W0 n + 4 * w)

/-- WFC (R220): the views show the block, the services and the linkage sets that VIEW selects. -/
def wfcRead (s : State) (o : Nat) : Word :=
  let w := s.word (0x039000 + o)
  let e := ensembleOf s (s.get Fld.WFC.VIEW.BLOCK)
  if o = 0x0C then shown w [(8, 5, (LaneClass.fic.lanes.filter (fun l => (s.lane l).sync)).length)]
  else if o = 0x48 then wordOf [(0, 6, s.ens.length), (8, 10, serviceCount s), (24, 7, s.links.length)]
  else if 0x100 ≤ o ∧ o < 0x300 then ficWord s ((o - 0x100) / 32) ((o / 4) % 8)
  else if 0x300 ≤ o ∧ o < 0x340 then
    match e with
    | some r => (ensembleWords s r).getD ((o - 0x300) / 4) 0
    | none => 0
  else if 0x400 ≤ o ∧ o < 0x600 then
    match e with
    | some r => match r.records[16 * s.get Fld.WFC.VIEW.SVC_BLOCK + (o - 0x400) / 32]? with
      | some v => (serviceWords r v).getD ((o / 4) % 8) 0
      | none => 0
    | none => 0
  else if 0x600 ≤ o ∧ o < 0x800 then
    match s.links[4 * s.get Fld.WFC.VIEW.LS_BLOCK + (o - 0x600) / 128]? with
    | some x => (linkWords x ++ x.members.flatMap memberWords).getD ((o % 128) / 4) 0
    | none => 0
  else w

/-! ## Data queues -/

/-- The words of a record: header, then the payload padded with zeros (R214). -/
def recordWords (r : DataRec) : List Word :=
  [wordOf [(0, 16, r.seq), (16, 14, r.bytes.length)], lowWord r.epoch, wordOf [(0, 4, r.kind), (8, 10, r.addr)], lowWord r.sid]
    ++ (List.range ((r.bytes.length + 3) / 4)).map (packBytes (r.bytes.map BitVec.toNat))

/-- The word of the queue window at byte `x` after the start of the oldest record (R213). -/
def queueWord (s : State) (x : Nat) : Word :=
  ((at' s.queues (s.get Fld.SDQ.WIN_SEL.QUEUE) {}).recs.flatMap recordWords).getD (x / 4) 0

/-- FILL in 32-byte units; the spec does not say which way a part of a unit is rounded (log entry 80). -/
def fillUnits (bytes : Nat) : Nat := if Config.fillUp then ceilDiv bytes 32 else bytes / 32

/-- SDQ (R225). -/
def sdqRead (s : State) (o : Nat) : Word :=
  let w := s.word (0x058000 + o)
  if o = 0x0C then shown w [(16, 9, queueUnits s)]
  else if 0xC0 ≤ o ∧ o < 0x100 then
    let q := (o - 0xC0) / 4
    shown w [(0, 16, (at' s.queues q {}).recs.length), (17, 1, (queueActive s q).toNat)]
  else if 0x100 ≤ o ∧ o < 0x140 then
    let x := at' s.queues ((o - 0x100) / 4) {}
    wordOf [(0, 16, headSeq s 16 (x.recs.head?.map (fun r => r.seq)) x.next), (16, 16, fillUnits x.fill)]
  else w

/-! ## Programmes, ports and controllers -/

/-- Word `w` of the class record that `PIB.VIEW` selects (R255). -/
def classWord (s : State) (w : Nat) : Word :=
  let c := s.get Fld.PIB.VIEW.CLASS
  match at' s.pib.classes c none with
  | none => 0
  | some x =>
    if w = 0 then
      wordOf ([(0, 1, 1), (1, 1, x.host.toNat), (2, 1, x.hard.toNat), (3, 1, x.trunc.toNat), (4, 4, x.members.length), (12, 12, x.lsn),
        (24, 6, x.block)] ++ (List.range 4).map (fun n => (8 + n, 1, (s.get (Fld.PGM.STAT.CLASS n) == c).toNat)))
    else if w < 4 then 0
    else match x.members[w - 4]? with
      | some m => wordOf [(0, 24, m.id), (24, 2, m.kind)]
      | none => 0

/-- PIB (R254). -/
def pibRead (s : State) (o : Nat) : Word :=
  if 0x100 ≤ o ∧ o < 0x140 then classWord s ((o - 0x100) / 4) else s.word (0x04C000 + o)

/-- AOPn and AIP (R259, R272). -/
def portRead (s : State) (p o : Nat) : Word :=
  if o = 0x58 then lowWord (portLatency s p) else s.word ((0x50 + p) * 4096 + o)

/-- TWT (R305, R311). -/
def twtRead (s : State) (o : Nat) : Word :=
  if o = 0x54 then wordOf [(0, 24, s.host.ptr1)]
  else s.word (0x061000 + o)

/-- TWC (R327). BUS_BUSY shows what another controller does on the bus, which no command tells: a free value (log entry 81). -/
def twcRead (s : State) (o : Nat) : Word :=
  let w := s.word (0x062000 + o)
  if o = 0x0C then
    let running := match s.twc.work with | .script n _ => some n | _ => none
    shown w ([(0, 1, (s.twc.work != .idle).toNat), (2, 1, s.twc.host.isSome.toNat), (3, 1, (Config.freeValue 1 s.free).toNat),
      (4, 1, running.isSome.toNat), (5, 4, running.getD 0)] ++ (List.range 16).map (fun n => (16 + n, 1, (s.twc.order.contains n).toNat)))
  else w

/-! ## Firmware, NV store and faults -/

/-- FWU (R362, R367): TRIAL_LEFT in whole seconds. -/
def fwuRead (s : State) (o : Nat) : Word :=
  let w := s.word (0x06A000 + o)
  if o = 0x0C then shown w [(3, 1, s.fw.job.isSome.toNat), (4, 3, nvState s)]
  else if o = 0x50 then shown w [(0, 9, s.fw.received.length)]
  else if o = 0x94 then (if fwStage s = stageTrial then wordOf [(0, 17, (s.fw.trialEnd - s.epoch) / 1000)] else 0)
  else w

/-- NVS (R383). -/
def nvsRead (s : State) (o : Nat) : Word :=
  let w := s.word (0x068000 + o)
  if o = 0x0C then shown w [(0, 1, s.nvJob.storing.toNat), (8, 8, min 255 s.nv.spares)] else w

/-- Word `w` of a BIST record (R390). -/
def bistWord (r : BistRecord) (w : Nat) : Word :=
  match w with
  | 0 => wordOf [(0, 8, r.unit), (8, 8, r.inst), (16, 4, r.kind), (20, 2, r.action), (22, 1, r.runtime.toNat)]
  | 1 => wordOf [(0, 12, r.row), (12, 10, r.col)]
  | 2 => wordOf [(0, 8, min 255 r.bootsAgo)]
  | _ => 0

/-- The record that `BST.VIEW` selects: of the newest set, or from 512 on a pending row (R402). -/
def viewedRecord (s : State) : Option BistRecord :=
  let i := s.get Fld.BST.VIEW.RECORD
  if i < 512 then (s.nv.sets.head?.bind (fun x => x.records[i]?)) else s.nv.pendingRows[i - 512]?

/-- BST (R402). -/
def bstRead (s : State) (o : Nat) : Word :=
  if o = 0xC8 then wordOf [(0, 10, s.nv.pendingRows.length)]
  else if 0x100 ≤ o ∧ o < 0x110 then
    match viewedRecord s with
    | some r => bistWord r ((o / 4) % 4)
    | none => 0
  else s.word (0x070000 + o)

/-- Word `w` of a fault record (R404). -/
def faultWord (r : FaultRec) (w : Nat) : Word :=
  match w with
  | 0 => wordOf [(0, 8, r.unit), (8, 8, r.inst), (16, 4, r.cause), (20, 2, r.cls), (22, 3, r.action), (25, 3, r.retry)]
  | 1 => lowWord r.epoch
  | 2 => lowWord r.detail
  | _ => 0

/-- FLT (R403): RECENT counts the faults of the last 10 s. -/
def fltRead (s : State) (o : Nat) : Word :=
  let w := s.word (0x071000 + o)
  if o = 0x0C then
    shown w [(1, 1, (s.pwr.mode == .safe).toNat), (8, 8, min 255 (s.flt.counted.filter (fun e => decide (s.epoch < e + 10000))).length)]
  else if o = 0x4C then wordOf [(0, 6, s.flt.log.length)]
  else if 0x100 ≤ o ∧ o < 0x300 then
    match s.flt.log[(o - 0x100) / 16]? with
    | some r => faultWord r ((o / 4) % 4)
    | none => 0
  else w

/-! ## Any register -/

/-- A block register of register page `p` at offset `o` (CTRL and STAT among them). -/
def blockRead (s : State) (p o : Nat) : Word :=
  match p with
  | 0x000 => sysRead s o
  | 0x001 => pmuRead s o
  | 0x002 => clkRead s o
  | 0x008 => feRead s p o
  | 0x009 => feRead s p o
  | 0x00A => feRead s p o
  | 0x00C => injRead s o
  | 0x00D => coxRead s o
  | 0x010 => chRead s p o
  | 0x011 => chRead s p o
  | 0x012 => chRead s p o
  | 0x014 => srvRead s o
  | 0x018 => lnmRead s o
  | 0x038 => wrdRead s o
  | 0x039 => wfcRead s o
  | 0x03A => wamRead s o
  | 0x040 => ofsRead s o
  | 0x04C => pibRead s o
  | 0x058 => sdqRead s o
  | 0x061 => twtRead s o
  | 0x062 => twcRead s o
  | 0x068 => nvsRead s o
  | 0x06A => fwuRead s o
  | 0x070 => bstRead s o
  | 0x071 => fltRead s o
  | _ =>
    if 0x020 ≤ p ∧ p < 0x028 then fmfRead s (p - 0x020) o
    else if 0x028 ≤ p ∧ p < 0x02E then amfRead s (p - 0x028) o
    else if 0x030 ≤ p ∧ p < 0x034 then dabRead s (p - 0x030) o
    else if 0x034 ≤ p ∧ p < 0x036 then drmRead s (p - 0x034) o
    else if 0x050 ≤ p ∧ p < 0x055 then portRead s (p - 0x050) o
    else s.word (p * 4096 + o)

/-- What the aligned address `a` reads at this instant, apart from pauses, latches and recording. -/
def readWord (s : State) (a : Nat) : Word :=
  let p := a / 4096
  let o := a % 4096
  if !(isRegPage p) then
    if 0x100 ≤ p ∧ p < 0x200 then queueWord s (a - 0x100000)
    else if 0x200 ≤ p ∧ p < 0x210 then windowWord s a
    else 0
  else if o < 0x40 ∧ o ≠ 0x08 ∧ o ≠ 0x0C then headerRead s p o
  else blockRead s p o

/-! ## A host read (R276, R282, R290) -/

/-- The latched groups (R282): page, pages, offset of the first, stride, number, and bytes of a group. -/
def latchGroups : List (Nat × Nat × Nat × Nat × Nat × Nat) := [
  -- SYS.TIME, EPOCH, UNIT_ID, AON_TIME and the plan (R14, R15, R24, R348)
  (0x000, 1, 0x050, 8, 2, 8), (0x000, 1, 0x060, 8, 1, 8), (0x000, 1, 0x070, 8, 1, 8), (0x000, 1, 0x200, 8, 64, 8),
  -- hop tables, down-converters, sprouts (R63, R99, R133)
  (0x003, 2, 0x100, 16, 32, 16), (0x010, 3, 0x100, 8, 122, 8), (0x018, 1, 0x100, 16, 32, 16),
  -- RDS and group records (R153, R156, R160)
  (0x020, 8, 0x0B0, 0xC4, 1, 0xC4), (0x020, 8, 0x400, 16, 128, 16), (0x038, 1, 0x100, 16, 32, 16), (0x038, 1, 0x400, 32, 96, 32),
  -- AMSS blocks, AM watch, DRM services (R187, R189, R191)
  (0x028, 6, 0x300, 16, 16, 16), (0x03A, 1, 0x400, 16, 24, 16), (0x034, 2, 0x100, 32, 4, 32),
  -- DAB errors and the views of the FIC database (R219 to R224)
  (0x030, 4, 0x100, 16, 6, 16), (0x039, 1, 0x100, 32, 16, 32), (0x039, 1, 0x300, 64, 1, 64), (0x039, 1, 0x400, 32, 16, 32),
  (0x039, 1, 0x600, 128, 4, 128),
  -- alignment, classes, BIST records, fault log (R253, R255, R390, R404)
  (0x048, 4, 0x090, 8, 4, 8), (0x04C, 1, 0x100, 64, 1, 64), (0x070, 1, 0x100, 16, 1, 16), (0x071, 1, 0x100, 16, 32, 16)]

/-- The addresses that a read of `a` captures: none unless `a` begins a group. -/
def capturedBy (a : Nat) : List Nat :=
  let p := a / 4096
  let o := a % 4096
  match latchGroups.find? (fun g => decide (g.1 ≤ p) && decide (p < g.1 + g.2.1) && decide (g.2.2.1 ≤ o)
      && decide ((o - g.2.2.1) % g.2.2.2.1 = 0) && decide ((o - g.2.2.1) / g.2.2.2.1 < g.2.2.2.2.1)) with
  | some g => (List.range (g.2.2.2.2.2 / 4 - 1)).map (fun i => a + 4 * (i + 1))
  | none => []

/-- What the aligned address reads: during a control-plane pause a firmware-served register reads as at its start (R290). -/
def serveRead (s : State) (a : Nat) : Word :=
  if s.fab.pause.isSome && servedByFirmware a then ((s.fab.frozen.find? (fun c => c.1 == a)).map (fun c => c.2)).getD 0
  else if regServed s a then readWord s a else 0

/-- The captured word of address `a` in a port's latch. -/
def latched (s : State) (port : Port) (a : Nat) : Option Word :=
  (s.fab.latches.find? (fun l => l.port == port && l.page == a / 4096)).bind (fun l =>
    (l.words.find? (fun c => c.1 == a)).map (fun c => c.2))

/-- A read by a port: its word and the state after it. Misaligned and unimplemented addresses are recorded (R276); word 0 of a group
captures the rest in the port's latch of the page (R282). While the fabric does not serve, 0 and nothing recorded (R301). -/
def hostRead (port : Port) (a : Nat) (s : State) : Word × State :=
  if !s.served then (0, s)
  else
    let p := a / 4096
    let a' := a / 4 * 4
    if !(pageServed s p) then (0, recordAccess port a 1 false s)
    else
      let s1 := if a % 4 = 0 then s else recordAccess port a 2 false s
      let group := capturedBy a'
      let s2 : State :=
        if group.isEmpty then s1
        else
          let l : Latch := { port := port, page := p, words := group.map (fun b => (b, serveRead s b)) }
          { s1 with fab := { s1.fab with latches := l :: s1.fab.latches.filter (fun x => !(x.port == port && x.page == p)) } }
      ((latched s port a').getD (serveRead s a'), s2)

/-- The bytes of a word in the order in which the two-wire target sends them (R305). -/
def wordBytesMsb (w : Word) : List (BitVec 8) := [3, 2, 1, 0].map (fun i => BitVec.ofNat 8 (fieldOf w (8 * i) 8))

/-- What a port drove last is the word `w` (R294, R305). -/
def driveWord (port : Port) (w : Word) (s : State) : State :=
  match port with
  | .spi => { s with host := { s.host with spiOut := [w] } }
  | .twoWire => { s with host := { s.host with twtOut := wordBytesMsb w } }

/-- LATCH_CAPTURE_READ (R282): one read of the fabric by a port, and the word it returns. -/
def execLatchCaptureRead (port : Port) (addr : BitVec 24) (s : State) : Host.Outcome State Fault Refusal :=
  let r := hostRead port addr.toNat s
  commit s (driveWord port r.1 r.2)

end Sys2Proof.Machine
end

