-- ==== Sys2Proof/Machine/Faults.lean ====
section
/-!
DEFINITION. Control-plane pauses as they begin (R8, R290), the watchdog (R382), run-time self-test (R392, R393), memory errors (R394 to
R396), unit faults and device recovery (R397 to R399), and the entry to SAFE (R400).
-/

namespace Sys2Proof.Machine

open Sys2Proof

/-! ## Control-plane pauses -/

/-- The firmware-served registers (R290, R432). -/
def servedAddrs : List Nat := (RegMap.table.flatMap RegSpec.addrs).filter servedByFirmware

/-- A control-plane pause begins: firmware-served registers read from now on as they stand (R290). One in progress goes on. -/
def startPause (why : PauseCause) (s : State) : State :=
  if s.fab.pause.isSome then s
  else
    let frozen := (servedAddrs.map (fun a => (a, readWord s a))).filter (fun c => c.2 != 0)
    { s with fab := { s.fab with pause := some why, frozen := frozen } }

/-! ## The watchdog -/

/-- The second expiry within 60 s of the first (R382). -/
def secondExpiry (s : State) : Bool :=
  match s.flt.watchdogAt with
  | some e => decide (s.epoch < e + 60000)
  | none => false

/-- The control plane restarts, or the second time within 60 s goes to SAFE (R382); in TRIAL it counts as a health failure (R361). -/
def restartControl (why : PauseCause) (s : State) : State :=
  let t := healthFailure { s with flt := { s.flt with watchdogAt := some s.epoch } }
  if secondExpiry s then causeSafe 2 t else startPause why t

/-- WATCHDOG_EXPIRY (R382, R397): the expiry does not say which control core failed (log entry 82: a free value). That core is
recovering until 100 epochs after the restart. -/
def watchdogExpiry (s : State) : State :=
  if !controlRuns s then s
  else
    let v := s.fresh 1
    let r : FaultRec := { unit := 0x08, inst := v.1, cause := 7, action := if secondExpiry s then 5 else 2, epoch := s.epoch }
    restartControl .watchdog (startReset 0x08 v.1 (logRecord r (countFault v.2)))

/-- WATCHDOG_EXPIRY (R382). -/
def execWatchdogExpiry (s : State) : Host.Outcome State Fault Refusal := commit s (watchdogExpiry s)

/-! ## Run-time self-test -/

/-- Whether a unit was retired, at BOOT or since (R391, R398). -/
def unitRetired (s : State) (u inst : Nat) : Bool :=
  s.flt.retired.contains (u, inst)
    || (if u = 0x01 then s.flag (Fld.LNM.CORE_STAT.RETIRED inst) else !((s.word Reg.LNM.ACCEL_STAT).getLsbD (accelBit u inst)))

/-- Why a test is refused: the ERR of R392, 0 if it is not. -/
def bistError (u inst : Nat) (move : Bool) (s : State) : Nat :=
  let used := !(servedLanes s u inst).isEmpty
  if !s.receiving then 1
  else if s.flt.bist.isSome || s.fw.swap.isSome || s.flt.recovery.isSome || (hasReset u && used && !(move && u == 0x01)) then 2
  else if !(decide (inst < unitInstances u)) || unitRetired s u inst then 3
  else 0

/-- A write of `BST.CMD` (R392): a request that is accepted waits for its core to be empty. -/
def writeBistCmd (v : Word) (s : State) : State :=
  let u := fieldOf v 0 8
  let inst := fieldOf v 8 8
  let move := v.getLsbD 17
  if !(v.getLsbD 16) then s
  else
    let err := bistError u inst move s
    if err ≠ 0 then postBist err false u inst 0 s
    else
      let moving := u == 0x01 && !(servedLanes s u inst).isEmpty
      { s with flt := { s.flt with bist := some { unit := u, inst := inst, migrate := move } } }.setWord Reg.BST.STAT
        (wordOf [(0, 1, 1), (1, 1, moving.toNat), (8, 8, u), (16, 8, inst)])

/-- BIST_START (R392). -/
def execBistStart (port : Port) (v : Word) (s : State) : Host.Outcome State Fault Refusal :=
  commit s (hostWrite port Reg.BST.CMD v (fun _ => writeBistCmd (withField v 16 1 1)) s)

/-- A core under test is emptied one lane at a time (R393). -/
def bistBoundary (s : State) : State :=
  match s.flt.bist with
  | some j => if j.unit == 0x01 && j.migrate && !j.running && s.fab.pause.isNone then moveOff j.inst (quietCore s j.inst) .bist s else s
  | none => s

/-- A core whose test has passed returns to service on the next boundary (R393). -/
def bistReturn (s : State) : State :=
  forEach (List.range 6) (fun c t =>
    let tested := match s.flt.bist with | some j => j.unit == 0x01 && j.inst == c | none => false
    if s.flag (Fld.LNM.CORE_STAT.IN_TEST c) && !tested then t.put (Fld.LNM.CORE_STAT.IN_TEST c) false else t) s

/-- BIST_RUN (R393): the unit carries nothing, and its logic BIST starts. -/
def bistRun (s : State) : State :=
  match s.flt.bist with
  | some j =>
    if j.running || (j.unit == 0x01 && !(coreEmpty s j.inst)) then s
    else
      let t := { s with flt := { s.flt with bist := some { j with running := true } } }.put Fld.BST.STAT.MIGRATING false
      if j.unit = 0x01 then t.put (Fld.LNM.CORE_STAT.IN_TEST j.inst) true else t
  | none => s

/-- BIST_RUN (R393). -/
def execBistRun (s : State) : Host.Outcome State Fault Refusal := commit s (bistRun s)

/-- BIST_DONE (R393): a pass returns the unit to service; a failure is a permanent fault, and its records are kept for the next
BOOT. -/
def bistDone (pass : Bool) (us : Nat) (records : List BistRecord) (s : State) : State :=
  match s.flt.bist with
  | some j =>
    if !j.running then s
    else
      let t := postBist 0 pass j.unit j.inst us (endBist s)
      if pass then t
      else
        let t1 := if j.unit = 0x01 then t.put (Fld.LNM.CORE_STAT.IN_TEST j.inst) false else t
        let t2 : State := { t1 with nv := { t1.nv with runFails := t1.nv.runFails ++ records } }
        permanentFault j.unit j.inst 8 0 (countFault (raise Ev.BST.FAIL t2))
  | none => s

/-- BIST_DONE (R393). -/
def execBistDone (pass : Bool) (us : Nat) (records : List BistRecord) (s : State) : Host.Outcome State Fault Refusal :=
  commitLanes s (bistDone pass us records s)

/-! ## Memory errors -/

/-- SCRUB_PASS_DONE (R394, R406). -/
def execScrubPassDone (ms : Nat) (s : State) : Host.Outcome State Fault Refusal :=
  commit s (if controlRuns s then (s.bump Fld.ECC.PASS_CNT.COUNT).set Fld.ECC.PASS_MS.MS (min ms 65535) else s)

/-- The macro and the row of an SRAM word (R389). -/
def macroOf (word : Nat) : Nat := 4 * (word / 131072) + word % 131072 / 32768

def rowOf (word : Nat) : Nat := word % 32768 / 8

/-- `ECC.LAST` shows a word (R406). -/
def showEcc (word : Nat) (ue : Bool) (s : State) : State :=
  s.setWord Reg.ECC.LAST (wordOf [(0, 22, word), (22, 1, ue.toNat), (31, 1, 1)])

/-- A word's row joins the pending run-time rows, once (R388, R395, R396). -/
def pendRow (word kind : Nat) (s : State) : State :=
  let m := macroOf word
  let r := rowOf word
  if s.nv.pendingRows.any (fun x => x.inst == m && x.row == r) then s
  else
    let x : BistRecord := { unit := 0x07, inst := m, kind := kind, runtime := true, row := r }
    { s with nv := { s.nv with pendingRows := s.nv.pendingRows ++ [x] } }

/-- The record of a memory error. -/
def memoryRecord (word cause cls action : Nat) (s : State) : State :=
  logRecord { unit := 0x07, inst := macroOf word, cause := cause, cls := cls, action := action, epoch := s.epoch, detail := word } s

/-- ECC_CORRECTED (R394, R395): counted and logged, never for R397 or R400; a repeat within the hour marks the row. -/
def eccCorrected (word : Nat) (s : State) : State :=
  if !controlRuns s then s
  else
    let again := s.flt.corrected.any (fun c => c.1 == word && decide (s.epoch < c.2 + 3600000))
    let known := ((word, s.epoch) :: s.flt.corrected.filter (fun c => c.1 != word)).take 64
    let t : State := { s with flt := { s.flt with corrected := known, ceSinceSnap := s.flt.ceSinceSnap + 1 } }
    let t1 := raise Ev.ECC.CORRECTED (showEcc word false (t.bump Fld.ECC.CE_CNT.COUNT))
    if again then raise Ev.FLT.PERMANENT (memoryRecord word 1 1 6 (pendRow word 7 t1))
    else memoryRecord word 1 0 1 t1

/-- ECC_CORRECTED (R394). -/
def execEccCorrected (word : Nat) (s : State) : Host.Outcome State Fault Refusal := commit s (eccCorrected word s)

/-- What the first uncorrectable error at a word does, by region (R396). -/
def firstError (r : Region) (s : State) : State :=
  match r with
  | .code =>
    if nvState s = nvWriting ∨ nvState s = nvVerified ∨ nvState s = nvReverted then causeSafe 4 s else startPause .reload s
  | .oldCode => s.setFw (fun x => { x with oldLost := true })
  | .husk => causeSafe 4 s
  | .control => restartControl .watchdog s
  | .lane l =>
    let t := forEach (plantedSlots s (fun x => x.lane == l)) (fun i u => pull i .fault u) s
    if s.laneInUse l then t.setLane l (fun x => { x with restart := true }) else t
  | .rings lanes => forEach lanes gapLane s
  | .survey m entries => { s with dsp := { s.dsp with touched := s.dsp.touched ++ entries.map (fun i => (m, i)) } }
  | .pool n k => s.setSrc n k (fun x => { x with lostBlocks := s.epoch :: x.lostBlocks.filter (fun e => decide (s.epoch ≤ e + 1)) })
  | .buffers => s
  | .queue q i =>
    if i < (at' s.queues q {}).recs.length then
      { s with queues := upd s.queues q (fun x => { x with recs := x.recs.eraseIdx i }) }.bump (Fld.SDQ.QDROP.CRC q)
    else s

/-- A place in a region is withheld until BOOT (R396). -/
def withhold (r : Region) (s : State) : State := { s with flt := { s.flt with withheld := r :: s.flt.withheld } }

/-- What a second one at the same word does, by region (R396). -/
def secondError (r : Region) (s : State) : State :=
  match r with
  | .code => causeSafe 4 s
  | .oldCode => firstError .oldCode s
  | .husk => causeSafe 4 s
  | .control => causeSafe 4 s
  | .survey m entries => firstError (.survey m entries) s
  | .pool _ _ => showPool { s with flt := { s.flt with poolLost := s.flt.poolLost + 1 } }
  | .queue _ _ => { s with flt := { s.flt with queueLost := s.flt.queueLost + 1 } }
  | .lane l => withhold (.lane l) s
  | .rings lanes => withhold (.rings lanes) s
  | .buffers => withhold .buffers s

/-- ECC_UNCORRECTED (R396, R399): the first at a word is transient and its word rewritten; the second is a permanent fault of the
macro. A fault of the macro, a shared resource, while a unit is recovering starts a device recovery, or joins one. -/
def eccUncorrected (word : Nat) (r : Region) (s : State) : State :=
  if !controlRuns s then s
  else
    let m := macroOf word
    let again := s.flt.uncorrected.contains word
    let known := if again then s.flt.uncorrected else word :: s.flt.uncorrected
    let t : State := { s with flt := { s.flt with uncorrected := known } }
    let t1 := countFault (raise Ev.ECC.UNCORRECTED (showEcc word true (t.bump Fld.ECC.UE_CNT.COUNT)))
    if again then secondError r (raise Ev.FLT.PERMANENT (memoryRecord word 2 1 6 (pendRow word 8 t1)))
    else
      let t2 := firstError r t1
      let safe := t2.flt.safeAt.isSome && t1.flt.safeAt.isNone
      match s.flt.recovery with
      | some (stage, units) =>
        let t3 := memoryRecord word 2 2 4 t2
        { t3 with flt := { t3.flt with recovery := some (stage, (0x07, m) :: units) } }
      | none =>
        if (recoveringUnits s).isEmpty then memoryRecord word 2 0 (if safe then 5 else 1) t2
        else startRecovery 0x07 m (memoryRecord word 2 2 4 t2)

/-- ECC_UNCORRECTED (R396). -/
def execEccUncorrected (word : Nat) (region : Region) (s : State) : Host.Outcome State Fault Refusal :=
  commitLanes s (eccUncorrected word region s)

/-! ## Unit faults -/

/-- CORE_HANG (R397): lane cores run in WATCH and FULL. -/
def execCoreHang (core : Fin 6) (exception : Bool) (s : State) : Host.Outcome State Fault Refusal :=
  commitLanes s (if s.receiving then unitFault 0x01 core.val (if exception then 5 else 4) s else s)

/-- ACCEL_FAULT (R397): units 0x02 to 0x06. -/
def execAccelFault (unit inst : Nat) (s : State) : Host.Outcome State Fault Refusal :=
  commitLanes s (if s.receiving && hasReset unit && unit != 0x01 && decide (inst < unitInstances unit) then unitFault unit inst 4 s else s)

/-- UNIT_RESET_DONE (R397). -/
def execUnitResetDone (unit inst : Nat) (s : State) : Host.Outcome State Fault Refusal := commit s (unitSettled (unit, inst) s)

/-- RECOVERING_END (R397). -/
def execRecoveringEnd (unit inst : Nat) (s : State) : Host.Outcome State Fault Refusal :=
  commit s { s with flt := { s.flt with
    recovering := s.flt.recovering.filter (fun r => !(r.1 == (unit, inst) && decide (r.2 ≤ s.epoch))) } }

/-! ## Device recovery and SAFE -/

/-- DEVICE_RECOVERY_RESET (R399 step 3), on the boundary at which the ramps end. -/
def recoveryReset (s : State) : State :=
  match s.flt.recovery with
  | some (.ramping b, units) =>
    if onBoundary s && decide (b + 20 ≤ s.epoch) then
      let now := (units.filter (fun u => !(s.flt.retired.contains u) && (sharedUnit u.1 || isRecovering s u))).eraseDups
      let t : State := { s with flt := { s.flt with recovery := some (.resetting, now) } }
      restartMarked (forEach now (fun u v => markRestart u.1 u.2 (startReset u.1 u.2 v)) t)
    else s
  | _ => s

/-- DEVICE_RECOVERY_RESET (R399). -/
def execDeviceRecoveryReset (s : State) : Host.Outcome State Fault Refusal := commitLanes s (recoveryReset s)

/-- DEVICE_RECOVERY_DONE (R399 step 4), on the first boundary after the resets complete. -/
def recoveryDone (s : State) : State :=
  match s.flt.recovery with
  | some (.resetting, units) =>
    if onBoundary s && units.all (fun u => !(s.flt.inReset.contains u)) then
      let t : State := { s with flt := { s.flt with recovery := none } }
      forEach (List.range 4) muteBoundary (t.put Fld.FLT.STAT.RECOVERING false)
    else s
  | _ => s

/-- DEVICE_RECOVERY_DONE (R399). -/
def execDeviceRecoveryDone (s : State) : Host.Outcome State Fault Refusal := commit s (recoveryDone s)

/-- SAFE_ENTRY (R400, R438): on the boundary after the cause; during an orderly stop the cause is only logged. -/
def safeEntry (s : State) : State :=
  match s.flt.safeAt with
  | some (b, why) =>
    if onBoundary s && decide (b ≤ s.epoch) && controlRuns s then
      if stopping s then { s with flt := { s.flt with safeAt := none } } else enterSafe why s
    else s
  | none => s

/-- SAFE_ENTRY (R400). -/
def execSafeEntry (s : State) : Host.Outcome State Fault Refusal := commitLanes s (safeEntry s)

/-- A write of `FLT.LOG_CLR` (R403). -/
def clearLog (v : Word) (s : State) : State := if v.getLsbD 0 then { s with flt := { s.flt with log := [] } } else s

/-- FAULT_LOG_CLEAR (R403). -/
def execFaultLogClear (port : Port) (v : Word) (s : State) : Host.Outcome State Fault Refusal :=
  commit s (hostWrite port Reg.FLT.LOG_CLR v (fun _ => clearLog (withField v 0 1 1)) s)

end Sys2Proof.Machine
end

