-- ==== Sys2Proof/Machine/RegWrite.lean ====
section
/-!
DEFINITION. Where a host write goes: the header registers (R277, R281, R287), the two-wire comparators and mask (R304), each register
with an effect of its own, and every other register by its field types (R279). And the end of a control-plane pause, which replays the
writes held over it (R290).
-/

namespace Sys2Proof.Machine

open Sys2Proof

/-! ## The page header -/

/-- The event bits of a page (R277, R288): those that have an event in the map of R434, whose dashes are reserved. -/
def eventMask (p : Nat) : Word :=
  BitVec.ofNat 32 (match reservedEvents.find? (fun r => Nat.beq r.1 p) with
    | some r => r.2
    | none => 2 ^ eventCount p - 1)

/-- A write of EV_PEND (R287): ones clear RAW bits. Clearing SYS.WAKE releases the HOST_WAKE pins (R346). -/
def clearEvents (p : Nat) (v : Word) (s : State) : State :=
  let t := s.setWord (evRawAddr p) (s.word (evRawAddr p) &&& ~~~v)
  if p = 0 ∧ v.getLsbD (eventBit Ev.SYS.WAKE) then t.put Fld.SYS.WAKE_CFG.ASSERTED false else t

/-- A write of EV_SET (R287): ones set RAW bits; no script is triggered (R322). -/
def setEvents (p : Nat) (v : Word) (s : State) : State := s.setWord (evRawAddr p) (s.word (evRawAddr p) ||| (v &&& eventMask p))

/-- A write of EV_EN (R287). -/
def enableEvents (p : Nat) (v : Word) (s : State) : State := s.setWord (evEnAddr p) (v &&& eventMask p)

/-- A write of a header register of page `p` at offset `o`; ID, REV and EV_RAW are read only. -/
def headerWrite (port : Port) (p o : Nat) (v : Word) (s : State) : State :=
  if o = 0x14 then enableEvents p v s
  else if o = 0x18 then clearEvents p v s
  else if o = 0x1C then setEvents p v s
  else if o = 0x20 then writeLockKey p port v s
  else s

/-! ## The two-wire target's addresses (R303, R304) -/

/-- The base address. -/
def twtBase (s : State) : Nat := 0x60 + 2 * s.pwr.addrSel

/-- A reserved 7-bit address. -/
def reservedAddr (a : Nat) : Bool := decide (a < 0x08) || decide (0x78 ≤ a)

/-- A write is refused: the register keeps its value. -/
def twtRefused (s : State) : State := raise Ev.TWT.CFG_ERR (s.put Fld.TWT.STAT.CFG_ERR true)

/-- A write of `TWT.CMP2` (`k` = 0) or `CMP3` (`k` = 1). -/
def writeComparator (port : Port) (k : Nat) (v : Word) (key : Bool) (s : State) : State :=
  let a := fieldOf v 0 7
  if key && (reservedAddr a || a == twtBase s || a == twtBase s + 1 || a == s.get (Fld.TWT.CMP.ADDR (1 - k))) then twtRefused s
  else plainWrite port (Reg.TWT.CMP k) v key s

/-- An address that mask mode would answer. -/
def underMask (base mask a : Nat) : Bool := (a ^^^ base) &&& (127 - mask) == 0

/-- A write of `TWT.CTRL`. -/
def writeMask (port : Port) (v : Word) (key : Bool) (s : State) : State :=
  if key && (List.range 128).any (fun a => underMask (twtBase s) (fieldOf v 1 7) a && reservedAddr a) then twtRefused s
  else plainWrite port Reg.TWT.CTRL v key s

/-! ## Any register -/

/-- A VHF path by its page. -/
def vhfOf (p : Nat) : Vhf := if p = 0x009 then .fm else .b3

/-- An LO by its page. -/
def loOf (p : Nat) : Lo := if p = 0x003 then .lof else .lob

/-- Writes of the pages below 0x018. -/
def writeCapturePages (port : Port) (p o : Nat) (v : Word) (key : Bool) (s : State) : State :=
  let a := p * 4096 + o
  if p = 0x000 ∧ o = 0x44 then writeStateReq v s
  else if p = 0x000 ∧ o = 0x48 then writeCfgCommit v s
  else if p = 0x000 ∧ 0xC0 ≤ o ∧ o < 0xE0 then writeGpio port ((o - 0xC0) / 4) v key s
  else if p = 0x002 ∧ 0x60 ≤ o ∧ o < 0x6C then writeClkout port ((o - 0x60) / 4) v key s
  else if (p = 0x003 ∨ p = 0x004) ∧ o = 0x60 then calCommand (loOf p) v s
  else if 0x008 ≤ p ∧ p < 0x00B ∧ o = 0x08 then writeFeCtrl port (Path.ofIdx (p - 8)) v key s
  else if (p = 0x009 ∨ p = 0x00A) ∧ o = 0x40 then writeTileCentre port (vhfOf p) v key s
  else if p = 0x00B ∧ o = 0x40 then writeManStep port v key s
  else if p = 0x00B ∧ o = 0x50 then writeCheckCmd v s
  else if p = 0x00D ∧ o = 0x08 then writeCoexCtrl port v key s
  else if p = 0x00C ∧ o = 0x08 then writeInjCtrl port v key s
  else if p = 0x00C ∧ (o = 0x44 ∨ 0x100 ≤ o ∧ o < 0x200) then writeInjShape port a v key s
  else plainWrite port a v key s

/-- Writes of the lane and watch pages, 0x020 to 0x03A. -/
def writeLanePages (port : Port) (p o : Nat) (v : Word) (key : Bool) (s : State) : State :=
  let a := p * 4096 + o
  if p < 0x028 then
    if o = 0x40 then writeFmTune (p - 0x020) v s
    else if o = 0x210 then ackGroups (p - 0x020) (fieldOf v 0 8) s
    else plainWrite port a v key s
  else if p < 0x02E then
    if o = 0x40 then writeAmTune (p - 0x028) v s
    else if o = 0x208 then ackAmss (p - 0x028) (fieldOf v 0 8) s
    else plainWrite port a v key s
  else if 0x030 ≤ p ∧ p < 0x034 then
    if o = 0x08 then writeDabCtrl port (p - 0x030) v key s
    else if o = 0x40 then writeDabTune (p - 0x030) v s
    else if 0x44 ≤ o ∧ o < 0x74 then writeDabSel port (p - 0x030) ((o - 0x44) / 8) (decide (o % 8 = 0)) v key s
    else plainWrite port a v key s
  else if p = 0x034 ∨ p = 0x035 then
    if o = 0x08 then writeDrmCtrl port (p - 0x034) v key s
    else if o = 0x40 then writeDrmTune (p - 0x034) v s
    else if 0x44 ≤ o ∧ o < 0x54 then writeDrmSel port (p - 0x034) ((o - 0x44) / 4) v key s
    else plainWrite port a v key s
  else if p = 0x038 ∧ o = 0x40 then writeAssign .rds v s
  else if p = 0x038 ∧ o = 0x54 then ackGroups 8 (fieldOf v 0 8) s
  else if p = 0x038 ∧ o = 0x58 then writeAfSel port v key s
  else if p = 0x039 ∧ o = 0x40 then writeAssign .fic v s
  else if p = 0x03A ∧ o = 0x40 then writeAssign .am v s
  else plainWrite port a v key s

/-- Writes of the pages from 0x040 on. -/
def writeHighPages (port : Port) (p o : Nat) (v : Word) (key : Bool) (s : State) : State :=
  let a := p * 4096 + o
  if 0x048 ≤ p ∧ p < 0x04C ∧ o = 0x08 then writePgmCtrl port (p - 0x048) v key s
  else if 0x048 ≤ p ∧ p < 0x04C ∧ 0x40 ≤ o ∧ o < 0x50 then writeSource port (p - 0x048) ((o - 0x40) / 4) v key s
  else if p = 0x04C ∧ o = 0x08 then writePibCtrl port v key s
  else if p = 0x04C ∧ o = 0x40 then writePibCmd v s
  else if 0x050 ≤ p ∧ p < 0x055 ∧ o = 0x08 then writePortCtrl port (p - 0x050) v key s
  else if p = 0x055 ∧ (o = 0x40 ∨ o = 0x50) then writePodCfg port ((o - 0x40) / 16) v key s
  else if p = 0x055 ∧ (o = 0x44 ∨ o = 0x54) then writePodCmd ((o - 0x44) / 16) v s
  else if p = 0x055 ∧ 0x80 ≤ o ∧ o < 0x90 then writeRoute port ((o - 0x80) / 4) v key s
  else if p = 0x058 ∧ 0x80 ≤ o ∧ o < 0xC0 then writeQcfg port ((o - 0x80) / 4) v key s
  else if p = 0x058 ∧ 0x140 ≤ o ∧ o < 0x180 then ackQueue ((o - 0x140) / 4) (fieldOf v 0 16) s
  else if p = 0x061 ∧ o = 0x08 then writeMask port v key s
  else if p = 0x061 ∧ (o = 0x40 ∨ o = 0x44) then writeComparator port ((o - 0x40) / 4) v key s
  else if p = 0x062 ∧ o = 0x08 then writeTwcCtrl port v key s
  else if p = 0x062 ∧ o = 0x40 then writeTwcCmd v s
  else if p = 0x062 ∧ o = 0x44 then writeTwcRun v s
  else if p = 0x068 ∧ o = 0x40 then writeNvsCmd v s
  else if p = 0x069 ∧ o = 0x40 then writeSeal port v key s
  else if p = 0x069 ∧ 0x44 ≤ o ∧ o < 0x54 then writeRgl port a v key s
  else if p = 0x069 ∧ o = 0x54 then writeUnseal port v key s
  else if p = 0x06A ∧ o = 0x40 then writeFwuCmd port v none key s
  else if p = 0x070 ∧ o = 0x40 then writeBistCmd v s
  else if p = 0x071 ∧ o = 0x50 then clearLog v s
  else plainWrite port a v key s

/-- What a write of `v` to the aligned address `a` does; `key` says whether a key of the page was open for the port. -/
def applyWrite (port : Port) (a : Nat) (v : Word) (key : Bool) (s : State) : State :=
  let p := a / 4096
  let o := a % 4096
  match ackWindow? a with
  | some i => ackResult i (fieldOf v 0 8) s
  | none =>
    if 0x200 ≤ p then writeWindow port a v s
    else if 0x100 ≤ p then s
    else if o < 0x40 ∧ o ≠ 0x08 ∧ o ≠ 0x0C then headerWrite port p o v s
    else if p < 0x018 then writeCapturePages port p o v key s
    else if 0x020 ≤ p ∧ p < 0x040 then writeLanePages port p o v key s
    else writeHighPages port p o v key s

/-- A host write to any address (R276, R279). -/
def registerWrite (port : Port) (a : Nat) (v : Word) (s : State) : State :=
  hostWrite port a v (fun key => applyWrite port (a / 4 * 4) v key) s

/-! ## The commands of chapter 11 -/

/-- REGISTER_WRITE (R279). -/
def execRegisterWrite (port : Port) (addr : BitVec 24) (v : Word) (s : State) : Host.Outcome State Fault Refusal :=
  commitLanes s (registerWrite port addr.toNat v s)

/-- RESULT_ACK (R285). -/
def execResultAck (port : Port) (window : Fin 27) (v : Word) (s : State) : Host.Outcome State Fault Refusal :=
  commit s (hostWrite port (windowAddrs.getD window.val (0, 0)).2 v (fun _ => ackResult window.val (fieldOf v 0 8)) s)

/-- LOCKKEY_OPEN (R281). -/
def execLockkeyOpen (port : Port) (page : Nat) (s : State) : Host.Outcome State Fault Refusal :=
  commit s (registerWrite port (page % 4096 * 4096 + 0x20) 0x00005EED s)

/-- LOCKKEY_CLOSE (R281): a write of LOCKKEY with another value. -/
def execLockkeyClose (port : Port) (page : Nat) (v : Word) (s : State) : Host.Outcome State Fault Refusal :=
  let w : Word := if v = 0x00005EED then 0 else v
  commit s (registerWrite port (page % 4096 * 4096 + 0x20) w s)

/-- KEY_EXPIRE (R281): the second boundary since the page's key was opened has come. -/
def execKeyExpire (page : Nat) (s : State) : Host.Outcome State Fault Refusal :=
  commit s (if s.fab.keys.any (fun k => k.page == page && k.left == 0) then closeKey page s else s)

/-- EVENT_CLEAR (R287). -/
def execEventClear (port : Port) (page : Nat) (v : Word) (s : State) : Host.Outcome State Fault Refusal :=
  commit s (registerWrite port (page % 4096 * 4096 + 0x18) v s)

/-- EVENT_SET_TEST (R287). -/
def execEventSetTest (port : Port) (page : Nat) (v : Word) (s : State) : Host.Outcome State Fault Refusal :=
  commit s (registerWrite port (page % 4096 * 4096 + 0x1C) v s)

/-- EVENT_ENABLE_WRITE (R287). -/
def execEventEnableWrite (port : Port) (page : Nat) (v : Word) (s : State) : Host.Outcome State Fault Refusal :=
  commit s (registerWrite port (page % 4096 * 4096 + 0x14) v s)

/-- ACC_ERR_CLEAR (R291): VALID is written 1. -/
def execAccErrClear (port : Port) (v : Word) (s : State) : Host.Outcome State Fault Refusal :=
  let w := withField v 31 1 1
  commit s (hostWrite port Reg.SYS.ACC_ERR w (plainWrite port Reg.SYS.ACC_ERR w) s)

/-- SCHED_PLACE_FREED (R22). -/
def execSchedPlaceFreed (s : State) : Host.Outcome State Fault Refusal := commit s (servePlan s)

/-! ## The end of a pause (R8, R290) -/

/-- Roots of sprouts that met their criterion during the pause are posted (R8). -/
def postMet (s : State) : State :=
  forEach (plantedSlots s (fun x => x.met)) (fun i t => if isPlanned (fun c => c == .root i) t then t else postRoot i t) s

/-- PAUSE_END: held writes, then results, then events follow in order; sprouts wait no longer. A hand-over ends with the Husk's answer
(R359). -/
def pauseEnd (s : State) : State :=
  match s.fab.pause with
  | none => s
  | some why =>
    if why == .handover && s.fw.handOver.isSome then s
    else
      let t : State := { s with fab := { s.fab with pause := none, held := [], frozen := [], lateEvents := [], lateResults := [] } }
      let t1 := forEach (s.flt.inReset.filter (fun u => u.1 == 0x08)) unitSettled t
      let t2 := forEach s.fab.held (fun h u => applyWrite h.port h.addr h.value h.keyed u) t1
      let t3 := forEach s.fab.lateResults (fun r u => postNow r.1 r.2 u) t2
      let t4 := forEach s.fab.lateEvents occur t3
      let t5 := forEach s.planHeld (fun g u => postAll g.2 g.1 u) { t4 with planHeld := [] }
      serveSprouts (postMet t5)

/-- PAUSE_END (R8). -/
def execPauseEnd (s : State) : Host.Outcome State Fault Refusal := commitLanes s (pauseEnd s)

/-! ## Keyed writes of the host ports' pages -/

/-- CRC_ENABLE_WRITE (R299, R310). -/
def execCrcEnableWrite (port : Port) (v : Word) (s : State) : Host.Outcome State Fault Refusal :=
  commit s (hostWrite port Reg.HSP.CTRL v (plainWrite port Reg.HSP.CTRL v) s)

/-- TWT_COMPARATOR_WRITE (R304). -/
def execTwtComparatorWrite (port : Port) (k : Fin 2) (v : Word) (s : State) : Host.Outcome State Fault Refusal :=
  commit s (hostWrite port (Reg.TWT.CMP k.val) v (writeComparator port k.val v) s)

/-- TWT_MASK_WRITE (R304). -/
def execTwtMaskWrite (port : Port) (v : Word) (s : State) : Host.Outcome State Fault Refusal :=
  commit s (hostWrite port Reg.TWT.CTRL v (writeMask port v) s)

end Sys2Proof.Machine
end

