-- ==== Sys2Proof/Machine/HostPorts.lean ====
section
/-!
DEFINITION. The host ports (chapter 12): SPI frames with and without CRC, STATUS, and the two-wire target with its comparators,
pointers, abnormal bus conditions and wake detector.
-/

namespace Sys2Proof.Machine

open Sys2Proof

/-! ## Words and CRC on the bus -/

/-- One byte into CRC-16/CCITT (R299). -/
def crc16Byte (c : BitVec 16) (b : BitVec 8) : BitVec 16 :=
  (List.range 8).foldl (fun x _ => if x.msb then (x <<< 1) ^^^ 0x1021#16 else x <<< 1) (c ^^^ (b.setWidth 16 <<< 8))

/-- CRC-16/CCITT of bytes (R299). -/
def crc16 (bytes : List (BitVec 8)) : BitVec 16 := bytes.foldl crc16Byte 0xFFFF#16

/-- The word of four bytes, most significant first (R293, R305). -/
def wordMsb (bytes : List (BitVec 8)) : Word := BitVec.ofNat 32 (bytes.foldl (fun n b => n * 256 + b.toNat) 0)

/-- The whole words of a byte stream. -/
def wordsOf (bytes : List (BitVec 8)) : List Word :=
  (List.range (bytes.length / 4)).map (fun i => wordMsb ((bytes.drop (4 * i)).take 4))

/-- The three bytes of an address, [23:16] first. -/
def addressBytes (a : Nat) : List (BitVec 8) := [BitVec.ofNat 8 (a / 65536), BitVec.ofNat 8 (a / 256), BitVec.ofNat 8 a]

/-- The address 4·`i` above `a`; it wraps from the top to 0 (R295). -/
def burstAddr (a i : Nat) : Nat := (a + 4 * i) % 16777216

/-- Words written in order from address `a` (R295). -/
def writeBurst (port : Port) (a : Nat) (ws : List Word) (s : State) : State :=
  forEach ws.zipIdx (fun w t => registerWrite port (burstAddr a w.2) w.1 t) s

/-- `n` words read in order from address `a`, and the state after these reads (R296). -/
def readBurst (port : Port) (a n : Nat) (s : State) : List Word × State :=
  (List.range n).foldl (fun r i => let (w, t) := hostRead port (burstAddr a i) r.2; (r.1 ++ [w], t)) ([], s)

/-! ## SPI frames -/

/-- Frames are taken while VDDIO is present, from BOOT on, but not while RESET_N holds the device stopped (R301, R331, R335, R411). -/
def spiAlive (s : State) : Bool :=
  s.pwr.vddio && !(s.pwr.mode == .off || s.pwr.mode == .sleep || (s.pwr.mode == .boot && s.pwr.stage == .reset))

/-- CRC frames are in force: CRC_EN as it stood when the frame began (R299). -/
def crcNow (s : State) : Bool := s.flag Fld.HSP.STAT.CRC_NOW

/-- A frame error (R297, R300, R310): counted, kept with the frame's address and raised. Before BOOTED nothing is recorded (R301). -/
def spiError (cause addr : Nat) (s : State) : State :=
  if !s.served then s
  else
    let t := s.setWord Reg.HSP.LAST_ERR (wordOf [(0, 3, cause), (8, 24, addr)])
    let u : State := { t with host := { t.host with frameErr := true } }
    if cause = 4 ∨ cause = 5 then raise Ev.HSP.CRC_ERR (u.bumpSat Fld.HSP.CRC_ERR_CNT.COUNT)
    else raise Ev.HSP.FRAME_ERR (u.bumpSat Fld.HSP.FRAME_ERR_CNT.COUNT)

/-- A write with CRC is judged at the rising edge of SPI_CS_N (R299, R300): its length first, then the number of words, then the
trailer (DEDUCED, log entry 90). Only then are its words applied. -/
def applyCrcWrite (quad : Bool) (addr : Nat) (data : List (BitVec 8)) (cut : Bool) (s : State) : State :=
  let n := (data.length - 2) / 4
  if cut ∨ data.length < 6 ∨ (data.length - 2) % 4 ≠ 0 then spiError 3 addr s
  else if 64 < n then spiError 6 addr s
  else
    let op : BitVec 8 := if quad then 0x11 else 0x10
    let sent := wordMsb (data.drop (4 * n))
    if sent.toNat ≠ (crc16 ([op] ++ addressBytes addr ++ data.take (4 * n))).toNat then spiError 5 addr s
    else writeBurst .spi addr (wordsOf (data.take (4 * n))) s

/-- The frame in progress ends, `bits` further bits after what its command carried (R295 to R297, R300). A word of a read that was
begun lets the next one be fetched; its address and latch capture stand. -/
def closeFrame (bits : Nat) (s : State) : State :=
  let t := match s.host.frame with
    | .none | .other => s
    | .read next => if bits = 0 then s else (hostRead .spi next s).2
    | .write addr cut => if cut || bits != 0 then spiError 3 addr s else s
    | .crcWrite quad addr data => applyCrcWrite quad addr data (bits != 0) s
  if s.host.frame == .none then t
  else { t with host := { t.host with frame := .none, lastErr := t.host.frameErr, frameErr := false } }

/-- SPI_CS_N falls and a frame begins (R293, R299, R310); one still open has ended before it. -/
def openFrame (mode3 quad : Bool) (s : State) : State :=
  let t := closeFrame 0 s
  let u : State := { t with host := { t.host with frame := .other, frameErr := false, spiOut := [], spiCrc := [] } }
  if u.served then ((u.put Fld.HSP.STAT.CRC_NOW (u.flag Fld.HSP.CTRL.CRC_EN)).put Fld.HSP.STAT.MODE3 mode3).put Fld.HSP.STAT.QUAD quad
  else u

/-- The open frame becomes `f`. -/
def setFrame (f : SpiFrame) (s : State) : State := { s with host := { s.host with frame := f } }

/-- The words that the device drives, each with its CRC in a CRC frame (R294, R299). -/
def driveSpi (ws : List Word) (s : State) : State :=
  { s with host := { s.host with spiOut := ws, spiCrc := if crcNow s then ws.map (fun w => crc16 (wordBytesMsb w)) else [] } }

/-- A write frame (R294, R295, R299). -/
def spiWriteFrame (mode3 quad : Bool) (addr : BitVec 24) (data : List (BitVec 8)) (s : State) : State :=
  if !spiAlive s then s
  else
    let t := openFrame mode3 quad s
    if !t.served then t
    else if crcNow t then setFrame (.crcWrite quad addr.toNat data) t
    else setFrame (.write addr.toNat (data.length % 4 != 0)) (writeBurst .spi addr.toNat (wordsOf data) t)

/-- A read frame whose device drove `count` whole words (R294, R296, R299 to R301). The word behind those is fetched already. -/
def spiReadFrame (mode3 quad : Bool) (addr : BitVec 24) (count : Nat) (crc : BitVec 16) (s : State) : State :=
  if !spiAlive s then s
  else
    let t := openFrame mode3 quad s
    let op : BitVec 8 := if quad then 0x21 else 0x20
    if !t.served then driveSpi (List.replicate count 0) t
    else if crcNow t && crc16 ([op] ++ addressBytes addr.toNat) != crc then
      let u := spiError 4 addr.toNat t
      { u with host := { u.host with spiOut := List.replicate count 0xFFFFFFFF, spiCrc := List.replicate count 0xFFFF } }
    else
      let r := readBurst .spi addr.toNat (count + 1) t
      setFrame (.read (burstAddr addr.toNat (count + 1))) (driveSpi (r.1.take count) r.2)

/-- The word that STATUS returns (R298). -/
def statusWord (s : State) : Word :=
  let rec_ := s.pwr.mode == .recovery
  wordOf [(0, 1, (s.served && !rec_).toNat), (1, 1, s.fab.pause.isSome.toNat), (2, 1, (irqAsserted s).toNat), (3, 1, rec_.toNat),
    (4, 1, (s.served && crcNow s).toNat), (5, 1, s.host.lastErr.toNat), (8, 8, stateCode s), (16, 9, s.fab.held.length)]

/-- SPI_WRITE (R294). -/
def execSpiWrite (mode3 : Bool) (addr : BitVec 24) (data : List (BitVec 8)) (s : State) : Host.Outcome State Fault Refusal :=
  commitLanes s (spiWriteFrame mode3 false addr data s)

/-- SPI_WRITE_QUAD (R294). -/
def execSpiWriteQuad (mode3 : Bool) (addr : BitVec 24) (data : List (BitVec 8)) (s : State) : Host.Outcome State Fault Refusal :=
  commitLanes s (spiWriteFrame mode3 true addr data s)

/-- SPI_READ (R296). -/
def execSpiRead (mode3 : Bool) (addr : BitVec 24) (count : Nat) (crc : BitVec 16) (s : State) : Host.Outcome State Fault Refusal :=
  commitLanes s (spiReadFrame mode3 false addr count crc s)

/-- SPI_READ_QUAD (R296). -/
def execSpiReadQuad (mode3 : Bool) (addr : BitVec 24) (count : Nat) (crc : BitVec 16) (s : State) : Host.Outcome State Fault Refusal :=
  commitLanes s (spiReadFrame mode3 true addr count crc s)

/-- SPI_STATUS (R298). -/
def execSpiStatus (mode3 : Bool) (s : State) : Host.Outcome State Fault Refusal :=
  commitLanes s (if !spiAlive s then s
    else
      let t := openFrame mode3 false s
      driveSpi [statusWord t] t)

/-- The opcodes of R294. -/
def listedOpcodes : List (BitVec 8) := [0x10, 0x11, 0x20, 0x21, 0x30]

/-- SPI_OTHER_OPCODE (R297): 0x00 and 0xFF are ignored, any other is BAD_OPCODE. A listed opcode is none of these. -/
def execSpiOtherOpcode (mode3 : Bool) (op : BitVec 8) (s : State) : Host.Outcome State Fault Refusal :=
  commitLanes s (if !spiAlive s || listedOpcodes.contains op then s
    else
      let t := openFrame mode3 false s
      if op = 0x00 ∨ op = 0xFF then t else spiError 1 0 t)

/-- SPI_CS_RISE (R297). With no frame open it ends one that was cut within its opcode, its address or its request CRC, after `bits`
bits: nothing is accessed. -/
def execSpiCsRise (mode3 quad : Bool) (bits : Nat) (addr : BitVec 24) (s : State) : Host.Outcome State Fault Refusal :=
  commitLanes s (if !spiAlive s then s
    else if s.host.frame == .none then
      closeFrame 0 (spiError 2 (if 32 ≤ bits then addr.toNat else 0) (openFrame mode3 (quad && decide (8 ≤ bits)) s))
    else closeFrame bits s)

/-! ## The two-wire target (R303 to R307) -/

/-- The comparator that answers an address (R303): in RECOVERY only 0, unmasked, and 1. -/
def comparator (s : State) (a : Nat) : Option Nat :=
  let base := twtBase s
  if !s.served then none
  else if a = base + 1 then some 1
  else if s.pwr.mode == .recovery then (if a = base then some 0 else none)
  else if s.flag (Fld.TWT.CMP.EN 0) && s.get (Fld.TWT.CMP.ADDR 0) == a then some 2
  else if s.flag (Fld.TWT.CMP.EN 1) && s.get (Fld.TWT.CMP.ADDR 1) == a then some 3
  else if a = base || (s.flag Fld.TWT.CTRL.MASK_EN && underMask base (s.get Fld.TWT.CTRL.MASK) a) then some 0
  else none

/-- Whether a comparator serves the windows only (R303). -/
def windowed (s : State) (c : Nat) : Bool := c == 1 || (decide (2 ≤ c) && s.flag (Fld.TWT.CMP.WINDOW (c - 2)))

/-- The pointer of a function, and it set to `p` (R305). -/
def pointer (s : State) (win : Bool) : Nat := if win then s.host.ptr1 else s.host.ptr0
def setPointer (win : Bool) (p : Nat) (odd : Bool) (s : State) : State :=
  { s with host := if win then { s.host with ptr1 := p % 16777216, odd1 := odd } else { s.host with ptr0 := p % 16777216, odd0 := odd } }

/-- Whether the pointer's low bits are as the host wrote them. -/
def pointerOdd (s : State) (win : Bool) : Bool := if win then s.host.odd1 else s.host.odd0

/-- A condition of R306 or R307 is recorded (R311). -/
def protoError (cause a : Nat) (read : Bool) (s : State) : State :=
  raise Ev.TWT.PROTO ((s.bumpSat Fld.TWT.PROTO_CNT.COUNT).setWord Reg.TWT.LAST_PROTO
    (wordOf [(0, 4, cause), (8, 7, a), (15, 1, read.toNat)]))

/-- A transfer that comparator `c` acknowledges begins (R311). -/
def startTransfer (c : Nat) (s : State) : State := (s.set Fld.TWT.POINTER0.PTR s.host.ptr0).set Fld.TWT.STAT.LAST_CMP c

/-- A word cannot be taken: its slot of the image block window is busy (R306, R356). -/
def slotRefuses (s : State) (a : Nat) : Bool :=
  decide (0x200000 ≤ a) && decide (a < 0x210000) && (s.get Fld.FWU.SLOT_BUSY.BUSY).testBit ((a - 0x200000) / 0x1000)

/-- Words written at the pointer, which advances by 4 behind each (R305), up to one whose slot is busy. Answers whether all were. -/
def twtWords (win : Bool) (ws : List Word) (s : State) : Bool × State :=
  ws.foldl (fun r w =>
    let p := pointer r.2 win
    if !r.1 || slotRefuses r.2 p then (false, r.2)
    else (true, setPointer win (p + 4) (pointerOdd r.2 win) (registerWrite .twoWire p w r.2))) (true, s)

/-- The address bytes show an address outside the windows (R305). -/
def outsideWindows (data : List (BitVec 8)) : Bool :=
  match data with
  | b :: _ => decide (b.toNat < 0x10) || decide (0x20 < b.toNat)
  | [] => false

/-- How the bytes of a write transfer went: the condition of R306 and R307 that they met by themselves, if any, and the state. -/
def twtWriteBytes (win : Bool) (data : List (BitVec 8)) (s : State) : Option Nat × State :=
  if win && outsideWindows data then (some 5, s)
  else if data.length < 3 then (some 4, s)
  else
    let a := (wordMsb (data.take 3)).toNat
    let r := twtWords win (wordsOf (data.drop 3)) (setPointer win a (a % 4 != 0) s)
    if !r.1 || (data.length % 4 != 3 && slotRefuses r.2 (pointer r.2 win)) then (some 7, r.2)
    else if data.length % 4 ≠ 3 then (some 3, r.2)
    else (none, r.2)

/-- The bytes that a read of `count` bytes delivers, and the state behind it (R305). Words are fetched from the aligned address of the
pointer on; the first with the low bits that the host wrote (R276). The pointer advances with every byte. `begun` bytes more were begun:
their word was fetched. -/
def twtReadBytes (win : Bool) (count begun : Nat) (s : State) : List (BitVec 8) × State :=
  let p := pointer s win
  let lead := p % 4
  let n := ceilDiv (lead + max 1 (count + begun)) 4
  let first := hostRead .twoWire (if pointerOdd s win then p else p - lead) s
  let rest := readBurst .twoWire (burstAddr (p - lead) 1) (n - 1) first.2
  let bytes := ((([first.1] ++ rest.1).flatMap wordBytesMsb).drop lead).take count
  (bytes, setPointer win (p + count) (pointerOdd s win && count == 0) rest.2)

/-- A read transfer and what it drove. -/
def twtRead' (win : Bool) (count begun : Nat) (s : State) : State :=
  let r := twtReadBytes win count begun s
  { r.2 with host := { r.2.host with twtOut := r.1 } }

/-- A transfer whose bytes end as they do by themselves (R305, R307), unless `why` names another condition, which then is the one
recorded. -/
def transfer (a : BitVec 7) (dir : TwtDir) (why : Option Nat) (s : State) : State :=
  match comparator s a.toNat with
  | none => s
  | some c =>
    let win := windowed s c
    let t := startTransfer c s
    match dir with
    | .write data =>
      let r := twtWriteBytes win data t
      let cause := match r.1, why with
        | some 5, _ => some 5
        | some 7, _ => some 7
        | _, some k => some k
        | k, none => k
      (match cause with
        | some k => protoError k a.toNat false r.2
        | none => r.2)
    | .read count =>
      let r := twtRead' win count (if why = some 1 then 1 else 0) t
      (match why with
        | some k => protoError k a.toNat true r
        | none => r)

/-- Whether the target chose to NACK the last byte of a write (R305, R306): the first address byte that shows an address outside the
windows, or a byte for a busy slot. -/
def nacked (s : State) (a : BitVec 7) (data : List (BitVec 8)) : Bool :=
  match comparator s a.toNat with
  | none => false
  | some c =>
    let r := twtWriteBytes (windowed s c) data s
    (r.1 == some 5 && data.length == 1) || (r.1 == some 7 && data.length % 4 == 0)

/-- TWT_WRITE_TRANSFER (R305): `data` are the bytes after the address byte, the three address bytes first. -/
def execTwtWriteTransfer (addr7 : BitVec 7) (data : List (BitVec 8)) (s : State) : Host.Outcome State Fault Refusal :=
  commitLanes s (transfer addr7 (.write data) none s)

/-- TWT_READ_TRANSFER (R305): `count` bytes are delivered. -/
def execTwtReadTransfer (addr7 : BitVec 7) (count : Nat) (s : State) : Host.Outcome State Fault Refusal :=
  commitLanes s (transfer addr7 (.read count) none s)

/-- What a cut-off transfer leaves (R307). A byte that the target NACKed and that a repeated START meets in its acknowledge slot is
recorded beside the reason of the NACK. -/
def busAbort (addr7 : BitVec 7) (dir : TwtDir) (why : TwtAbort) (s : State) : State :=
  match why with
  | .inByte => transfer addr7 dir (some 1) s
  | .inWord => transfer addr7 dir none s
  | .nackRestart =>
    let t := transfer addr7 dir none s
    match dir with
    | .write data => if nacked s addr7 data then protoError 2 addr7.toNat false t else t
    | .read _ => t

/-- TWT_BUS_ABORT (R307). -/
def execTwtBusAbort (addr7 : BitVec 7) (dir : TwtDir) (why : TwtAbort) (s : State) : Host.Outcome State Fault Refusal :=
  commitLanes s (busAbort addr7 dir why s)

/-- TWT_TIMEOUT (R307): the transfer is abandoned and a partial word discarded. -/
def execTwtTimeout (addr7 : BitVec 7) (dir : TwtDir) (s : State) : Host.Outcome State Fault Refusal :=
  commitLanes s (transfer addr7 dir (some 6) s)

/-- The address that the next byte of a write is for. -/
def nextByteAddr (s : State) (win : Bool) (data : List (BitVec 8)) : Nat :=
  if data.length < 3 then pointer s win else burstAddr (wordMsb (data.take 3)).toNat ((data.length - 3) / 4)

/-- The target may stretch there (R306): in RECOVERY, and in the image block window. -/
def mayStretch (s : State) (addr7 : BitVec 7) (dir : TwtDir) : Bool :=
  s.pwr.mode == .recovery || (match comparator s addr7.toNat, dir with
    | some c, .write data => decide (3 ≤ data.length) && (let p := nextByteAddr s (windowed s c) data
        decide (0x200000 ≤ p) && decide (p < 0x210000))
    | _, _ => false)

/-- A read cut short by the limit: the rest of the word is sent as 0xFF bytes (R306), which advance the pointer as delivered bytes do. -/
def stretchedRead (addr7 : BitVec 7) (count : Nat) (s : State) : State :=
  match comparator s addr7.toNat with
  | none => s
  | some c =>
    let win := windowed s c
    let t := transfer addr7 (.read count) (some 7) s
    let k := (4 - (pointer s win + count) % 4) % 4
    let u := setPointer win (pointer t win + k) false t
    { u with host := { u.host with twtOut := t.host.twtOut ++ List.replicate k 0xFF } }

/-- TWT_STRETCH_LIMIT (R306): in a write the next byte is not acknowledged; in a read the rest of the word is sent as 0xFF bytes. Where
no stretch is needed the transfer runs as any other. -/
def execTwtStretchLimit (addr7 : BitVec 7) (dir : TwtDir) (s : State) : Host.Outcome State Fault Refusal :=
  commitLanes s (if !mayStretch s addr7 dir then transfer addr7 dir none s
    else match dir with
      | .write _ => transfer addr7 dir (some 7) s
      | .read count => stretchedRead addr7 count s)

/-- TWT_WAKE_MATCH (R308): in SLEEP the base address, unmasked, wakes the device; the byte is not acknowledged. -/
def execTwtWakeMatch (addr7 : BitVec 7) (obs : BootObs) (s : State) : Host.Outcome State Fault Refusal :=
  commit s (if s.pwr.mode == .sleep && addr7.toNat == twtBase s && s.pwr.vsysOk then coldBoot 2 true obs s else s)

end Sys2Proof.Machine
end

