-- ==== Sys2Proof/Machine/Boundary.lean ====
section
/-!
DEFINITION. The epoch boundary (R15 to R24): the readings of the epoch just ended, the lanes that come back, the entries of the plan
in R20's order, and what the chapters do on every boundary. Measurements come with the command.
-/

namespace Sys2Proof.Machine

open Sys2Proof

/-! ## Lane NCO retunes (R89, R107, R137, R154, R164, R178, R194, R195) -/

/-- A tune owes its lane's CHG.TUNED. -/
def oweTuned (l : Nat) (s : State) : State :=
  match laneClass l with
  | .fm => s.setFm l (fun x => { x with tuned := true })
  | .am => s.setAm (l - 8) (fun x => { x with tuned := true })
  | .dab => s.setDab (l - 14) (fun x => { x with tuned := true })
  | .drm => s.setDrm (l - 18) (fun x => { x with tuned := true })
  | _ => s

/-- What an assignment of a watch entry shows: its CHG bit, and of a FIC entry the boundary on which its visit begins (R155, R221). -/
def showAssigned (l : Nat) (s : State) : State :=
  match laneClass l with
  | .rds => markWatch .rds (laneInst l) s
  | .amw => markWatch .am (laneInst l) s
  | .fic => markWatch .fic (laneInst l) (startDwell l (s.set (Fld.WFC.F_W4.VISIT_EPOCH (laneInst l)) s.epoch))
  | _ => s

/-- FIC watch entries on the block of a DAB engine are released (R195). -/
def yieldBlock (l khz : Nat) (s : State) : State :=
  if laneClass l == .dab then
    forEach (LaneClass.fic.lanes.filter (fun f => s.laneInUse f && (s.lane f).khz == khz)) (fun f t => dropLane f .superseded .free t) s
  else s

/-- A tune of lane `l` applies: its sprouts are pulled and its record cleared, it takes its context, and it acquires, unless nothing is
received there now. -/
def applyTune (l : Nat) (p : Path) (khz : Nat) (host : Bool) (s : State) : State :=
  if !s.receiving || (s.lane l).state == .retired then s
  else
    let t := occupy l p khz host (clearLane l (pullLane l .superseded (yieldBlock l khz s)))
    let u := showAssigned l (oweTuned l t)
    if mustPark u p l then u.setLane l (fun x => { x with state := .acquiring, sync := false, lost := false, replantAt := none })
    else acquire l u

/-- A release of lane `l` applies; a released watch entry's record is cleared (R156, R157; R108, log entry 107). -/
def applyRelease (l : Nat) (s : State) : State := if (s.lane l).state == .retired then s else dropLane l .superseded .free s

/-- An AFC step of lane `l` applies while the lane, or its planted DAB or DRM sprout, still receives what asked for it (R126). -/
def applyAfc (l : Nat) (delta : Word) (s : State) : State :=
  let shadow := !(plantedSlots s (fun x => x.lane == l && (x.kind == some .dab || x.kind == some .drm))).isEmpty
  if ((s.lane l).live && (s.lane l).sync) || shadow then addNco l delta s else s

/-! ## The plan on a boundary (R17, R18, R20, R21) -/

/-- The hand-over's boundary: the running firmware writes its state record and stops; a forward one starts the confirmation window
(R359, R362). -/
def applyHandover (s : State) : State :=
  let t := startPause .handover s
  match t.fw.handOver with
  | some .forward => t.setFw (fun x => { x with trialEnd := t.epoch + 60000 * t.get Fld.FWU.CFG.WINDOW_MIN })
  | _ => t

/-- A change applies on its boundary. -/
def applyChange (c : Change) (s : State) : State :=
  match c with
  | .gain p k why => applyGain p k why s
  | .freq sys lof lob o => applyFreq sys lof lob o s
  | .lo l r => if loOn s l then applyLoChange l r s else s
  | .band v tile => applyBand v tile s
  | .tune l p khz host => applyTune l p khz host s
  | .release l => applyRelease l s
  | .afc l d => applyAfc l d s
  | .root i => applyRoot i s
  | .pod m => applyPod m s
  | .handover => applyHandover s

/-- The entries of the boundary that satisfy `p` apply in R20's order; one that an earlier one cancelled does not. -/
def commitEntries (p : Change → Bool) (s : State) : State :=
  forEach ((dueEntries s).filter (fun e => p e.change))
    (fun e t => if t.plan.contains e then applyChange e.change { t with plan := t.plan.erase e } else t) s

/-- An entry is announced to its consumers (R18, R60). -/
def announceEntry (e : Entry) (s : State) : State :=
  let t : State := { s with plan := s.plan.map (fun x => if x == e then { x with announced := true } else x) }
  match e.change with
  | .lo l r => announceLo l r e.at_ t
  | .freq sys lof lob o => announceFreq sys lof lob o e.at_ t
  | _ => t

/-- The entries of the next boundary are announced. -/
def announceNext (s : State) : State :=
  forEach (s.plan.filter (fun e => !e.announced && decide (e.at_ ≤ s.epoch + 1))) announceEntry s

/-! ## What the boundary does besides -/

/-- The unit whose reset a RESTARTING lane waits for (R397). -/
def inResetFor (s : State) (l : Nat) : Bool :=
  s.flt.inReset.any (fun u => if u.1 == 0x01 then u.2 == (s.lane l).core else serves u.1 u.2 l)

/-- Lanes that need no acquisition sprout return from RESTARTING once their unit is back (R105, R397). -/
def restartsEnd (s : State) : State :=
  forEach (List.range 156) (fun l t =>
    if startsAtOnce l && (t.lane l).state == .restarting && !(inResetFor t l) then t.setLane l (fun x => { x with state := .active }) else t) s

/-- A RESTARTING lane's samples are a GAP (R105). -/
def restartGaps (s : State) : State :=
  forEach (List.range 156) (fun l t =>
    if (t.lane l).state == .restarting then gapLane l t else t) s

/-- COEX_REQ is held for an acquisition sprout at most 20 ms from its planting (R46). -/
def sproutQuiet (s : State) : State :=
  forEach (plantedSlots s (fun x => decide (x.plantedAt + 20 ≤ s.epoch))) (fun i t => releaseReq (.sprout i) t) s

/-- Keys count the boundaries to their expiry (R281). -/
def keyBoundary (s : State) : State := { s with fab := { s.fab with keys := s.fab.keys.map (fun k => { k with left := k.left - 1 }) } }

/-- The tick count reaches the next multiple of 163 840 (R15); the always-on counter, the pins the board sets and Tj follow. -/
def tickOver (o : EpochObs) (s : State) : State :=
  { s with time := boundaryTick (s.epoch + 1),
           pwr := { s.pwr with aonTime := s.pwr.aonTime + o.aonTicks, gpioExt := o.gpio % 256, tj := o.tj } }

/-- The samples and the audio of the epoch just ended (chapters 4, 6, 7, 9 and 10). -/
def dspEpoch (o : EpochObs) (s : State) : State :=
  linesEpoch (aipAudioEpoch (audioEpoch o (sampleEpoch .b3 o.b3 (sampleEpoch .fm o.fm (sampleEpoch .lf o.lf s)))))

/-- The readings of the epoch just ended. -/
def readings (o : EpochObs) (s : State) : State :=
  let t := pathEpoch .b3 o.b3 (pathEpoch .fm o.fm (pathEpoch .lf o.lf (aerialEpoch o (loadEpoch o.loads (dspEpoch o s)))))
  let t1 := forEach (List.range 8) (fun n u => fmEpoch o.fmLanes n u) t
  let t2 := forEach (List.range 6) (fun n u => amEpoch o.amLanes n u) t1
  let t3 := forEach (List.range 24) (fun a u => amWatchEpoch o.watches a u) (forEach (List.range 96) (fun n u => rdsWatchEpoch o.watches n u) t2)
  let t4 := sproutEpoch o.sprouts (dabQualEpoch (databaseEpoch (dabGapEpoch (dabIdleEpoch (rdsIdleEpoch t3)))))
  let t5 : State := { t4 with loops := { t4.loops with sys := { t4.loops.sys with outCycles := o.outCycles } } }
  coastBoundary o.refGood (if t5.flag Fld.CLK.STAT.LOCKED && !(t5.flag Fld.CLK.STAT.COAST) then t5.set Fld.CLK.DAC.CODE o.dac else t5)

/-- The plan and the lanes on the boundary: entries up to the lane retunes, losses of the programmes, then roots, pod starts and the
hand-over (R20, R252); then the next boundary's entries are announced. -/
def planBoundary (o : EpochObs) (s : State) : State :=
  let t := restartGaps (restartMarked (restartsEnd (watchReturns (migrationsDone (returnLost (newBlocks s))))))
  let t1 := commitEntries (fun c => decide (kindOrder c.kind ≤ 5)) t
  let t2 := forEach (List.range 4) (fun n u => slotEnter o.sources n u) t1
  let t3 := commitEntries (fun _ => true) t2
  showFreqPlan (announceNext (markGains t3))

/-- The front end on the boundary: tests end, tiles and lanes follow, check windows, injector and coexistence wires move on. -/
def frontBoundary (s : State) : State :=
  let t := leaveTest .b3 (leaveTest .fm (leaveTest .lf s))
  let t1 := syncLanes .b3 (syncLanes .fm (syncLanes .lf (retile .b3 (retile .fm t))))
  coexBoundary (sproutQuiet (injBoundary (checkBoundary t1)))

/-- The remaining units on the boundary. -/
def unitBoundary (o : EpochObs) (s : State) : State :=
  let t := portsBoundary o.rates (clkoutBoundary (rds2Boundary (queueBoundary s)))
  let t1 := stopBoundary (governorBoundary (bistBoundary (bistReturn (reloadBoundary (storeBoundary t)))))
  programmesBegin o (keyBoundary (forEach (List.range 4) (fun n u => slotLeave n u) t1))

/-- Device time runs: from the lock of PLL-S in BOOT until the stop (R14). -/
def clockRuns (s : State) : Bool := !(s.pwr.mode == .off || s.pwr.mode == .sleep || (s.pwr.mode == .boot && s.pwr.stage != .ready))

/-- EPOCH_BOUNDARY. -/
def crossBoundary (o : EpochObs) (s : State) : State :=
  if !clockRuns s then s else unitBoundary o (frontBoundary (planBoundary o (readings o (tickOver o s))))

/-- EPOCH_BOUNDARY (R15). -/
def execEpochBoundary (obs : EpochObs) (s : State) : Host.Outcome State Fault Refusal := commitLanes s (crossBoundary obs s)

end Sys2Proof.Machine
end

