-- ==== Sys2Proof/Machine/Dispatch.lean ====
section
/-!
DEFINITION. One arm per command: each calls the command's one meaning.
-/

namespace Sys2Proof.Machine

open Sys2Proof

def exec (i : Instr) (s : State) : Host.Outcome State Fault Refusal :=
  match i with
  | .epochBoundary obs => Sys2Proof.Machine.execEpochBoundary obs s
  | .schedPlaceFreed => Sys2Proof.Machine.execSchedPlaceFreed s
  | .overloadClear p => Sys2Proof.Machine.execOverloadClear p s
  | .agcAttack p => Sys2Proof.Machine.execAgcAttack p s
  | .agcRelease p => Sys2Proof.Machine.execAgcRelease p s
  | .agcManStepWrite port v => Sys2Proof.Machine.execAgcManStepWrite port v s
  | .tileEnter v => Sys2Proof.Machine.execTileEnter v s
  | .tileExit v => Sys2Proof.Machine.execTileExit v s
  | .glimpseHop v => Sys2Proof.Machine.execGlimpseHop v s
  | .pathModeWrite port p v => Sys2Proof.Machine.execPathModeWrite port p v s
  | .tileCentreWrite port p v => Sys2Proof.Machine.execTileCentreWrite port p v s
  | .pathTestEnter port p v => Sys2Proof.Machine.execPathTestEnter port p v s
  | .pathTestReady p => Sys2Proof.Machine.execPathTestReady p s
  | .pathTestExit port p v => Sys2Proof.Machine.execPathTestExit port p v s
  | .gainCheckStart port v => Sys2Proof.Machine.execGainCheckStart port v s
  | .gainCheckWindow => Sys2Proof.Machine.execGainCheckWindow s
  | .gainCheckDone measured => Sys2Proof.Machine.execGainCheckDone measured s
  | .injEnable port v => Sys2Proof.Machine.execInjEnable port v s
  | .injMaskCheckDone us => Sys2Proof.Machine.execInjMaskCheckDone us s
  | .injStart => Sys2Proof.Machine.execInjStart s
  | .injDisable port v => Sys2Proof.Machine.execInjDisable port v s
  | .coexGntEdge high => Sys2Proof.Machine.execCoexGntEdge high s
  | .coexGrantTimeout => Sys2Proof.Machine.execCoexGrantTimeout s
  | .coexLimitCut => Sys2Proof.Machine.execCoexLimitCut s
  | .coexActEdge high => Sys2Proof.Machine.execCoexActEdge high s
  | .coexActLong => Sys2Proof.Machine.execCoexActLong s
  | .aerLatchOff => Sys2Proof.Machine.execAerLatchOff s
  | .aerRetry => Sys2Proof.Machine.execAerRetry s
  | .aerThermalCut => Sys2Proof.Machine.execAerThermalCut s
  | .aerThermalRestore => Sys2Proof.Machine.execAerThermalRestore s
  | .refLost => Sys2Proof.Machine.execRefLost s
  | .refValid => Sys2Proof.Machine.execRefValid s
  | .lockAcquired l => Sys2Proof.Machine.execLockAcquired l s
  | .lockLost l => Sys2Proof.Machine.execLockLost l s
  | .holdoverDegraded => Sys2Proof.Machine.execHoldoverDegraded s
  | .phaseRebase sys lof lob => Sys2Proof.Machine.execPhaseRebase sys lof lob s
  | .loSettled l code => Sys2Proof.Machine.execLoSettled l code s
  | .loCalStart port l v => Sys2Proof.Machine.execLoCalStart port l v s
  | .loCalForce port l v => Sys2Proof.Machine.execLoCalForce port l v s
  | .loCalAll port l v => Sys2Proof.Machine.execLoCalAll port l v s
  | .loCalIdlePost l => Sys2Proof.Machine.execLoCalIdlePost l s
  | .stalenessCheck => Sys2Proof.Machine.execStalenessCheck s
  | .clkoutCfgWrite port n v => Sys2Proof.Machine.execClkoutCfgWrite port n v s
  | .snapshotClose m readings => Sys2Proof.Machine.execSnapshotClose m readings s
  | .snapshotPosted m => Sys2Proof.Machine.execSnapshotPosted m s
  | .ficRotate e => Sys2Proof.Machine.execFicRotate e s
  | .laneAllocRetry lane => Sys2Proof.Machine.execLaneAllocRetry lane s
  | .coreOverloadMigrate core => Sys2Proof.Machine.execCoreOverloadMigrate core s
  | .sproutSlotFreed => Sys2Proof.Machine.execSproutSlotFreed s
  | .sproutCriterionMet slot metric pi => Sys2Proof.Machine.execSproutCriterionMet slot metric pi s
  | .sproutTimeout slot => Sys2Proof.Machine.execSproutTimeout slot s
  | .sproutReplantTimer lane => Sys2Proof.Machine.execSproutReplantTimer lane s
  | .sproutSentinel slot metric twice => Sys2Proof.Machine.execSproutSentinel slot metric twice s
  | .migrateCompare slot equal => Sys2Proof.Machine.execMigrateCompare slot equal s
  | .ofsWindow obs => Sys2Proof.Machine.execOfsWindow obs s
  | .fmTune port n v => Sys2Proof.Machine.execFmTune port n v s
  | .fmRelease port n v => Sys2Proof.Machine.execFmRelease port n v s
  | .qualitySummaryPost lane => Sys2Proof.Machine.execQualitySummaryPost lane s
  | .captureTriggerExpire ctx => Sys2Proof.Machine.execCaptureTriggerExpire ctx s
  | .rdsBlock ctx stream obs => Sys2Proof.Machine.execRdsBlock ctx stream obs s
  | .alarmOutOfSyncTimeout lane => Sys2Proof.Machine.execAlarmOutOfSyncTimeout lane s
  | .rds2Acquire n stream => Sys2Proof.Machine.execRds2Acquire n stream s
  | .afVerify => Sys2Proof.Machine.execAfVerify s
  | .groupAck port fifo v => Sys2Proof.Machine.execGroupAck port fifo v s
  | .watchAssign port t v => Sys2Proof.Machine.execWatchAssign port t v s
  | .watchRelease port t v => Sys2Proof.Machine.execWatchRelease port t v s
  | .afSelCopy port v => Sys2Proof.Machine.execAfSelCopy port v s
  | .watchAgeTick => Sys2Proof.Machine.execWatchAgeTick s
  | .amTune port n v => Sys2Proof.Machine.execAmTune port n v s
  | .amRelease port n v => Sys2Proof.Machine.execAmRelease port n v s
  | .amConfigWrite port n v => Sys2Proof.Machine.execAmConfigWrite port n v s
  | .amCarrierLock n => Sys2Proof.Machine.execAmCarrierLock n s
  | .amCarrierUnlock n => Sys2Proof.Machine.execAmCarrierUnlock n s
  | .amssBlock lane obs => Sys2Proof.Machine.execAmssBlock lane obs s
  | .amssAck port n v => Sys2Proof.Machine.execAmssAck port n v s
  | .watchCarrierSet a => Sys2Proof.Machine.execWatchCarrierSet a s
  | .watchCarrierClear a => Sys2Proof.Machine.execWatchCarrierClear a s
  | .drmDetectWindow a mode => Sys2Proof.Machine.execDrmDetectWindow a mode s
  | .drmTune port n v => Sys2Proof.Machine.execDrmTune port n v s
  | .drmRelease port n v => Sys2Proof.Machine.execDrmRelease port n v s
  | .drmFrame n obs => Sys2Proof.Machine.execDrmFrame n obs s
  | .drmServiceSelect port n k v => Sys2Proof.Machine.execDrmServiceSelect port n k v s
  | .decoderFreed => Sys2Proof.Machine.execDecoderFreed s
  | .audioFrame n k ok ms => Sys2Proof.Machine.execAudioFrame n k ok ms s
  | .dabTune port n v => Sys2Proof.Machine.execDabTune port n v s
  | .dabRelease port n v => Sys2Proof.Machine.execDabRelease port n v s
  | .dabFrame lane obs => Sys2Proof.Machine.execDabFrame lane obs s
  | .fibReceived lane figs => Sys2Proof.Machine.execFibReceived lane figs s
  | .dabAlarmTimeout lane => Sys2Proof.Machine.execDabAlarmTimeout lane s
  | .dabReconfig block => Sys2Proof.Machine.execDabReconfig block s
  | .serviceLapse block sid => Sys2Proof.Machine.execServiceLapse block sid s
  | .ensembleDelete block => Sys2Proof.Machine.execEnsembleDelete block s
  | .linkageLapse index => Sys2Proof.Machine.execLinkageLapse index s
  | .dabSelect port n k ctrl v => Sys2Proof.Machine.execDabSelect port n k ctrl v s
  | .layer2Frame n k ok scfErrors ms dls => Sys2Proof.Machine.execLayer2Frame n k ok scfErrors ms dls s
  | .dabplusSuperframe n k obs => Sys2Proof.Machine.execDabplusSuperframe n k obs s
  | .queueConfig port q v => Sys2Proof.Machine.execQueueConfig port q v s
  | .queueAck port q v => Sys2Proof.Machine.execQueueAck port q v s
  | .slotEnable port n v => Sys2Proof.Machine.execSlotEnable port n v s
  | .slotDisable port n v => Sys2Proof.Machine.execSlotDisable port n v s
  | .hostMute port n v => Sys2Proof.Machine.execHostMute port n v s
  | .hostUnmute port n v => Sys2Proof.Machine.execHostUnmute port n v s
  | .sourceEntryWrite port n k v => Sys2Proof.Machine.execSourceEntryWrite port n k v s
  | .coarseAlignEval entry => Sys2Proof.Machine.execCoarseAlignEval entry s
  | .fineAlignTrack obs => Sys2Proof.Machine.execFineAlignTrack obs s
  | .joinRetry n k => Sys2Proof.Machine.execJoinRetry n k s
  | .delayLineFilled n k => Sys2Proof.Machine.execDelayLineFilled n k s
  | .slewDone n => Sys2Proof.Machine.execSlewDone n s
  | .timelineHoldExpire n => Sys2Proof.Machine.execTimelineHoldExpire n s
  | .sourceFloorOut n k => Sys2Proof.Machine.execSourceFloorOut n k s
  | .sourceFloorIn n k => Sys2Proof.Machine.execSourceFloorIn n k s
  | .selectionSwitch n => Sys2Proof.Machine.execSelectionSwitch n s
  | .sumEnter n => Sys2Proof.Machine.execSumEnter n s
  | .sumLeave n k => Sys2Proof.Machine.execSumLeave n k s
  | .muteRampDone n => Sys2Proof.Machine.execMuteRampDone n s
  | .policyPropose n => Sys2Proof.Machine.execPolicyPropose n s
  | .policyRelease n k => Sys2Proof.Machine.execPolicyRelease n k s
  | .pibNew port v => Sys2Proof.Machine.execPibNew port v s
  | .pibAdd port v => Sys2Proof.Machine.execPibAdd port v s
  | .pibRemove port v => Sys2Proof.Machine.execPibRemove port v s
  | .pibDelete port v => Sys2Proof.Machine.execPibDelete port v s
  | .pibCommandDone => Sys2Proof.Machine.execPibCommandDone s
  | .portEnable port p v => Sys2Proof.Machine.execPortEnable port p v s
  | .portDisable port p v => Sys2Proof.Machine.execPortDisable port p v s
  | .portFormatWrite port p v => Sys2Proof.Machine.execPortFormatWrite port p v s
  | .portFrame p obs => Sys2Proof.Machine.execPortFrame p obs s
  | .nonaudioRelease pair => Sys2Proof.Machine.execNonaudioRelease pair s
  | .portClockFault p => Sys2Proof.Machine.execPortClockFault p s
  | .portClockOk p => Sys2Proof.Machine.execPortClockOk p s
  | .portLocked p => Sys2Proof.Machine.execPortLocked p s
  | .aipClockTimeout => Sys2Proof.Machine.execAipClockTimeout s
  | .routeWrite port n v => Sys2Proof.Machine.execRouteWrite port n v s
  | .podMembersWrite port m v => Sys2Proof.Machine.execPodMembersWrite port m v s
  | .podStart port m v => Sys2Proof.Machine.execPodStart port m v s
  | .podStartPost m => Sys2Proof.Machine.execPodStartPost m s
  | .podStop port m v => Sys2Proof.Machine.execPodStop port m v s
  | .registerWrite port addr v => Sys2Proof.Machine.execRegisterWrite port addr v s
  | .latchCaptureRead port addr => Sys2Proof.Machine.execLatchCaptureRead port addr s
  | .resultAck port window v => Sys2Proof.Machine.execResultAck port window v s
  | .lockkeyOpen port page => Sys2Proof.Machine.execLockkeyOpen port page s
  | .lockkeyClose port page v => Sys2Proof.Machine.execLockkeyClose port page v s
  | .keyExpire page => Sys2Proof.Machine.execKeyExpire page s
  | .eventClear port page v => Sys2Proof.Machine.execEventClear port page v s
  | .eventSetTest port page v => Sys2Proof.Machine.execEventSetTest port page v s
  | .eventEnableWrite port page v => Sys2Proof.Machine.execEventEnableWrite port page v s
  | .accErrClear port v => Sys2Proof.Machine.execAccErrClear port v s
  | .pauseEnd => Sys2Proof.Machine.execPauseEnd s
  | .spiWrite mode3 addr data => Sys2Proof.Machine.execSpiWrite mode3 addr data s
  | .spiWriteQuad mode3 addr data => Sys2Proof.Machine.execSpiWriteQuad mode3 addr data s
  | .spiRead mode3 addr count crc => Sys2Proof.Machine.execSpiRead mode3 addr count crc s
  | .spiReadQuad mode3 addr count crc => Sys2Proof.Machine.execSpiReadQuad mode3 addr count crc s
  | .spiStatus mode3 => Sys2Proof.Machine.execSpiStatus mode3 s
  | .spiOtherOpcode mode3 op => Sys2Proof.Machine.execSpiOtherOpcode mode3 op s
  | .spiCsRise mode3 quad bits addr => Sys2Proof.Machine.execSpiCsRise mode3 quad bits addr s
  | .crcEnableWrite port v => Sys2Proof.Machine.execCrcEnableWrite port v s
  | .twtWriteTransfer addr7 data => Sys2Proof.Machine.execTwtWriteTransfer addr7 data s
  | .twtReadTransfer addr7 count => Sys2Proof.Machine.execTwtReadTransfer addr7 count s
  | .twtBusAbort addr7 dir why => Sys2Proof.Machine.execTwtBusAbort addr7 dir why s
  | .twtTimeout addr7 dir => Sys2Proof.Machine.execTwtTimeout addr7 dir s
  | .twtStretchLimit addr7 dir => Sys2Proof.Machine.execTwtStretchLimit addr7 dir s
  | .twtWakeMatch addr7 obs => Sys2Proof.Machine.execTwtWakeMatch addr7 obs s
  | .twtComparatorWrite port k v => Sys2Proof.Machine.execTwtComparatorWrite port k v s
  | .twtMaskWrite port v => Sys2Proof.Machine.execTwtMaskWrite port v s
  | .twcHostTransfer port v => Sys2Proof.Machine.execTwcHostTransfer port v s
  | .scriptRunCmd port v => Sys2Proof.Machine.execScriptRunCmd port v s
  | .twcWorkStart bus => Sys2Proof.Machine.execTwcWorkStart bus s
  | .twcTransferDone obs => Sys2Proof.Machine.execTwcTransferDone obs s
  | .scriptWaitEnd => Sys2Proof.Machine.execScriptWaitEnd s
  | .arbitrationLost => Sys2Proof.Machine.execArbitrationLost s
  | .twcBusBusyTimeout => Sys2Proof.Machine.execTwcBusBusyTimeout s
  | .twcStuckScl wrDone rdDone => Sys2Proof.Machine.execTwcStuckScl wrDone rdDone s
  | .twcReset port v => Sys2Proof.Machine.execTwcReset port v s
  | .twcReenable port v => Sys2Proof.Machine.execTwcReenable port v s
  | .requestQuiet port => Sys2Proof.Machine.execRequestQuiet port s
  | .requestWatch port => Sys2Proof.Machine.execRequestWatch port s
  | .requestFull port => Sys2Proof.Machine.execRequestFull port s
  | .requestHold port => Sys2Proof.Machine.execRequestHold port s
  | .requestSleep port => Sys2Proof.Machine.execRequestSleep port s
  | .requestOff port => Sys2Proof.Machine.execRequestOff port s
  | .requestInvalid port v => Sys2Proof.Machine.execRequestInvalid port v s
  | .transitionComplete obs => Sys2Proof.Machine.execTransitionComplete obs s
  | .leaveFullCommit => Sys2Proof.Machine.execLeaveFullCommit s
  | .cfgCommit port v => Sys2Proof.Machine.execCfgCommit port v s
  | .cfgCheckDone => Sys2Proof.Machine.execCfgCheckDone s
  | .pwrEnRise obs => Sys2Proof.Machine.execPwrEnRise obs s
  | .refClassifyRetry obs => Sys2Proof.Machine.execRefClassifyRetry obs s
  | .booted => Sys2Proof.Machine.execBooted s
  | .vddioPresent obs => Sys2Proof.Machine.execVddioPresent obs s
  | .pwrEnFall => Sys2Proof.Machine.execPwrEnFall s
  | .resetAssert => Sys2Proof.Machine.execResetAssert s
  | .resetRelease obs => Sys2Proof.Machine.execResetRelease obs s
  | .vsysLow => Sys2Proof.Machine.execVsysLow s
  | .uvlo => Sys2Proof.Machine.execUvlo s
  | .railFault => Sys2Proof.Machine.execRailFault s
  | .tjWarn => Sys2Proof.Machine.execTjWarn s
  | .thermalTrip => Sys2Proof.Machine.execThermalTrip s
  | .vsysLost => Sys2Proof.Machine.execVsysLost s
  | .vsysReturn obs => Sys2Proof.Machine.execVsysReturn obs s
  | .telemetrySnapshot obs => Sys2Proof.Machine.execTelemetrySnapshot obs s
  | .governorLevel => Sys2Proof.Machine.execGovernorLevel s
  | .wakePulseEnd => Sys2Proof.Machine.execWakePulseEnd s
  | .gpioConfigWrite port n v => Sys2Proof.Machine.execGpioConfigWrite port n v s
  | .aonClockSwitch => Sys2Proof.Machine.execAonClockSwitch s
  | .fwuBegin port v => Sys2Proof.Machine.execFwuBegin port v s
  | .fwuVerify port v => Sys2Proof.Machine.execFwuVerify port v s
  | .verifyDone obs => Sys2Proof.Machine.execVerifyDone obs s
  | .fwuActivate port v obs => Sys2Proof.Machine.execFwuActivate port v obs s
  | .stagingDone badBlock => Sys2Proof.Machine.execStagingDone badBlock s
  | .handoverDone accepted => Sys2Proof.Machine.execHandoverDone accepted s
  | .coreSwapStep => Sys2Proof.Machine.execCoreSwapStep s
  | .fwuConfirm port v => Sys2Proof.Machine.execFwuConfirm port v s
  | .fwuRevert port v => Sys2Proof.Machine.execFwuRevert port v s
  | .fwuInvalidOp port v => Sys2Proof.Machine.execFwuInvalidOp port v s
  | .heartbeatMiss => Sys2Proof.Machine.execHeartbeatMiss s
  | .trialWindowExpire => Sys2Proof.Machine.execTrialWindowExpire s
  | .blockHandoff port slot v => Sys2Proof.Machine.execBlockHandoff port slot v s
  | .blockWritten nvFail => Sys2Proof.Machine.execBlockWritten nvFail s
  | .nvStore port v => Sys2Proof.Machine.execNvStore port v s
  | .storeDone obs => Sys2Proof.Machine.execStoreDone obs s
  | .nvRestore port v => Sys2Proof.Machine.execNvRestore port v s
  | .nvDefaults port v => Sys2Proof.Machine.execNvDefaults port v s
  | .nvInvalidOp port v => Sys2Proof.Machine.execNvInvalidOp port v s
  | .wearManagement sector failing => Sys2Proof.Machine.execWearManagement sector failing s
  | .rglLimitWrite port r v => Sys2Proof.Machine.execRglLimitWrite port r v s
  | .seal port v => Sys2Proof.Machine.execSeal port v s
  | .sealDone => Sys2Proof.Machine.execSealDone s
  | .unseal port v => Sys2Proof.Machine.execUnseal port v s
  | .unsealCheckDone valid => Sys2Proof.Machine.execUnsealCheckDone valid s
  | .watchdogExpiry => Sys2Proof.Machine.execWatchdogExpiry s
  | .bistStart port v => Sys2Proof.Machine.execBistStart port v s
  | .bistRun => Sys2Proof.Machine.execBistRun s
  | .bistDone pass us records => Sys2Proof.Machine.execBistDone pass us records s
  | .scrubPassDone ms => Sys2Proof.Machine.execScrubPassDone ms s
  | .eccCorrected word => Sys2Proof.Machine.execEccCorrected word s
  | .eccUncorrected word region => Sys2Proof.Machine.execEccUncorrected word region s
  | .coreHang core exception => Sys2Proof.Machine.execCoreHang core exception s
  | .accelFault unit inst => Sys2Proof.Machine.execAccelFault unit inst s
  | .unitResetDone unit inst => Sys2Proof.Machine.execUnitResetDone unit inst s
  | .recoveringEnd unit inst => Sys2Proof.Machine.execRecoveringEnd unit inst s
  | .deviceRecoveryReset => Sys2Proof.Machine.execDeviceRecoveryReset s
  | .deviceRecoveryDone => Sys2Proof.Machine.execDeviceRecoveryDone s
  | .safeEntry => Sys2Proof.Machine.execSafeEntry s
  | .faultLogClear port v => Sys2Proof.Machine.execFaultLogClear port v s
  | .railRestart obs => Sys2Proof.Machine.execRailRestart obs s
  | .vddioAbsent => Sys2Proof.Machine.execVddioAbsent s
  | .vsysLowClear => Sys2Proof.Machine.execVsysLowClear s
  | .tjWarnClear => Sys2Proof.Machine.execTjWarnClear s

end Sys2Proof.Machine
end

