-- ==== Sys2Proof/Safety.lean ====
section
/-!
DEFINITION. What a run of the block is and what a safe one is, and the words in which claims say what a command does: what it leaves
unchanged, when a host write reaches its register, and that a change is asked of the epoch plan.
-/

namespace Sys2Proof.Machine

open Sys2Proof

/-! ## Runs -/

/-- The outcome is a next state. -/
def answers (o : Host.Outcome State Fault Refusal) : Prop := ∃ t, o = .next t

/-- A run: the states that steps lead to, one after another. -/
inductive Reaches : State → State → Prop
  | here (s : State) : Reaches s s
  | more (s t u : State) : Reaches s t → step t = .next u → Reaches s u

/-- A state from which every step of every run answers a next state. -/
def Safe (s : State) : Prop := ∀ t, Reaches s t → answers (step t)

/-- Command `c` on `s` answers a next state, of which `Q` holds. -/
def completes (c : Instr) (s : State) (Q : State → Prop) : Prop := ∃ t, exec c s = .next t ∧ Q t

/-! ## Frames -/

/-- The parts of the state beside the register words and the queue of commands. -/
inductive Part where
  | time | plan | fab | paths | blocks | dsp | aux | loops | maps | mgr | rds | fm | watchFifo | am | amWatch | drm | decoders | dab | ens | links
  | queues | slots | pib | audio | pwr | fw | nv | nvJob | flt | host | twc | free
  deriving DecidableEq, Repr

/-- A part is the same in both states. The output pins, which follow from the rest of the state, are no part. -/
def Part.same (p : Part) (s t : State) : Prop :=
  match p with
  | .time => t.time = s.time
  | .plan => t.plan = s.plan ∧ t.planWait = s.planWait ∧ t.planHeld = s.planHeld
  | .fab => t.fab = s.fab
  | .paths => t.paths = s.paths
  | .blocks => t.blocks = s.blocks
  | .dsp => t.dsp = s.dsp
  | .aux => t.aux = s.aux
  | .loops => t.loops = s.loops
  | .maps => t.maps = s.maps
  | .mgr => t.mgr = s.mgr
  | .rds => t.rds = s.rds
  | .fm => t.fm = s.fm
  | .watchFifo => t.watchFifo = s.watchFifo
  | .am => t.am = s.am
  | .amWatch => t.amWatch = s.amWatch
  | .drm => t.drm = s.drm
  | .decoders => t.decoders = s.decoders ∧ t.decWait = s.decWait
  | .dab => t.dab = s.dab
  | .ens => t.ens = s.ens
  | .links => t.links = s.links
  | .queues => t.queues = s.queues
  | .slots => t.slots = s.slots
  | .pib => t.pib = s.pib
  | .audio => t.audio = s.audio
  | .pwr => { t.pwr with pins := {} } = { s.pwr with pins := {} }
  | .fw => t.fw = s.fw
  | .nv => t.nv = s.nv
  | .nvJob => t.nvJob = s.nvJob
  | .flt => t.flt = s.flt
  | .host => t.host = s.host
  | .twc => t.twc = s.twc
  | .free => t.free = s.free

/-- From `s` to `t` nothing changes but parts of `ps` and the registers at the byte addresses of `as`. -/
def frame (ps : List Part) (as : List Nat) (s t : State) : Prop :=
  (∀ p, p ∉ ps → p.same s t) ∧ ∀ a, a ∉ as → t.word a = s.word a

/-- `frame` by pages: nothing changes but parts of `ps` and registers on the pages of `pages`. -/
def pageFrame (ps : List Part) (pages : List Nat) (s t : State) : Prop :=
  (∀ p, p ∉ ps → p.same s t) ∧ ∀ a, a / 4096 ∉ pages → t.word a = s.word a

/-- The register of field `f` holds what it held, with `f` at `v`: its other bits stand. -/
def wrote (s t : State) (f : Field) (v : Nat) : Prop := t.word f.addr = withField (s.word f.addr) f.lo f.width v

/-- The registers that raising event `g` may change: its EV_RAW, and the auxiliary controller's count of merged triggers (R287, R322). -/
def evWords (g : Nat) : List Nat := [evRawAddr (eventPage g), Reg.TWC.SKIP_CNT]

/-- The registers that raising the events of a list may change. -/
def evsWords (gs : List Nat) : List Nat := gs.flatMap evWords

/-- The parts that raising an event may change: a triggered script waits, and during a pause the event does (R290, R322). -/
def evParts : List Part := [.twc, .fab]

/-- Event `g` is raised: its EV_RAW bit is set, or, of the control cores during a control-plane pause, it follows after it (R287, R290). -/
def raised (t : State) (g : Nat) : Prop :=
  if t.fab.pause.isSome && controlCorePages.contains (eventPage g) then g ∈ t.fab.lateEvents else t.flag (evRaw g) = true

/-- The pages whose flags and events report what a command changed in the lanes and their records (R155, R160, R176, R192, R203, R204,
R213, R215, R218, R226), with the auxiliary controller's, whose scripts events trigger. -/
def noticePages : List Nat :=
  [0x020, 0x021, 0x022, 0x023, 0x024, 0x025, 0x026, 0x027, 0x028, 0x029, 0x02A, 0x02B, 0x02C, 0x02D, 0x030, 0x031, 0x032, 0x033,
   0x034, 0x035, 0x038, 0x039, 0x03A, 0x04C, 0x058, 0x062]

/-- The parts that these notices may change: the classes of the identity book that follow linkage sets (R233). -/
def noticeParts : List Part := [.twc, .fab, .pib]

/-- The registers by which a command reports what it changed in the lanes and their records: CHG words of the lane and watch pages, and
the EV_RAW words their events set (R155, R160, R176, R186, R192, R203, R215, R226, R211). -/
def noticeRegs : List Nat :=
  (List.range 8).map Reg.FMF.CHG ++ (List.range 6).map Reg.AMF.CHG ++ (List.range 4).map Reg.DAB.CHG ++ (List.range 2).map Reg.DRM.CHG ++
  (List.range 3).map Reg.WRD.CHG ++ [Reg.WFC.CHG0, Reg.WFC.CHG_DB0, Reg.WFC.CHG_DB1, Reg.WAM.CHG0, Reg.PIB.STAT, Reg.TWC.SKIP_CNT] ++
  noticePages.map evRawAddr

/-- The pages of slot `n` and of the auxiliary controller, whose scripts its events trigger. -/
def slotPages (n : Nat) : List Nat := [0x048 + n, 0x062]

/-- The registers that show a change of port or pod states (R266, R267, R272, R274). -/
def portRegs : List Nat :=
  (List.range 5).map Reg.AOP.STAT ++ (List.range 2).map Reg.POD.POD_STAT ++ evsWords (portEvent 4 :: (List.range 4).map portEvent)

/-! ## Host writes -/

/-- A host write to the register at `a` has its effect at once: the fabric serves the register, and no pause holds the write. -/
def lets (s : State) (a : Nat) : Bool :=
  s.served && pageServed s (a / 4096) && regServed s a && a % 4 == 0 && !(s.fab.pause.isSome && servedByFirmware a)

/-- The word that a host write of `v` leaves in a register by its field types, treatments, key and seal (R279 to R281). -/
def afterWrite (s : State) (port : Port) (a : Nat) (v : Word) : Word :=
  treat a (writtenWord a (s.word a) v (!(keyOpen s (a / 4096) port)) (s.flag Fld.RGL.SEAL.SEALED))

/-- From `s` to `t` a result with these words is posted to window `i` (R283, R286): it is held in the window's registers with the next
SEQ and VALID, or, while another is held, it waits in the side slot and OVERFLOW is set; one of the control cores follows after a
control-plane pause (R290). -/
def posted (s t : State) (i : Nat) (words : List (Nat × Word)) : Prop :=
  let seq := nextSeq (at' s.fab.windows i {}).last
  if s.fab.pause.isSome && controlCorePages.contains (windowHeader i / 4096) then (i, words) ∈ t.fab.lateResults
  else if s.flag (windowValid i) then
    (at' t.fab.windows i {}).side = some { seq := seq, words := words } ∧ t.flag (windowOverflow i) = true
  else t.flag (windowValid i) = true ∧ t.get (windowSeq i) = seq ∧
    ∀ c ∈ words, t.word c.1 = if c.1 = windowHeader i then withField (withField c.2 0 8 seq) 8 1 1 else c.2

/-- An access is recorded (R276, R291): ACC_CNT advances to its greatest value at most, ACC_ERR is raised, and the access is kept with its
address while no other record is held. -/
def recorded (s t : State) (port : Port) (addr cause : Nat) (isWrite : Bool) : Prop :=
  t.get Fld.SYS.ACC_CNT.COUNT = min 65535 (s.get Fld.SYS.ACC_CNT.COUNT + 1) ∧ raised t Ev.SYS.ACC_ERR ∧
  t.word Reg.SYS.ACC_ERR = if s.flag Fld.SYS.ACC_ERR.VALID then s.word Reg.SYS.ACC_ERR
    else wordOf [(0, 24, addr), (24, 3, cause), (27, 1, port.idx), (28, 1, isWrite.toNat), (31, 1, 1)]

/-- The registers that recording an access may change. -/
def accRegs : List Nat := [Reg.SYS.ACC_CNT, Reg.SYS.ACC_ERR] ++ evWords Ev.SYS.ACC_ERR

/-- A host read of the register at `a` returns the port's captured word, or the live one: the fabric serves the register, and no pause
stands between (R276, R282, R290). -/
def reads (s : State) (a : Nat) : Bool :=
  s.served && pageServed s (a / 4096) && regServed s a && a % 4 == 0 && !(s.fab.pause.isSome && servedByFirmware a)

/-- The port drove the word `w` last (R294, R305). -/
def drove (t : State) (port : Port) (w : Word) : Prop :=
  match port with
  | .spi => t.host.spiOut = [w]
  | .twoWire => t.host.twtOut = wordBytesMsb w

/-- The key of page `p` is closed (R281): no port holds it, and the keys of other pages stand. -/
def keyClosed (s t : State) (p : Nat) : Prop := t.fab.keys = s.fab.keys.filter (fun k => k.page != p)

/-- From `s` on a posted result waits no more: that of the side slot is held, with its SEQ and words (R285). -/
def promoted (t : State) (i : Nat) (r : Result) : Prop :=
  t.flag (windowValid i) = true ∧ t.get (windowSeq i) = r.seq ∧ (at' t.fab.windows i {}).side = none ∧
  ∀ c ∈ r.words, c.1 ≠ windowHeader i → t.word c.1 = c.2

/-! ## The host ports -/

/-- A frame error is recorded (R297, R300, R310): LAST_ERR keeps its cause and address, its counter advances, and its event is raised. -/
def spiErred (s t : State) (cause addr : Nat) : Prop :=
  t.word Reg.HSP.LAST_ERR = wordOf [(0, 3, cause), (8, 24, addr)] ∧
  if cause = 4 ∨ cause = 5 then
    t.get Fld.HSP.CRC_ERR_CNT.COUNT = min 65535 (s.get Fld.HSP.CRC_ERR_CNT.COUNT + 1) ∧ raised t Ev.HSP.CRC_ERR
  else t.get Fld.HSP.FRAME_ERR_CNT.COUNT = min 65535 (s.get Fld.HSP.FRAME_ERR_CNT.COUNT + 1) ∧ raised t Ev.HSP.FRAME_ERR

/-- The registers that a frame error may change. -/
def spiErrRegs : List Nat :=
  [Reg.HSP.LAST_ERR, Reg.HSP.CRC_ERR_CNT, Reg.HSP.FRAME_ERR_CNT] ++ evWords Ev.HSP.CRC_ERR ++ evWords Ev.HSP.FRAME_ERR

/-- A two-wire condition is recorded (R307, R311). -/
def twtErred (s t : State) (cause addr : Nat) (read : Bool) : Prop :=
  t.word Reg.TWT.LAST_PROTO = wordOf [(0, 4, cause), (8, 7, addr), (15, 1, read.toNat)] ∧
  t.get Fld.TWT.PROTO_CNT.COUNT = min 65535 (s.get Fld.TWT.PROTO_CNT.COUNT + 1) ∧ raised t Ev.TWT.PROTO

/-- The registers that a two-wire transfer may change by itself, and with a condition. -/
def twtRegs : List Nat := [Reg.TWT.STAT, Reg.TWT.POINTER0]
def twtErrRegs : List Nat := twtRegs ++ [Reg.TWT.LAST_PROTO, Reg.TWT.PROTO_CNT] ++ evWords Ev.TWT.PROTO

/-- A new BOOT began (R339): but for the NV store, the supplies and the free values, everything stands at reset, with the straps read where
VDDIO stands. -/
def restarted (s t : State) (cause : Nat) : Prop :=
  t.pwr.mode = .boot ∧ t.pwr.cause = cause ∧ t.pwr.lastStop = s.pwr.lastStop ∧ t.nv = s.nv ∧
  frame [.pwr, .nv, .free] [Reg.TWT.STAT] State.reset t

/-! ## The auxiliary controller -/

/-- The words of a result of the auxiliary controller (R325, R327): its cause, the script and its step, the write bytes acknowledged and
the bytes read. -/
def twcWords (cause : Nat) (script : Option Nat) (step wr : Nat) (rd : List (BitVec 8)) : List (Nat × Word) :=
  [(Reg.TWC.RES0, wordOf [(12, 4, cause), (16, 1, script.isSome.toNat), (17, 4, script.getD 0)]),
   (Reg.TWC.RES1, wordOf [(0, 8, step), (8, 6, wr), (16, 6, rd.length)])] ++
  (List.range 8).map (fun k => (Reg.TWC.RX k, packBytes (rd.map (fun b => b.toNat)) k))

/-- A result of the auxiliary controller is posted with its event (R325). -/
def twcPosted (s t : State) (cause : Nat) (script : Option Nat) (step wr : Nat) (rd : List (BitVec 8)) : Prop :=
  posted s t 22 (twcWords cause script step wr rd) ∧ raised t (if cause = 0 then Ev.TWC.DONE else Ev.TWC.ERROR)

/-- The registers that a result of the auxiliary controller may change. -/
def twcResultRegs : List Nat :=
  [Reg.TWC.RES0, Reg.TWC.RES1] ++ (List.range 8).map Reg.TWC.RX ++ evWords Ev.TWC.DONE ++ evWords Ev.TWC.ERROR

/-! ## Start-up -/

/-- From step 5 on a BOOT went as its reference and image let it (R339, R340, R355, R365, R366): it stays without a reference; else time
starts at 0 and PLL-S locks, and the device is in RECOVERY, for the pin first, or ready for BOOTED. `s` is the state at step 5. -/
def bootGoes (pin : Bool) (o : BootObs) (s t : State) : Prop :=
  match o.refHz.bind classifyRef with
  | none => t.pwr.mode = .boot ∧ t.pwr.stage = .reference
  | some c => t.time = 0 ∧ t.get Fld.CLK.REF_CFG.REF_FREQ = c ∧ t.flag Fld.CLK.STAT.LOCKED = true ∧ t.flag Fld.CLK.STAT.REF_VALID = true ∧
    if pin then t.pwr.mode = .recovery ∧ t.get Fld.FWU.RECOVERY_WHY.WHY = 5
    else badBanks s.nv = [] →
      (∀ w, imageProblem o s = some w → t.pwr.mode = .recovery ∧ t.get Fld.FWU.RECOVERY_WHY.WHY = w) ∧
      (imageProblem o s = none → t.pwr.mode = .boot ∧ t.pwr.stage = .ready ∧ t.get Fld.FWU.RUN_VER.VERSION = headerWord (imageHeader s.nv) 3)

/-- A start with this CAUSE began from `s` (R335, R339, R348): everything but the NV store and the supplies is at reset, the straps are
read, and BOOT goes on; without VDDIO it holds at step 1 (R411). -/
def started (s t : State) (cause : Nat) (o : BootObs) : Prop :=
  t.pwr.cause = cause ∧ t.pwr.lastStop = s.pwr.lastStop ∧
  if o.vddio then t.pwr.addrSel = o.addrSel % 4 ∧ bootGoes o.recoveryLow o { State.reset with nv := s.nv } t
  else restarted s t cause ∧ t.pwr.stage = .vddio

/-- A request for state `m`, code `code`, is taken (R334): held during a transition; in HOLD the target of the next commit; else its
transition starts, from FULL with boundary E + 22. -/
def requestTaken (s t : State) (m : Mode) (code : Nat) : Prop :=
  t.get Fld.SYS.STATE_REQ.CODE = code ∧ t.pwr.mode = s.pwr.mode ∧
  (if s.pwr.trans.isSome then t.pwr.held = some code ∧ t.pwr.trans = s.pwr.trans
   else if (s.pwr.mode = .hold ∧ (m = .quiet ∨ m = .watch ∨ m = .full)) ∨ s.pwr.mode = m then t.pwr.trans = none
   else t.pwr.trans.map (fun x => (x.target, x.since, x.leaveAt)) =
     some (m, s.epoch, if s.pwr.mode = .full then some (s.epoch + 22) else none)) ∧
  frame [.pwr, .fab] [Reg.SYS.STATE_REQ, Reg.SYS.CFG_STATUS] s t

/-- The device stopped at once and without a test (R335, R343, R387). -/
def stoppedAtOnce (s t : State) (lastStop : Nat) : Prop :=
  t.pwr.lastStop = lastStop ∧ t.pwr.trans = none ∧ t.pwr.held = none ∧ t.nv.stopTest = 5 ∧ frame [.pwr, .nv, .nvJob, .free] [] s t

/-! ## Firmware and settings -/

/-- A result of the FWU window with these OP and ERR is posted (R358, R367): it is held, or waits in the side slot, or follows after a
control-plane pause. -/
def fwPosted (s t : State) (op err : Nat) : Prop :=
  let c : Nat × Word := (Reg.FWU.RES0, wordOf [(12, 4, op), (16, 8, err)])
  raised t Ev.FWU.RESULT ∧
  if s.fab.pause.isSome then (t.fab.lateResults.getLast?.map (fun r => (r.1, r.2.head?))) = some (24, some c)
  else if s.flag (windowValid 24) then ((at' t.fab.windows 24 {}).side.bind (fun r => r.words.head?)) = some c
  else t.flag (windowValid 24) = true ∧ t.get Fld.FWU.RES0.OP = op % 16 ∧ t.get Fld.FWU.RES0.ERR = err

/-- The registers that a result of the FWU window may change, with the page's STAT and the event of a change of STAGE. -/
def fwRegs : List Nat := [Reg.FWU.STAT, Reg.FWU.RES0, Reg.FWU.RES1] ++ evWords Ev.FWU.RESULT ++ evWords Ev.FWU.STAGE

/-- The same of the NVS window (R373, R383). -/
def nvPosted (s t : State) (op err : Nat) : Prop :=
  let c : Nat × Word := (Reg.NVS.RESULT, wordOf [(12, 4, op), (16, 4, err)])
  raised t Ev.NVS.RESULT ∧
  if s.fab.pause.isSome then (t.fab.lateResults.getLast?.map (fun r => (r.1, r.2.head?))) = some (23, some c)
  else if s.flag (windowValid 23) then ((at' t.fab.windows 23 {}).side.bind (fun r => r.words.head?)) = some c
  else t.flag (windowValid 23) = true ∧ t.get Fld.NVS.RESULT.OP = op % 16 ∧ t.get Fld.NVS.RESULT.ERR = err

/-- The registers that a result of the NVS window may change. -/
def nvRegs : List Nat := [Reg.NVS.RESULT, Reg.NVS.RESULT1] ++ evWords Ev.NVS.RESULT

/-! ## The epoch plan -/

/-- The registers that posting to the plan may change (R23, R129). -/
def planWords : List Nat := [Reg.SYS.SCHED_STAT, Reg.OFS.EPOCH_PLAN, Reg.OFS.STEP_PPB]

/-- From `s` on change `c` is asked of the plan in `t`: it stands there, not announced, on a boundary no earlier than `want` and
E + 2, or it waits for a place, or a frequency epoch for the end of a control-plane pause (R8, R18, R22). -/
def asked (s t : State) (c : Change) (want : Nat) : Prop :=
  (∃ e ∈ t.plan, e.change = c ∧ e.announced = false ∧ want ≤ e.at_ ∧ s.epoch + 2 ≤ e.at_) ∨
    ∃ g ∈ t.planWait ++ t.planHeld, g.1 = want ∧ c ∈ g.2

/-- A tune of a lane is accepted: its register takes the word, and in FULL the retune is posted (R89, R137). -/
def tuneTaken (s t : State) (lane reg : Nat) (word : Word) (p : Path) (khz : Nat) : Prop :=
  t.word reg = word ∧ (s.pwr.mode = .full → asked s t (.tune lane p khz true) 0) ∧ frame [.fab, .plan] (reg :: planWords) s t

/-- A tune is refused: REFUSED is set, and CHANGE raised where it is enabled; the lane stays as it is (R138, R163). -/
def tuneRefused (s t : State) (refused : Field) (enable ev : Nat) : Prop :=
  t.flag refused = true ∧ ((s.word enable).getLsbD refused.lo = true → raised t ev) ∧ frame [.fab, .twc] (refused.addr :: evWords ev) s t

/-- A release of a lane: its register takes the word, and in FULL the release is posted for a lane that is not retired (R137). -/
def tuneReleased (s t : State) (lane reg : Nat) (word : Word) : Prop :=
  t.word reg = word ∧ (s.pwr.mode = .full → (s.lane lane).state ≠ .retired → asked s t (.release lane) 0) ∧
  frame [.fab, .plan] (reg :: planWords) s t

/-- The registers that an LO request may change (R68). -/
def loAskWords (l : Lo) : List Nat :=
  [Reg.LO.STAT l.idx, Reg.LO.SUPERSEDED_CNT l.idx] ++ planWords ++ evWords (Ev.LO.SUPERSEDED l.idx)

/-- The registers that an LO request of a path may change; the LF path has no synthesiser (R26). -/
def pathAskWords : Path → List Nat
  | .lf => []
  | .fm => loAskWords .lof
  | .b3 => loAskWords .lob

/-- From `s` to `t` a sprout is asked for (R114, R116): it is planted in a slot now, or the request waits. -/
def sprouts (s t : State) (r : SproutReq) : Prop :=
  r ∈ t.mgr.waiting ∨ ∃ i < 32, (t.sprout i).state = .planted ∧ (t.sprout i).kind = some r.kind ∧ (t.sprout i).lane = r.lane ∧
    (t.sprout i).toCore = r.toCore ∧ (t.sprout i).pgm = r.pgm ∧ (t.sprout i).src = r.src ∧ (t.sprout i).stream = r.stream ∧
    (t.sprout i).move = r.move ∧ (t.sprout i).mismatches = r.mismatches ∧ (t.sprout i).plantedAt = s.epoch

/-- The parts and pages that pulling acquisition and MIGRATE sprouts may change (R119, R121): their slots, lanes and shadows, their DDC
records, COEX_REQ and the plan, beside what is reported. -/
def pullParts : List Part := [.flt, .mgr, .plan, .aux, .rds, .dab] ++ noticeParts

def pullPages : List Nat := [0x00A, 0x00D, 0x010, 0x011, 0x012, 0x018, 0x040] ++ noticePages

/-- The loop of a synthesiser. -/
def loopOf : Lo → Loop
  | .lof => .lof
  | .lob => .lob

/-- A fault record of this unit and cause stands at the front of the log (R403, R404). -/
def logged (s t : State) (unit inst cause : Nat) : Prop :=
  (t.flt.log.head?.map (fun r => (r.unit, r.inst, r.cause, r.epoch))) = some (unit, inst, cause, s.epoch)

/-- From `s` to `t` request `r` is made of a synthesiser (R68): posted to the plan while it is free, a glimpse hop for a boundary
divisible by 20 (R37), else held in its queue. -/
def loAsked (s t : State) (l : Lo) (r : LoReq) : Prop :=
  if (s.lo l).busy = none then (t.lo l).busy = some r ∧ asked s t (.lo l r) (if r.glimpse then nextHopBoundary s else 0)
  else (t.lo l).queued = some r ∧ t.flag (Fld.LO.STAT.QUEUED l.idx) = true

end Sys2Proof.Machine
end

