-- ==== Sys2Proof/Certificates/Slice0/Obligations.lean ====
section
/-!
DEFINITION. The statements about the block, for the provers: what each command does on its own rule's conditions, what it leaves
unchanged, and what every step keeps.
-/

open Sys2Proof Sys2Proof.Machine

/-! ## Band capture (chapter 2) -/

/-- Gain, tiles, hops and tests (R30, R32, R35, R37, R40): OVERLOAD_CLEAR clears OVERLOAD after 100 quiet epochs; AGC_ATTACK and AGC_RELEASE post their
gain step, and an attack step is the nearest lower one that brings the peak to −9 dBFS or below, else step 0; TILE_ENTER, TILE_EXIT and GLIMPSE_HOP
ask for their LO change; PATH_TEST_READY puts a path in TEST. It rests also on the model's own readings: log entries 6, 21, 97, 99, 100 and 101. -/
def Obligations.PathEventsComplete : Prop :=
  (∀ (p : Path) (s : State), s.flag (Fld.FE.STAT.OVERLOAD p.idx) = true → 100 ≤ (s.path p).clearEpochs →
    completes (.overloadClear p) s (fun t =>
      wrote s t (Fld.FE.STAT.OVERLOAD p.idx) 0 ∧ frame [] [Reg.FE.STAT p.idx] s t)) ∧
  (∀ (p : Path) (s : State) (peak : Int), (s.path p).attack = some peak → pathOn s p = true → agcMode s p = 0 → modeNow s p ≠ 2 →
    gainStep s p ≠ 0 →
    completes (.agcAttack p) s (fun t =>
      asked s t (.gain p (attackStep s p peak) .attack) (s.epoch + 2) ∧ (t.path p).attack = none ∧ frame [.plan, .paths] planWords s t)) ∧
  (∀ (p : Path) (s : State), pathOn s p = true → agcMode s p = 0 → modeNow s p ≠ 2 → 50 ≤ (s.path p).quietPeak → gainStep s p < 23 →
    isPlanned (isAgcStep p) s = false →
    completes (.agcRelease p) s (fun t => asked s t (.gain p (gainStep s p + 1) .release) 0 ∧ frame [.plan] planWords s t)) ∧
  (∀ (v : Vhf) (s : State) (c : Nat), pathOn s v.path = true → modeNow s v.path = 0 → s.get (Fld.FE.CTRL.MODE v.path.idx) = 0 →
    (s.path v.path).testAt = none → 3 ≤ (s.path v.path).loudRefreshes → wantedTile s v none = some c →
    headedFor s v (some (some c)) (c * 1000) = false → (s.path v.path).rejected ≠ some c →
    completes (.tileEnter v) s (fun t =>
      loAsked s t v.lo { kind := .retune, hz := c * 1000, band := some (some c) } ∧
      frame [.loops, .plan, .paths, .twc, .fab] (loAskWords v.lo) s t)) ∧
  (∀ (v : Vhf) (s : State), pathOn s v.path = true → (tileNow s v.path).isSome = true → s.get (Fld.FE.CTRL.MODE v.path.idx) = 0 →
    2000 ≤ (s.path v.path).quietEpochs → headedFor s v (some none) (spanHz v) = false →
    completes (.tileExit v) s (fun t =>
      loAsked s t v.lo { kind := .retune, hz := spanHz v, band := some none } ∧
      frame [.loops, .plan, .paths, .twc, .fab] (loAskWords v.lo) s t)) ∧
  (∀ (v : Vhf) (s : State) (c d : Nat), tileNow s v.path = some c → glimpsing s v.path = true → nextTile s v c = some d → d ≠ c →
    headedFor s v none (d * 1000) = false →
    completes (.glimpseHop v) s (fun t =>
      loAsked s t v.lo { kind := .hop, hz := d * 1000, glimpse := true } ∧
      frame [.loops, .plan, .twc, .fab] (loAskWords v.lo) s t)) ∧
  (∀ (p : Path) (s : State) (b : Nat), (s.path p).testAt = some b → s.time % epochTicks = 0 → b ≤ s.epoch → modeNow s p = 0 →
    s.flag (Fld.FE.CTRL.TEST p.idx) = true →
    completes (.pathTestReady p) s (fun t =>
      wrote s t (Fld.FE.STAT.MODE_NOW p.idx) 2 ∧ (t.path p).testAt = none ∧ raised t (Ev.FE.TEST_READY p.idx) ∧
      frame [.paths, .twc, .fab] (Reg.FE.STAT p.idx :: evWords (Ev.FE.TEST_READY p.idx)) s t)) ∧
  (∀ (s : State) (p : Path) (peak : Int), gainStep s p ≠ 0 →
    (attackStep s p peak < gainStep s p ∧
    (attackStep s p peak = 0 ∨ peak - ((gainEntry s p (gainStep s p) : Int) - gainEntry s p (attackStep s p peak)) ≤ -900) ∧
    (∀ k < gainStep s p, attackStep s p peak < k → ¬ peak - ((gainEntry s p (gainStep s p) : Int) - gainEntry s p k) ≤ -900)))

/-- Host writes of the AGC and front-end pages (R31, R33, R36, R40), each with what it asks for. AGC_MAN_STEP_WRITE posts its step on every path in
MANUAL; PATH_MODE_WRITE takes a path to its tile or to span, and asks nothing of a path that is not powered; TILE_CENTRE_WRITE moves a forced tile;
PATH_TEST_ENTER parks the path's lanes and takes it to span for the test, or is refused; PATH_TEST_EXIT ends the test, disables the injector and
abandons a check. It rests also on the model's own readings: log entries 6, 102, 103 and 104. -/
def Obligations.CaptureWritesComplete : Prop :=
  (∀ (port : Port) (v : Word) (s : State), lets s Reg.AGC.MAN_STEP = true →
    completes (.agcManStepWrite port v) s (fun t =>
      t.word Reg.AGC.MAN_STEP = afterWrite s port Reg.AGC.MAN_STEP v ∧
      (∀ p : Path, pathOn s p = true → agcMode s p = 2 → asked s t (.gain p (manStep t p) .manual) 0) ∧
      ((∀ p : Path, ¬ (pathOn s p = true ∧ agcMode s p = 2)) → t.plan = s.plan ∧ t.planWait = s.planWait) ∧
      frame [.fab, .plan] (Reg.AGC.MAN_STEP :: planWords) s t)) ∧
  (∀ (port : Port) (p : Vhf) (v : Word) (s : State) (c : Nat), lets s (Reg.FE.CTRL p.path.idx) = true → pathOn s p.path = true →
    modeNow s p.path = 0 → s.flag (Fld.FE.CTRL.TEST p.path.idx) = false → (s.path p.path).testAt = none → fieldOf v 0 2 = 2 →
    s.get (Fld.FE.TILE_CENTRE.KHZ p.path.idx) = c → headedFor s p (some (some c)) (c * 1000) = false →
    completes (.pathModeWrite port p.path v) s (fun t =>
      t.word (Reg.FE.CTRL p.path.idx) = afterWrite s port (Reg.FE.CTRL p.path.idx) (feCtrlWord v false) ∧
      t.get (Fld.FE.CTRL.MODE p.path.idx) = 2 ∧ loAsked s t p.lo { kind := .retune, hz := c * 1000, band := some (some c) } ∧
      frame [.fab, .plan, .loops, .paths, .twc] (Reg.FE.CTRL p.path.idx :: loAskWords p.lo) s t)) ∧
  (∀ (port : Port) (p : Vhf) (v : Word) (s : State), lets s (Reg.FE.CTRL p.path.idx) = true → pathOn s p.path = true →
    (tileNow s p.path).isSome = true → fieldOf v 0 2 = 1 → headedFor s p (some none) (spanHz p) = false →
    completes (.pathModeWrite port p.path v) s (fun t =>
      t.word (Reg.FE.CTRL p.path.idx) =
        afterWrite s port (Reg.FE.CTRL p.path.idx) (feCtrlWord v (s.flag (Fld.FE.CTRL.TEST p.path.idx))) ∧
      t.get (Fld.FE.CTRL.MODE p.path.idx) = 1 ∧ loAsked s t p.lo { kind := .retune, hz := spanHz p, band := some none } ∧
      frame [.fab, .plan, .loops, .paths, .twc] (Reg.FE.CTRL p.path.idx :: loAskWords p.lo) s t)) ∧
  (∀ (port : Port) (p : Path) (v : Word) (s : State), lets s (Reg.FE.CTRL p.idx) = true →
    completes (.pathModeWrite port p v) s (fun t =>
      t.word (Reg.FE.CTRL p.idx) = afterWrite s port (Reg.FE.CTRL p.idx) (feCtrlWord v (s.flag (Fld.FE.CTRL.TEST p.idx))) ∧
      t.flag (Fld.FE.CTRL.TEST p.idx) = s.flag (Fld.FE.CTRL.TEST p.idx) ∧
      (pathOn s p = false ∨ p = .lf → frame [.fab, .paths] [Reg.FE.CTRL p.idx] s t) ∧
      frame [.fab, .plan, .loops, .paths, .twc] (Reg.FE.CTRL p.idx :: pathAskWords p) s t)) ∧
  (∀ (port : Port) (p : Vhf) (v : Word) (s : State) (c d : Nat), lets s (Reg.FE.TILE_CENTRE p.path.idx) = true → pathOn s p.path = true →
    tileNow s p.path = some c → s.get (Fld.FE.CTRL.MODE p.path.idx) = 2 → (s.path p.path).testAt = none → (s.lo p.lo).pass = none →
    fieldOf (afterWrite s port (Reg.FE.TILE_CENTRE p.path.idx) v) 0 18 = d → d ≠ c → headedFor s p none (d * 1000) = false →
    completes (.tileCentreWrite port p v) s (fun t =>
      t.word (Reg.FE.TILE_CENTRE p.path.idx) = afterWrite s port (Reg.FE.TILE_CENTRE p.path.idx) v ∧
      loAsked s t p.lo { kind := .retune, hz := d * 1000 } ∧
      frame [.fab, .plan, .loops, .paths, .twc] (Reg.FE.TILE_CENTRE p.path.idx :: loAskWords p.lo) s t)) ∧
  (∀ (port : Port) (p : Vhf) (v : Word) (s : State), lets s (Reg.FE.TILE_CENTRE p.path.idx) = true →
    completes (.tileCentreWrite port p v) s (fun t =>
      t.word (Reg.FE.TILE_CENTRE p.path.idx) = afterWrite s port (Reg.FE.TILE_CENTRE p.path.idx) v ∧
      (pathOn s p.path = false → frame [.fab, .paths] [Reg.FE.TILE_CENTRE p.path.idx] s t) ∧
      frame [.fab, .plan, .loops, .paths, .twc] (Reg.FE.TILE_CENTRE p.path.idx :: loAskWords p.lo) s t)) ∧
  (∀ (port : Port) (p : Path) (v : Word) (s : State), lets s (Reg.FE.CTRL p.idx) = true → s.flag (Fld.FE.CTRL.TEST p.idx) = false →
    pathOn s p = true → (((feedingLanes s).any (fun l => s.laneInUse l && (s.lane l).path == p)) = false ∨ v.getLsbD 3 = true) →
    completes (.pathTestEnter port p v) s (fun t =>
      t.flag (Fld.FE.CTRL.TEST p.idx) = true ∧ (t.path p).testAt = some (s.epoch + 1) ∧
      (∀ l ∈ lanesOn s p 156, (t.lane l).state = .parked) ∧
      (∀ w : Vhf, w.path = p → (tileNow s p).isSome = true → (s.lo w.lo).busy = none → (s.lo w.lo).queued = none →
        loAsked s t w.lo { kind := .retune, hz := spanHz w, band := some none }) ∧
      pageFrame [.fab, .plan, .paths, .loops, .aux, .mgr, .rds, .dab, .twc]
        [0x000, 0x003, 0x004, 0x008, 0x009, 0x00A, 0x00D, 0x010, 0x011, 0x012, 0x018, 0x020, 0x021, 0x022, 0x023, 0x024, 0x025, 0x026,
          0x027, 0x040, 0x062] s t)) ∧
  (∀ (port : Port) (p : Path) (v : Word) (s : State), lets s (Reg.FE.CTRL p.idx) = true → s.flag (Fld.FE.CTRL.TEST p.idx) = false →
    (pathOn s p = false ∨ (((feedingLanes s).any (fun l => s.laneInUse l && (s.lane l).path == p)) = true ∧ v.getLsbD 3 = false)) →
    completes (.pathTestEnter port p v) s (fun t =>
      t.flag (Fld.FE.CTRL.TEST p.idx) = false ∧ (t.path p).testAt = (s.path p).testAt ∧ raised t (Ev.FE.TEST_REFUSED p.idx) ∧
      frame [.fab, .twc, .plan, .loops, .paths] (Reg.FE.CTRL p.idx :: evWords (Ev.FE.TEST_REFUSED p.idx) ++ pathAskWords p) s t)) ∧
  (∀ (port : Port) (p : Path) (v : Word) (s : State), lets s (Reg.FE.CTRL p.idx) = true → s.flag (Fld.FE.CTRL.TEST p.idx) = true →
    modeNow s p ≠ 2 →
    completes (.pathTestExit port p v) s (fun t =>
      t.word (Reg.FE.CTRL p.idx) = afterWrite s port (Reg.FE.CTRL p.idx) (feCtrlWord v false) ∧
      t.flag (Fld.FE.CTRL.TEST p.idx) = false ∧ (t.path p).testAt = (s.path p).testAt ∧
      frame [.fab, .plan, .loops, .paths, .twc] (Reg.FE.CTRL p.idx :: pathAskWords p) s t)) ∧
  (∀ (port : Port) (p : Path) (v : Word) (s : State), lets s (Reg.FE.CTRL p.idx) = true → s.flag (Fld.FE.CTRL.TEST p.idx) = true →
    modeNow s p = 2 →
    completes (.pathTestExit port p v) s (fun t =>
      t.word (Reg.FE.CTRL p.idx) = afterWrite s port (Reg.FE.CTRL p.idx) (feCtrlWord v false) ∧
      t.flag (Fld.FE.CTRL.TEST p.idx) = false ∧ wrote s t Fld.INJ.CTRL.ENABLE 0 ∧
      (∀ c, s.aux.check = some c → c.path = p → t.aux.check = none ∧ raised t Ev.AGC.CHECK_ABANDONED) ∧
      frame [.fab, .aux, .paths, .twc] ([Reg.FE.CTRL p.idx, Reg.INJ.CTRL, Reg.COX.STAT] ++ evWords Ev.AGC.CHECK_ABANDONED) s t))

/-- The gain-table check (R41): START on a path in TEST arms it, or is refused; a window starts with entry 8w; its end posts the result of the worst
entry. It rests also on the model's own readings: log entries 6, 13, 27 and 104. -/
def Obligations.GainCheckCompletes : Prop :=
  (∀ (port : Port) (v : Word) (s : State), lets s Reg.AGC.CHECK_CMD = true → fieldOf v 0 2 ≠ 3 → modeNow s (Path.ofIdx (fieldOf v 0 2)) = 2 →
    s.aux.check = none → 15 ≤ s.get Fld.RGL.INJ_CEIL.LEVEL →
    completes (.gainCheckStart port v) s (fun t =>
      t.aux.check = some { path := Path.ofIdx (fieldOf v 0 2), nextAt := s.epoch + 1 } ∧ frame [.fab, .aux] [] s t)) ∧
  (∀ (port : Port) (v : Word) (s : State), lets s Reg.AGC.CHECK_CMD = true →
    (fieldOf v 0 2 = 3 ∨ modeNow s (Path.ofIdx (fieldOf v 0 2)) ≠ 2 ∨ s.aux.check ≠ none ∨ s.get Fld.RGL.INJ_CEIL.LEVEL < 15) →
    completes (.gainCheckStart port v) s (fun t =>
      raised t Ev.AGC.CHECK_ABANDONED ∧ frame [.fab, .twc] (evWords Ev.AGC.CHECK_ABANDONED) s t)) ∧
  (∀ (s : State) (c : GainCheck), s.aux.check = some c → s.time % epochTicks = 0 → c.start = none → c.windows < 3 → c.nextAt ≤ s.epoch →
    s.aux.uses.contains .window = true → waitsForGrant s .window = false →
    completes .gainCheckWindow s (fun t =>
      t.aux.check = some { c with start := some s.epoch } ∧ t.get (Fld.AGC.GAIN.STEP c.path.idx) = 8 * c.windows ∧
      frame [.aux] [Reg.AGC.GAIN c.path.idx, Reg.FE.STAT c.path.idx, Reg.CH.NORM c.path.idx] s t)) ∧
  (∀ (measured : List Int) (s : State) (c : GainCheck), s.aux.check = some c → 3 ≤ c.windows →
    completes (.gainCheckDone measured) s (fun t =>
      t.aux.check = none ∧ raised t Ev.AGC.CHECK_DONE ∧
      (∃ k < 24, (∀ j < 24, (measured.getD j 0 - gainEntry s c.path j).natAbs ≤ (measured.getD k 0 - gainEntry s c.path k).natAbs) ∧
        posted s t 0 [
          (Reg.AGC.CHECK_RES0, wordOf [(10, 2, c.path.idx),
            (12, 1, (decide ((measured.getD k 0 - gainEntry s c.path k).natAbs ≤ 50)).toNat)]),
          (Reg.AGC.CHECK_RES1, wordOf [(0, 16, ofSigned 16 (measured.getD k 0 - gainEntry s c.path k)), (16, 5, k)])]) ∧
      frame [.aux, .fab, .twc] ([Reg.AGC.CHECK_RES0, Reg.AGC.CHECK_RES1] ++ evsWords [Ev.AGC.CHECK_DONE, Ev.AGC.TABLE_DRIFT]) s t))

/-- The injector (R42 to R45): a request is accepted, sent to the mask check, or refused with its reason; it starts on a boundary, at the lowest of
LEVEL and the ceilings; ENABLE = 0 is stored. It rests also on the model's own readings: log entries 6 and 105. -/
def Obligations.InjectorCompletes : Prop :=
  (∀ (port : Port) (v : Word) (s : State), lets s Reg.INJ.CTRL = true → s.flag Fld.INJ.STAT.ACTIVE = false →
    injReason (s.setWord Reg.INJ.CTRL (afterWrite s port Reg.INJ.CTRL (withField v 0 1 1))) = none →
    completes (.injEnable port v) s (fun t =>
      t.word Reg.INJ.CTRL = afterWrite s port Reg.INJ.CTRL (withField v 0 1 1) ∧ t.flag Fld.INJ.CTRL.ENABLE = true ∧
      t.get Fld.INJ.STAT.REASON = 0 ∧ (t.flag Fld.INJ.CTRL.SHAPED = true → t.aux.maskPending = true ∧ t.flag Fld.INJ.STAT.MASK_OK = false) ∧
      frame [.fab, .aux] [Reg.INJ.CTRL, Reg.INJ.STAT] s t)) ∧
  (∀ (port : Port) (v : Word) (s : State) (why : Nat), lets s Reg.INJ.CTRL = true → s.flag Fld.INJ.STAT.ACTIVE = false →
    injReason (s.setWord Reg.INJ.CTRL (afterWrite s port Reg.INJ.CTRL (withField v 0 1 1))) = some why →
    completes (.injEnable port v) s (fun t =>
      t.flag Fld.INJ.CTRL.ENABLE = false ∧ t.get Fld.INJ.STAT.REASON = why ∧ raised t Ev.INJ.REFUSED ∧
      frame [.fab, .aux, .twc] ([Reg.INJ.CTRL, Reg.INJ.STAT] ++ evWords Ev.INJ.REFUSED) s t)) ∧
  (∀ (us : Nat) (s : State), s.aux.maskPending = true →
    completes (.injMaskCheckDone us) s (fun t =>
      t.aux.maskPending = false ∧ t.flag Fld.INJ.STAT.MASK_OK = maskPasses s ∧
      (maskPasses s = false → t.flag Fld.INJ.CTRL.ENABLE = false ∧ t.get Fld.INJ.STAT.REASON = 1 ∧ raised t Ev.INJ.REFUSED) ∧
      frame [.fab, .aux, .twc] ([Reg.INJ.CTRL, Reg.INJ.STAT] ++ evWords Ev.INJ.REFUSED) s t)) ∧
  (∀ (s : State) (p : Path), s.time % epochTicks = 0 → s.flag Fld.INJ.CTRL.ENABLE = true → s.flag Fld.INJ.STAT.ACTIVE = false →
    s.aux.maskPending = false → (s.flag Fld.INJ.CTRL.SHAPED = true → s.flag Fld.INJ.STAT.MASK_OK = true) → injPath s = some p →
    modeNow s p = 2 → injWaits s p = false →
    completes .injStart s (fun t =>
      t.flag Fld.INJ.STAT.ACTIVE = true ∧ t.get Fld.INJ.STAT.LEVEL_NOW = min (s.get Fld.INJ.CTRL.LEVEL) (min 30 (s.get Fld.RGL.INJ_CEIL.LEVEL)) ∧
      raised t Ev.INJ.STARTED ∧ t.aux.shapedNow = s.flag Fld.INJ.CTRL.SHAPED ∧
      frame [.fab, .aux, .twc] (Reg.INJ.STAT :: evsWords [Ev.INJ.STARTED, Ev.INJ.CLAMPED]) s t)) ∧
  (∀ (port : Port) (v : Word) (s : State), lets s Reg.INJ.CTRL = true → s.flag Fld.INJ.STAT.ACTIVE = true →
    completes (.injDisable port v) s (fun t =>
      t.word Reg.INJ.CTRL = afterWrite s port Reg.INJ.CTRL (withField v 0 1 0) ∧ t.flag Fld.INJ.CTRL.ENABLE = false ∧
      frame [.fab, .aux, .twc] ([Reg.INJ.CTRL, Reg.INJ.STAT] ++ evWords Ev.INJ.CLAMPED) s t))

/-- The coexistence wires and their limiter (R46 to R48), and the aerial feed (R51): it latches off after 5 ms of a short, retries after one second, and
is cut and restored by temperature. It rests also on the model's own readings: log entries 6, 24, 106 and 121. -/
def Obligations.CoexAndAerialComplete : Prop :=
  (∀ (high : Bool) (s : State),
    completes (.coexGntEdge high) s (fun t =>
      t.pwr.gntHigh = high ∧ (coexGranted t = true → t.aux.waits = []) ∧ (coexGranted t = false → frame [.pwr] [] s t) ∧
      { t.pwr with pins := {}, gntHigh := s.pwr.gntHigh } = { s.pwr with pins := {} } ∧
      frame [.pwr, .aux, .loops, .plan, .twc, .fab] (loAskWords .lof ++ loAskWords .lob) s t)) ∧
  (∀ (s : State) (w : GrantWait), w ∈ s.aux.waits → w.by_ ≤ s.epoch →
    completes .coexGrantTimeout s (fun t =>
      raised t Ev.COX.NO_GRANT ∧ (∀ x ∈ t.aux.waits, x ∈ s.aux.waits ∧ s.epoch < x.by_) ∧
      frame [.aux, .loops, .plan, .twc, .fab] (Reg.COX.STAT :: loAskWords .lof ++ loAskWords .lob ++
        evsWords [Ev.COX.NO_GRANT, Ev.LO.CAL_DEFERRED 0, Ev.LO.CAL_DEFERRED 1, Ev.AGC.CHECK_ABANDONED]) s t)) ∧
  (∀ (s : State) (since : Nat), s.aux.reqSince = some since → (20 * epochTicks ≤ s.time - since ∨ dutyTicks s ≤ usedTicks s) →
    completes .coexLimitCut s (fun t =>
      t.aux.reqSince = none ∧ t.aux.uses = [] ∧ t.flag Fld.COX.STAT.REQ = false ∧ raised t Ev.COX.LIMITED ∧
      frame [.aux, .loops, .plan, .twc, .fab] (Reg.COX.STAT :: loAskWords .lof ++ loAskWords .lob ++
        evsWords [Ev.COX.LIMITED, Ev.LO.CAL_DEFERRED 0, Ev.LO.CAL_DEFERRED 1, Ev.AGC.CHECK_ABANDONED]) s t)) ∧
  (∀ (high : Bool) (s : State),
    completes (.coexActEdge high) s (fun t =>
      t.pwr.actHigh = high ∧ { t.pwr with pins := {}, actHigh := s.pwr.actHigh } = { s.pwr with pins := {} } ∧
      (coexActive t ≠ coexActive s → t.aux.actSince = if coexActive t then some s.time else none) ∧
      (coexActive t = coexActive s → t.aux = s.aux) ∧ frame [.pwr, .aux] [] s t)) ∧
  (∀ (s : State) (since : Nat), s.aux.actSince = some since → since + 10 * epochTicks < s.time →
    completes .coexActLong s (fun t =>
      raised t Ev.COX.ACT_LONG ∧ t.aux.actSince = none ∧ frame [.aux, .twc, .fab] (evWords Ev.COX.ACT_LONG) s t)) ∧
  (∀ (s : State), aerialOn s = true → 5 ≤ s.aux.limiting →
    completes .aerLatchOff s (fun t =>
      wrote s t Fld.PMU.AER_STAT.LATCHED_OFF 1 ∧ t.get Fld.PMU.AER_SHORT_CNT.COUNT = min 65535 (s.get Fld.PMU.AER_SHORT_CNT.COUNT + 1) ∧
      t.aux.retryAt = some (s.epoch + 1000) ∧ t.pwr.pins.aerial = false ∧ raised t Ev.PMU.AER_SHORT ∧
      frame [.aux, .twc, .fab] ([Reg.PMU.AER_STAT, Reg.PMU.AER_SHORT_CNT] ++ evWords Ev.PMU.AER_SHORT) s t)) ∧
  (∀ (s : State) (b : Nat), s.aux.retryAt = some b → b ≤ s.epoch →
    completes .aerRetry s (fun t =>
      wrote s t Fld.PMU.AER_STAT.LATCHED_OFF 0 ∧ t.aux.retryAt = none ∧ frame [.aux] [Reg.PMU.AER_STAT] s t)) ∧
  (∀ (s : State), aerialOn s = true →
    completes .aerThermalCut s (fun t =>
      wrote s t Fld.PMU.AER_STAT.THERMAL 1 ∧ t.pwr.pins.aerial = false ∧ raised t Ev.PMU.AER_THERM ∧
      frame [.twc, .fab] (Reg.PMU.AER_STAT :: evWords Ev.PMU.AER_THERM) s t)) ∧
  (∀ (s : State),
    completes .aerThermalRestore s (fun t => wrote s t Fld.PMU.AER_STAT.THERMAL 0 ∧ frame [] [Reg.PMU.AER_STAT] s t))
/-! ## Loops and clocks (chapter 3) -/

/-- Loss and return of the reference, of lock, and holdover (R56, R69 to R73): a loop coasts when its lock or the reference is lost. It rests also on
the model's own readings: log entries 6 and 22. -/
def Obligations.LoopEventsComplete : Prop :=
  (∀ (s : State), s.flag Fld.CLK.STAT.REF_VALID = true →
    completes .refLost s (fun t =>
      t.flag Fld.CLK.STAT.REF_VALID = false ∧ t.flag Fld.CLK.STAT.COAST = true ∧ raised t Ev.CLK.REF_LOST ∧
      (∀ l : Lo, loOn s l = true → t.flag (Fld.LO.STAT.COAST l.idx) = true ∧ t.flag (Fld.LO.STAT.LOCKED l.idx) = false) ∧
      (s.served = true → t.pwr.pins.lockA = .low) ∧
      frame [.loops, .blocks, .twc, .fab] ([Reg.CLK.STAT, Reg.CLK.COAST_EPOCHS, Reg.CLK.COAST_DTJ, Reg.LO.STAT 0, Reg.LO.STAT 1] ++
        evsWords [Ev.CLK.REF_LOST, Ev.CLK.COAST]) s t)) ∧
  (∀ (s : State), s.flag Fld.CLK.STAT.REF_VALID = false → 2 ≤ s.loops.sys.valid →
    completes .refValid s (fun t =>
      wrote s t Fld.CLK.STAT.REF_VALID 1 ∧ raised t Ev.CLK.REF_BACK ∧
      frame [.twc, .fab] (Reg.CLK.STAT :: evWords Ev.CLK.REF_BACK) s t)) ∧
  (∀ (s : State), s.flag Fld.CLK.STAT.COAST = false → s.flag Fld.CLK.STAT.REF_VALID = true →
    completes (.lockAcquired .plls) s (fun t => wrote s t Fld.CLK.STAT.LOCKED 1 ∧ t.loops.sys.phaseOut = false ∧
      frame [.loops] [Reg.CLK.STAT] s t)) ∧
  (∀ (l : Lo) (s : State), loOn s l = true → s.flag (Fld.LO.STAT.COAST l.idx) = false →
    completes (.lockAcquired (loopOf l)) s (fun t =>
      wrote s t (Fld.LO.STAT.LOCKED l.idx) 1 ∧ frame [] [Reg.LO.STAT l.idx] s t)) ∧
  (∀ (s : State), s.flag Fld.CLK.STAT.COAST = false → s.flag Fld.CLK.STAT.LOCKED = true → s.flag Fld.CLK.STAT.REF_VALID = true →
    completes (.lockLost .plls) s (fun t =>
      t.flag Fld.CLK.STAT.COAST = true ∧ t.flag Fld.CLK.STAT.LOCKED = false ∧ t.loops.sys.coastFrom = s.epoch ∧ raised t Ev.CLK.UNLOCK ∧
      ((0x09, 0) ∉ s.flt.retired → logged s t 0x09 0 6) ∧ (s.served = true → t.pwr.pins.lockA = .low) ∧
      pageFrame [.loops, .blocks, .flt, .twc, .fab] [0x002, 0x062, 0x071] s t)) ∧
  (∀ (l : Lo) (s : State), loOn s l = true → s.flag (Fld.LO.STAT.COAST l.idx) = false → s.flag (Fld.LO.STAT.LOCKED l.idx) = true →
    s.flag Fld.CLK.STAT.REF_VALID = true →
    completes (.lockLost (loopOf l)) s (fun t =>
      t.flag (Fld.LO.STAT.COAST l.idx) = true ∧ t.flag (Fld.LO.STAT.LOCKED l.idx) = false ∧ raised t (Ev.LO.UNLOCK l.idx) ∧
      loAsked s t l { kind := .retune, hz := s.get (Fld.LO.FREQ_HZ.HZ l.idx), fresh := true } ∧
      pageFrame [.loops, .blocks, .plan, .flt, .twc, .fab] [0x000, 0x003 + l.idx, 0x040, 0x062, 0x071] s t)) ∧
  (∀ (s : State), holdoverDue s = true → s.flag Fld.CLK.STAT.HOLDOVER_DEGRADED = false →
    completes .holdoverDegraded s (fun t =>
      wrote s t Fld.CLK.STAT.HOLDOVER_DEGRADED 1 ∧ raised t Ev.CLK.HOLDOVER_DEGRADED ∧
      frame [.twc, .fab] (Reg.CLK.STAT :: evWords Ev.CLK.HOLDOVER_DEGRADED) s t))

/-- PHASE_REBASE closes the coasting loops with their measured errors as offsets and posts the steps that remove them (R74): the parts of an offset add
up to it, and none exceeds 500 ppb. LO_SETTLED (R62 to R64): the sub-band code of the stored entry, or of the search, comes into force, and a
search's is stored; a search that found none coasts and searches afresh. It rests also on the model's own readings: log entries 6, 23, 34, 35 and
97. -/
def Obligations.RebaseAndSettleComplete : Prop :=
  (∀ (sys lof lob : Int) (s : State), s.flag Fld.CLK.STAT.COAST = true → s.flag Fld.CLK.STAT.REF_VALID = true → 2 ≤ s.loops.sys.valid →
    completes (.phaseRebase sys lof lob) s (fun t =>
      t.flag Fld.CLK.STAT.COAST = false ∧ t.flag Fld.CLK.STAT.HOLDOVER_DEGRADED = false ∧ t.loops.sys.offset = sys ∧
      t.loops.closedAt = some s.epoch ∧ raised t Ev.CLK.REBASED ∧
      (∀ l : Lo, s.flag (Fld.LO.STAT.COAST l.idx) = true → (at' s.loops.loops l.idx {}).byRef = true →
        t.flag (Fld.LO.STAT.COAST l.idx) = false ∧ loOffset t l = (match l with | .lof => lof | .lob => lob) ∧
        raised t (Ev.LO.RELOCKED l.idx)) ∧
      t.loops.stepsLeft = max (rebaseSteps sys) (max (rebaseSteps (loOffset t .lof)) (rebaseSteps (loOffset t .lob))) ∧
      t.flag Fld.CLK.STAT.CORRECTING = (t.loops.stepsLeft != 0) ∧ (t.loops.stepsLeft = 0 → raised t Ev.CLK.CORR_DONE) ∧
      frame [.loops, .plan, .flt, .twc, .fab] ([Reg.CLK.STAT, Reg.CLK.REBASE_ERR, Reg.CLK.INT, Reg.CLK.FRAC] ++
        [0, 1].flatMap (fun i => [Reg.LO.STAT i, Reg.LO.INT i, Reg.LO.FRAC i, Reg.LO.ODIV i, Reg.LO.FREQ_HZ i,
          (Fld.LO.NEXT_INT.N i).addr, (Fld.LO.NEXT_FRAC.F i).addr, (Fld.LO.NEXT_ODIV.D i).addr, (Fld.LO.NEXT_EPOCH.EPOCH i).addr]) ++ planWords ++
        evsWords [Ev.CLK.REBASED, Ev.CLK.CORR_DONE, Ev.LO.RELOCKED 0, Ev.LO.RELOCKED 1]) s t)) ∧
  (∀ (off : Int), (((List.range (rebaseSteps off)).map (rebasePart off)).sum = off ∧ ∀ i < rebaseSteps off, (rebasePart off i).natAbs ≤ 500)) ∧
  (∀ (l : Lo) (code : Option Nat) (r : LoReq) (c : Nat) (s : State), (s.lo l).busy = some r → (s.lo l).settling = true → r.entry < 32 →
    (if r.fresh then code else some (s.get (Fld.LO.HOP_W1.SUBBAND l.idx r.entry))) = some c →
    completes (.loSettled l code) s (fun t =>
      t.get (Fld.LO.STAT.SUBBAND l.idx) = c % 64 ∧ t.flag (Fld.LO.STAT.LOCKED l.idx) = !(s.flag (Fld.LO.STAT.COAST l.idx)) ∧
      t.flag (Fld.LO.STAT.SETTLING l.idx) = false ∧ t.flag (Fld.LO.STAT.CALIBRATING l.idx) = false ∧
      (r.fresh = true → t.get (Fld.LO.HOP_W1.SUBBAND l.idx r.entry) = c % 64 ∧ t.flag (Fld.LO.HOP_W1.VALID l.idx r.entry) = true ∧
        t.flag (Fld.LO.HOP_W1.STALE l.idx r.entry) = false ∧ t.get (Fld.LO.HOP_W0.FREQ_HZ l.idx r.entry) = r.hz % 2 ^ 32) ∧
      frame [.loops, .blocks, .aux, .plan, .flt, .twc, .fab] ([Reg.COX.STAT, Reg.LO.HOP_W0 l.idx r.entry, Reg.LO.HOP_W1 l.idx r.entry,
        Reg.LO.HOP_W2 l.idx r.entry, Reg.LO.HOP_W3 l.idx r.entry] ++ loAskWords l ++
        evsWords [Ev.LO.CAL_DONE l.idx, Ev.LO.CAL_DEFERRED l.idx, Ev.COX.LIMITED]) s t)) ∧
  (∀ (l : Lo) (r : LoReq) (s : State), (s.lo l).busy = some r → (s.lo l).settling = true → r.fresh = true →
    completes (.loSettled l none) s (fun t =>
      t.flag (Fld.LO.STAT.COAST l.idx) = true ∧ raised t (Ev.LO.SEARCH_FAIL l.idx) ∧ raised t (Ev.LO.UNLOCK l.idx) ∧
      (t.lo l).busy = some { kind := .retune, hz := r.hz, fresh := true } ∧
      asked s t (.lo l { kind := .retune, hz := r.hz, fresh := true }) 0 ∧
      pageFrame [.loops, .blocks, .aux, .plan, .flt, .twc, .fab] [0x000, 0x003 + l.idx, 0x00D, 0x040, 0x062, 0x071] s t))

/-- The calibration commands (R65 to R67, R437): at once on a powered LO whose path is idle, or forced; else held with CAL_PENDING. STALENESS_CHECK
(R65): an entry more than 12 °C away from its calibration temperature becomes STALE. CLKOUT_CFG_WRITE (R75, R76): a divider too small is raised, and
the settings wait for the next boundary. It rests also on the model's own readings: log entries 6, 97 and 98. -/
def Obligations.CalibrationAndClkoutComplete : Prop :=
  (∀ (port : Port) (l : Lo) (v : Word) (s : State), lets s (Reg.LO.CAL_CMD l.idx) = true → (loOn s l && loIdle s l) = false →
    completes (.loCalStart port l v) s (fun t =>
      (t.lo l).waiting = some (calRequest false true) ∧ wrote s t (Fld.LO.STAT.CAL_PENDING l.idx) 1 ∧ raised t (Ev.LO.CAL_DEFERRED l.idx) ∧
      frame [.loops, .twc, .fab] (Reg.LO.STAT l.idx :: evWords (Ev.LO.CAL_DEFERRED l.idx)) s t)) ∧
  (∀ (port : Port) (l : Lo) (v : Word) (s : State), lets s (Reg.LO.CAL_CMD l.idx) = true → (loOn s l && loIdle s l) = true →
    s.flag Fld.COX.CTRL.GNT_USE = false → usedTicks s < dutyTicks s → waitsForGrant s (.calibration l) = false →
    completes (.loCalStart port l v) s (fun t =>
      loAsked s t l (if (s.lo l).busy = none then resolveCal s l (calRequest false true) else calRequest false true) ∧ t.aux.uses.contains (.calibration l) = true ∧
      frame [.loops, .aux, .plan, .twc, .fab] (Reg.COX.STAT :: loAskWords l) s t)) ∧
  (∀ (port : Port) (l : Lo) (v : Word) (s : State), lets s (Reg.LO.CAL_CMD l.idx) = true → loOn s l = true →
    s.flag Fld.COX.CTRL.GNT_USE = false → usedTicks s < dutyTicks s → waitsForGrant s (.calibration l) = false →
    completes (.loCalForce port l v) s (fun t =>
      loAsked s t l (if (s.lo l).busy = none then resolveCal s l (calRequest true true) else calRequest true true) ∧ t.aux.uses.contains (.calibration l) = true ∧
      frame [.loops, .aux, .plan, .twc, .fab] (Reg.COX.STAT :: loAskWords l) s t)) ∧
  (∀ (port : Port) (l : Lo) (v : Word) (s : State), lets s (Reg.LO.CAL_CMD l.idx) = true → loOn s l = false →
    completes (.loCalForce port l v) s (fun t =>
      (t.lo l).waiting = some (calRequest true true) ∧ wrote s t (Fld.LO.STAT.CAL_PENDING l.idx) 1 ∧ raised t (Ev.LO.CAL_DEFERRED l.idx) ∧
      frame [.loops, .twc, .fab] (Reg.LO.STAT l.idx :: evWords (Ev.LO.CAL_DEFERRED l.idx)) s t)) ∧
  (∀ (port : Port) (l : Lo) (v : Word) (s : State), lets s (Reg.LO.CAL_CMD l.idx) = true →
    (loOn s l && loIdle s l) = false →
    completes (.loCalAll port l v) s (fun t =>
      (t.lo l).waitingAll = true ∧ (t.lo l).waiting = none ∧ wrote s t (Fld.LO.STAT.CAL_PENDING l.idx) 1 ∧
      raised t (Ev.LO.CAL_DEFERRED l.idx) ∧ frame [.loops, .twc, .fab] (Reg.LO.STAT l.idx :: evWords (Ev.LO.CAL_DEFERRED l.idx)) s t)) ∧
  (∀ (port : Port) (l : Lo) (v : Word) (s : State) (i : Nat) (rest : List Nat), lets s (Reg.LO.CAL_CMD l.idx) = true →
    (loOn s l && loIdle s l) = true → validEntries s l = i :: rest →
    completes (.loCalAll port l v) s (fun t =>
      (t.lo l).pass = some (rest, s.get (Fld.LO.FREQ_HZ.HZ l.idx)) ∧ (t.lo l).waitingAll = false ∧
      frame [.loops, .aux, .plan, .twc, .fab] (Reg.COX.STAT :: loAskWords l ++ evsWords [Ev.LO.CAL_DEFERRED l.idx, Ev.COX.LIMITED]) s t)) ∧
  (∀ (port : Port) (l : Lo) (v : Word) (s : State), lets s (Reg.LO.CAL_CMD l.idx) = true →
    (loOn s l && loIdle s l) = true → validEntries s l = [] →
    completes (.loCalAll port l v) s (fun t =>
      (t.lo l).pass = none ∧ raised t (Ev.LO.CAL_DONE l.idx) ∧
      frame [.loops, .twc, .fab] (Reg.LO.STAT l.idx :: evWords (Ev.LO.CAL_DONE l.idx)) s t)) ∧
  (∀ (l : Lo) (s : State) (r : LoReq), s.time % epochTicks = 0 → loOn s l = true → (s.lo l).waiting = some r →
    (r.forced = true ∨ (loIdle s l = true ∧ (s.lo l).skipIdle = false)) → outdatedCal s l r = false → waitsForGrant s (.calibration l) = false →
    s.flag Fld.COX.CTRL.GNT_USE = false → usedTicks s < dutyTicks s →
    completes (.loCalIdlePost l) s (fun t =>
      loAsked s t l (if (s.lo l).busy = none then resolveCal s l r else r) ∧
      t.aux.uses.contains (.calibration l) = true ∧ frame [.loops, .aux, .plan, .twc, .fab] (Reg.COX.STAT :: loAskWords l) s t)) ∧
  (∀ (s : State), s.time % (100 * epochTicks) = 0 →
    completes .stalenessCheck s (fun t =>
      (∀ (l : Lo) (i : Nat), i < 32 → (t.flag (Fld.LO.HOP_W1.STALE l.idx i) = true ↔ (s.flag (Fld.LO.HOP_W1.STALE l.idx i) = true ∨
        (s.flag (Fld.LO.HOP_W1.VALID l.idx i) = true ∧ 192 < (s.pwr.tj - s.geti (Fld.LO.HOP_W2.TJ_CAL l.idx i)).natAbs)))) ∧
      frame [.loops, .twc, .fab] ([Reg.LO.STAT 0, Reg.LO.STAT 1] ++ (List.range 32).flatMap (fun i => [Reg.LO.HOP_W1 0 i, Reg.LO.HOP_W1 1 i]) ++
        evsWords [Ev.LO.STALE 0, Ev.LO.STALE 1]) s t)) ∧
  (∀ (port : Port) (n : Fin 3) (v : Word) (s : State), lets s (Reg.CLK.CLKOUT_CFG n.val) = true →
    completes (.clkoutCfgWrite port n v) s (fun t =>
      t.get (Fld.CLK.CLKOUT_CFG.DIV n.val) =
        max (fieldOf (afterWrite s port (Reg.CLK.CLKOUT_CFG n.val) v) 0 12) (leastDiv s ((afterWrite s port (Reg.CLK.CLKOUT_CFG n.val) v).getLsbD 12)) ∧
      t.flag (Fld.CLK.CLKOUT_CFG.CLAMPED n.val) =
        decide (fieldOf (afterWrite s port (Reg.CLK.CLKOUT_CFG n.val) v) 0 12 < leastDiv s ((afterWrite s port (Reg.CLK.CLKOUT_CFG n.val) v).getLsbD 12)) ∧
      t.loops.clkoutDirty.contains n.val = true ∧ t.loops.clkNow = s.loops.clkNow ∧
      frame [.loops, .twc, .fab] (Reg.CLK.CLKOUT_CFG n.val :: evWords Ev.CLK.CLKOUT_CLAMPED) s t))
/-! ## Survey, lanes and sprouts (chapters 4 and 5) -/

/-- SNAPSHOT_CLOSE takes the snapshot of a survey map (R94, R95), SNAPSHOT_POSTED posts it to its window (R96, R97), and FIC_ROTATE moves a rotating
entry to its next candidate (R109). It rests also on the model's own readings: log entries 6, 107 and 116. -/
def Obligations.SurveyCompletes : Prop :=
  (∀ (m : MapSel) (readings : List (Nat × Int)) (s : State), s.receiving = true → s.time % (m.period * epochTicks) = 0 →
    completes (.snapshotClose m readings) s (fun t =>
      (t.map m).now = ⟨s.epoch, pathClosed s m.path, tileNow s m.path,
        ageCells ((List.range m.entries).filterMap (measureEntry s m readings)) (s.map m).now.cells⟩ ∧
      (t.map m).unposted = true ∧ (∀ n : MapSel, n ≠ m → t.map n = s.map n) ∧
      t.flag ⟨Reg.SRV.STAT, m.idx, 1⟩ = (pathClosed s m.path || (tileNow s m.path).isSome) ∧
      { t.dsp with touched := s.dsp.touched } = s.dsp ∧ (∀ e ∈ t.dsp.touched, e.1 ≠ m) ∧
      frame [.maps, .dsp, .paths, .plan, .mgr] (Reg.SRV.STAT :: planWords) s t)) ∧
  (∀ (m : MapSel) (s : State), (s.map m).unposted = true → postsMap s m = true →
    completes (.snapshotPosted m) s (fun t =>
      posted s t (m.idx + 1) [(Reg.SRV.FM_EPOCH + 4 * m.idx, lowWord (s.map m).now.epoch)] ∧ raised t (Ev.SRV.FM_READY + m.idx) ∧
      (t.map m).unposted = false ∧
      (if s.flag (windowValid (m.idx + 1)) then (t.map m).side = (s.map m).now ∧ raised t Ev.SRV.OVERFLOW else (t.map m).held = (s.map m).now) ∧
      frame [.maps, .fab, .twc] ([windowHeader (m.idx + 1), Reg.SRV.FM_EPOCH + 4 * m.idx] ++ evsWords [Ev.SRV.FM_READY + m.idx, Ev.SRV.OVERFLOW]) s t)) ∧
  (∀ (m : MapSel) (s : State), (s.map m).unposted = true → postsMap s m = false →
    completes (.snapshotPosted m) s (fun t => (t.map m).unposted = false ∧ frame [.maps] [] s t)) ∧
  (∀ (e : Fin 16) (d : Nat × Nat) (s : State) (f : Nat), nextVisit s (candidates s .fic) (s.lane (116 + e.val)).khz = some f →
    isPlanned (isTuneOf (116 + e.val)) s = false →
    s.mgr.dwell.find? (fun x => x.1 == 116 + e.val) = some d → d.2 ≤ s.epoch + 2 → autoWatch s .fic = true →
    completes (.ficRotate e) s (fun t => asked s t (.tune (116 + e.val) .b3 f false) d.2 ∧ frame [.plan] planWords s t))

/-- OFS_WINDOW (R128 to R131): with no weight in the reports NO_SOURCE; else the estimate is c plus the weighted mean of the reports near their median.
It rests also on the model's own readings: log entries 4 and 6. -/
def Obligations.OffsetWindowCompletes : Prop :=
  (∀ (obs : List OfsObs) (s : State), s.receiving = true → s.time % (100 * epochTicks) = 0 → obs.filter (ofsSource s) = [] →
    completes (.ofsWindow obs) s (fun t =>
      t.get Fld.OFS.STAT.SOURCES = 0 ∧ t.flag Fld.OFS.STAT.NO_SOURCE = true ∧ raised t Ev.OFS.NO_SOURCE ∧
      t.get Fld.OFS.EST_PPB.PPB = s.get Fld.OFS.EST_PPB.PPB ∧
      frame [.mgr, .plan, .twc, .fab] (Reg.OFS.STAT :: planWords ++ evsWords [Ev.OFS.NO_SOURCE, Ev.OFS.RANGE]) s t)) ∧
  (∀ (obs : List OfsObs) (s : State) (used : List OfsObs), s.receiving = true → s.time % (100 * epochTicks) = 0 →
    used = (obs.filter (ofsSource s)).filter (fun o => decide ((2 * o.err - twiceMedian (obs.filter (ofsSource s))).natAbs ≤ 600)) →
    (used.map ofsWeight).sum ≠ 0 →
    completes (.ofsWindow obs) s (fun t =>
      t.get Fld.OFS.STAT.SOURCES = used.length % 256 ∧ t.flag Fld.OFS.STAT.NO_SOURCE = false ∧
      t.get Fld.OFS.EST_PPB.PPB = ofSigned 32 (roundDiv (s.corr * (used.map ofsWeight).sum +
        (used.map (fun o => (ofsWeight o : Int) * o.err)).sum) (used.map ofsWeight).sum) ∧
      frame [.mgr, .plan, .twc, .fab] ([Reg.OFS.STAT, Reg.OFS.EST_PPB] ++ planWords ++ evsWords [Ev.OFS.CONVERGED, Ev.OFS.RANGE]) s t))

/-- The sprout controller (R114 to R125): criteria post roots, timeouts and the sentinel pull, comparisons count to eight. Requests that wait are
served: a free slot goes to the first waiting sprout request by rank (R116), and a core above 95 % for 100 epochs gives its lightest lane to the
least loaded one (R110). It rests also on the model's own readings: log entries 6, 54, 108 and 109. -/
def Obligations.SproutsComplete : Prop :=
  (∀ (slot : Fin 32) (metric : Int) (pi : Nat) (s : State) (k : SproutKind), (s.sprout slot.val).state = .planted →
    (s.sprout slot.val).met = false → (s.sprout slot.val).kind = some k → k.acquires = true →
    waitsForGrant s (.sprout slot.val) = false → criterionCounts s (s.sprout slot.val) pi = true →
    completes (.sproutCriterionMet slot metric pi) s (fun t =>
      t.sprout slot.val = { s.sprout slot.val with met := true, adopted := true, metric := metric, pi := pi } ∧
      (s.fab.pause = none → asked s t (.root slot.val) (s.epoch + 2)) ∧ frame [.mgr, .plan] planWords s t)) ∧
  (∀ (slot : Fin 32) (s : State) (k : SproutKind), (s.sprout slot.val).state = .planted → (s.sprout slot.val).met = false →
    (s.sprout slot.val).kind = some k → k.acquires = true → (s.sprout slot.val).plantedAt + timeoutOf s (s.sprout slot.val) ≤ s.epoch →
    (s.sprout slot.val).stream = 0 → (isFull (s.sprout slot.val).lane && (s.lane (s.sprout slot.val).lane).host) = false →
    (s.sprout slot.val).lane < 156 →
    completes (.sproutTimeout slot) s (fun t =>
      (t.sprout slot.val).state = .pulled ∧ (t.sprout slot.val).reason = .timeout ∧ (t.sprout slot.val).endedAt = s.epoch ∧
      (t.lane (s.sprout slot.val).lane).replantAt = some (s.epoch + 10000) ∧ raised t Ev.LNM.SPROUT_PULLED)) ∧
  (∀ (slot : Fin 32) (s : State) (k : SproutKind), (s.sprout slot.val).state = .planted → (s.sprout slot.val).met = false →
    (s.sprout slot.val).kind = some k → k.acquires = true → (s.sprout slot.val).plantedAt + timeoutOf s (s.sprout slot.val) ≤ s.epoch →
    (s.sprout slot.val).stream = 0 → (isFull (s.sprout slot.val).lane && (s.lane (s.sprout slot.val).lane).host) = true →
    s.receiving = true → acquireKind (s.sprout slot.val).lane = some k →
    completes (.sproutTimeout slot) s (fun t =>
      sprouts s t { kind := k, lane := (s.sprout slot.val).lane } ∧ raised t Ev.LNM.SPROUT_PULLED)) ∧
  (∀ (lane : Fin 156) (s : State) (e : Nat) (k : SproutKind), (s.lane lane.val).replantAt = some e → e ≤ s.epoch →
    (s.lane lane.val).state = .acquiring → acquireKind lane.val = some k → s.receiving = true →
    completes (.sproutReplantTimer lane) s (fun t =>
      sprouts s t { kind := k, lane := lane.val } ∧ (t.lane lane.val).replantAt = none ∧
      pageFrame ([.mgr, .aux] ++ noticeParts) ([0x00D, 0x010, 0x011, 0x012, 0x018] ++ noticePages) s t)) ∧
  (∀ (slot : Fin 32) (metric : Int) (twice : Bool) (s : State) (k : SproutKind), (s.sprout slot.val).state = .planted →
    (s.sprout slot.val).adopted = true → twice = true → rootAnnounced s slot.val = false → (s.sprout slot.val).kind = some k →
    k.acquires = true → s.receiving = true →
    completes (.sproutSentinel slot metric twice) s (fun t =>
      raised t Ev.LNM.SPROUT_PULLED ∧
      sprouts s t { kind := k, lane := (s.sprout slot.val).lane, stream := (s.sprout slot.val).stream })) ∧
  (∀ (slot : Fin 32) (s : State), (s.sprout slot.val).state = .planted → (s.sprout slot.val).kind = some .migrate →
    (s.sprout slot.val).met = false → (s.sprout slot.val).plantedAt + 2 ≤ s.epoch → (s.sprout slot.val).comparedAt + 1 = s.epoch →
    completes (.migrateCompare slot true) s (fun t =>
      (t.sprout slot.val).metric = (s.sprout slot.val).metric + 1 ∧
      (t.sprout slot.val).met = decide (8 ≤ (s.sprout slot.val).metric + 1) ∧
      (8 ≤ (s.sprout slot.val).metric + 1 → s.fab.pause = none → asked s t (.root slot.val) (s.epoch + 2)) ∧
      frame [.mgr, .plan] planWords s t)) ∧
  (∀ (slot : Fin 32) (s : State), (s.sprout slot.val).state = .planted → (s.sprout slot.val).kind = some .migrate →
    (s.sprout slot.val).met = false → (s.sprout slot.val).plantedAt + 2 ≤ s.epoch → (s.sprout slot.val).comparedAt < s.epoch →
    (s.sprout slot.val).mismatches < 2 → s.receiving = true →
    completes (.migrateCompare slot false) s (fun t =>
      raised t Ev.LNM.SPROUT_PULLED ∧
      (let x := s.sprout slot.val
       sprouts s t { kind := .migrate, lane := x.lane, toCore := x.toCore, move := x.move, mismatches := x.mismatches + 1 }))) ∧
  (∀ (s : State) (r : SproutReq), s.fab.pause = none → (freeSlot s).isSome = true → nextReq s = some r → s.receiving = true →
    completes .sproutSlotFreed s (fun t =>
      sprouts s t r ∧ pageFrame ([.mgr, .aux] ++ noticeParts) ([0x00D, 0x010, 0x011, 0x012, 0x018] ++ noticePages) s t)) ∧
  (∀ (core : Fin 6) (s : State) (l c : Nat), 100 ≤ at' s.mgr.overload core.val 0 → migrating s = false → lightestLane s core.val = some l →
    quietCore s core.val = some c → s.receiving = true →
    completes (.coreOverloadMigrate core) s (fun t =>
      sprouts s t { kind := .migrate, lane := l, toCore := c, move := .load, mismatches := 0 } ∧
      pageFrame ([.mgr, .aux] ++ noticeParts) ([0x00D, 0x010, 0x011, 0x012, 0x018] ++ noticePages) s t))
/-! ## FM and RDS (chapter 6), AM and DRM (chapter 7): tuning -/

/-- A write of a TUNE register with a frequency (R137, R138, R163, R164, R178, R194): refused where the band plan does not hold the channel or the lane
is retired; else stored, and in FULL the retune is posted. It rests also on the model's own readings: log entry 6. -/
def Obligations.TunesComplete : Prop :=
  (∀ (port : Port) (n : Fin 8) (v : Word) (s : State), lets s (Reg.FMF.TUNE n.val) = true → fieldOf v 0 17 ≠ 0 →
    completes (.fmTune port n v) s (fun t =>
      if fmAllowed s (fieldOf v 0 17) = true ∧ (s.lane n.val).state ≠ .retired then
        tuneTaken s t n.val (Reg.FMF.TUNE n.val) (lowWord (fieldOf v 0 17)) .fm (fieldOf v 0 17)
      else tuneRefused s t (Fld.FMF.CHG.REFUSED n.val) (Reg.FMF.CHG_EN n.val) (Ev.FMF.CHANGE n.val))) ∧
  (∀ (port : Port) (n : Fin 6) (v : Word) (s : State), lets s (Reg.AMF.TUNE n.val) = true → fieldOf v 0 15 ≠ 0 →
    completes (.amTune port n v) s (fun t =>
      if amAllowed s (fieldOf v 0 15) = true ∧ (s.lane (8 + n.val)).state ≠ .retired then
        tuneTaken s t (8 + n.val) (Reg.AMF.TUNE n.val) (lowWord (fieldOf v 0 15)) .lf (fieldOf v 0 15)
      else tuneRefused s t (Fld.AMF.CHG.REFUSED n.val) (Reg.AMF.CHG_EN n.val) (Ev.AMF.CHANGE n.val))) ∧
  (∀ (port : Port) (n : Fin 2) (v : Word) (s : State), lets s (Reg.DRM.TUNE n.val) = true → fieldOf v 0 17 ≠ 0 →
    completes (.drmTune port n v) s (fun t =>
      if drmAllowed s (v.getLsbD 17) (fieldOf v 0 17) = true ∧ (s.lane (18 + n.val)).state ≠ .retired then
        tuneTaken s t (18 + n.val) (Reg.DRM.TUNE n.val) (wordOf [(0, 17, fieldOf v 0 17), (17, 1, (v.getLsbD 17).toNat)])
          (if v.getLsbD 17 then .fm else .lf) (fieldOf v 0 17)
      else tuneRefused s t (Fld.DRM.CHG.REFUSED n.val) (Reg.DRM.CHG_EN n.val) (Ev.DRM.CHANGE n.val))) ∧
  (∀ (port : Port) (n : Fin 4) (v : Word) (s : State), lets s (Reg.DAB.TUNE n.val) = true →
    completes (.dabTune port n v) s (fun t =>
      if fieldOf v 0 6 ≤ 37 ∧ heldOff s .b3 = false ∧ (s.lane (14 + n.val)).state ≠ .retired then
        tuneTaken s t (14 + n.val) (Reg.DAB.TUNE n.val) (wordOf [(0, 6, fieldOf v 0 6), (7, 1, 1)]) .b3 (blockCentres.getD (fieldOf v 0 6) 0)
      else tuneRefused s t (Fld.DAB.CHG.REFUSED n.val) (Reg.DAB.CHG_EN n.val) (Ev.DAB.CHANGE n.val)))

/-- A release (R137, R164, R178, R194): a write of 0, or of EN 0 for a DAB engine, stores the word and in FULL posts the lane's release. It rests also
on the model's own readings: log entries 6 and 47. -/
def Obligations.ReleasesComplete : Prop :=
  (∀ (port : Port) (n : Fin 8) (v : Word) (s : State), lets s (Reg.FMF.TUNE n.val) = true →
    completes (.fmRelease port n v) s (fun t => tuneReleased s t n.val (Reg.FMF.TUNE n.val) 0)) ∧
  (∀ (port : Port) (n : Fin 6) (v : Word) (s : State), lets s (Reg.AMF.TUNE n.val) = true →
    completes (.amRelease port n v) s (fun t => tuneReleased s t (8 + n.val) (Reg.AMF.TUNE n.val) 0)) ∧
  (∀ (port : Port) (n : Fin 2) (v : Word) (s : State), lets s (Reg.DRM.TUNE n.val) = true →
    completes (.drmRelease port n v) s (fun t => tuneReleased s t (18 + n.val) (Reg.DRM.TUNE n.val) (wordOf [(17, 1, (v.getLsbD 17).toNat)]))) ∧
  (∀ (port : Port) (n : Fin 4) (v : Word) (s : State), lets s (Reg.DAB.TUNE n.val) = true →
    completes (.dabRelease port n v) s (fun t => tuneReleased s t (14 + n.val) (Reg.DAB.TUNE n.val) (wordOf [(0, 6, fieldOf v 0 6)])))

/-- RDS reception (R115, R147 to R152, R157, R158): a block in synchronisation counts, and the fourth of a group of the record's own PI updates the
record; the place expected next moves on; a block that a sprout searches changes nothing a consumer sees; the trigger expires, and an alarm ends out
of synchronisation. It rests also on the model's own readings: log entries 6, 41, 44, 47 and 110. -/
def Obligations.RdsCompletes : Prop :=
  (∀ (ctx : Fin 104) (obs : RdsObs) (s : State) (place bits : Nat) (b : RdsBlk), (s.lane (rdsLane ctx.val)).inUse = true →
    (s.lane (rdsLane ctx.val)).sync = true → place = (s.rdsCtx ctx.val).place 0 → bits = (s.rdsCtx ctx.val).bits 0 obs →
    b = rdsReceive (rdsEcc s ctx.val) place bits → (rdsRbds s ctx.val = true → rdsRemainder bits ≠ 0) →
    (s.rdsCtx ctx.val).armedTo = none → (place = 1 → (s.rdsCtx ctx.val).foreign = none) →
    (((b.cls :: (s.rdsCtx ctx.val).recent).take 25).filter (fun k => k == 3)).length < 20 → (s.rdsCtx ctx.val).misplaced < 5 →
    (addBlock (groupOf (s.rdsCtx ctx.val) 0) place b).length < 4 →
    completes (.rdsBlock ctx 0 obs) s (fun t =>
      (t.rdsCtx ctx.val).recent = (b.cls :: (s.rdsCtx ctx.val).recent).take 64 ∧
      (t.rdsCtx ctx.val).misplaced = (if (rdsPlaceOf bits).all (fun p => p == place) then 0 else (s.rdsCtx ctx.val).misplaced + 1) ∧
      groupOf (t.rdsCtx ctx.val) 0 = addBlock (groupOf (s.rdsCtx ctx.val) 0) place b ∧ (t.rdsCtx ctx.val).place 0 = place % 4 + 1 ∧
      (t.rdsCtx ctx.val).record = (s.rdsCtx ctx.val).record ∧ frame [.rds] [] s t)) ∧
  (∀ (ctx : Fin 104) (obs : RdsObs) (s : State) (g : List RdsBlk) (b : RdsBlk) (bits : Nat), (s.lane (rdsLane ctx.val)).inUse = true →
    (s.lane (rdsLane ctx.val)).sync = true → (s.rdsCtx ctx.val).place 0 = 4 → bits = (s.rdsCtx ctx.val).bits 0 obs →
    b = rdsReceive (rdsEcc s ctx.val) 4 bits → (rdsRbds s ctx.val = true → rdsRemainder bits ≠ 0) → (s.rdsCtx ctx.val).armedTo = none →
    (((b.cls :: (s.rdsCtx ctx.val).recent).take 25).filter (fun k => k == 3)).length < 20 → (s.rdsCtx ctx.val).misplaced < 5 →
    (groupOf (s.rdsCtx ctx.val) 0).length = 3 → g = groupOf (s.rdsCtx ctx.val) 0 ++ [b] →
    (groupBlk g 0).data = (s.rdsCtx ctx.val).record.pi → (groupBlk g 2).cPrime = false →
    completes (.rdsBlock ctx 0 obs) s (fun t =>
      (t.rdsCtx ctx.val).record = (s.rdsCtx ctx.val).record.take s.epoch (afCode (s.lane (rdsLane ctx.val)).khz) g ∧
      groupOf (t.rdsCtx ctx.val) 0 = [] ∧ (t.rdsCtx ctx.val).place 0 = 1 ∧
      ((groupBlk g 1).cls = 0 → (t.rdsCtx ctx.val).seenAt = some s.epoch ∧ (t.rdsCtx ctx.val).age = 0) ∧
      (1 < (groupBlk g 1).cls → (t.rdsCtx ctx.val).ptyRun = 0) ∧
      pageFrame ([.rds, .fm, .watchFifo, .pwr] ++ noticeParts) (0x000 :: noticePages) s t)) ∧
  (∀ (ctx : Fin 104) (obs : RdsObs) (s : State) (i : Nat) (p : Sprout) (bits : Nat) (b : RdsBlk), (s.lane (rdsLane ctx.val)).inUse = true →
    (s.lane (rdsLane ctx.val)).sync = false → rdsSprout s (rdsLane ctx.val) 0 = some i → bits = (s.rdsCtx ctx.val).bits 0 obs →
    p = (s.sprout i).search bits → b = rdsReceive 0 p.placeNow bits → (rdsRbds s ctx.val = true → rdsRemainder bits ≠ 0) →
    completes (.rdsBlock ctx 0 obs) s (fun t =>
      (t.rdsCtx ctx.val).record = (s.rdsCtx ctx.val).record ∧ (t.rdsCtx ctx.val).recent = (s.rdsCtx ctx.val).recent ∧
      (let g := addBlock (groupOf (s.rdsCtx ctx.val) 0) p.placeNow b
       t.sprout i = p.count p.placeNow b g obs.typeC (s.rdsCtx ctx.val).record.pi ∧
       groupOf (t.rdsCtx ctx.val) 0 = if g.length = 4 then [] else g) ∧
      frame [.rds, .mgr] [] s t)) ∧
  (∀ (ctx : Fin 104) (s : State) (e : Nat), (s.rdsCtx ctx.val).armedTo = some e → e ≤ s.epoch →
    completes (.captureTriggerExpire ctx) s (fun t =>
      t.rdsCtx ctx.val = { s.rdsCtx ctx.val with armedTo := none } ∧
      (∀ (d : Nat), d < 104 → d ≠ ctx.val → t.rdsCtx d = s.rdsCtx d) ∧ frame [.rds] [] s t)) ∧
  (∀ (lane : Fin 156) (s : State), laneClass lane.val = .fm ∨ laneClass lane.val = .rds → (s.rdsCtx (rdsIndex lane.val)).alarm = true →
    10000 ≤ (s.rdsCtx (rdsIndex lane.val)).outOfSync →
    completes (.alarmOutOfSyncTimeout lane) s (fun t =>
      t.rdsCtx (rdsIndex lane.val) = { s.rdsCtx (rdsIndex lane.val) with alarm := false, ptyRun := 0, ptyOff := 0 } ∧
      (laneClass lane.val = .fm → t.flag (Fld.FMF.CHG.ALARM_OFF lane.val) = true) ∧ (laneClass lane.val = .rds → raised t Ev.WRD.CHANGED) ∧
      frame [.rds, .twc, .fab] noticeRegs s t)) ∧
  (∀ (lane : Fin 156) (s : State), laneClass lane.val = .dab ∨ laneClass lane.val = .fic → (s.dabCtx (dabIndex lane.val)).alarm = true →
    10000 ≤ (s.dabCtx (dabIndex lane.val)).outOfSync →
    completes (.alarmOutOfSyncTimeout lane) s (fun t =>
      t.dabCtx (dabIndex lane.val) = { s.dabCtx (dabIndex lane.val) with alarm := false, aswFrames := 0, aswHere := false } ∧
      (laneClass lane.val = .fic → raised t Ev.WFC.CHANGED) ∧ frame [.dab, .twc, .fab] noticeRegs s t))

/-- What the FM lanes and the watch tables do beside blocks (R145, R149, R151, R152, R155, R156): an upper stream is acquired, AF entries are verified,
group FIFOs are consumed, an AF list is copied, ages follow, and the quality summary is posted. It rests also on the model's own readings: log
entries 6 and 47. -/
def Obligations.FmUpkeepCompletes : Prop :=
  (∀ (n : Fin 8) (stream : Fin 4) (s : State), stream.val ≠ 0 → s.flag (Fld.FMF.CTRL.RDS2_EN n.val) = true → (s.lane n.val).sync = true →
    (s.rdsCtx n.val).upper.contains stream.val = false → s.receiving = true →
    s.mgr.waiting.any (fun r => r.kind == .rds && r.lane == n.val && r.stream == stream.val) = false →
    plantedSlots s (fun y => y.lane == n.val && y.kind == some .rds && y.stream == stream.val) = [] →
    20 ≤ (((s.rdsCtx n.val).carrier.find? (fun y => y.1 == stream.val)).map (fun y => y.2)).getD 0 →
    completes (.rds2Acquire n stream) s (fun t =>
      sprouts s t { kind := .rds, lane := n.val, stream := stream.val } ∧
      pageFrame [.mgr, .aux, .fab, .twc] [0x00D, 0x010, 0x011, 0x012, 0x018, 0x062] s t)) ∧
  (∀ (s : State), s.time % (10 * epochTicks) = 0 →
    completes .afVerify s (fun t =>
      (∀ (c : Nat), c < 104 → t.rdsCtx c = (if (s.rdsCtx c).record.piValid then
        (let r := (s.rdsCtx c).record
         { s.rdsCtx c with record := { r with af := { r.af with entries := r.af.entries.map (verifyEntry s r.pi) } } })
        else s.rdsCtx c)) ∧
      frame [.rds, .twc, .fab] noticeRegs s t)) ∧
  (∀ (port : Port) (fifo : Fin 9) (v : Word) (s : State) (i : Nat), lets s (groupAckAddr fifo.val) = true →
    lowest (s.fifo fifo.val).groups.length (fun j => (((s.fifo fifo.val).groups[j]?).map (fun g => g.seq)) == some (fieldOf v 0 8)) = some i →
    completes (.groupAck port fifo v) s (fun t =>
      (t.fifo fifo.val).groups = (s.fifo fifo.val).groups.drop (i + 1) ∧ t.flag (fifoOverflow fifo.val) = false ∧
      (∀ (f : Nat), f < 9 → f ≠ fifo.val → t.fifo f = s.fifo f) ∧
      frame [.fm, .watchFifo, .fab] [(fifoOverflow fifo.val).addr] s t)) ∧
  (∀ (port : Port) (v : Word) (s : State) (l : AfList), lets s Reg.WRD.AF_SEL = true → fieldOf v 0 7 < 96 →
    l = (s.rdsCtx (8 + fieldOf v 0 7)).record.af →
    completes (.afSelCopy port v) s (fun t =>
      t.get Fld.WRD.AF_SEL.ENTRY = fieldOf v 0 7 ∧ t.word Reg.WRD.AF_STAT = l.status ∧
      (∀ (i : Nat), i < 13 → t.word (Reg.WRD.AF_VIEW i) = l.word i) ∧
      frame [.fab] ([Reg.WRD.AF_SEL, Reg.WRD.AF_STAT] ++ (List.range 13).map Reg.WRD.AF_VIEW) s t)) ∧
  (∀ (s : State),
    completes .watchAgeTick s (fun t =>
      (∀ (c : Nat), c < 104 → t.rdsCtx c = (if c < 8 then s.rdsCtx c else { s.rdsCtx c with age := ageSince s 255 (s.rdsCtx c).seenAt })) ∧
      (∀ (c : Nat), c < 20 → t.dabCtx c = (if c < 4 then s.dabCtx c else { s.dabCtx c with age := ageSince s 255 (s.dabCtx c).seenAt })) ∧
      t.ens = s.ens.map (fun e => { e with age := min 65535 ((s.epoch - e.seenAt) / 1000) }) ∧
      (∀ (a : Nat), a < 24 → t.get (Fld.WAM.A_W0.AGE a) = ageSince s 255 (s.watchAm a).seenAt) ∧
      frame [.rds, .dab, .ens] ((List.range 24).map Reg.WAM.A_W0) s t)) ∧
  (∀ (lane : Fin 14) (s : State) (q : QualSum), lane.val < 8 → s.time % (10 * epochTicks) = 0 → q = (s.fmLane lane.val).sum → q.used = true →
    q.epochs ≠ [] →
    completes (.qualitySummaryPost lane) s (fun t =>
      posted s t (4 + lane.val) [(Reg.FMF.QRES1 lane.val, summaryMeans q),
        (Reg.FMF.QRES2 lane.val, wordOf [(0, 8, ofSigned 8 (maximum (-128) (q.epochs.map (fun e => e.peakA)))),
          (8, 8, ofSigned 8 (maximum (-128) (q.epochs.map (fun e => e.peakB)))), (16, 8, blockErrors (s.rdsCtx lane.val).recent), (24, 8, q.concealed)]),
        (Reg.FMF.QRES_EPOCH lane.val, lowWord s.epoch)] ∧
      (t.fmLane lane.val).sum = {} ∧
      frame [.fm, .fab] [windowHeader (4 + lane.val), Reg.FMF.QRES1 lane.val, Reg.FMF.QRES2 lane.val, Reg.FMF.QRES_EPOCH lane.val] s t)) ∧
  (∀ (lane : Fin 14) (s : State) (q : QualSum), lane.val < 8 → s.time % (10 * epochTicks) = 0 → q = (s.fmLane lane.val).sum → q.used = true →
    q.epochs = [] →
    completes (.qualitySummaryPost lane) s (fun t => ∃ a b : Nat, a < 256 ∧ b < 256 ∧
      posted s t (4 + lane.val) [(Reg.FMF.QRES1 lane.val, 0x80008000),
        (Reg.FMF.QRES2 lane.val, wordOf [(0, 8, a), (8, 8, b), (16, 8, blockErrors (s.rdsCtx lane.val).recent), (24, 8, q.concealed)]),
        (Reg.FMF.QRES_EPOCH lane.val, lowWord s.epoch)] ∧
      (t.fmLane lane.val).sum = {} ∧
      frame [.fm, .fab, .free] [windowHeader (4 + lane.val), Reg.FMF.QRES1 lane.val, Reg.FMF.QRES2 lane.val, Reg.FMF.QRES_EPOCH lane.val] s t)) ∧
  (∀ (lane : Fin 14) (s : State) (q : QualSum), 8 ≤ lane.val → s.time % (10 * epochTicks) = 0 → q = (s.amLane (lane.val - 8)).sum → q.used = true →
    q.epochs ≠ [] →
    completes (.qualitySummaryPost lane) s (fun t =>
      (let n := lane.val - 8
       posted s t (12 + n) [(Reg.AMF.QRES1 n, summaryMeans q),
        (Reg.AMF.QRES2 n, wordOf [(0, 8, ofSigned 8 (maximum (-128) (q.epochs.map (fun e => e.peakA)))),
          (8, 8, ofSigned 8 (maximum (-128) (q.epochs.map (fun e => e.peakB)))), (16, 8, q.concealed)]),
        (Reg.AMF.QRES3 n, lowWord (min 65535 q.blanked)), (Reg.AMF.QRES_EPOCH n, lowWord s.epoch)]) ∧
      (t.amLane (lane.val - 8)).sum = {} ∧
      (let n := lane.val - 8
       frame [.am, .fab] [windowHeader (12 + n), Reg.AMF.QRES1 n, Reg.AMF.QRES2 n, Reg.AMF.QRES3 n, Reg.AMF.QRES_EPOCH n] s t)))

/-- A write of an ASSIGN register (R154, R173, R215): an entry outside the table's capacity or retired, one allocated automatically, or a frequency the
class does not take sets ASSIGN_ERR and does nothing; otherwise in WATCH and FULL the entry's retune or release is posted. It rests also on the
model's own readings: log entries 6, 45 and 107. -/
def Obligations.WatchAssignCompletes : Prop :=
  (∀ (port : Port) (tb : WatchTable) (v : Word) (s : State) (k : Nat), lets s (assignAddr tb) = true → autoWatch s (watchClass tb) = false →
    assignEntry tb v < s.get (Fld.LNM.CAPACITY.COUNT (watchClass tb).idx) → (s.lane ((watchClass tb).base + assignEntry tb v)).state ≠ .retired →
    assignKhz s tb v = some k → (tb = .fic → engineHolds s k = false) → s.receiving = true →
    completes (.watchAssign port tb v) s (fun t =>
      asked s t (.tune ((watchClass tb).base + assignEntry tb v) (watchClass tb).path k true) 0 ∧ t.flag (assignErr tb) = false ∧
      frame [.fab, .plan] ((assignErr tb).addr :: planWords) s t)) ∧
  (∀ (port : Port) (tb : WatchTable) (v : Word) (s : State), lets s (assignAddr tb) = true →
    autoWatch s (watchClass tb) = true ∨ s.get (Fld.LNM.CAPACITY.COUNT (watchClass tb).idx) ≤ assignEntry tb v ∨
      (s.lane ((watchClass tb).base + assignEntry tb v)).state = .retired ∨ assignKhz s tb v = none →
    completes (.watchAssign port tb v) s (fun t => t.flag (assignErr tb) = true ∧ frame [.fab] [(assignErr tb).addr] s t)) ∧
  (∀ (port : Port) (tb : WatchTable) (v : Word) (s : State), lets s (assignAddr tb) = true → autoWatch s (watchClass tb) = false →
    assignEntry tb v < s.get (Fld.LNM.CAPACITY.COUNT (watchClass tb).idx) → (s.lane ((watchClass tb).base + assignEntry tb v)).state ≠ .retired →
    s.receiving = true →
    completes (.watchRelease port tb v) s (fun t =>
      asked s t (.release ((watchClass tb).base + assignEntry tb v)) 0 ∧ t.flag (assignErr tb) = false ∧
      frame [.fab, .plan] ((assignErr tb).addr :: planWords) s t)) ∧
  (∀ (port : Port) (tb : WatchTable) (v : Word) (s : State), lets s (assignAddr tb) = true →
    autoWatch s (watchClass tb) = true ∨ s.get (Fld.LNM.CAPACITY.COUNT (watchClass tb).idx) ≤ assignEntry tb v ∨
      (s.lane ((watchClass tb).base + assignEntry tb v)).state = .retired →
    completes (.watchRelease port tb v) s (fun t => t.flag (assignErr tb) = true ∧ frame [.fab] [(assignErr tb).addr] s t))


/-! ## AM and DRM (chapter 7) -/

/-- AM lanes (R165, R171, R172): the control word is stored, the carrier loop's lock follows the carrier, AMSS blocks count and queue, and a host
acknowledgement consumes them. It rests also on the model's own readings: log entry 6. -/
def Obligations.AmLanesComplete : Prop :=
  (∀ (port : Port) (n : Fin 6) (v : Word) (s : State), lets s (Reg.AMF.CTRL n.val) = true →
    completes (.amConfigWrite port n v) s (fun t =>
      t.word (Reg.AMF.CTRL n.val) = afterWrite s port (Reg.AMF.CTRL n.val) v ∧ frame [.fab] [Reg.AMF.CTRL n.val] s t)) ∧
  (∀ (n : Fin 6) (s : State), s.laneInUse (8 + n.val) = true → 100 ≤ (s.amLane n.val).above →
    completes (.amCarrierLock n) s (fun t =>
      t.flag (Fld.AMF.STAT.LOCK n.val) = true ∧ (s.flag (Fld.AMF.STAT.LOCK n.val) = false → t.flag (Fld.AMF.CHG.LOCK n.val) = true) ∧
      wrote s t (Fld.AMF.STAT.LOCK n.val) 1 ∧ frame [.twc, .fab] (Reg.AMF.STAT n.val :: noticeRegs) s t)) ∧
  (∀ (n : Fin 6) (s : State), 20 ≤ (s.amLane n.val).below →
    completes (.amCarrierUnlock n) s (fun t =>
      t.flag (Fld.AMF.STAT.LOCK n.val) = false ∧ (s.flag (Fld.AMF.STAT.LOCK n.val) = true → t.flag (Fld.AMF.CHG.LOCK n.val) = true) ∧
      wrote s t (Fld.AMF.STAT.LOCK n.val) 0 ∧ frame [.twc, .fab] (Reg.AMF.STAT n.val :: noticeRegs) s t)) ∧
  (∀ (lane : Fin 30) (obs : AmssObs) (s : State), lane.val < 6 → (s.lane (8 + lane.val)).live = true → s.flag (Fld.AMF.CTRL.AMSS_EN lane.val) = true →
    s.flag (Fld.AMF.STAT.LOCK lane.val) = true → obs.ok = false →
    completes (.amssBlock lane obs) s (fun t =>
      t.amLane lane.val = { s.amLane lane.val with amss := (s.amLane lane.val).amss.block false } ∧
      (t.amLane lane.val).amss.fails = (s.amLane lane.val).amss.fails + 1 ∧
      frame [.am, .twc, .fab] noticeRegs s t)) ∧
  (∀ (lane : Fin 30) (obs : AmssObs) (s : State), lane.val < 6 → (s.lane (8 + lane.val)).live = true → s.flag (Fld.AMF.CTRL.AMSS_EN lane.val) = true →
    s.flag (Fld.AMF.STAT.LOCK lane.val) = true → obs.ok = true → (s.amLane lane.val).fifo.length < 16 →
    (obs.ident.isSome = true → (s.amLane lane.val).amss.candidate ≠ obs.ident) →
    completes (.amssBlock lane obs) s (fun t =>
      (t.amLane lane.val).fifo = (s.amLane lane.val).fifo ++
        [{ seq := (s.amLane lane.val).next, bits := obs.bits % 2 ^ 48, len := obs.len, epoch := s.epoch }] ∧
      (t.amLane lane.val).next = ((s.amLane lane.val).next + 1) % 256 ∧ (t.amLane lane.val).amss.sync = true ∧ (t.amLane lane.val).amss.fails = 0 ∧
      (obs.ident.isSome = true → (t.amLane lane.val).amss.candidate = obs.ident) ∧
      ((s.amLane lane.val).fifo.length + 1 = s.get (Fld.AMF.AMSS_CFG.THRESH lane.val) → raised t (Ev.AMF.AMSS lane.val)) ∧
      t.word (Reg.AMF.AMSS_SI lane.val) = s.word (Reg.AMF.AMSS_SI lane.val) ∧ frame [.am, .twc, .fab] noticeRegs s t)) ∧
  (∀ (lane : Fin 30) (obs : AmssObs) (s : State) (id : Nat × Nat), lane.val < 6 → (s.lane (8 + lane.val)).live = true →
    s.flag (Fld.AMF.CTRL.AMSS_EN lane.val) = true → s.flag (Fld.AMF.STAT.LOCK lane.val) = true → obs.ok = true → obs.ident = some id →
    (s.amLane lane.val).amss.candidate = some id → (s.word (Reg.AMF.AMSS_SI lane.val)).getLsbD 28 = false →
    completes (.amssBlock lane obs) s (fun t =>
      t.word (Reg.AMF.AMSS_SI lane.val) = wordOf [(0, 24, id.1), (24, 4, id.2), (28, 1, 1)] ∧ t.flag (Fld.AMF.CHG.SI lane.val) = true ∧
      frame [.am, .twc, .fab] ([Reg.AMF.AMSS_SI lane.val, Reg.AMF.AMSS_DROP lane.val, Reg.AMF.AMSS_STAT lane.val] ++ noticeRegs) s t)) ∧
  (∀ (lane : Fin 30) (obs : AmssObs) (s : State) (id : Nat × Nat), 6 ≤ lane.val → (s.lane (126 + lane.val)).live = true →
    s.flag (Fld.WAM.A_W0.CARRIER (lane.val - 6)) = true → obs.ok = true → obs.ident = some id →
    (s.watchAm (lane.val - 6)).amss.candidate = some id →
    completes (.amssBlock lane obs) s (fun t =>
      t.word (Reg.WAM.A_W3 (lane.val - 6)) = lowWord s.epoch ∧
      (amssHeld s (Reg.WAM.A_W2 (lane.val - 6)) = none →
        t.word (Reg.WAM.A_W2 (lane.val - 6)) = wordOf [(0, 24, id.1), (24, 4, id.2), (28, 1, 1)] ∧ raised t Ev.WAM.AMSS) ∧
      (∀ old, amssHeld s (Reg.WAM.A_W2 (lane.val - 6)) = some old → old ≠ id → (s.watchAm (lane.val - 6)).amss.next ≠ some id →
        (t.watchAm (lane.val - 6)).amss.next = some id ∧ t.word (Reg.WAM.A_W2 (lane.val - 6)) = s.word (Reg.WAM.A_W2 (lane.val - 6)) ∧
        raised t Ev.WAM.AMSS) ∧
      frame [.amWatch, .twc, .fab] ([Reg.WAM.A_W2 (lane.val - 6), Reg.WAM.A_W3 (lane.val - 6)] ++ noticeRegs) s t)) ∧
  (∀ (port : Port) (n : Fin 6) (v : Word) (s : State) (i : Nat), lets s (Reg.AMF.AMSS_ACK n.val) = true →
    lowest (s.amLane n.val).fifo.length (fun j => (((s.amLane n.val).fifo[j]?).map (fun r => r.seq)) == some (fieldOf v 0 8)) = some i →
    completes (.amssAck port n v) s (fun t =>
      t.amLane n.val = { s.amLane n.val with fifo := (s.amLane n.val).fifo.drop (i + 1) } ∧ t.flag (Fld.AMF.AMSS_STAT.OVERFLOW n.val) = false ∧
      frame [.am, .fab] [Reg.AMF.AMSS_STAT n.val] s t))

/-- AM watch entries (R174, R175): CARRIER follows the carrier, and DRM is found on two windows of one mode and lost after five without. It rests also
on the model's own readings: log entry 6. -/
def Obligations.AmWatchCompletes : Prop :=
  (∀ (a : Fin 24) (s : State), (s.lane (132 + a.val)).live = true → 200 ≤ (s.watchAm a.val).above → s.flag (Fld.WAM.A_W0.CARRIER a.val) = false →
    completes (.watchCarrierSet a) s (fun t =>
      t.flag (Fld.WAM.A_W0.CARRIER a.val) = true ∧ t.get (Fld.WAM.A_W0.AGE a.val) = 0 ∧ (t.watchAm a.val).seenAt = some s.epoch ∧
      raised t Ev.WAM.CHANGED ∧ frame [.amWatch, .twc, .fab] (Reg.WAM.A_W0 a.val :: noticeRegs) s t)) ∧
  (∀ (a : Fin 24) (s : State), 200 ≤ (s.watchAm a.val).below →
    completes (.watchCarrierClear a) s (fun t =>
      t.flag (Fld.WAM.A_W0.CARRIER a.val) = false ∧ wrote s t (Fld.WAM.A_W0.CARRIER a.val) 0 ∧
      (s.flag (Fld.WAM.A_W0.CARRIER a.val) = true → raised t Ev.WAM.CHANGED) ∧ frame [.twc, .fab] (Reg.WAM.A_W0 a.val :: noticeRegs) s t)) ∧
  (∀ (a : Fin 24) (mode : Option (Fin 4)) (s : State) (m : Fin 4), mode = some m → (s.lane (132 + a.val)).live = true →
    completes (.drmDetectWindow a mode) s (fun t =>
      (t.watchAm a.val).lastMode = some m.val ∧ (t.watchAm a.val).misses = 0 ∧
      ((s.watchAm a.val).lastMode = some m.val → t.flag (Fld.WAM.A_W0.DRM a.val) = true ∧ t.get (Fld.WAM.A_W0.DRM_MODE a.val) = m.val ∧
        (s.flag (Fld.WAM.A_W0.DRM a.val) = false → raised t Ev.WAM.DRM_FOUND ∧ t.get Fld.WAM.FOUND_SRC.LANE = 132 + a.val)) ∧
      ((s.watchAm a.val).lastMode ≠ some m.val → t.word (Reg.WAM.A_W0 a.val) = s.word (Reg.WAM.A_W0 a.val)) ∧
      frame [.amWatch, .twc, .fab] ([Reg.WAM.A_W0 a.val, Reg.WAM.FOUND_SRC] ++ noticeRegs) s t)) ∧
  (∀ (a : Fin 24) (s : State), (s.lane (132 + a.val)).live = true →
    completes (.drmDetectWindow a none) s (fun t =>
      (t.watchAm a.val).lastMode = none ∧ (t.watchAm a.val).misses = (s.watchAm a.val).misses + 1 ∧
      (5 ≤ (s.watchAm a.val).misses + 1 → t.flag (Fld.WAM.A_W0.DRM a.val) = false ∧ t.get (Fld.WAM.A_W0.DRM_MODE a.val) = 7) ∧
      frame [.amWatch, .twc, .fab] (Reg.WAM.A_W0 a.val :: noticeRegs) s t))

/-- DRM engines (R126, R179 to R184): a frame counts its FAC, stores its readings and asks for its frequency correction; a selection is stored, and
matched in FULL; a freed decode context goes to the first that waits; audio frames count. It rests also on the model's own readings: log entries 6,
26 and 111. -/
def Obligations.DrmCompletes : Prop :=
  (∀ (n : Fin 2) (obs : DrmObs) (s : State), (s.lane (18 + n.val)).live = true → obs.texts = [] → obs.data = [] → obs.sdc = none →
    completes (.drmFrame n obs) s (fun t =>
      (if obs.fac.isSome then t.get (Fld.DRM.FAC_CNT.OK n.val) = (s.get (Fld.DRM.FAC_CNT.OK n.val) + 1) % 65536
       else t.get (Fld.DRM.FAC_CNT.ERR n.val) = (s.get (Fld.DRM.FAC_CNT.ERR n.val) + 1) % 65536) ∧
      (t.drmEng n.val).facFails = (if facPasses s n.val obs.fac then 0 else (s.drmEng n.val).facFails + 1) ∧
      t.word (Reg.DRM.QUAL0 n.val) = wordOf [(0, 16, ofSigned 16 obs.level), (16, 16, ofSigned 16 obs.mer)] ∧
      t.word (Reg.DRM.QUAL1 n.val) = wordOf [(0, 16, ofSigned 16 obs.wmer), (16, 16, ofSigned 16 obs.fofs)] ∧
      t.word (Reg.DRM.QUAL2 n.val) = wordOf [(0, 12, obs.doppler), (16, 12, obs.delay)] ∧
      (t.drmEng n.val).newConfig = (obs.newConfig || (s.drmEng n.val).newConfig) ∧ asked s t (.afc (18 + n.val) obs.afc) 0 ∧
      pageFrame ([.drm, .plan, .mgr, .flt] ++ noticeParts) ([0x000, 0x018, 0x040, 0x071] ++ noticePages) s t)) ∧
  (∀ (n : Fin 2) (obs : DrmObs) (s : State) (svcs : List DrmSvcObs), (s.lane (18 + n.val)).live = true → obs.sdc = some (true, svcs) →
    completes (.drmFrame n obs) s (fun t =>
      t.get (Fld.DRM.SDC_CNT.OK n.val) = (s.get (Fld.DRM.SDC_CNT.OK n.val) + 1) % 65536 ∧
      (t.drmEng n.val).services = (if obs.newConfig = true ∨ (s.drmEng n.val).newConfig = true ∨ s.flag (Fld.DRM.STAT.SDC_VALID n.val) = false then [] else
        (s.drmEng n.val).services.filter (fun x => (svcs.map drmService).all (fun y => y.shortId != x.shortId))) ++ svcs.map drmService ∧
      (t.drmEng n.val).newConfig = false ∧ asked s t (.afc (18 + n.val) obs.afc) 0 ∧
      pageFrame ([.drm, .plan, .mgr, .flt, .decoders, .queues, .slots] ++ noticeParts) ([0x000, 0x018, 0x040, 0x071] ++ noticePages) s t)) ∧
  (∀ (port : Port) (n : Fin 2) (k : Fin 4) (v : Word) (s : State), lets s (Reg.DRM.SVC_SEL n.val k.val) = true → s.pwr.mode ≠ .full →
    completes (.drmServiceSelect port n k v) s (fun t =>
      t.word (Reg.DRM.SVC_SEL n.val k.val) = afterWrite s port (Reg.DRM.SVC_SEL n.val k.val) v ∧
      frame [.fab, .twc] (Reg.DRM.SVC_SEL n.val k.val :: noticeRegs) s t)) ∧
  (∀ (port : Port) (n : Fin 2) (k : Fin 4) (v : Word) (s : State), lets s (Reg.DRM.SVC_SEL n.val k.val) = true → s.pwr.mode = .full →
    completes (.drmServiceSelect port n k v) s (fun t =>
      t.word (Reg.DRM.SVC_SEL n.val k.val) = afterWrite s port (Reg.DRM.SVC_SEL n.val k.val) v ∧
      (v.getLsbD 24 = false → t.word (Reg.DRM.SVC_STAT n.val k.val) = 0 ∧ decoderOf t { drm := true, engine := n.val, sel := k.val } = none) ∧
      ((s.lane (18 + n.val)).live = true → s.flag (Fld.DRM.STAT.SDC_VALID n.val) = true → v.getLsbD 24 = true →
        t.flag (Fld.DRM.SVC_STAT.PRESENT n.val k.val) = (s.drmEng n.val).services.any (fun x => x.sid == fieldOf v 0 24)) ∧
      frame [.fab, .twc, .decoders, .slots] ([Reg.DRM.SVC_SEL n.val k.val] ++ (List.range 4).map (Reg.DRM.SVC_STAT n.val) ++ noticeRegs) s t)) ∧
  (∀ (s : State) (u : DecUser) (rest : List DecUser) (c : Nat), s.time % epochTicks = 0 → s.decWait = u :: rest → rest.contains u = false →
    mayDecode s u = true → freeDecoder s = some c →
    completes .decoderFreed s (fun t =>
      at' t.decoders c none = some u ∧ t.decWait.contains u = false ∧
      pageFrame [.decoders, .fab, .twc] ([0x030, 0x031, 0x032, 0x033, 0x034, 0x035] ++ noticePages) s t)) ∧
  (∀ (n : Fin 2) (k : Fin 4) (ok : Bool) (ms : Nat) (s : State), s.flag (Fld.DRM.SVC_STAT.DECODING n.val k.val) = true →
    (s.lane (18 + n.val)).live = true →
    completes (.audioFrame n k ok ms) s (fun t =>
      (if ok then t.get (Fld.DRM.SVC_AUD.OK n.val k.val) = (s.get (Fld.DRM.SVC_AUD.OK n.val k.val) + 1) % 65536
       else t.get (Fld.DRM.SVC_AUD.ERR n.val k.val) = (s.get (Fld.DRM.SVC_AUD.ERR n.val k.val) + 1) % 65536) ∧
      (t.drmEng n.val).silent.find? (fun x => x.1 == k.val) = some (k.val, if ok then 0 else
        (((s.drmEng n.val).silent.find? (fun x => x.1 == k.val)).map (fun x => x.2)).getD 0 + ms) ∧
      frame [.drm] [Reg.DRM.SVC_AUD n.val k.val] s t))

/-! ## DAB and the data queues (chapter 8) -/

/-- DAB frames (R126, R197, R198, R218): the frame of an engine counts its FIBs, keeps its quality words for the boundary and asks for its frequency
correction; a watch entry keeps its words; a sprout counts nulls in succession and its first FIBs, and asks for its engine's AFC (R117). It rests
also on the model's own readings: log entries 6 and 26. -/
def Obligations.DabFramesComplete : Prop :=
  (∀ (lane : Fin 20) (obs : DabObs) (s : State), lane.val < 4 → (s.lane (14 + lane.val)).live = true → (s.lane (14 + lane.val)).sync = true →
    obs.packets = [] → obs.data = [] →
    completes (.dabFrame lane obs) s (fun t =>
      t.get (Fld.DAB.FIB_CNT.OK lane.val) = (s.get (Fld.DAB.FIB_CNT.OK lane.val) + (obs.fibs.filter (fun b => b)).length) % 65536 ∧
      t.get (Fld.DAB.FIB_CNT.ERR lane.val) = (s.get (Fld.DAB.FIB_CNT.ERR lane.val) + (obs.fibs.filter (fun b => !b)).length) % 65536 ∧
      (t.dabCtx lane.val).nullAt = some s.epoch ∧ (t.dabCtx lane.val).fibs = (obs.fibs.reverse ++ (s.dabCtx lane.val).fibs).take 120 ∧
      (t.dabCtx lane.val).erased = erasedSymbols obs.start (dabGaps s lane.val) ∧
      (t.dabCtx lane.val).qual = some (wordOf [(0, 16, ofSigned 16 obs.level), (16, 16, ofSigned 16 obs.snr)],
        wordOf [(0, 16, ofSigned 16 obs.fofs), (16, 16, ofSigned 16 (s.dabCtx lane.val).window)], wordOf [(0, 16, min 65535 obs.cber), (16, 12, obs.delay)]) ∧
      (t.dabCtx lane.val).window = (if (obs.target - (s.dabCtx lane.val).window).natAbs < 8 then (s.dabCtx lane.val).window else obs.target) ∧
      asked s t (.afc (14 + lane.val) obs.afc) 0 ∧
      pageFrame ([.dab, .plan, .mgr, .flt] ++ noticeParts) ([0x000, 0x018, 0x040, 0x071] ++ noticePages) s t)) ∧
  (∀ (lane : Fin 20) (obs : DabObs) (s : State), 4 ≤ lane.val → (s.lane (112 + lane.val)).live = true → (s.lane (112 + lane.val)).sync = true →
    completes (.dabFrame lane obs) s (fun t =>
      (t.dabCtx lane.val).nullAt = some s.epoch ∧ (t.dabCtx lane.val).fibs = (obs.fibs.reverse ++ (s.dabCtx lane.val).fibs).take 120 ∧
      ((t.dabCtx lane.val).qual.map (fun q => q.1)) = some (wordOf [(0, 16, ofSigned 16 obs.level), (16, 16, ofSigned 16 obs.snr)]) ∧
      ((t.dabCtx lane.val).nullMisses < 4 → (t.dabCtx lane.val).fibMisses < 10 → frame [.dab, .twc, .fab] noticeRegs s t))) ∧
  (∀ (lane : Fin 20) (obs : DabObs) (s : State), (s.lane (dabLane lane.val)).live = false ∨ (s.lane (dabLane lane.val)).sync = false →
    completes (.dabFrame lane obs) s (fun t =>
      (t.dabCtx lane.val).nullAt = some s.epoch ∧
      (∀ i ∈ sproutsOn s .dab (dabLane lane.val),
        (t.sprout i).passes = (if frameHidden obs.start (dabGaps s lane.val) = true ∨ obs.null = false then 0 else (s.sprout i).passes + 1) ∧
        (t.sprout i).fibs = (if frameHidden obs.start (dabGaps s lane.val) then [] else ((s.sprout i).fibs ++ obs.fibs).take 4)) ∧
      (lane.val < 4 → sproutsOn s .dab (dabLane lane.val) ≠ [] → asked s t (.afc (dabLane lane.val) obs.afc) 0) ∧
      (sproutsOn s .dab (dabLane lane.val) = [] → frame [.dab] [] s t) ∧ frame [.dab, .mgr, .plan] planWords s t))

/-- The FIC database (R115, R200 to R204, R216): a FIB of a lane in synchronisation enters it, one that a sprout gathers waits in its shadow; the
announced configuration applies, lapsed services and sets and aged ensembles leave, and an alarm times out. It rests also on the model's own
readings: log entries 6, 40 and 113. -/
def Obligations.DatabaseCompletes : Prop :=
  (∀ (lane : Fin 20) (figs : List Fig) (s : State), laneBlock s (dabLane lane.val) ≠ 63 → (s.lane (dabLane lane.val)).live = true →
    (s.lane (dabLane lane.val)).sync = true →
    completes (.fibReceived lane figs) s (fun t =>
      (t.dabCtx lane.val).seenAt = some s.epoch ∧ (t.dabCtx lane.val).age = 0 ∧ (ensembleOf t (laneBlock s (dabLane lane.val))).isSome = true ∧
      pageFrame ([.dab, .ens, .links, .decoders, .pwr, .slots] ++ noticeParts) (0x000 :: noticePages) s t)) ∧
  (∀ (lane : Fin 20) (ecc : Nat) (lto : Int) (s : State) (e : Ensemble), (s.lane (dabLane lane.val)).live = true →
    (s.lane (dabLane lane.val)).sync = true → laneBlock s (dabLane lane.val) ≠ 63 → ensembleOf s (laneBlock s (dabLane lane.val)) = some e →
    completes (.fibReceived lane [.country ecc lto]) s (fun t =>
      ensembleOf t (laneBlock s (dabLane lane.val)) = some { e with seenAt := s.epoch, age := 0, ecc := ecc, lto := ofSigned 8 lto })) ∧
  (∀ (lane : Fin 20) (figs : List Fig) (s : State), laneBlock s (dabLane lane.val) ≠ 63 →
    (s.lane (dabLane lane.val)).live = false ∨ (s.lane (dabLane lane.val)).sync = false → dabSprout s (dabLane lane.val) = true →
    completes (.fibReceived lane figs) s (fun t =>
      (t.dabCtx lane.val).shadow = (s.dabCtx lane.val).shadow ++ [(s.epoch, (s.dabCtx lane.val).nullAt.getD s.epoch, figs)] ∧
      frame [.dab] [] s t)) ∧
  (∀ (lane : Fin 20) (s : State), (s.dabCtx lane.val).alarm = true → (s.dabCtx lane.val).aswEpoch + 2000 ≤ s.epoch →
    completes (.dabAlarmTimeout lane) s (fun t =>
      t.dabCtx lane.val = { s.dabCtx lane.val with alarm := false, aswFrames := 0, aswHere := false } ∧
      (4 ≤ lane.val → raised t Ev.WFC.CHANGED) ∧ frame [.dab, .twc, .fab] noticeRegs s t)) ∧
  (∀ (block : Nat) (s : State) (e : Ensemble), ensembleOf s block = some e → e.changeCif.isSome = true →
    completes (.dabReconfig block) s (fun t =>
      ((ensembleOf t block).map (fun x => (x.subchs, x.services.map (fun y => (y.sid, y.data, y.comps)), x.nextSubchs, x.nextServices, x.changeCif))) =
        some (if e.changeFlags.testBit 0 then e.nextSubchs else e.subchs,
          (if e.changeFlags.testBit 1 then e.nextServices else e.services).map (fun y => (y.sid, y.data, y.comps)), [], [], none) ∧
      (∀ (n : Nat), n < 4 → laneBlock s (14 + n) = block → (s.lane (14 + n)).live = true → t.flag (Fld.DAB.CHG.RECONFIG n) = true) ∧
      pageFrame ([.ens, .links, .dab, .decoders, .slots] ++ noticeParts) noticePages s t)) ∧
  (∀ (block sid : Nat) (s : State) (e : Ensemble), ensembleOf s block = some e → e.services.any (fun x => x.sid == sid && decide (30000 ≤ x.unseen)) = true →
    completes (.serviceLapse block sid) s (fun t =>
      ensembleOf t block = some { e with services := e.services.filter (fun x => x.sid != sid) } ∧
      pageFrame ([.ens, .dab, .decoders, .slots] ++ noticeParts) noticePages s t)) ∧
  (∀ (block : Nat) (s : State) (e : Ensemble), ensembleOf s block = some e → s.get Fld.WFC.DB_HOLD.SECONDS ≤ (s.epoch - e.seenAt) / 1000 →
    completes (.ensembleDelete block) s (fun t =>
      t.ens = s.ens.filter (fun x => x.block != block) ∧
      t.links = (s.links.filter (fun x => x.suppliers.any (fun b => b != block))).map (fun x => { x with suppliers := x.suppliers.filter (fun b => b != block) }) ∧
      pageFrame ([.ens, .links, .dab, .decoders, .slots] ++ noticeParts) noticePages s t)) ∧
  (∀ (index : Nat) (s : State) (x : LinkSet), s.links[index]? = some x → 120000 ≤ x.unseen →
    completes (.linkageLapse index) s (fun t =>
      t.links = s.links.eraseIdx index ∧ frame ([.links, .slots] ++ noticeParts) noticeRegs s t))

/-- DAB selections (R183, R205, R207 to R209, R333): a written selection is stored, and in FULL matched against the configuration in force; Layer II
frames and DAB+ superframes of a selection that decodes are counted and concealed. It rests also on the model's own readings: log entries 6 and 112.
-/
def Obligations.DabSelectionsComplete : Prop :=
  (∀ (port : Port) (n : Fin 4) (k : Fin 6) (ctrl : Bool) (v : Word) (s : State), lets s (selAddr n.val k.val ctrl) = true → s.pwr.mode ≠ .full →
    completes (.dabSelect port n k ctrl v) s (fun t =>
      t.word (selAddr n.val k.val ctrl) = afterWrite s port (selAddr n.val k.val ctrl) v ∧
      frame [.fab, .twc] (selAddr n.val k.val ctrl :: noticeRegs) s t)) ∧
  (∀ (port : Port) (n : Fin 4) (k : Fin 6) (ctrl : Bool) (v : Word) (s : State), lets s (selAddr n.val k.val ctrl) = true → s.pwr.mode = .full →
    completes (.dabSelect port n k ctrl v) s (fun t =>
      t.word (selAddr n.val k.val ctrl) = afterWrite s port (selAddr n.val k.val ctrl) v ∧
      (t.flag (Fld.DAB.SEL_CTRL.EN n.val k.val) = false → t.word (Reg.DAB.SEL_STAT n.val k.val) = 0 ∧
        decoderOf t { drm := false, engine := n.val, sel := k.val } = none) ∧
      ((s.lane (14 + n.val)).live = true → t.flag (Fld.DAB.SEL_STAT.PRESENT n.val k.val) = (selComponent t n.val k.val).isSome) ∧
      frame [.fab, .twc, .decoders, .dab, .slots] ([selAddr n.val k.val ctrl, Reg.DAB.STAT n.val] ++ (List.range 6).map (Reg.DAB.SEL_STAT n.val) ++ noticeRegs) s t)) ∧
  (∀ (n : Fin 4) (k : Fin 6) (ok : Bool) (scfErrors ms : Nat) (s : State) (bad : Bool), decodes s n.val k.val = true →
    bad = (!ok || decide (0 < scfErrors) || (decide (0 < ms / 24) && decide (ms / 24 ≤ (at' (s.dabCtx n.val).sels k.val {}).refill))) →
    completes (.layer2Frame n k ok scfErrors ms []) s (fun t =>
      (if ok then t.get (Fld.DAB.ERR_W0.UNIT_OK n.val k.val) = (s.get (Fld.DAB.ERR_W0.UNIT_OK n.val k.val) + 1) % 65536
       else t.get (Fld.DAB.ERR_W0.UNIT_FAIL n.val k.val) = (s.get (Fld.DAB.ERR_W0.UNIT_FAIL n.val k.val) + 1) % 65536) ∧
      (if scfErrors = 0 then t.get (Fld.DAB.ERR_W2.AU_OK n.val k.val) = (s.get (Fld.DAB.ERR_W2.AU_OK n.val k.val) + 1) % 65536
       else t.get (Fld.DAB.ERR_W2.AU_FAIL n.val k.val) = (s.get (Fld.DAB.ERR_W2.AU_FAIL n.val k.val) + 1) % 65536) ∧
      t.get (Fld.DAB.ERR_W3.CONCEALED n.val k.val) = (s.get (Fld.DAB.ERR_W3.CONCEALED n.val k.val) + bad.toNat) % 65536 ∧
      (at' (t.dabCtx n.val).sels k.val {}).silent = (if bad then (at' (s.dabCtx n.val).sels k.val {}).silent + ms else 0) ∧
      (at' (t.dabCtx n.val).sels k.val {}).refill = (at' (s.dabCtx n.val).sels k.val {}).refill - ms / 24 ∧
      frame [.dab] [Reg.DAB.ERR_W0 n.val k.val, Reg.DAB.ERR_W2 n.val k.val, Reg.DAB.ERR_W3 n.val k.val] s t)) ∧
  (∀ (n : Fin 4) (k : Fin 6) (obs : SuperframeObs) (s : State) (on : Bool), decodes s n.val k.val = true →
    s.flag (Fld.DAB.SEL_STAT.DABPLUS n.val k.val) = true → otherPhase s n.val k.val obs = false → obs.dls = [] → obs.data = [] →
    on = ((at' (s.dabCtx n.val).sels k.val {}).firecode (s.flag (Fld.DAB.SEL_STAT.SF_SYNC n.val k.val)) obs.phase obs.firecode).2 →
    completes (.dabplusSuperframe n k obs) s (fun t =>
      t.flag (Fld.DAB.SEL_STAT.SF_SYNC n.val k.val) = on ∧
      (let pass := (obs.aus.filter (fun b => b)).length
       t.get (Fld.DAB.ERR_W2.AU_OK n.val k.val) = (s.get (Fld.DAB.ERR_W2.AU_OK n.val k.val) + pass) % 65536 ∧
       t.get (Fld.DAB.ERR_W2.AU_FAIL n.val k.val) = (s.get (Fld.DAB.ERR_W2.AU_FAIL n.val k.val) + (obs.aus.length - pass)) % 65536 ∧
       t.get (Fld.DAB.ERR_W3.CONCEALED n.val k.val) = (s.get (Fld.DAB.ERR_W3.CONCEALED n.val k.val) +
         (if on = true ∧ (at' (s.dabCtx n.val).sels k.val {}).refill < 5 then obs.aus.length - pass else obs.aus.length)) % 65536) ∧
      t.get (Fld.DAB.ERR_W1.RS_CORR n.val k.val) = (s.get (Fld.DAB.ERR_W1.RS_CORR n.val k.val) + rsCorrected obs.words) % 65536 ∧
      t.get (Fld.DAB.ERR_W1.RS_FAIL n.val k.val) = (s.get (Fld.DAB.ERR_W1.RS_FAIL n.val k.val) + rsFailed obs.words) % 65536 ∧
      (on = true → obs.firecode = true → t.flag (Fld.DAB.SEL_STAT.SBR n.val k.val) = obs.sbr ∧ t.get (Fld.DAB.SEL_STAT.RATE n.val k.val) = obs.rate % 4) ∧
      frame [.dab, .twc, .fab] ([Reg.DAB.SEL_STAT n.val k.val, Reg.DAB.ERR_W0 n.val k.val, Reg.DAB.ERR_W1 n.val k.val,
        Reg.DAB.ERR_W2 n.val k.val, Reg.DAB.ERR_W3 n.val k.val] ++ noticeRegs) s t))

/-- The data queues (R212, R213): a configuration is refused where the units do not suffice, else takes effect on the next boundary; an acknowledgement
consumes records. It rests also on the model's own readings: log entry 6. -/
def Obligations.QueuesComplete : Prop :=
  (∀ (port : Port) (q : Fin 16) (v : Word) (s : State), lets s (Reg.SDQ.QCFG q.val) = true →
    queueUnits (s.setWord (Reg.SDQ.QCFG q.val) (afterWrite s port (Reg.SDQ.QCFG q.val) v)) ≤ 384 - s.flt.queueLost →
    completes (.queueConfig port q v) s (fun t =>
      t.word (Reg.SDQ.QCFG q.val) = afterWrite s port (Reg.SDQ.QCFG q.val) v ∧ t.flag Fld.SDQ.STAT.CFG_ERR = false ∧
      at' t.queues q.val {} = { at' s.queues q.val {} with reset := true } ∧ frame [.queues, .fab] [Reg.SDQ.QCFG q.val, Reg.SDQ.STAT] s t)) ∧
  (∀ (port : Port) (q : Fin 16) (v : Word) (s : State), lets s (Reg.SDQ.QCFG q.val) = true →
    384 - s.flt.queueLost < queueUnits (s.setWord (Reg.SDQ.QCFG q.val) (afterWrite s port (Reg.SDQ.QCFG q.val) v)) →
    completes (.queueConfig port q v) s (fun t =>
      t.flag Fld.SDQ.STAT.CFG_ERR = true ∧ raised t Ev.SDQ.CFG_ERR ∧ frame [.fab, .twc] (Reg.SDQ.STAT :: evWords Ev.SDQ.CFG_ERR) s t)) ∧
  (∀ (port : Port) (q : Fin 16) (v : Word) (s : State) (i : Nat), lets s (Reg.SDQ.QACK q.val) = true →
    lowest (at' s.queues q.val {}).recs.length (fun j => (((at' s.queues q.val {}).recs[j]?).map (fun r => r.seq)) == some (fieldOf v 0 16)) = some i →
    completes (.queueAck port q v) s (fun t =>
      at' t.queues q.val {} = { at' s.queues q.val {} with recs := (at' s.queues q.val {}).recs.drop (i + 1) } ∧
      t.flag (Fld.SDQ.QSTAT.OVERFLOW q.val) = false ∧ frame [.queues, .fab] [Reg.SDQ.QSTAT q.val] s t))

/-! ## Programme combining (chapter 9) -/

/-- Slot control and source entries (R227 to R229, R247): EN, MUTE and entries are stored; clearing EN takes every source out and releases what the
policy holds; a host's entry replaces the policy's. It rests also on the model's own readings: log entries 6, 53 and 55. -/
def Obligations.SlotControlCompletes : Prop :=
  (∀ (port : Port) (n : Fin 4) (v : Word) (s : State), lets s (Reg.PGM.CTRL n.val) = true →
    completes (.slotEnable port n v) s (fun t =>
      t.word (Reg.PGM.CTRL n.val) = afterWrite s port (Reg.PGM.CTRL n.val) (withField v 0 1 1) ∧ t.flag (Fld.PGM.CTRL.EN n.val) = true ∧
      frame [.fab] [Reg.PGM.CTRL n.val] s t)) ∧
  (∀ (port : Port) (n : Fin 4) (v : Word) (s : State), lets s (Reg.PGM.CTRL n.val) = true → s.flag (Fld.PGM.CTRL.EN n.val) = true →
    completes (.slotDisable port n v) s (fun t =>
      t.flag (Fld.PGM.CTRL.EN n.val) = false ∧ (t.slot n.val).owned = [] ∧ (t.slot n.val).proposal = none ∧
      (∀ (k : Nat), k < 4 → srcState t n.val k = (if srcState s n.val k = srcEmpty then srcEmpty else srcWaiting)) ∧
      (∀ (o : Nat × Candidate × Nat), o ∈ (s.slot n.val).owned → o.1 < 4 → t.word (Reg.PGM.SRC n.val o.1) = 0 ∧ (t.src n.val o.1).fresh = true))) ∧
  (∀ (port : Port) (n : Fin 4) (v : Word) (s : State), lets s (Reg.PGM.CTRL n.val) = true →
    (s.flag (Fld.PGM.CTRL.EN n.val) = true → v.getLsbD 0 = true) →
    completes (.hostMute port n v) s (fun t =>
      t.word (Reg.PGM.CTRL n.val) = afterWrite s port (Reg.PGM.CTRL n.val) (withField v 1 1 1) ∧ t.flag (Fld.PGM.CTRL.MUTE n.val) = true ∧
      frame [.fab, .twc] (Reg.PGM.CTRL n.val :: noticeRegs) s t)) ∧
  (∀ (port : Port) (n : Fin 4) (v : Word) (s : State), lets s (Reg.PGM.CTRL n.val) = true →
    (s.flag (Fld.PGM.CTRL.EN n.val) = true → v.getLsbD 0 = true) →
    completes (.hostUnmute port n v) s (fun t =>
      t.word (Reg.PGM.CTRL n.val) = afterWrite s port (Reg.PGM.CTRL n.val) (withField v 1 1 0) ∧ t.flag (Fld.PGM.CTRL.MUTE n.val) = false ∧
      frame [.fab, .twc] (Reg.PGM.CTRL n.val :: noticeRegs) s t)) ∧
  (∀ (port : Port) (n k : Fin 4) (v : Word) (s : State), lets s (Reg.PGM.SRC n.val k.val) = true →
    completes (.sourceEntryWrite port n k v) s (fun t =>
      t.word (Reg.PGM.SRC n.val k.val) = withField (afterWrite s port (Reg.PGM.SRC n.val k.val) v) 24 1 0 ∧ (t.src n.val k.val).fresh = true ∧
      (t.slot n.val).owned = (s.slot n.val).owned.filter (fun o => o.1 != k.val) ∧
      ((s.slot n.val).owned.all (fun o => o.1 != k.val) = true →
        frame [.slots, .fab, .twc] (Reg.PGM.SRC n.val k.val :: noticeRegs) s t)))

/-- Alignment and joining (R230, R236 to R241): coarse evaluations agree, fine searches move the arrival and the gain, a met criterion reserves blocks
and posts the root, and a refused source is tried again. It rests also on the model's own readings: log entries 6, 51, 114, 118 and 122. -/
def Obligations.AlignmentCompletes : Prop :=
  (∀ (n k : Fin 4) (s : State) (i : Nat) (lag : Int), (joinsOf s n.val k.val).head? = some i → (s.src n.val k.val).agree < 2 →
    (s.src n.val k.val).delivering = true → (s.src n.val k.val).coarseAt.all (fun e => decide (e + 500 ≤ s.epoch)) = true →
    coarseSearch (s.src n.val k.val).contour (s.slot n.val).contour = some lag →
    completes (.coarseAlignEval (n, k)) s (fun t =>
      (t.src n.val k.val).coarse = some lag ∧ (t.src n.val k.val).coarseAt = some s.epoch ∧
      (t.src n.val k.val).place = (s.slot n.val).timeline / 1000 + lag * 12288 ∧
      (t.src n.val k.val).agree = (if (s.src n.val k.val).coarse.any (fun l => decide ((lag - l).natAbs ≤ 10)) then 2 else 1) ∧
      t.sprout i = { s.sprout i with adopted := true, progress := (t.src n.val k.val).agree } ∧ frame [.slots, .mgr] [] s t)) ∧
  (∀ (n k : Fin 4) (s : State), joinsOf s n.val k.val ≠ [] → (s.src n.val k.val).agree < 2 → (s.src n.val k.val).delivering = true →
    (s.src n.val k.val).coarseAt.all (fun e => decide (e + 500 ≤ s.epoch)) = true →
    coarseSearch (s.src n.val k.val).contour (s.slot n.val).contour = none →
    completes (.coarseAlignEval (n, k)) s (fun t =>
      t.src n.val k.val = { s.src n.val k.val with coarse := none, agree := 0, coarseAt := some s.epoch } ∧ frame [.slots] [] s t)) ∧
  (∀ (obs : FineObs) (s : State), (s.src obs.pgm.val obs.src.val).delivering = true → (s.src obs.pgm.val obs.src.val).fresh = false →
    inSlot s obs.pgm.val obs.src.val = false → joinsOf s obs.pgm.val obs.src.val ≠ [] → 2 ≤ (s.src obs.pgm.val obs.src.val).agree →
    (joinsOf s obs.pgm.val obs.src.val).any (fun i => (s.sprout i).met) = false →
    (s.src obs.pgm.val obs.src.val).trackedAt.all (fun e => decide (e + 100 ≤ s.epoch)) = true →
    (obs.arrival - (s.src obs.pgm.val obs.src.val).place).natAbs ≤ 96 * 256 →
    completes (.fineAlignTrack obs) s (fun t =>
      (let x := s.src obs.pgm.val obs.src.val
       let gain := loudness (s.src obs.pgm.val (s.get (Fld.PGM.STAT.ANCHOR obs.pgm.val))).contour - loudness x.contour
       let hold := if obs.corr < 800 then none else some (x.holdFrom.getD s.epoch)
       t.src obs.pgm.val obs.src.val = { x with
         arrival := obs.arrival, corr := obs.corr, drift := clampInt (-2000) 2000 obs.drift, wanted := gain, holdFrom := hold,
         trackedAt := some s.epoch, gainOk := (x.holdFrom.isSome && x.gainOk) || decide (gain.natAbs ≤ 120) }) ∧
      (∀ (i : Nat), i < 32 → i ∈ joinsOf s obs.pgm.val obs.src.val → (t.sprout i).metric = obs.corr) ∧ frame [.slots, .mgr] [] s t)) ∧
  (∀ (obs : FineObs) (s : State), (s.src obs.pgm.val obs.src.val).delivering = true → (s.src obs.pgm.val obs.src.val).fresh = false →
    inSlot s obs.pgm.val obs.src.val = true → joining s obs.pgm.val obs.src.val = false → isAip s obs.pgm.val obs.src.val = false →
    (s.src obs.pgm.val obs.src.val).trackedAt.all (fun e => decide (e + 100 ≤ s.epoch)) = true →
    500 ≤ obs.corr → (obs.arrival - (s.src obs.pgm.val obs.src.val).arrival).natAbs ≤ 24576 →
    completes (.fineAlignTrack obs) s (fun t =>
      (t.src obs.pgm.val obs.src.val).arrival = obs.arrival ∧ (t.src obs.pgm.val obs.src.val).corr = obs.corr ∧
      (t.src obs.pgm.val obs.src.val).drift = clampInt (-2000) 2000 obs.drift ∧
      (t.src obs.pgm.val obs.src.val).gain = (let g := (s.src obs.pgm.val obs.src.val).gain
        let wanted := loudness (s.src obs.pgm.val (s.get (Fld.PGM.STAT.ANCHOR obs.pgm.val))).contour - loudness (s.src obs.pgm.val obs.src.val).contour
        if s.get (Fld.PGM.STAT.ANCHOR obs.pgm.val) = obs.src.val then g else g + clampInt (-1) 1 (clampInt (-120) 120 wanted - g)) ∧
      pageFrame [.slots, .fab, .twc] [0x048, 0x049, 0x04A, 0x04B, 0x062] s t)) ∧
  (∀ (slot : Fin 32) (metric : Int) (pi : Nat) (s : State) (n k : Nat) (goal : Int), (s.sprout slot.val).state = .planted → (s.sprout slot.val).met = false →
    (s.sprout slot.val).kind = some .join → n = (s.sprout slot.val).pgm → k = (s.sprout slot.val).src → n < 4 → k < 4 →
    (s.src n k).holdFrom.any (fun e => decide (e + 500 ≤ s.epoch)) = true → 2 ≤ (s.src n k).agree →
    (checkIdentity s n k).isSome = true → isAip s n k = false → (s.src n k).gainOk = true → joinedNow s = [] →
    goal = max (s.slot n).goal (1000 * (s.src n k).arrival) →
    ((joinBlocks s n k goal).map (fun z => z.2 - heldBlocks s n z.1)).sum ≤ poolFree s →
    completes (.sproutCriterionMet slot metric pi) s (fun t =>
      (t.sprout slot.val).met = true ∧ (s.fab.pause = none → asked s t (.root slot.val) (s.epoch + 2)) ∧
      (∀ (j : Nat), j < 4 → j = k ∨ inSlot s n j = true → blocksFor (delayAt s n j goal) ≤ (t.src n j).reserve) ∧
      frame [.slots, .mgr, .plan] planWords s t)) ∧
  (∀ (n k : Fin 4) (s : State), srcState s n.val k.val = srcRefused → srcReason s n.val k.val ≠ whyInvalid → srcReason s n.val k.val ≠ whyDup →
    (s.src n.val k.val).retryAt.any (fun e => decide (e ≤ s.epoch)) = true ∨ (s.src n.val k.val).ready = true →
    ((s.src n.val k.val).delivering = false ∨ members s n.val = []) →
    completes (.joinRetry n k) s (fun t =>
      srcState t n.val k.val = srcWaiting ∧ srcReason t n.val k.val = whyNone ∧ raised t (Ev.PGM.SOURCE n.val) ∧
      t.src n.val k.val = { s.src n.val k.val with retryAt := none, ready := false, idleSince := s.epoch } ∧
      frame [.slots, .twc, .fab] (Reg.PGM.SRC_STAT n.val k.val :: evWords (Ev.PGM.SOURCE n.val)) s t)) ∧
  (∀ (n k : Fin 4) (s : State), srcState s n.val k.val = srcRefused → srcReason s n.val k.val ≠ whyInvalid → srcReason s n.val k.val ≠ whyDup →
    (s.src n.val k.val).ready = true → (s.src n.val k.val).delivering = true → members s n.val ≠ [] → s.receiving = true →
    identityOf s n.val k.val = none →
    completes (.joinRetry n k) s (fun t =>
      srcState t n.val k.val = srcWaiting ∧ sprouts s t { kind := .join, lane := srcLane s n.val k.val, pgm := n.val, src := k.val }))

/-- Sources entering and leaving IN, and the timeline (R238, R239, R241, R244): a filled delay line, a slew that ends, a hold that expires, and the
floor. It rests also on the model's own readings: log entries 6, 53 and 118. -/
def Obligations.SourcesMoveCompletes : Prop :=
  (∀ (n k : Fin 4) (s : State), onBoundary s = true → srcState s n.val k.val = srcPending → (s.src n.val k.val).later = false →
    delayAt s n.val k.val (s.slot n.val).timeline ≤ epochUnits * (s.epoch - (s.src n.val k.val).since) →
    completes (.delayLineFilled n k) s (fun t =>
      srcState t n.val k.val = srcIn ∧ srcReason t n.val k.val = whyNone ∧ raised t (Ev.PGM.SOURCE n.val) ∧ raised t (Ev.PGM.ALIGN n.val) ∧
      (s.get (Fld.PGM.STAT.MODE_NOW n.val) = 0 → t.get (Fld.PGM.STAT.MODE_NOW n.val) = 1) ∧
      pageFrame [.slots, .fab, .twc] (slotPages n.val) s t)) ∧
  (∀ (n : Fin 4) (s : State), onBoundary s = true → (s.slot n.val).slew = 0 →
    completes (.slewDone n) s (fun t =>
      t.flag (Fld.PGM.STAT.SLEWING n.val) = false ∧
      (∀ (k : Nat), k < 4 → srcState t n.val k =
        (if srcState s n.val k = srcPending ∧ (s.src n.val k).later = true then srcIn else srcState s n.val k)) ∧
      pageFrame [.slots, .fab, .twc] (slotPages n.val) s t)) ∧
  (∀ (n : Fin 4) (s : State) (e k : Nat), (s.slot n.val).heldTo = some e → e ≤ s.epoch → s.flag (Fld.PGM.STAT.TIMELINE_HELD n.val) = true →
    latestSource s n.val = some k → (s.slot n.val).slew = 0 → s.get (Fld.PGM.BLEND.SLEW n.val) ≠ 0 →
    completes (.timelineHoldExpire n) s (fun t =>
      t.flag (Fld.PGM.STAT.TIMELINE_HELD n.val) = false ∧ (t.slot n.val).heldTo = none ∧
      (t.slot n.val).slew = (1000 * (s.src n.val k).arrival - (s.slot n.val).timeline).natAbs ∧
      (t.slot n.val).slewBack = decide ((s.slot n.val).timeline ≤ 1000 * (s.src n.val k).arrival) ∧
      (t.slot n.val).timeline = (s.slot n.val).timeline ∧ frame [.slots] [Reg.PGM.STAT n.val] s t)) ∧
  (∀ (n k : Fin 4) (s : State), onBoundary s = true → srcState s n.val k.val = srcIn → 20 ≤ (s.src n.val k.val).below →
    completes (.sourceFloorOut n k) s (fun t =>
      srcState t n.val k.val = srcOut ∧ srcReason t n.val k.val = whyFloor ∧ (t.src n.val k.val).idleSince = s.epoch ∧
      raised t (Ev.PGM.SOURCE n.val) ∧ pageFrame [.slots, .fab, .twc] (slotPages n.val) s t)) ∧
  (∀ (n k : Fin 4) (s : State), onBoundary s = true → srcState s n.val k.val = srcOut → srcReason s n.val k.val = whyFloor →
    300 ≤ (s.src n.val k.val).above →
    completes (.sourceFloorIn n k) s (fun t =>
      srcState t n.val k.val = srcIn ∧ srcReason t n.val k.val = whyNone ∧ raised t (Ev.PGM.SOURCE n.val) ∧
      pageFrame [.slots, .fab, .twc] (slotPages n.val) s t))

/-- Selection, the correlated sum and the mute ramp (R245 to R247). It rests also on the model's own readings: log entries 6, 52 and 115. -/
def Obligations.OutputCompletes : Prop :=
  (∀ (n : Fin 4) (s : State) (k : Nat), onBoundary s = true → s.get (Fld.PGM.STAT.MODE_NOW n.val) = 1 →
    (insOf s n.val).contains (s.get (Fld.PGM.STAT.SELECTED n.val)) = true →
    bestOf s n.val ((insOf s n.val).filter (fun j => decide (300 ≤ (s.src n.val j).better))) = some k →
    completes (.selectionSwitch n) s (fun t =>
      t.get (Fld.PGM.STAT.SELECTED n.val) = k ∧ t.get (Fld.PGM.STAT.MODE_NOW n.val) = 1 ∧
      (k ≠ s.get (Fld.PGM.STAT.SELECTED n.val) → (t.slot n.val).fade = some (s.get (Fld.PGM.STAT.SELECTED n.val), s.epoch + 150, 150)) ∧
      (∀ (j : Nat), j < 4 → t.src n.val j = { s.src n.val j with better := 0 }) ∧ frame [.slots] [Reg.PGM.STAT n.val] s t)) ∧
  (∀ (n : Fin 4) (s : State) (k : Nat), onBoundary s = true → s.get (Fld.PGM.STAT.MODE_NOW n.val) = 1 →
    (insOf s n.val).contains (s.get (Fld.PGM.STAT.SELECTED n.val)) = false → bestOf s n.val (insOf s n.val) = some k →
    completes (.selectionSwitch n) s (fun t =>
      t.get (Fld.PGM.STAT.SELECTED n.val) = k ∧
      (let old := s.get (Fld.PGM.STAT.SELECTED n.val)
       let fade := if srcState s n.val old = srcOut ∧ srcReason s n.val old = whySuspect then 20 else 150
       k ≠ old → (t.slot n.val).fade = some (old, s.epoch + fade, fade)) ∧
      frame [.slots] [Reg.PGM.STAT n.val] s t)) ∧
  (∀ (n : Fin 4) (s : State) (b : Nat), onBoundary s = true → sumBest s n.val = some b →
    (insOf s n.val).filter (fun k => k != b && srcKind s n.val k == 1 && decide (200 ≤ (s.src n.val k).corrRun)) ≠ [] →
    completes (.sumEnter n) s (fun t =>
      t.get (Fld.PGM.STAT.MODE_NOW n.val) = 2 ∧ t.flag (Fld.PGM.SRC_STAT.IN_SUM n.val b) = true ∧
      (∀ (k : Nat), k < 4 → srcState s n.val k = srcIn → k ≠ b → srcKind s n.val k = 1 → 200 ≤ (s.src n.val k).corrRun →
        t.flag (Fld.PGM.SRC_STAT.IN_SUM n.val k) = true) ∧
      frame [.slots] (Reg.PGM.STAT n.val :: (List.range 4).map (Reg.PGM.SRC_STAT n.val)) s t)) ∧
  (∀ (n k : Fin 4) (s : State), onBoundary s = true → s.flag (Fld.PGM.SRC_STAT.IN_SUM n.val k.val) = true →
    ((s.src n.val k.val).bandLow.any (fun b => decide (20 ≤ b)) = true ∧ sumBest s n.val ≠ some k.val) ∨ srcState s n.val k.val ≠ srcIn ∨ sumBest s n.val = none →
    completes (.sumLeave n k) s (fun t =>
      t.flag (Fld.PGM.SRC_STAT.IN_SUM n.val k.val) = false ∧
      (s.get (Fld.PGM.STAT.MODE_NOW n.val) = 2 → (sumSet s n.val).length ≤ 2 → t.get (Fld.PGM.STAT.MODE_NOW n.val) = 1 ∧ sumSet t n.val = []) ∧
      frame [.slots] (Reg.PGM.STAT n.val :: (List.range 4).map (Reg.PGM.SRC_STAT n.val)) s t)) ∧
  (∀ (n : Fin 4) (s : State) (e : Nat), (s.slot n.val).ramp = .down e → e ≤ s.epoch →
    completes (.muteRampDone n) s (fun t =>
      t.flag (Fld.PGM.STAT.MUTED n.val) = true ∧ (t.slot n.val).ramp = .none ∧ raised t (Ev.PGM.MUTE n.val) ∧
      (insOf s n.val = [] → t.get (Fld.PGM.STAT.MODE_NOW n.val) = 0) ∧
      frame [.slots, .twc, .fab] (Reg.PGM.STAT n.val :: evWords (Ev.PGM.MUTE n.val)) s t))

/-- Source policies (R107, R248, R249): the next candidate fills the lowest empty entry, or the proposal waits with ALLOC_FAIL once; a lane that becomes
FREE tries the waiting proposal again; a source idle for 10 s is released and its candidate blocked. It rests also on the model's own readings: log
entries 6 and 54. -/
def Obligations.PolicyCompletes : Prop :=
  (∀ (n : Fin 4) (s : State) (k : Nat) (c : Candidate) (inst sel lane : Nat), (s.slot n.val).running = true → s.fab.pause = none →
    members s n.val ≠ [] → (s.slot n.val).owned.length < max 1 (s.get (Fld.PGM.POLICY.MAX n.val)) → undecided s n.val = false →
    lowest 4 (fun j => srcKind s n.val j == 0 && !((s.src n.val j).fresh)) = some k → (s.slot n.val).proposal = none →
    nextCandidate s n.val = some c → (takeSource s c).map (fun x => (x.1, x.2.1, x.2.2.1)) = some (inst, sel, lane) →
    completes (.policyPropose n) s (fun t =>
      t.word (Reg.PGM.SRC n.val k) = wordOf [(0, 3, c.kind), (3, 3, inst), (6, 3, sel), (24, 1, 1)] ∧ (t.src n.val k).fresh = true ∧
      (k, c, lane) ∈ (t.slot n.val).owned ∧ (t.slot n.val).proposal = none ∧
      (c.kind = 1 → asked s t (.tune lane .fm c.place false) 0) ∧
      pageFrame [.slots, .plan, .dab, .decoders, .fab, .twc] ((0x000 :: 0x040 :: slotPages n.val) ++ noticePages) s t)) ∧
  (∀ (n : Fin 4) (s : State) (k : Nat) (c : Candidate), (s.slot n.val).running = true → s.fab.pause = none →
    members s n.val ≠ [] → (s.slot n.val).owned.length < max 1 (s.get (Fld.PGM.POLICY.MAX n.val)) → undecided s n.val = false →
    lowest 4 (fun j => srcKind s n.val j == 0 && !((s.src n.val j).fresh)) = some k → (s.slot n.val).proposal = none →
    nextCandidate s n.val = some c → (takeSource s c).isNone = true →
    completes (.policyPropose n) s (fun t =>
      (t.slot n.val).proposal = some c ∧ (t.slot n.val).failed = true ∧ raised t Ev.LNM.ALLOC_FAIL ∧
      frame [.slots, .fab, .twc] (evWords Ev.LNM.ALLOC_FAIL ++ noticeRegs) s t)) ∧
  (∀ (lane : Fin 20) (n : Fin 4) (s : State) (c : Candidate), (s.lane lane.val).state = .free → (s.slot n.val).proposal = some c →
    (∀ (m : Nat), m < 4 → m ≠ n.val → (s.slot m).proposal = none) →
    completes (.laneAllocRetry lane) s (fun t => exec (.policyPropose n) s = .next t)) ∧
  (∀ (n k : Fin 4) (s : State) (c : Candidate) (l : Nat), s.flag (Fld.PGM.SRC.OWNER n.val k.val) = true →
    srcState s n.val k.val = srcOut ∨ srcState s n.val k.val = srcWaiting → (s.src n.val k.val).idleSince + 10000 ≤ s.epoch →
    (s.slot n.val).owned.find? (fun o => o.1 == k.val) = some (k.val, c, l) →
    completes (.policyRelease n k) s (fun t =>
      t.word (Reg.PGM.SRC n.val k.val) = 0 ∧ (t.src n.val k.val).fresh = true ∧
      (t.slot n.val).owned = (s.slot n.val).owned.filter (fun o => o.1 != k.val) ∧
      (t.slot n.val).blocked = (c, s.epoch + 60000) :: (s.slot n.val).blocked.filter (fun b => b.1 != c) ∧
      (l < 20 → (s.lane l).policy = true → asked s t (.release l) 0) ∧
      pageFrame [.slots, .plan, .dab, .decoders, .fab, .twc] ((0x000 :: 0x040 :: slotPages n.val) ++ noticePages) s t))

/-- The identity book's commands (R235): one is taken while none is in progress, with the ARG of that moment; it completes with its class changed, or
with its error. It rests also on the model's own readings: log entry 6. -/
def Obligations.PibCompletes : Prop :=
  (∀ (port : Port) (v : Word) (s : State), lets s Reg.PIB.CMD = true →
    completes (.pibNew port v) s (fun t =>
      if s.pib.busy = none then t.pib = { s.pib with busy := some (1, fieldOf v 8 6, s.word Reg.PIB.ARG) } ∧ t.flag Fld.PIB.STAT.BUSY = true ∧
        frame [.pib, .fab] [Reg.PIB.STAT] s t
      else t.get Fld.PIB.STAT.ERR = 6 ∧ raised t Ev.PIB.CMD_ERR ∧ frame [.fab, .twc] (Reg.PIB.STAT :: evWords Ev.PIB.CMD_ERR) s t)) ∧
  (∀ (port : Port) (v : Word) (s : State), lets s Reg.PIB.CMD = true →
    completes (.pibAdd port v) s (fun t =>
      if s.pib.busy = none then t.pib = { s.pib with busy := some (2, fieldOf v 8 6, s.word Reg.PIB.ARG) } ∧ t.flag Fld.PIB.STAT.BUSY = true ∧
        frame [.pib, .fab] [Reg.PIB.STAT] s t
      else t.get Fld.PIB.STAT.ERR = 6 ∧ raised t Ev.PIB.CMD_ERR ∧ frame [.fab, .twc] (Reg.PIB.STAT :: evWords Ev.PIB.CMD_ERR) s t)) ∧
  (∀ (port : Port) (v : Word) (s : State), lets s Reg.PIB.CMD = true →
    completes (.pibRemove port v) s (fun t =>
      if s.pib.busy = none then t.pib = { s.pib with busy := some (3, fieldOf v 8 6, s.word Reg.PIB.ARG) } ∧ t.flag Fld.PIB.STAT.BUSY = true ∧
        frame [.pib, .fab] [Reg.PIB.STAT] s t
      else t.get Fld.PIB.STAT.ERR = 6 ∧ raised t Ev.PIB.CMD_ERR ∧ frame [.fab, .twc] (Reg.PIB.STAT :: evWords Ev.PIB.CMD_ERR) s t)) ∧
  (∀ (port : Port) (v : Word) (s : State), lets s Reg.PIB.CMD = true →
    completes (.pibDelete port v) s (fun t =>
      if s.pib.busy = none then t.pib = { s.pib with busy := some (4, fieldOf v 8 6, s.word Reg.PIB.ARG) } ∧ t.flag Fld.PIB.STAT.BUSY = true ∧
        frame [.pib, .fab] [Reg.PIB.STAT] s t
      else t.get Fld.PIB.STAT.ERR = 6 ∧ raised t Ev.PIB.CMD_ERR ∧ frame [.fab, .twc] (Reg.PIB.STAT :: evWords Ev.PIB.CMD_ERR) s t)) ∧
  (∀ (s : State) (cls : Nat) (arg : Word) (i : Nat), s.fab.pause = none → s.pib.busy = some (1, cls, arg) → freeClass s = some i →
    completes .pibCommandDone s (fun t =>
      t.pib = { s.pib with classes := upd s.pib.classes i (fun _ => some { host := true }), busy := none } ∧ t.get Fld.PIB.CMD_RES.CLASS = i ∧
      t.flag Fld.PIB.STAT.BUSY = false ∧ t.get Fld.PIB.STAT.ERR = 0 ∧ raised t Ev.PIB.CMD_DONE ∧ raised t Ev.PIB.CHANGED ∧
      frame [.pib, .slots, .twc, .fab] ([Reg.PIB.STAT, Reg.PIB.CMD_RES] ++ evsWords [Ev.PIB.CMD_DONE, Ev.PIB.CHANGED]) s t)) ∧
  (∀ (s : State) (op cls : Nat) (arg : Word) (c : PibClass) (d : Option PibClass), s.fab.pause = none → s.pib.busy = some (op, cls, arg) → op ≠ 1 →
    at' s.pib.classes cls none = some c → c.host = true → editClass op c { id := fieldOf arg 0 24, kind := fieldOf arg 24 2 } = .ok d →
    completes .pibCommandDone s (fun t =>
      t.pib.busy = none ∧ t.flag Fld.PIB.STAT.BUSY = false ∧ t.get Fld.PIB.STAT.ERR = 0 ∧ raised t Ev.PIB.CMD_DONE ∧ raised t Ev.PIB.CHANGED ∧
      (∀ (i : Nat), i < 64 → i ≠ cls → (at' s.pib.classes i none).any (fun x => x.host) = true → at' t.pib.classes i none = at' s.pib.classes i none) ∧
      (d ≠ none → at' t.pib.classes cls none = d) ∧ (d = none → (at' t.pib.classes cls none).all (fun x => !x.host) = true) ∧
      (s.links = [] → d = none → at' t.pib.classes cls none = none) ∧
      frame [.pib, .slots, .twc, .fab] (Reg.PIB.STAT :: evsWords [Ev.PIB.CMD_DONE, Ev.PIB.CHANGED, Ev.PIB.FULL]) s t)) ∧
  (∀ (s : State) (op cls : Nat) (arg : Word) (c : PibClass) (e : Nat), s.fab.pause = none → s.pib.busy = some (op, cls, arg) → op ≠ 1 →
    at' s.pib.classes cls none = some c → c.host = true → editClass op c { id := fieldOf arg 0 24, kind := fieldOf arg 24 2 } = .error e →
    completes .pibCommandDone s (fun t =>
      t.pib = { s.pib with busy := none } ∧ t.flag Fld.PIB.STAT.BUSY = false ∧ t.get Fld.PIB.STAT.ERR = e ∧ raised t Ev.PIB.CMD_ERR ∧
      frame [.pib, .twc, .fab] (Reg.PIB.STAT :: evWords Ev.PIB.CMD_ERR) s t))

/-! ## Audio ports and pods (chapter 10) -/

/-- Port control (R258, R264, R266, R270, R333): after the commit an illegal format, or a new one while the port is not IDLE, is refused; a port outside
a pod starts locking, or is ARMED where it is locked, and stops after its frame. It rests also on the model's own readings: log entries 6 and 60. -/
def Obligations.PortControlCompletes : Prop :=
  (∀ (port : Port) (p : Fin 5) (v : Word) (s : State) (w : Word), lets s (Reg.AOP.CTRL p.val) = true →
    w = afterWrite s port (Reg.AOP.CTRL p.val) (withField v 0 1 1) → formatLegal w = true → portState s p.val = portIdle → podOf s p.val = none →
    portsRun s = true →
    completes (.portEnable port p v) s (fun t =>
      t.word (Reg.AOP.CTRL p.val) = w ∧ t.flag (Fld.AOP.STAT.CFG_ERR p.val) = false ∧
      portState t p.val = (if clkLocked s p.val = true ∧ p.val < 4 then portArmed else portLocking) ∧
      (t.port p.val).startAt = (if clkLocked s p.val then some (s.epoch + 1) else none) ∧ (t.port p.val).stopping = false ∧
      raised t (portEvent p.val) ∧ frame [.audio, .twc, .fab] (Reg.AOP.CTRL p.val :: portRegs) s t)) ∧
  (∀ (port : Port) (p : Fin 5) (v : Word) (s : State) (w : Word), lets s (Reg.AOP.CTRL p.val) = true →
    w = afterWrite s port (Reg.AOP.CTRL p.val) (withField v 0 1 1) → (s.committed = true → formatLegal w = true ∧ formatOf w = formatOf (s.word (Reg.AOP.CTRL p.val)) ∨ formatLegal w = true ∧ portState s p.val = portIdle) →
    podOf s p.val = none → portsRun s = false →
    completes (.portEnable port p v) s (fun t =>
      t.word (Reg.AOP.CTRL p.val) = w ∧ t.flag (Fld.AOP.STAT.CFG_ERR p.val) = false ∧
      frame [.fab] [Reg.AOP.CTRL p.val, Reg.AOP.STAT p.val] s t)) ∧
  (∀ (port : Port) (p : Fin 5) (v : Word) (s : State), lets s (Reg.AOP.CTRL p.val) = true → s.committed = true →
    formatLegal (afterWrite s port (Reg.AOP.CTRL p.val) (withField v 0 1 1)) = false →
    completes (.portEnable port p v) s (fun t =>
      t.flag (Fld.AOP.STAT.CFG_ERR p.val) = true ∧ wrote s t (Fld.AOP.STAT.CFG_ERR p.val) 1 ∧ frame [.fab] [Reg.AOP.STAT p.val] s t)) ∧
  (∀ (port : Port) (p : Fin 5) (v : Word) (s : State) (w : Word), lets s (Reg.AOP.CTRL p.val) = true →
    w = afterWrite s port (Reg.AOP.CTRL p.val) (withField v 0 1 0) → formatLegal w = true → formatOf w = formatOf (s.word (Reg.AOP.CTRL p.val)) →
    podOf s p.val = none → portState s p.val ≠ portIdle →
    completes (.portDisable port p v) s (fun t =>
      t.word (Reg.AOP.CTRL p.val) = w ∧
      (portState s p.val = portRunning → portState t p.val = portRunning ∧ (t.port p.val).stopping = true) ∧
      (portState s p.val ≠ portRunning → portState t p.val = portIdle ∧ (t.port p.val).startAt = none ∧ raised t (portEvent p.val)) ∧
      frame [.audio, .twc, .fab] (Reg.AOP.CTRL p.val :: portRegs) s t)) ∧
  (∀ (port : Port) (p : Fin 5) (v : Word) (s : State) (w : Word), lets s (Reg.AOP.CTRL p.val) = true →
    w = afterWrite s port (Reg.AOP.CTRL p.val) v → w.getLsbD 0 = false → formatLegal w = true → portState s p.val = portIdle →
    podOf s p.val = none →
    completes (.portFormatWrite port p v) s (fun t =>
      t.word (Reg.AOP.CTRL p.val) = w ∧ t.flag (Fld.AOP.STAT.CFG_ERR p.val) = false ∧
      frame [.fab] [Reg.AOP.CTRL p.val, Reg.AOP.STAT p.val] s t)) ∧
  (∀ (port : Port) (p : Fin 5) (v : Word) (s : State), lets s (Reg.AOP.CTRL p.val) = true → s.committed = true →
    formatOf (afterWrite s port (Reg.AOP.CTRL p.val) v) ≠ formatOf (s.word (Reg.AOP.CTRL p.val)) → portState s p.val ≠ portIdle →
    completes (.portFormatWrite port p v) s (fun t =>
      t.flag (Fld.AOP.STAT.CFG_ERR p.val) = true ∧ wrote s t (Fld.AOP.STAT.CFG_ERR p.val) 1 ∧ frame [.fab] [Reg.AOP.STAT p.val] s t)) ∧
  (∀ (port : Port) (n : Fin 4) (v : Word) (s : State), lets s (Reg.POD.ROUTE n.val) = true →
    completes (.routeWrite port n v) s (fun t =>
      t.word (Reg.POD.ROUTE n.val) = afterWrite s port (Reg.POD.ROUTE n.val) v ∧
      t.port n.val = { s.port n.val with routeAt := some (s.epoch + 1) } ∧ frame [.audio, .fab] [Reg.POD.ROUTE n.val] s t))

/-- Frames and clocks of the ports (R260, R261, R264, R269 to R271): a running output counts its frame and carries what is due, or counts an underrun; a
stopping port ends, and locks anew where it was enabled again meanwhile (the model's choice, log entry 60); clock faults, clocks and locks move
CLK_OK, LOCKED and the state. -/
def Obligations.PortFramesComplete : Prop :=
  (∀ (p : Fin 5) (obs : FrameObs) (s : State) (bits : Nat), p.val < 4 → s.running = true → portState s p.val = portRunning → (s.port p.val).startAt = none →
    (s.port p.val).stopping = false → podOf s p.val = none → bits = frameBits s p.val →
    completes (.portFrame p obs) s (fun t =>
      t.get (Fld.AOP.FRAME_CNT.COUNT p.val) = (s.get (Fld.AOP.FRAME_CNT.COUNT p.val) + 1) % 2 ^ 32 ∧
      t.get (Fld.AOP.LATE_CNT.COUNT p.val) = (s.get (Fld.AOP.LATE_CNT.COUNT p.val) + obs.late) % 2 ^ 32 ∧
      t.get (Fld.AOP.FRAME_ERR.COUNT p.val) = (s.get (Fld.AOP.FRAME_ERR.COUNT p.val) + (if (s.port p.val).stamp.isSome && obs.bclks != bits then 1 else 0)) % 2 ^ 32 ∧
      (t.port p.val).stamp = some s.time ∧
      (obs.due = true → (t.port p.val).content = .due (((s.time : Int) - 81920) * portFs s p.val - 327680000) (portFs s p.val)) ∧
      (obs.due = false → (t.port p.val).content = .zeros ∧
        t.get (Fld.AOP.UNDERRUN_CNT.COUNT p.val) = (s.get (Fld.AOP.UNDERRUN_CNT.COUNT p.val) + 1) % 2 ^ 32 ∧
        ((s.port p.val).noted = false → raised t (Ev.AOP.UNDERRUN p.val))) ∧
      frame [.audio, .twc, .fab] ([Reg.AOP.FRAME_CNT p.val, Reg.AOP.LATE_CNT p.val, Reg.AOP.FRAME_ERR p.val, Reg.AOP.UNDERRUN_CNT p.val] ++
        evWords (Ev.AOP.UNDERRUN p.val) ++ portRegs) s t)) ∧
  (∀ (p : Fin 5) (obs : FrameObs) (s : State) (b : Nat), p.val < 4 → s.running = true → portState s p.val = portArmed →
    (s.port p.val).startAt = some b → boundaryTick b ≤ s.time → podOf s p.val = none → clkOk s p.val = true → clkLocked s p.val = true →
    completes (.portFrame p obs) s (fun t =>
      portState t p.val = portRunning ∧ t.get (Fld.AOP.FRAME_CNT.COUNT p.val) = 0 ∧ t.get (Fld.AOP.START_EPOCH.EPOCH p.val) = b % 2 ^ 32 ∧
      (t.port p.val).startAt = none ∧ raised t (portEvent p.val))) ∧
  (∀ (p : Fin 5) (obs : FrameObs) (s : State), s.running = true → (s.port p.val).startAt = none → (s.port p.val).stopping = true → podOf s p.val = none →
    completes (.portFrame p obs) s (fun t =>
      portState t p.val = (if s.flag (Fld.AOP.CTRL.EN p.val) = true ∧ portsRun s = true then
        (if clkLocked s p.val = true ∧ p.val < 4 then portArmed else portLocking) else portIdle) ∧
      (t.port p.val).content = .zeros ∧ (t.port p.val).stopping = false ∧
      frame [.audio, .twc, .fab] (Reg.AOP.FRAME_ERR p.val :: portRegs) s t)) ∧
  (∀ (p : Fin 5) (obs : FrameObs) (s : State), p.val = 4 → s.running = true → portState s 4 = portRunning → (s.port 4).stopping = false →
    completes (.portFrame p obs) s (fun t =>
      t.get Fld.AIP.OVERRUN_CNT.COUNT = (s.get Fld.AIP.OVERRUN_CNT.COUNT + obs.full.toNat) % 2 ^ 32 ∧
      t.get Fld.AIP.UNDERRUN_CNT.COUNT = (s.get Fld.AIP.UNDERRUN_CNT.COUNT + obs.missing) % 2 ^ 32 ∧
      (obs.full = true ∨ 0 < obs.missing → (t.port 4).slipped = true ∧ ((s.port 4).noted = false → raised t Ev.AIP.SLIP)) ∧
      frame [.audio, .twc, .fab] ([Reg.AIP.FRAME_ERR, Reg.AIP.OVERRUN_CNT, Reg.AIP.UNDERRUN_CNT, Reg.AIP.ND_CNT] ++
        evWords Ev.AIP.SLIP ++ portRegs) s t)) ∧
  (∀ (pair : Fin 4) (s : State), (s.get Fld.AIP.STAT.NONAUDIO).testBit pair.val = true → 16384 ≤ at' (s.port 4).quiet pair.val 0 →
    completes (.nonaudioRelease pair) s (fun t =>
      t.get Fld.AIP.STAT.NONAUDIO = s.get Fld.AIP.STAT.NONAUDIO - 2 ^ pair.val ∧ raised t Ev.AIP.AUDIO ∧
      frame [.twc, .fab] (Reg.AIP.STAT :: evWords Ev.AIP.AUDIO) s t)) ∧
  (∀ (p : Fin 5) (s : State), clkOk s p.val = true → clockFault s p.val = true → (s.port p.val).stopping = false →
    completes (.portClockFault p) s (fun t =>
      clkOk t p.val = false ∧ (t.port p.val).unlock = true ∧ (t.port p.val).good = 0 ∧ raised t (portEvent p.val) ∧
      portState t p.val = (if portState s p.val = portRunning then portZeros else portState s p.val) ∧
      frame [.audio, .twc, .fab] ((List.range 4).map Reg.AOP.FRAME_CNT ++ evWords Ev.POD.STOPPED ++ portRegs) s t)) ∧
  (∀ (p : Fin 5) (s : State), clkOk s p.val = false → 8 ≤ (s.port p.val).good → (s.geti (Fld.AOP.PPM.PPM p.val)).natAbs ≤ 10000 →
    completes (.portClockOk p) s (fun t =>
      clkOk t p.val = true ∧ raised t (portEvent p.val) ∧
      frame [.audio, .twc, .fab] ((List.range 4).map Reg.AOP.FRAME_CNT ++ portRegs) s t)) ∧
  (∀ (p : Fin 5) (s : State), onBoundary s = true → clkLocked s p.val = false → clkOk s p.val = true → (s.port p.val).unlock = false →
    50 ≤ (s.port p.val).okEpochs →
    completes (.portLocked p) s (fun t =>
      clkLocked t p.val = true ∧ raised t (portEvent p.val) ∧
      portState t p.val = (if portState s p.val = portLocking ∧ p.val < 4 then portArmed else if portState s p.val = portZeros then portRunning else portState s p.val) ∧
      (portState s p.val = portLocking → podOf s p.val = none → (t.port p.val).startAt = some (s.epoch + 1)) ∧
      frame [.audio, .twc, .fab] ((List.range 4).map Reg.AOP.FRAME_CNT ++ portRegs) s t)) ∧
  (∀ (s : State), portState s 4 = portZeros → 1000 ≤ (s.port 4).noClock →
    completes .aipClockTimeout s (fun t => portState t 4 = portLocking ∧ raised t Ev.AIP.STATE ∧ frame [.twc, .fab] portRegs s t))

/-- Pods (R266 to R268): members are taken while the pod and they are IDLE; START makes it PENDING and its members lock; once every member is locked its
start is posted; STOP withdraws the start, or stops the members after their frames. It rests also on the model's own readings: log entries 6, 61 and
62. -/
def Obligations.PodsComplete : Prop :=
  (∀ (port : Port) (m : Fin 2) (v : Word) (s : State), lets s (Reg.POD.POD_CFG m.val) = true → podState s m.val = 0 →
    (∀ (n : Nat), n < 4 → v.getLsbD n = true → portState s n = portIdle ∧ (podMembers s (1 - m.val)).contains n = false) →
    completes (.podMembersWrite port m v) s (fun t =>
      t.word (Reg.POD.POD_CFG m.val) = afterWrite s port (Reg.POD.POD_CFG m.val) v ∧ t.flag Fld.POD.STAT.CFG_ERR = false ∧
      (∀ (n : Nat), n < 4 → t.flag (Fld.AOP.STAT.IN_POD n) = (podOf t n).isSome) ∧
      frame [.twc, .fab] ([Reg.POD.POD_CFG m.val, Reg.POD.STAT] ++ portRegs) s t)) ∧
  (∀ (port : Port) (m : Fin 2) (v : Word) (s : State), lets s (Reg.POD.POD_CFG m.val) = true →
    podState s m.val ≠ 0 ∨ (List.range 4).any (fun n => v.getLsbD n && (portState s n != portIdle || (podMembers s (1 - m.val)).contains n)) = true →
    completes (.podMembersWrite port m v) s (fun t =>
      t.flag Fld.POD.STAT.CFG_ERR = true ∧ raised t Ev.POD.CFG_ERR ∧ frame [.twc, .fab] (Reg.POD.STAT :: evWords Ev.POD.CFG_ERR) s t)) ∧
  (∀ (port : Port) (m : Fin 2) (v : Word) (s : State) (ms : List Nat), lets s (Reg.POD.POD_CMD m.val) = true → v.getLsbD 1 = false →
    ms = podMembers s m.val → podState s m.val = 0 → ms ≠ [] →
    ms.all (fun p => podFormat (s.word (Reg.AOP.CTRL p)) == podFormat (s.word (Reg.AOP.CTRL (ms.headD 0)))) = true → portsRun s = true →
    completes (.podStart port m v) s (fun t =>
      podState t m.val = 1 ∧ t.flag Fld.POD.STAT.CFG_ERR = false ∧
      (∀ (p : Nat), p < 4 → p ∈ ms → portState s p = portIdle → portState t p = (if clkLocked s p then portArmed else portLocking) ∧ (t.port p).startAt = none) ∧
      frame [.audio, .twc, .fab] (Reg.POD.STAT :: portRegs) s t)) ∧
  (∀ (port : Port) (m : Fin 2) (v : Word) (s : State), lets s (Reg.POD.POD_CMD m.val) = true → v.getLsbD 1 = false →
    podState s m.val ≠ 0 ∨ podMembers s m.val = [] →
    completes (.podStart port m v) s (fun t =>
      t.flag Fld.POD.STAT.CFG_ERR = true ∧ raised t Ev.POD.CFG_ERR ∧ frame [.twc, .fab] (Reg.POD.STAT :: evWords Ev.POD.CFG_ERR) s t)) ∧
  (∀ (m : Fin 2) (s : State), podState s m.val = 1 → (s.pod m.val).posted = false →
    (podMembers s m.val).all (fun p => clkLocked s p && (s.port p).startAt.isNone) = true →
    completes (.podStartPost m) s (fun t =>
      asked s t (.pod m.val) 0 ∧ t.pod m.val = { s.pod m.val with posted := true } ∧ frame [.audio, .plan] planWords s t)) ∧
  (∀ (port : Port) (m : Fin 2) (v : Word) (s : State), lets s (Reg.POD.POD_CMD m.val) = true → podState s m.val = 1 →
    (podMembers s m.val).all (fun p => (s.port p).startAt.isNone) = true →
    completes (.podStop port m v) s (fun t =>
      podState t m.val = 0 ∧ isPlanned (fun c => c == .pod m.val) t = false ∧ raised t Ev.POD.STOPPED ∧
      (∀ (p : Nat), p < 4 → p ∈ podMembers s m.val → portState t p = portIdle) ∧
      frame [.audio, .plan, .twc, .fab] ([Reg.OFS.EPOCH_PLAN, Reg.OFS.STEP_PPB] ++ evWords Ev.POD.STOPPED ++ portRegs) s t)) ∧
  (∀ (port : Port) (m : Fin 2) (v : Word) (s : State), lets s (Reg.POD.POD_CMD m.val) = true → podState s m.val = 2 →
    completes (.podStop port m v) s (fun t =>
      (∀ (p : Nat), p < 4 → p ∈ podMembers s m.val →
        (portState s p = portRunning → portState t p = portRunning ∧ (t.port p).stopping = true) ∧ (portState s p ≠ portRunning → portState t p = portIdle)) ∧
      ((podMembers s m.val).all (fun p => portState s p != portRunning) = true → podState t m.val = 0 ∧ raised t Ev.POD.STOPPED) ∧
      frame [.audio, .twc, .fab] (evWords Ev.POD.STOPPED ++ portRegs) s t))

/-! ## Register model (chapter 11) -/

/-- Register accesses (R276, R279, R280, R282, R290): a write acts on each field by its type, with the treatments stated; an offset without a register
ignores it; an unimplemented page and a misaligned access are recorded; a firmware-served register holds it over a pause. A read returns the
captured or the live word, and `_LO` captures `_HI`. It rests also on the model's own readings: log entries 3, 6 and 14. -/
def Obligations.AccessesComplete : Prop :=
  (∀ (port : Port) (addr : BitVec 24) (v : Word) (s : State), lets s addr.toNat = true → 0x40 ≤ addr.toNat % 4096 → ackWindow? addr.toNat = none →
    (0x010 ≤ addr.toNat / 4096 ∧ addr.toNat / 4096 < 0x018) ∨ (0x020 ≤ addr.toNat / 4096 ∧ addr.toNat / 4096 < 0x028 ∧ 0x44 ≤ addr.toNat % 4096 ∧ addr.toNat % 4096 < 0x80) →
    completes (.registerWrite port addr v) s (fun t =>
      t.word addr.toNat = afterWrite s port addr.toNat v ∧ keyClosed s t (addr.toNat / 4096) ∧ frame [.fab] [addr.toNat] s t)) ∧
  (∀ (port : Port) (addr : BitVec 24) (v : Word) (s : State), lets s addr.toNat = true → isRegPage (addr.toNat / 4096) = true →
    0x40 ≤ addr.toNat % 4096 → regSpec addr.toNat = none → ackWindow? addr.toNat = none →
    completes (.registerWrite port addr v) s (fun t => keyClosed s t (addr.toNat / 4096) ∧ frame [.fab] [] s t)) ∧
  (∀ (port : Port) (addr : BitVec 24) (v : Word) (s : State), s.served = true → pageServed s (addr.toNat / 4096) = false →
    completes (.registerWrite port addr v) s (fun t => recorded s t port addr.toNat 1 true ∧ frame evParts accRegs s t)) ∧
  (∀ (port : Port) (addr : BitVec 24) (v : Word) (s : State) (a : Nat), a = addr.toNat / 4 * 4 → addr.toNat % 4 ≠ 0 → lets s a = true →
    0x40 ≤ a % 4096 → ackWindow? a = none → 0x010 ≤ a / 4096 → a / 4096 < 0x018 →
    completes (.registerWrite port addr v) s (fun t =>
      t.word a = afterWrite s port a v ∧ recorded s t port addr.toNat 2 true ∧ frame evParts (a :: accRegs) s t)) ∧
  (∀ (port : Port) (addr : BitVec 24) (v : Word) (s : State), s.served = true → pageServed s (addr.toNat / 4096) = true → regServed s addr.toNat = true →
    addr.toNat % 4 = 0 → s.fab.pause.isSome = true → servedByFirmware addr.toNat = true → s.fab.held.length < 256 →
    completes (.registerWrite port addr v) s (fun t =>
      t.fab.held = s.fab.held ++ [⟨port, addr.toNat, v, keyOpen s (addr.toNat / 4096) port⟩] ∧ keyClosed s t (addr.toNat / 4096) ∧
      frame [.fab] [] s t)) ∧
  (∀ (port : Port) (addr : BitVec 24) (v : Word) (s : State), s.served = true → pageServed s (addr.toNat / 4096) = true → regServed s addr.toNat = true →
    addr.toNat % 4 = 0 → s.fab.pause.isSome = true → servedByFirmware addr.toNat = true → 256 ≤ s.fab.held.length →
    completes (.registerWrite port addr v) s (fun t =>
      t.fab.held = s.fab.held ∧ recorded s t port addr.toNat 5 true ∧ frame evParts accRegs s t)) ∧
  (∀ (port : Port) (addr : BitVec 24) (v : Word) (s : State), s.served = false →
    completes (.registerWrite port addr v) s (fun t => frame [] [] s t)) ∧
  (∀ (port : Port) (addr : BitVec 24) (s : State), addr.toNat = Reg.SYS.TIME_LO → reads s addr.toNat = true → latched s port addr.toNat = none →
    completes (.latchCaptureRead port addr) s (fun t =>
      drove t port (lowWord s.time) ∧ latched t port (Reg.SYS.TIME_LO + 4) = some (lowWord (s.time / 2 ^ 32)) ∧ frame [.fab, .host] [] s t)) ∧
  (∀ (port : Port) (addr : BitVec 24) (s : State) (w : Word), reads s addr.toNat = true → latched s port addr.toNat = some w →
    completes (.latchCaptureRead port addr) s (fun t => drove t port w ∧ frame [.fab, .host] [] s t)) ∧
  (∀ (port : Port) (addr : BitVec 24) (s : State), reads s addr.toNat = true → latched s port addr.toNat = none →
    completes (.latchCaptureRead port addr) s (fun t =>
      drove t port (readWord s addr.toNat) ∧
      (∀ c ∈ capturedBy addr.toNat, latched t port c = some (serveRead s c)) ∧ frame [.fab, .host] [] s t)) ∧
  (∀ (port : Port) (addr : BitVec 24) (s : State), s.served = true → pageServed s (addr.toNat / 4096) = false →
    completes (.latchCaptureRead port addr) s (fun t =>
      drove t port 0 ∧ recorded s t port addr.toNat 1 false ∧ frame [.fab, .host, .twc] accRegs s t))

/-- Result windows (R285): an ACK with the SEQ of the held result consumes it, which promotes the result of the side slot or empties the window; any
other ACK is ignored. -/
def Obligations.AcksComplete : Prop :=
  (∀ (port : Port) (i : Fin 27) (v : Word) (s : State), lets s (windowAddrs.getD i.val (0, 0)).2 = true → s.flag (windowValid i.val) = true →
    s.get (windowSeq i.val) = fieldOf v 0 8 → (at' s.fab.windows i.val {}).side = none →
    completes (.resultAck port i v) s (fun t =>
      t.flag (windowValid i.val) = false ∧ t.flag (windowOverflow i.val) = false ∧ t.get (windowSeq i.val) = s.get (windowSeq i.val) ∧
      frame [.fab] [windowHeader i.val] s t)) ∧
  (∀ (port : Port) (i : Fin 27) (v : Word) (s : State) (r : Result), lets s (windowAddrs.getD i.val (0, 0)).2 = true → s.flag (windowValid i.val) = true →
    s.get (windowSeq i.val) = fieldOf v 0 8 → (at' s.fab.windows i.val {}).side = some r → (r.words.map (fun c => c.1)).Nodup → r.seq < 256 →
    completes (.resultAck port i v) s (fun t =>
      promoted t i.val r ∧ t.flag (windowOverflow i.val) = (at' s.fab.windows i.val {}).lost ∧
      (∀ c ∈ r.words, c.1 = windowHeader i.val →
        t.word c.1 = withField (withField (withField c.2 0 8 r.seq) 8 1 1) 9 1 (at' s.fab.windows i.val {}).lost.toNat) ∧
      frame [.fab, .maps] (windowHeader i.val :: r.words.map (fun c => c.1)) s t)) ∧
  (∀ (port : Port) (i : Fin 27) (v : Word) (s : State), lets s (windowAddrs.getD i.val (0, 0)).2 = true →
    s.flag (windowValid i.val) = false ∨ s.get (windowSeq i.val) ≠ fieldOf v 0 8 →
    completes (.resultAck port i v) s (fun t => t.fab.windows = s.fab.windows ∧ frame [.fab] [] s t))

/-- The page header (R281, R287, R291): LOCKKEY opens and closes the page's key, which the second boundary closes too; EV_PEND clears, EV_SET sets and
EV_EN enables events; the access record is cleared. It rests also on the model's own readings: log entries 6, 14 and 94. -/
def Obligations.HeaderWritesComplete : Prop :=
  (∀ (port : Port) (page : Nat) (s : State), isRegPage page = true → lets s (page * 4096 + 0x20) = true →
    completes (.lockkeyOpen port page) s (fun t =>
      t.fab.keys = { page := page, port := port, left := 2 } :: s.fab.keys.filter (fun k => k.page != page) ∧
      keyOpen t page port = true ∧ (∀ q, q ≠ port → keyOpen t page q = false) ∧ frame [.fab] [] s t)) ∧
  (∀ (port : Port) (page : Nat) (v : Word) (s : State), isRegPage page = true → lets s (page * 4096 + 0x20) = true →
    completes (.lockkeyClose port page v) s (fun t => keyClosed s t page ∧ frame [.fab] [] s t)) ∧
  (∀ (page : Nat) (s : State), (∃ k ∈ s.fab.keys, k.page = page ∧ k.left = 0) →
    completes (.keyExpire page) s (fun t => keyClosed s t page ∧ frame [.fab] [] s t)) ∧
  (∀ (port : Port) (page : Nat) (v : Word) (s : State), isRegPage page = true → lets s (page * 4096 + 0x18) = true →
    completes (.eventClear port page v) s (fun t =>
      t.word (evRawAddr page) = s.word (evRawAddr page) &&& ~~~v ∧
      (page = 0 ∧ v.getLsbD (eventBit Ev.SYS.WAKE) = true → t.flag Fld.SYS.WAKE_CFG.ASSERTED = false) ∧
      frame [.fab] (evRawAddr page :: (if page = 0 ∧ v.getLsbD (eventBit Ev.SYS.WAKE) = true then [Reg.SYS.WAKE_CFG] else [])) s t)) ∧
  (∀ (port : Port) (page : Nat) (v : Word) (s : State), isRegPage page = true → lets s (page * 4096 + 0x1C) = true →
    completes (.eventSetTest port page v) s (fun t =>
      t.word (evRawAddr page) = s.word (evRawAddr page) ||| (v &&& BitVec.ofNat 32 (2 ^ eventCount page - 1)) ∧
      frame [.fab] [evRawAddr page] s t)) ∧
  (∀ (port : Port) (page : Nat) (v : Word) (s : State), isRegPage page = true → lets s (page * 4096 + 0x14) = true →
    completes (.eventEnableWrite port page v) s (fun t =>
      t.word (evEnAddr page) = v &&& BitVec.ofNat 32 (2 ^ eventCount page - 1) ∧ frame [.fab] [evEnAddr page] s t)) ∧
  (∀ (port : Port) (v : Word) (s : State), lets s Reg.SYS.ACC_ERR = true →
    completes (.accErrClear port v) s (fun t =>
      t.flag Fld.SYS.ACC_ERR.VALID = false ∧ wrote s t Fld.SYS.ACC_ERR.VALID 0 ∧ frame [.fab] [Reg.SYS.ACC_ERR] s t))

/-- The fabric's own events (R8, R22, R290): a pause ends with its held write applied under the key it found and its events raised; a freed place of the
plan goes to the first waiting request of the first class, else to the first of the second, whose changes take one boundary together; a frequency
epoch held over the pause is posted. It rests also on the model's own readings: log entries 6, 8 and 96. -/
def Obligations.PausesAndPlacesComplete : Prop :=
  (∀ (why : PauseCause) (s : State), s.fab.pause = some why → ¬(why = .handover ∧ s.fw.handOver.isSome = true) → s.fab.held = [] →
    s.fab.lateResults = [] → s.planHeld = [] → (∀ u ∈ s.flt.inReset, u.1 ≠ 0x08) → plantedSlots s (fun x => x.met) = [] → s.mgr.waiting = [] →
    completes .pauseEnd s (fun t =>
      t.fab.pause = none ∧ t.fab.held = [] ∧ t.fab.lateEvents = [] ∧
      (∀ g ∈ s.fab.lateEvents, g < 256 → t.flag (evRaw g) = true) ∧ frame [.fab, .twc] (evsWords s.fab.lateEvents) s t)) ∧
  (∀ (why : PauseCause) (s : State) (h : HeldWrite), s.fab.pause = some why → ¬(why = .handover ∧ s.fw.handOver.isSome = true) → s.fab.held = [h] →
    h.addr / 4096 = 0x018 → 0x40 ≤ h.addr % 4096 → s.fab.lateResults = [] → s.fab.lateEvents = [] → s.planHeld = [] →
    (∀ u ∈ s.flt.inReset, u.1 ≠ 0x08) → plantedSlots s (fun x => x.met) = [] → s.mgr.waiting = [] →
    completes .pauseEnd s (fun t =>
      t.fab.pause = none ∧ t.fab.held = [] ∧
      t.word h.addr = treat h.addr (writtenWord h.addr (s.word h.addr) h.value (!h.keyed) (s.flag Fld.RGL.SEAL.SEALED)) ∧
      frame [.fab] [h.addr] s t)) ∧
  (∀ (why : PauseCause) (s : State) (c : Change) (want : Nat), s.fab.pause = some why → ¬(why = .handover ∧ s.fw.handOver.isSome = true) →
    s.planHeld = [(want, [c])] → s.planWait = [] → s.plan.length < 64 → s.fab.held = [] → s.fab.lateResults = [] → s.fab.lateEvents = [] →
    (∀ u ∈ s.flt.inReset, u.1 ≠ 0x08) → plantedSlots s (fun x => x.met) = [] → s.mgr.waiting = [] →
    completes .pauseEnd s (fun t =>
      t.fab.pause = none ∧ t.planHeld = [] ∧ asked s t c want ∧ frame [.fab, .plan] [Reg.OFS.EPOCH_PLAN, Reg.OFS.STEP_PPB] s t)) ∧
  (∀ (s : State) (x : Nat × List Change),
    (s.planWait.find? (fun y => y.2.any firstClass)).orElse (fun _ => s.planWait.head?) = some x → fits x.2 x.1 s = true → x.2 ≠ [] →
    (x.2.length = 1 ∨ (x.2.all (fun c => !isFreq c) = true ∧ x.2.Pairwise (fun a b => sameKindTarget a b = false))) →
    completes .schedPlaceFreed s (fun t =>
      (∃ e ∈ t.plan, x.1 ≤ e.at_ ∧ s.epoch + 2 ≤ e.at_ ∧ ∀ c ∈ x.2, (⟨e.at_, false, c⟩ : Entry) ∈ t.plan) ∧ t.planWait = s.planWait.erase x ∧
      frame [.plan] [Reg.OFS.EPOCH_PLAN, Reg.OFS.STEP_PPB] s t)) ∧
  (∀ (s : State), s.planWait = [] → completes .schedPlaceFreed s (fun t => frame [] [] s t))

/-- Keyed writes of the host ports (R281, R299, R304, R310): with the key a write is taken, or refused where an address is reserved or already answered;
without it the keyed fields stay and the write is recorded. It rests also on the model's own readings: log entries 6, 14 and 15. -/
def Obligations.KeyedWritesComplete : Prop :=
  (∀ (port : Port) (v : Word) (s : State), lets s Reg.HSP.CTRL = true → keyOpen s 0x060 port = true →
    completes (.crcEnableWrite port v) s (fun t =>
      t.flag Fld.HSP.CTRL.CRC_EN = v.getLsbD 0 ∧ keyClosed s t 0x060 ∧ frame [.fab] [Reg.HSP.CTRL] s t)) ∧
  (∀ (port : Port) (v : Word) (s : State), lets s Reg.HSP.CTRL = true → keyOpen s 0x060 port = false →
    completes (.crcEnableWrite port v) s (fun t =>
      t.word Reg.HSP.CTRL = s.word Reg.HSP.CTRL ∧ keyClosed s t 0x060 ∧ recorded s t port Reg.HSP.CTRL 3 true ∧ frame evParts accRegs s t)) ∧
  (∀ (port : Port) (k : Fin 2) (v : Word) (s : State) (a : Nat), lets s (Reg.TWT.CMP k.val) = true → keyOpen s 0x061 port = true →
    a = fieldOf v 0 7 → reservedAddr a = false → a ≠ twtBase s → a ≠ twtBase s + 1 → a ≠ s.get (Fld.TWT.CMP.ADDR (1 - k.val)) →
    completes (.twtComparatorWrite port k v) s (fun t =>
      t.get (Fld.TWT.CMP.ADDR k.val) = a ∧ t.flag (Fld.TWT.CMP.EN k.val) = v.getLsbD 8 ∧ t.flag (Fld.TWT.CMP.WINDOW k.val) = v.getLsbD 9 ∧
      frame [.fab] [Reg.TWT.CMP k.val] s t)) ∧
  (∀ (port : Port) (k : Fin 2) (v : Word) (s : State) (a : Nat), lets s (Reg.TWT.CMP k.val) = true → keyOpen s 0x061 port = true →
    a = fieldOf v 0 7 → reservedAddr a = true ∨ a = twtBase s ∨ a = twtBase s + 1 ∨ a = s.get (Fld.TWT.CMP.ADDR (1 - k.val)) →
    completes (.twtComparatorWrite port k v) s (fun t =>
      t.flag Fld.TWT.STAT.CFG_ERR = true ∧ raised t Ev.TWT.CFG_ERR ∧ frame evParts (Reg.TWT.STAT :: evWords Ev.TWT.CFG_ERR) s t)) ∧
  (∀ (port : Port) (k : Fin 2) (v : Word) (s : State), lets s (Reg.TWT.CMP k.val) = true → keyOpen s 0x061 port = false →
    completes (.twtComparatorWrite port k v) s (fun t =>
      t.word (Reg.TWT.CMP k.val) = s.word (Reg.TWT.CMP k.val) ∧ recorded s t port (Reg.TWT.CMP k.val) 3 true ∧ frame evParts accRegs s t)) ∧
  (∀ (port : Port) (v : Word) (s : State), lets s Reg.TWT.CTRL = true → keyOpen s 0x061 port = true →
    (List.range 128).all (fun a => !(underMask (twtBase s) (fieldOf v 1 7) a && reservedAddr a)) = true →
    completes (.twtMaskWrite port v) s (fun t =>
      t.flag Fld.TWT.CTRL.MASK_EN = v.getLsbD 0 ∧ t.get Fld.TWT.CTRL.MASK = fieldOf v 1 7 ∧ t.flag Fld.TWT.CTRL.STRETCH_EN = v.getLsbD 8 ∧ frame [.fab] [Reg.TWT.CTRL] s t)) ∧
  (∀ (port : Port) (v : Word) (s : State), lets s Reg.TWT.CTRL = true → keyOpen s 0x061 port = true →
    (List.range 128).any (fun a => underMask (twtBase s) (fieldOf v 1 7) a && reservedAddr a) = true →
    completes (.twtMaskWrite port v) s (fun t =>
      t.flag Fld.TWT.STAT.CFG_ERR = true ∧ raised t Ev.TWT.CFG_ERR ∧ frame evParts (Reg.TWT.STAT :: evWords Ev.TWT.CFG_ERR) s t)) ∧
  (∀ (port : Port) (v : Word) (s : State), lets s Reg.TWT.CTRL = true → keyOpen s 0x061 port = false →
    completes (.twtMaskWrite port v) s (fun t =>
      t.get Fld.TWT.CTRL.MASK = s.get Fld.TWT.CTRL.MASK ∧ t.flag Fld.TWT.CTRL.MASK_EN = s.flag Fld.TWT.CTRL.MASK_EN ∧
      t.flag Fld.TWT.CTRL.STRETCH_EN = v.getLsbD 8 ∧ recorded s t port Reg.TWT.CTRL 3 true ∧ frame evParts (Reg.TWT.CTRL :: accRegs) s t))

/-! ## Host ports (chapter 12) -/

/-- SPI frames (R294 to R300): without CRC each whole word of a write takes effect in order and each word of a read is one host read; with CRC a write
waits for its trailer, which the end of the frame judges, and a read for its request CRC. STATUS, other opcodes and cut frames. It rests also on the
model's own readings: log entries 6, 90, 91 and 93. -/
def Obligations.SpiFramesComplete : Prop :=
  (∀ (mode3 : Bool) (addr : BitVec 24) (data : List (BitVec 8)) (s : State) (n : Nat), spiAlive s = true → s.served = true → s.host.frame = .none →
    s.flag Fld.HSP.CTRL.CRC_EN = false → n = data.length / 4 → 0x010000 ≤ addr.toNat → addr.toNat + 4 * n ≤ 0x018000 →
    (∀ (i : Nat), i < n → lets s (addr.toNat + 4 * i) = true ∧ 0x40 ≤ (addr.toNat + 4 * i) % 4096 ∧ ackWindow? (addr.toNat + 4 * i) = none) →
    completes (.spiWrite mode3 addr data) s (fun t =>
      (∀ (i : Nat), i < n → t.word (addr.toNat + 4 * i) = afterWrite s .spi (addr.toNat + 4 * i) (wordMsb ((data.drop (4 * i)).take 4))) ∧
      t.flag Fld.HSP.STAT.CRC_NOW = false ∧ t.flag Fld.HSP.STAT.MODE3 = mode3 ∧ t.flag Fld.HSP.STAT.QUAD = false ∧
      frame [.fab, .host] (Reg.HSP.STAT :: (List.range n).map (fun i => addr.toNat + 4 * i)) s t)) ∧
  (∀ (mode3 : Bool) (addr : BitVec 24) (data : List (BitVec 8)) (s : State), spiAlive s = true → s.served = true → s.host.frame = .none →
    s.flag Fld.HSP.CTRL.CRC_EN = false → data.length = 4 → 0x010000 ≤ addr.toNat → addr.toNat < 0x018000 → lets s addr.toNat = true →
    0x40 ≤ addr.toNat % 4096 → ackWindow? addr.toNat = none →
    completes (.spiWriteQuad mode3 addr data) s (fun t =>
      t.word addr.toNat = afterWrite s .spi addr.toNat (wordMsb data) ∧
      t.flag Fld.HSP.STAT.CRC_NOW = false ∧ t.flag Fld.HSP.STAT.MODE3 = mode3 ∧ t.flag Fld.HSP.STAT.QUAD = true ∧
      frame [.fab, .host] [Reg.HSP.STAT, addr.toNat] s t)) ∧
  (∀ (mode3 : Bool) (addr : BitVec 24) (data : List (BitVec 8)) (s : State), spiAlive s = true → s.served = true → s.host.frame = .none →
    s.flag Fld.HSP.CTRL.CRC_EN = true →
    completes (.spiWrite mode3 addr data) s (fun t =>
      t.host.frame = .crcWrite false addr.toNat data ∧ t.flag Fld.HSP.STAT.CRC_NOW = true ∧ frame [.host] [Reg.HSP.STAT] s t)) ∧
  (∀ (mode3 : Bool) (addr : BitVec 24) (count : Nat) (crc : BitVec 16) (s : State), spiAlive s = true → s.served = true → s.host.frame = .none →
    s.flag Fld.HSP.CTRL.CRC_EN = false → (∀ l ∈ s.fab.latches, l.port = .twoWire) →
    (∀ (i : Nat), i < count → reads s (burstAddr addr.toNat i) = true ∧ burstAddr addr.toNat i / 4096 ≠ 0x060) →
    completes (.spiRead mode3 addr count crc) s (fun t =>
      t.host.spiOut = (List.range count).map (fun i => readWord s (burstAddr addr.toNat i)) ∧
      frame [.fab, .host, .twc] (Reg.HSP.STAT :: accRegs) s t)) ∧
  (∀ (mode3 : Bool) (addr : BitVec 24) (count : Nat) (crc : BitVec 16) (s : State), spiAlive s = true → s.served = true → s.host.frame = .none →
    s.flag Fld.HSP.CTRL.CRC_EN = false → (∀ l ∈ s.fab.latches, l.port = .twoWire) →
    (∀ (i : Nat), i < count → reads s (burstAddr addr.toNat i) = true ∧ burstAddr addr.toNat i / 4096 ≠ 0x060) →
    completes (.spiReadQuad mode3 addr count crc) s (fun t =>
      t.host.spiOut = (List.range count).map (fun i => readWord s (burstAddr addr.toNat i)) ∧ t.flag Fld.HSP.STAT.QUAD = true ∧
      frame [.fab, .host, .twc] (Reg.HSP.STAT :: accRegs) s t)) ∧
  (∀ (mode3 : Bool) (addr : BitVec 24) (count : Nat) (crc : BitVec 16) (s : State), spiAlive s = true → s.served = true → s.host.frame = .none →
    s.flag Fld.HSP.CTRL.CRC_EN = true → crc16 ([0x20] ++ addressBytes addr.toNat) ≠ crc →
    completes (.spiRead mode3 addr count crc) s (fun t =>
      t.host.spiOut = List.replicate count 0xFFFFFFFF ∧ spiErred s t 4 addr.toNat ∧
      frame [.host, .twc, .fab] (Reg.HSP.STAT :: spiErrRegs) s t)) ∧
  (∀ (mode3 : Bool) (s : State), spiAlive s = true → s.host.frame = .none →
    completes (.spiStatus mode3) s (fun t =>
      t.host.spiOut = [wordOf [(0, 1, (s.served && !(s.pwr.mode == .recovery)).toNat), (1, 1, s.fab.pause.isSome.toNat), (2, 1, (irqAsserted s).toNat),
        (3, 1, (s.pwr.mode == .recovery).toNat), (4, 1, (s.served && s.flag Fld.HSP.CTRL.CRC_EN).toNat), (5, 1, s.host.lastErr.toNat),
        (8, 8, stateCode s), (16, 9, s.fab.held.length)]] ∧
      frame [.host] [Reg.HSP.STAT] s t)) ∧
  (∀ (mode3 : Bool) (op : BitVec 8) (s : State), spiAlive s = true → s.served = true → s.host.frame = .none → listedOpcodes.contains op = false →
    op ≠ 0x00 → op ≠ 0xFF →
    completes (.spiOtherOpcode mode3 op) s (fun t => spiErred s t 1 0 ∧ frame [.host, .twc, .fab] (Reg.HSP.STAT :: spiErrRegs) s t)) ∧
  (∀ (mode3 : Bool) (op : BitVec 8) (s : State), spiAlive s = true → s.host.frame = .none → op = 0x00 ∨ op = 0xFF →
    completes (.spiOtherOpcode mode3 op) s (fun t => frame [.host] [Reg.HSP.STAT] s t)) ∧
  (∀ (mode3 quad : Bool) (bits : Nat) (addr : BitVec 24) (s : State), spiAlive s = true → s.served = true → s.host.frame = .none →
    completes (.spiCsRise mode3 quad bits addr) s (fun t =>
      spiErred s t 2 (if 32 ≤ bits then addr.toNat else 0) ∧ t.host.frame = .none ∧ t.host.lastErr = true ∧
      frame [.host, .twc, .fab] (Reg.HSP.STAT :: spiErrRegs) s t)) ∧
  (∀ (mode3 quad : Bool) (bits : Nat) (addr : BitVec 24) (s : State) (a : Nat) (cut : Bool), spiAlive s = true → s.served = true →
    s.host.frame = .write a cut → cut = true ∨ bits ≠ 0 →
    completes (.spiCsRise mode3 quad bits addr) s (fun t =>
      spiErred s t 3 a ∧ t.host.frame = .none ∧ t.host.lastErr = true ∧ frame [.host, .twc, .fab] spiErrRegs s t)) ∧
  (∀ (mode3 quad : Bool) (bits : Nat) (addr : BitVec 24) (s : State) (a : Nat), spiAlive s = true →
    s.host.frame = .write a false ∨ s.host.frame = .read a → bits = 0 →
    completes (.spiCsRise mode3 quad bits addr) s (fun t =>
      t.host.frame = .none ∧ t.host.lastErr = s.host.frameErr ∧ frame [.host] [] s t)) ∧
  (∀ (mode3 quad : Bool) (bits : Nat) (addr : BitVec 24) (s : State) (q : Bool) (a : Nat) (data : List (BitVec 8)) (n : Nat), spiAlive s = true →
    s.served = true → s.host.frame = .crcWrite q a data → bits = 0 → data.length = 4 * n + 2 → 1 ≤ n → n ≤ 64 →
    (wordMsb (data.drop (4 * n))).toNat = (crc16 ([if q then 0x11 else 0x10] ++ addressBytes a ++ data.take (4 * n))).toNat →
    0x010000 ≤ a → a + 4 * n ≤ 0x018000 → (∀ (i : Nat), i < n → lets s (a + 4 * i) = true ∧ 0x40 ≤ (a + 4 * i) % 4096 ∧ ackWindow? (a + 4 * i) = none) →
    completes (.spiCsRise mode3 quad bits addr) s (fun t =>
      (∀ (i : Nat), i < n → t.word (a + 4 * i) = afterWrite s .spi (a + 4 * i) (wordMsb ((data.drop (4 * i)).take 4))) ∧
      t.host.frame = .none ∧ frame [.fab, .host] ((List.range n).map (fun i => a + 4 * i)) s t)) ∧
  (∀ (mode3 quad : Bool) (bits : Nat) (addr : BitVec 24) (s : State) (q : Bool) (a : Nat) (data : List (BitVec 8)) (cause : Nat), spiAlive s = true →
    s.served = true → s.host.frame = .crcWrite q a data →
    (cause = 3 ∧ (bits ≠ 0 ∨ data.length < 6 ∨ data.length % 4 ≠ 2)) ∨ (cause = 6 ∧ bits = 0 ∧ data.length % 4 = 2 ∧ 258 < data.length) ∨
      (cause = 5 ∧ bits = 0 ∧ 6 ≤ data.length ∧ data.length ≤ 258 ∧ data.length % 4 = 2 ∧ (wordMsb (data.drop (data.length - 2))).toNat ≠
        (crc16 ([if q then 0x11 else 0x10] ++ addressBytes a ++ data.take (data.length - 2))).toNat) →
    completes (.spiCsRise mode3 quad bits addr) s (fun t =>
      spiErred s t cause a ∧ t.host.frame = .none ∧ t.host.lastErr = true ∧ frame [.host, .twc, .fab] spiErrRegs s t)) ∧
  (∀ (mode3 : Bool) (addr : BitVec 24) (data : List (BitVec 8)) (s : State), s.served = false → s.host.frame = .none →
    completes (.spiWrite mode3 addr data) s (fun t => frame [.host] [] s t))

/-- Two-wire transfers (R303 to R308): the address bytes set the pointer of the comparator's function, whole words are written, bytes are read at the
pointer; each abnormal condition is recorded by its cause; in SLEEP the base address wakes. It rests also on the model's own readings: log entries
6, 92 and 93. -/
def Obligations.TwoWireComplete : Prop :=
  (∀ (addr7 : BitVec 7) (data : List (BitVec 8)) (s : State) (c a : Nat), comparator s addr7.toNat = some c → windowed s c = false → data.length = 7 →
    a = (wordMsb (data.take 3)).toNat → 0x010000 ≤ a → a < 0x018000 → lets s a = true → 0x40 ≤ a % 4096 → ackWindow? a = none →
    completes (.twtWriteTransfer addr7 data) s (fun t =>
      t.word a = afterWrite s .twoWire a (wordMsb (data.drop 3)) ∧ t.host.ptr0 = a + 4 ∧ t.get Fld.TWT.STAT.LAST_CMP = c ∧
      t.get Fld.TWT.POINTER0.PTR = s.host.ptr0 % 16777216 ∧ frame [.fab, .host] (a :: twtRegs) s t)) ∧
  (∀ (addr7 : BitVec 7) (data : List (BitVec 8)) (s : State) (c : Nat) (win : Bool), comparator s addr7.toNat = some c → win = windowed s c →
    data.length = 3 → ¬(win = true ∧ outsideWindows data = true) →
    completes (.twtWriteTransfer addr7 data) s (fun t =>
      pointer t win = (wordMsb data).toNat ∧ pointer t (!win) = pointer s (!win) ∧ frame [.host] twtRegs s t)) ∧
  (∀ (addr7 : BitVec 7) (data : List (BitVec 8)) (s : State) (c cause : Nat), comparator s addr7.toNat = some c →
    (cause = 5 ∧ windowed s c = true ∧ outsideWindows data = true) ∨ (cause = 4 ∧ ¬(windowed s c = true ∧ outsideWindows data = true) ∧ data.length < 3) ∨
      (cause = 3 ∧ ¬(windowed s c = true ∧ outsideWindows data = true) ∧ 3 < data.length ∧ data.length < 7 ∧ (wordMsb (data.take 3)).toNat < 0x200000) →
    completes (.twtWriteTransfer addr7 data) s (fun t =>
      twtErred s t cause addr7.toNat false ∧ (cause ≠ 3 → t.host = s.host) ∧ frame [.host, .twc, .fab] twtErrRegs s t)) ∧
  (∀ (addr7 : BitVec 7) (data : List (BitVec 8)) (s : State), comparator s addr7.toNat = none →
    completes (.twtWriteTransfer addr7 data) s (fun t => frame [] [] s t)) ∧
  (∀ (addr7 : BitVec 7) (count : Nat) (s : State) (c n : Nat), comparator s addr7.toNat = some c → windowed s c = false → 1 ≤ n → count = 4 * n →
    s.host.ptr0 % 4 = 0 → s.host.ptr0 < 16777216 → (∀ l ∈ s.fab.latches, l.port = .spi) →
    (∀ (i : Nat), i < n → reads s (burstAddr s.host.ptr0 i) = true ∧ burstAddr s.host.ptr0 i / 4096 ≠ 0x061) →
    completes (.twtReadTransfer addr7 count) s (fun t =>
      t.host.twtOut = (List.range n).flatMap (fun i => wordBytesMsb (readWord s (burstAddr s.host.ptr0 i))) ∧
      t.host.ptr0 = (s.host.ptr0 + count) % 16777216 ∧ frame [.fab, .host] twtRegs s t)) ∧
  (∀ (addr7 : BitVec 7) (dir : TwtDir) (why : TwtAbort) (s : State) (c : Nat) (data : List (BitVec 8)), dir = .write data → why = .inByte →
    comparator s addr7.toNat = some c → ¬(windowed s c = true ∧ outsideWindows data = true) → data.length < 7 → (wordMsb (data.take 3)).toNat < 0x200000 →
    completes (.twtBusAbort addr7 dir why) s (fun t => twtErred s t 1 addr7.toNat false ∧ frame [.host, .twc, .fab] twtErrRegs s t)) ∧
  (∀ (addr7 : BitVec 7) (dir : TwtDir) (why : TwtAbort) (s : State) (c : Nat) (data : List (BitVec 8)), dir = .write data → why = .inWord →
    comparator s addr7.toNat = some c → ¬(windowed s c = true ∧ outsideWindows data = true) → 3 < data.length → data.length < 7 →
    (wordMsb (data.take 3)).toNat < 0x200000 →
    completes (.twtBusAbort addr7 dir why) s (fun t =>
      twtErred s t 3 addr7.toNat false ∧ pointer t (windowed s c) = (wordMsb (data.take 3)).toNat ∧ frame [.host, .twc, .fab] twtErrRegs s t)) ∧
  (∀ (addr7 : BitVec 7) (dir : TwtDir) (why : TwtAbort) (s : State) (c : Nat) (data : List (BitVec 8)), dir = .write data → why = .nackRestart →
    comparator s addr7.toNat = some c → windowed s c = true → outsideWindows data = true → data.length = 1 →
    completes (.twtBusAbort addr7 dir why) s (fun t =>
      t.word Reg.TWT.LAST_PROTO = wordOf [(0, 4, 2), (8, 7, addr7.toNat)] ∧
      t.get Fld.TWT.PROTO_CNT.COUNT = min 65535 (s.get Fld.TWT.PROTO_CNT.COUNT + 2) ∧ raised t Ev.TWT.PROTO ∧ t.host = s.host ∧
      frame [.twc, .fab] twtErrRegs s t)) ∧
  (∀ (addr7 : BitVec 7) (dir : TwtDir) (s : State) (c : Nat) (data : List (BitVec 8)), dir = .write data →
    comparator s addr7.toNat = some c → ¬(windowed s c = true ∧ outsideWindows data = true) → data.length < 7 → (wordMsb (data.take 3)).toNat < 0x200000 →
    completes (.twtTimeout addr7 dir) s (fun t => twtErred s t 6 addr7.toNat false ∧ frame [.host, .twc, .fab] twtErrRegs s t)) ∧
  (∀ (addr7 : BitVec 7) (dir : TwtDir) (s : State) (c : Nat) (data : List (BitVec 8)), dir = .write data → s.pwr.mode = .recovery →
    comparator s addr7.toNat = some c → ¬(windowed s c = true ∧ outsideWindows data = true) → data.length < 7 → (wordMsb (data.take 3)).toNat < 0x200000 →
    completes (.twtStretchLimit addr7 dir) s (fun t => twtErred s t 7 addr7.toNat false ∧ frame [.host, .twc, .fab] twtErrRegs s t)) ∧
  (∀ (addr7 : BitVec 7) (dir : TwtDir) (s : State) (c count k : Nat), dir = .read count → s.pwr.mode = .recovery → comparator s addr7.toNat = some c →
    windowed s c = false → k = (4 - (s.host.ptr0 + count) % 4) % 4 →
    completes (.twtStretchLimit addr7 dir) s (fun t =>
      twtErred s t 7 addr7.toNat true ∧ t.host.twtOut.length = count + k ∧ t.host.twtOut.drop count = List.replicate k 0xFF ∧
      t.host.ptr0 = (s.host.ptr0 + count + k) % 16777216 ∧ frame [.host, .twc, .fab] (twtErrRegs ++ accRegs) s t)) ∧
  (∀ (addr7 : BitVec 7) (obs : BootObs) (s : State), s.pwr.mode = .sleep → addr7.toNat = 0x60 + 2 * s.pwr.addrSel → s.pwr.vsysOk = true →
    completes (.twtWakeMatch addr7 obs) s (fun t => started s t 2 obs ∧ s.pwr.aonTime ≤ t.pwr.aonTime)) ∧
  (∀ (addr7 : BitVec 7) (obs : BootObs) (s : State), s.pwr.mode ≠ .sleep → completes (.twtWakeMatch addr7 obs) s (fun t => frame [] [] s t))

/-! ## Auxiliary two-wire controller (chapter 13) -/

/-- What the host asks of the controller (R313, R318, R321, R322): a transfer is taken, or refused with BUSY or STUCK_SDA; a script run is pending or
merged; RESET ends the item in progress with STATE, and REENABLE enables a disabled port. It rests also on the model's own readings: log entries 6
and 83. -/
def Obligations.TwcRequestsComplete : Prop :=
  (∀ (port : Port) (v : Word) (s : State), lets s Reg.TWC.CMD = true → s.twc.host = none → fieldOf v 8 6 ≤ 32 → fieldOf v 16 6 ≤ 32 →
    s.flag Fld.TWC.STAT.DISABLED = false →
    completes (.twcHostTransfer port v) s (fun t =>
      t.twc = { s.twc with host := some (fieldOf v 0 7, fieldOf v 8 6, fieldOf v 16 6) } ∧ frame [.twc, .fab] [] s t)) ∧
  (∀ (port : Port) (v : Word) (s : State), lets s Reg.TWC.CMD = true → s.twc.host.isSome = true ∨ 32 < fieldOf v 8 6 ∨ 32 < fieldOf v 16 6 →
    completes (.twcHostTransfer port v) s (fun t =>
      twcPosted s t 8 none 0 s.twc.wrDone [] ∧ t.twc = s.twc ∧ frame [.fab] twcResultRegs s t)) ∧
  (∀ (port : Port) (v : Word) (s : State), lets s Reg.TWC.CMD = true → s.twc.host = none → fieldOf v 8 6 ≤ 32 → fieldOf v 16 6 ≤ 32 →
    s.flag Fld.TWC.STAT.DISABLED = true →
    completes (.twcHostTransfer port v) s (fun t =>
      twcPosted s t 5 none 0 s.twc.wrDone [] ∧ t.twc = s.twc ∧ frame [.fab] twcResultRegs s t)) ∧
  (∀ (port : Port) (v : Word) (s : State) (n : Nat), lets s Reg.TWC.CMD_RUN = true → n = fieldOf v 0 4 → n ∉ s.twc.order →
    s.flag Fld.TWC.STAT.DISABLED = false →
    completes (.scriptRunCmd port v) s (fun t => t.twc = { s.twc with order := s.twc.order ++ [n] } ∧ frame [.twc, .fab] [] s t)) ∧
  (∀ (port : Port) (v : Word) (s : State), lets s Reg.TWC.CMD_RUN = true →
    fieldOf v 0 4 ∈ s.twc.order ∨ s.flag Fld.TWC.STAT.DISABLED = true →
    completes (.scriptRunCmd port v) s (fun t =>
      t.get Fld.TWC.SKIP_CNT.COUNT = min 65535 (s.get Fld.TWC.SKIP_CNT.COUNT + 1) ∧ frame [.fab] [Reg.TWC.SKIP_CNT] s t)) ∧
  (∀ (port : Port) (v : Word) (s : State) (n step : Nat), lets s Reg.TWC.CTRL = true → s.twc.work = .script n step → s.twc.xfer = none →
    completes (.twcReset port v) s (fun t =>
      t.word Reg.TWC.CTRL = afterWrite s port Reg.TWC.CTRL (withField v 3 1 1) ∧
      twcPosted s t 7 (some n) (min 255 step) s.twc.wrDone [] ∧ t.twc.work = .idle ∧ t.twc.waitTo = none ∧ t.twc.order = s.twc.order ∧
      frame [.twc, .fab] ([Reg.TWC.CTRL, Reg.TWC.STAT] ++ twcResultRegs) s t)) ∧
  (∀ (port : Port) (v : Word) (s : State), lets s Reg.TWC.CTRL = true → s.twc.work = .idle → v.getLsbD 4 = false →
    completes (.twcReset port v) s (fun t =>
      t.word Reg.TWC.CTRL = afterWrite s port Reg.TWC.CTRL (withField v 3 1 1) ∧ frame [.fab] [Reg.TWC.CTRL] s t)) ∧
  (∀ (port : Port) (v : Word) (s : State), lets s Reg.TWC.CTRL = true → v.getLsbD 0 = true → v.getLsbD 3 = false →
    completes (.twcReenable port v) s (fun t =>
      t.flag Fld.TWC.STAT.DISABLED = false ∧ t.word Reg.TWC.CTRL = afterWrite s port Reg.TWC.CTRL (withField v 4 1 1) ∧
      frame [.fab] [Reg.TWC.CTRL, Reg.TWC.STAT] s t))

/-- What the bus and the sequencer do (R314 to R317, R319 to R321, R323 to R325): the pending script first in order runs from START, else the host
transfer starts; a transfer's end, a NACK, a wait's end, lost arbitration, a bus that is busy, stuck or held lead to the next step or to the result
with its cause. It rests also on the model's own readings: log entries 3, 6 and 83. -/
def Obligations.TwcWorkCompletes : Prop :=
  (∀ (bus : TwcBus) (s : State) (h : Nat × Nat × Nat), auxDrives s = true → s.twc.work = .idle → s.twc.order = [] → s.twc.host = some h →
    s.twc.xfer = none → s.twc.waitTo = none → bus ≠ .stuck →
    completes (.twcWorkStart bus) s (fun t =>
      t.twc = { s.twc with work := .host, xfer := some (h.1, (List.range h.2.1).map (txByte s), h.2.2) } ∧ frame [.twc] [] s t)) ∧
  (∀ (bus : TwcBus) (s : State) (h : Nat × Nat × Nat), auxDrives s = true → s.twc.work = .idle → s.twc.order = [] → s.twc.host = some h →
    s.twc.xfer = none → s.twc.waitTo = none → bus = .stuck →
    completes (.twcWorkStart bus) s (fun t =>
      t.flag Fld.TWC.STAT.DISABLED = true ∧ raised t Ev.TWC.STUCK_SDA ∧ twcPosted s t 5 none 0 s.twc.wrDone [] ∧ t.twc.host = none ∧
      t.twc.work = .idle ∧ frame [.twc, .fab] (Reg.TWC.STAT :: (twcResultRegs ++ evWords Ev.TWC.STUCK_SDA)) s t)) ∧
  (∀ (bus : TwcBus) (s : State) (n : Nat) (rest : List Nat) (st : Nat) (w : Word), auxDrives s = true → s.twc.work = .idle → s.twc.order = n :: rest →
    n < 16 → bus ≠ .stuck → st = s.get (Fld.TWC.SCR_CFG.START n) → w = s.word (Reg.TWC.STEP st) → fieldOf w 28 4 = 1 ∨ fieldOf w 28 4 = 2 →
    completes (.twcWorkStart bus) s (fun t =>
      t.twc.work = .script n st ∧ t.twc.order = rest ∧ t.twc.host = s.twc.host ∧ t.twc.notify = s.flag (Fld.TWC.SCR_CFG.NOTIFY n) ∧
      t.twc.xfer = some (fieldOf w 16 7,
        (if fieldOf w 28 4 = 2 then [BitVec.ofNat 8 (fieldOf w 8 8)] else []) ++ [BitVec.ofNat 8 (fieldOf w 0 8)], 0) ∧
      frame [.twc] [] s t)) ∧
  (∀ (bus : TwcBus) (s : State) (n : Nat) (rest : List Nat) (w : Word), auxDrives s = true → s.twc.work = .idle → s.twc.order = n :: rest →
    n < 16 → w = s.word (Reg.TWC.STEP (s.get (Fld.TWC.SCR_CFG.START n))) → fieldOf w 28 4 = 3 →
    completes (.twcWorkStart bus) s (fun t =>
      t.twc.work = .script n (s.get (Fld.TWC.SCR_CFG.START n)) ∧ t.twc.waitTo = some (s.epoch + max 1 (fieldOf w 0 16)) ∧ t.twc.xfer = none ∧
      frame [.twc] [] s t)) ∧
  (∀ (bus : TwcBus) (s : State) (n : Nat) (rest : List Nat) (w : Word), auxDrives s = true → s.twc.work = .idle → s.twc.order = n :: rest →
    n < 16 → w = s.word (Reg.TWC.STEP (s.get (Fld.TWC.SCR_CFG.START n))) → 4 ≤ fieldOf w 28 4 →
    completes (.twcWorkStart bus) s (fun t =>
      t.twc.work = .idle ∧ twcPosted s t 9 (some n) (s.get (Fld.TWC.SCR_CFG.START n)) s.twc.wrDone [] ∧ frame [.twc, .fab] twcResultRegs s t)) ∧
  (∀ (obs : TwcDoneObs) (s : State) (x : Nat × List (BitVec 8) × Nat) (cause wr : Nat) (rd : List (BitVec 8)), s.twc.work = .host → s.twc.xfer = some x →
    (cause = 0 ∧ obs.nackAddr = false ∧ obs.nackData = false ∧ wr = x.2.1.length ∧ rd = obs.rdBytes ∧ rd.length = x.2.2) ∨
      (cause = 1 ∧ obs.nackAddr = true ∧ wr = obs.wrDone ∧ wr ≤ x.2.1.length ∧ rd = []) ∨
      (cause = 2 ∧ obs.nackAddr = false ∧ obs.nackData = true ∧ wr = obs.wrDone ∧ wr < x.2.1.length ∧ rd = []) →
    completes (.twcTransferDone obs) s (fun t =>
      t.twc.work = .idle ∧ t.twc.host = none ∧ t.twc.wrDone = wr ∧ twcPosted s t cause none 0 wr rd ∧ frame [.twc, .fab] twcResultRegs s t)) ∧
  (∀ (obs : TwcDoneObs) (s : State) (x : Nat × List (BitVec 8) × Nat) (n step : Nat), s.twc.work = .script n step → s.twc.xfer = some x →
    obs.nackAddr = true → (scriptStep s step).getLsbD 24 = false → obs.wrDone = 0 →
    completes (.twcTransferDone obs) s (fun t =>
      t.twc.work = .idle ∧ twcPosted s t 1 (some n) (min 255 step) 0 [] ∧ frame [.twc, .fab] twcResultRegs s t)) ∧
  (∀ (obs : TwcDoneObs) (s : State) (x : Nat × List (BitVec 8) × Nat) (n step : Nat), s.twc.work = .script n step → s.twc.xfer = some x →
    (obs.nackAddr = false ∧ obs.nackData = false) ∨ (scriptStep s step).getLsbD 24 = true → step < 255 →
    fieldOf (scriptStep s (step + 1)) 28 4 = 1 ∨ fieldOf (scriptStep s (step + 1)) 28 4 = 2 →
    completes (.twcTransferDone obs) s (fun t =>
      t.twc.work = .script n (step + 1) ∧ t.twc.xfer = none ∧ t.twc.waitTo = none ∧ t.twc.losses = 0 ∧ frame [.twc] [] s t)) ∧
  (∀ (s : State) (n step b : Nat), s.twc.work = .script n step → s.twc.waitTo = some b → b ≤ s.epoch → step < 255 → fieldOf (scriptStep s (step + 1)) 28 4 = 0 →
    s.twc.notify = true →
    completes .scriptWaitEnd s (fun t =>
      t.twc.work = .idle ∧ t.twc.waitTo = none ∧ twcPosted s t 0 (some n) (step + 1) s.twc.wrDone [] ∧ frame [.twc, .fab] twcResultRegs s t)) ∧
  (∀ (s : State) (b : Nat), s.twc.waitTo = some b → s.epoch < b → completes .scriptWaitEnd s (fun t => frame [] [] s t)) ∧
  (∀ (s : State), s.twc.xfer.isSome = true → s.twc.losses < s.get Fld.TWC.CTRL.ARB_RETRY →
    completes .arbitrationLost s (fun t =>
      t.twc = { s.twc with xfer := none, losses := s.twc.losses + 1 } ∧
      t.get Fld.TWC.ARB_CNT.COUNT = min 65535 (s.get Fld.TWC.ARB_CNT.COUNT + 1) ∧ frame [.twc] [Reg.TWC.ARB_CNT] s t)) ∧
  (∀ (s : State), s.twc.xfer.isSome = true → s.get Fld.TWC.CTRL.ARB_RETRY ≤ s.twc.losses → s.twc.work = .host → s.flag (windowValid 22) = false →
    completes .arbitrationLost s (fun t =>
      t.twc.work = .idle ∧ t.twc.host = none ∧ t.get Fld.TWC.RES0.CAUSE = 3 ∧ t.flag (windowValid 22) = true ∧ raised t Ev.TWC.ERROR ∧
      t.get Fld.TWC.ARB_CNT.COUNT = min 65535 (s.get Fld.TWC.ARB_CNT.COUNT + 1) ∧
      frame [.twc, .fab, .free] (Reg.TWC.ARB_CNT :: twcResultRegs) s t)) ∧
  (∀ (s : State) (h : Nat × Nat × Nat), auxDrives s = true → s.twc.work = .idle → s.twc.order = [] → s.twc.host = some h →
    s.twc.xfer = none → s.twc.waitTo = none →
    completes .twcBusBusyTimeout s (fun t =>
      t.twc.work = .idle ∧ t.twc.host = none ∧ twcPosted s t 6 none 0 s.twc.wrDone [] ∧ frame [.twc, .fab] twcResultRegs s t)) ∧
  (∀ (wrDone rdDone : Nat) (s : State) (x : Nat × List (BitVec 8) × Nat), auxDrives s = true → s.twc.work = .host → s.twc.xfer = some x →
    s.flag (windowValid 22) = false → rdDone ≤ x.2.2 → x.2.2 ≤ 32 → x.2.1.length ≤ 32 →
    completes (.twcStuckScl wrDone rdDone) s (fun t =>
      t.twc.work = .idle ∧ t.twc.host = none ∧ raised t Ev.TWC.STUCK_SCL ∧ raised t Ev.TWC.ERROR ∧ t.get Fld.TWC.RES0.CAUSE = 4 ∧
      t.get Fld.TWC.RES1.WR_DONE = min wrDone x.2.1.length ∧ t.get Fld.TWC.RES1.RD_DONE = rdDone ∧ t.flag Fld.TWC.STAT.DISABLED = false ∧
      frame [.twc, .fab, .free] (twcResultRegs ++ evWords Ev.TWC.STUCK_SCL) s t))

/-! ## Power, states and start-up (chapter 14) -/

/-- State requests and the configuration gate (R334, R342, R439): a listed code is taken, any other refused, as QUIET to HOLD are in SAFE and RECOVERY;
a commit is checked in HOLD, and the first check that fails, or acceptance, ends it. It rests also on the model's own readings: log entry 6. -/
def Obligations.RequestsComplete : Prop :=
  (∀ (port : Port) (s : State), lets s Reg.SYS.STATE_REQ = true → s.pwr.mode ≠ .safe → s.pwr.mode ≠ .recovery → s.pwr.held ≠ some 9 →
    completes (.requestQuiet port) s (fun t => requestTaken s t .quiet 2)) ∧
  (∀ (port : Port) (s : State), lets s Reg.SYS.STATE_REQ = true → s.pwr.mode ≠ .safe → s.pwr.mode ≠ .recovery → s.pwr.held ≠ some 9 →
    completes (.requestWatch port) s (fun t => requestTaken s t .watch 3)) ∧
  (∀ (port : Port) (s : State), lets s Reg.SYS.STATE_REQ = true → s.pwr.mode ≠ .safe → s.pwr.mode ≠ .recovery → s.pwr.held ≠ some 9 →
    completes (.requestFull port) s (fun t => requestTaken s t .full 4)) ∧
  (∀ (port : Port) (s : State), lets s Reg.SYS.STATE_REQ = true → s.pwr.mode ≠ .safe → s.pwr.mode ≠ .recovery → s.pwr.held ≠ some 9 →
    completes (.requestHold port) s (fun t => requestTaken s t .hold 5)) ∧
  (∀ (port : Port) (s : State), lets s Reg.SYS.STATE_REQ = true → s.pwr.held ≠ some 9 →
    completes (.requestSleep port) s (fun t => requestTaken s t .sleep 8)) ∧
  (∀ (port : Port) (s : State), lets s Reg.SYS.STATE_REQ = true → s.pwr.held ≠ some 9 →
    completes (.requestOff port) s (fun t => requestTaken s t .off 9)) ∧
  (∀ (port : Port) (v : Word) (s : State), lets s Reg.SYS.STATE_REQ = true →
    ([2, 3, 4, 5, 8, 9] : List Nat).contains (fieldOf v 0 8) = false ∨
      ((s.pwr.mode = .safe ∨ s.pwr.mode = .recovery) ∧ ([2, 3, 4, 5] : List Nat).contains (fieldOf v 0 8) = true) →
    completes (.requestInvalid port v) s (fun t =>
      raised t Ev.SYS.REQ_REFUSED ∧ t.word Reg.SYS.STATE_REQ = s.word Reg.SYS.STATE_REQ ∧
      frame evParts (evWords Ev.SYS.REQ_REFUSED) s t)) ∧
  (∀ (port : Port) (v : Word) (s : State), lets s Reg.SYS.CFG_COMMIT = true → v.getLsbD 0 = true → s.pwr.mode = .hold → s.flag Fld.SYS.CFG_STATUS.CHECKING = false →
    completes (.cfgCommit port v) s (fun t =>
      t.flag Fld.SYS.CFG_STATUS.CHECKING = true ∧ wrote s t Fld.SYS.CFG_STATUS.CHECKING 1 ∧ frame [.fab] [Reg.SYS.CFG_STATUS] s t)) ∧
  (∀ (port : Port) (v : Word) (s : State) (reason detail : Nat), lets s Reg.SYS.CFG_COMMIT = true → v.getLsbD 0 = true →
    (reason = 2 ∧ detail = stateCode s ∧ s.pwr.mode ≠ .hold) ∨ (reason = 3 ∧ detail = 0 ∧ s.pwr.mode = .hold ∧ s.flag Fld.SYS.CFG_STATUS.CHECKING = true) →
    completes (.cfgCommit port v) s (fun t =>
      t.get Fld.SYS.CFG_STATUS.REASON = reason ∧ t.get Fld.SYS.CFG_STATUS.DETAIL = detail ∧ raised t Ev.SYS.CFG_RESULT ∧
      t.flag Fld.SYS.CFG_STATUS.COMMITTED = s.flag Fld.SYS.CFG_STATUS.COMMITTED ∧ frame evParts (Reg.SYS.CFG_STATUS :: evWords Ev.SYS.CFG_RESULT) s t)) ∧
  (∀ (s : State) (m : Mode), s.flag Fld.SYS.CFG_STATUS.CHECKING = true → s.pwr.mode = .hold → s.pwr.trans = none →
    requestMode (s.get Fld.SYS.STATE_REQ.CODE) = some m → m = .quiet ∨ m = .watch ∨ m = .full →
    (∀ (p : Nat), p < 5 → formatLegal (s.word (Reg.AOP.CTRL p)) = true) → (∀ (i : Nat), i < 2 → podDiffers s i = false) →
    (podMembers s 1).all (fun p => !((podMembers s 0).contains p)) = true → s.get Fld.RGL.BAND_PLAN.BANDS ≠ 0 →
    completes .cfgCheckDone s (fun t =>
      t.get Fld.SYS.CFG_STATUS.REASON = 0 ∧ t.get Fld.SYS.CFG_STATUS.DETAIL = 0 ∧ t.flag Fld.SYS.CFG_STATUS.CHECKING = false ∧
      t.flag Fld.SYS.CFG_STATUS.COMMITTED = true ∧ raised t Ev.SYS.CFG_RESULT ∧
      t.pwr.trans.map (fun x => (x.target, x.since)) = some (m, s.epoch) ∧
      frame [.pwr, .twc, .fab] (Reg.SYS.CFG_STATUS :: evWords Ev.SYS.CFG_RESULT) s t)) ∧
  (∀ (s : State) (reason detail : Nat), s.flag Fld.SYS.CFG_STATUS.CHECKING = true → s.pwr.bootShown = false →
    (reason = 4 ∧ detail = s.get Fld.SYS.STATE_REQ.CODE ∧ (detail < 2 ∨ 4 < detail)) ∨
      (reason = 5 ∧ 2 ≤ s.get Fld.SYS.STATE_REQ.CODE ∧ s.get Fld.SYS.STATE_REQ.CODE ≤ 4 ∧ detail < 5 ∧ formatLegal (s.word (Reg.AOP.CTRL detail)) = false ∧
        (List.range detail).all (fun p => formatLegal (s.word (Reg.AOP.CTRL p))) = true) ∨
      (reason = 6 ∧ detail = 1 ∧ 2 ≤ s.get Fld.SYS.STATE_REQ.CODE ∧ s.get Fld.SYS.STATE_REQ.CODE ≤ 4 ∧
        (List.range 5).all (fun p => formatLegal (s.word (Reg.AOP.CTRL p))) = true ∧ podDiffers s 0 = false ∧
        (podMembers s 1).any (fun p => (podMembers s 0).contains p) = true) ∨
      (reason = 7 ∧ detail = 0 ∧ 2 ≤ s.get Fld.SYS.STATE_REQ.CODE ∧ s.get Fld.SYS.STATE_REQ.CODE ≤ 4 ∧
        (List.range 5).all (fun p => formatLegal (s.word (Reg.AOP.CTRL p))) = true ∧ (List.range 2).all (fun m => !(podDiffers s m)) = true ∧
        (podMembers s 1).all (fun p => !((podMembers s 0).contains p)) = true ∧ s.get Fld.RGL.BAND_PLAN.BANDS = 0) →
    completes .cfgCheckDone s (fun t =>
      t.get Fld.SYS.CFG_STATUS.REASON = reason ∧ t.get Fld.SYS.CFG_STATUS.DETAIL = detail ∧ t.flag Fld.SYS.CFG_STATUS.CHECKING = false ∧
      t.flag Fld.SYS.CFG_STATUS.COMMITTED = s.flag Fld.SYS.CFG_STATUS.COMMITTED ∧ raised t Ev.SYS.CFG_RESULT ∧
      frame evParts (Reg.SYS.CFG_STATUS :: evWords Ev.SYS.CFG_RESULT) s t))

/-- Transitions, starts and stops (R333 to R343, R365, R411, R438): a transition completes on a boundary and FULL is left on E + 22; OFF and SLEEP are
reached once the outputs are released; PWR_EN, RESET_N, VDDIO, VSYS, the rails and a two-wire match start a BOOT or stop the device, each with its
CAUSE and LAST_STOP. It rests also on the model's own readings: log entries 6, 12, 78 and 119. -/
def Obligations.StatesComplete : Prop :=
  (∀ (obs : TransObs) (s : State) (x : Transition), s.pwr.trans = some x → x.target ≠ .off → x.target ≠ .sleep → onBoundary s = true → x.since < s.epoch →
    x.leaveAt = none → s.pwr.held = none → s.pwr.bootShown = false → x.target.code ≠ s.pwr.mode.code →
    completes (.transitionComplete obs) s (fun t =>
      t.pwr.mode = x.target ∧ t.pwr.trans = none ∧ raised t Ev.SYS.STATE ∧
      (x.target = .hold → t.flag Fld.SYS.CFG_STATUS.COMMITTED = false) ∧
      (s.pwr.mode = .quiet → x.target = .watch → ∀ (p : Path), modeNow t p = 0))) ∧
  (∀ (obs : TransObs) (s : State) (x : Transition), s.pwr.trans = some x → x.target = .off → x.released = true → s.nvJob.storing = false → s.pwr.risen = false →
    completes (.transitionComplete obs) s (fun t =>
      t.pwr.mode = .off ∧ t.pwr.down = none ∧ t.pwr.lastStop = 0 ∧ t.pwr.aonTime = 0 ∧ t.pwr.trans = none ∧ t.pwr.held = none ∧
      t.nv.marker = true ∧ t.nv.stopTest = stopReason obs.stop s ∧ frame [.pwr, .nv] [] s t)) ∧
  (∀ (obs : TransObs) (s : State) (x : Transition), s.pwr.trans = some x → x.target = .sleep → x.released = true →
    completes (.transitionComplete obs) s (fun t => t.pwr.mode = .sleep ∧ stoppedAtOnce s t 1)) ∧
  (∀ (s : State) (x : Transition), s.pwr.mode = .full → s.pwr.trans = some x → x.target = .quiet ∨ x.target = .watch ∨ x.target = .hold →
    (∃ b, x.leaveAt = some b ∧ b ≤ s.epoch) → onBoundary s = true → s.pwr.held = none → s.pwr.bootShown = false →
    completes .leaveFullCommit s (fun t =>
      t.pwr.mode = x.target ∧ t.pwr.trans = none ∧ raised t Ev.SYS.STATE ∧
      (∀ (l : Nat), l < 20 → (s.lane l).state ≠ .retired → (t.lane l).state = .free))) ∧
  (∀ (s : State) (x : Transition), s.pwr.mode = .full → s.pwr.trans = some x → x.target = .off ∨ x.target = .sleep →
    (∃ b, x.leaveAt = some b ∧ b ≤ s.epoch) → onBoundary s = true → s.pwr.bootShown = false →
    completes .leaveFullCommit s (fun t =>
      t.pwr.mode = .hold ∧ t.pwr.trans = some { x with released := true, leaveAt := none } ∧ t.flag Fld.SYS.CFG_STATUS.COMMITTED = false ∧
      raised t Ev.SYS.STATE)) ∧
  (∀ (obs : BootObs) (s : State) (cause : Nat), s.pwr.pwrEn = false → s.pwr.vsysOk = true →
    (cause = 0 ∧ s.pwr.mode = .off ∧ (s.pwr.down = some .trip → coolEnough obs = true)) ∨ (cause = 1 ∧ s.pwr.mode = .sleep) →
    completes (.pwrEnRise obs) s (fun t => started s t cause obs ∧ t.pwr.pwrEn = true)) ∧
  (∀ (obs : BootObs) (s : State), s.pwr.pwrEn = false → s.pwr.mode ≠ .off → s.pwr.mode ≠ .sleep →
    completes (.pwrEnRise obs) s (fun t =>
      t.pwr.pwrEn = true ∧ t.pwr.mode = s.pwr.mode ∧ (stopping s = true → s.pwr.vsysOk = true → t.pwr.risen = true) ∧ frame [.pwr] [] s t)) ∧
  (∀ (obs : BootObs) (s : State), s.pwr.mode = .boot → s.pwr.stage = .reference →
    completes (.refClassifyRetry obs) s (fun t => bootGoes s.pwr.recoveryPin obs s t)) ∧
  (∀ (s : State), s.pwr.mode = .boot → s.pwr.stage = .ready → s.pwr.trans = none → 4 ≤ effectiveCores s → s.fab.pause = none →
    s.pwr.nvEmpty = true ∨ s.flag Fld.SYS.BOOT_CFG.AUTO_COMMIT = false →
    completes .booted s (fun t =>
      t.pwr.mode = .hold ∧ raised t Ev.SYS.BOOTED ∧ t.word Reg.SYS.BOOT_STAT = bootStat s ∧ t.word (evEnAddr 0) = 7 ∧
      (s.pwr.nvEmpty = true → t.get Fld.SYS.CFG_STATUS.REASON = 1) ∧
      (s.pwr.lastStop = 5 → raised t Ev.PMU.RAIL_FAULT) ∧ (s.pwr.lastStop = 6 → raised t Ev.PMU.TRIP_SEEN))) ∧
  (∀ (s : State), s.pwr.mode = .boot → s.pwr.stage = .ready → s.pwr.trans = none → 4 ≤ effectiveCores s → s.fab.pause = none → s.pwr.nvEmpty = false →
    s.flag Fld.SYS.BOOT_CFG.AUTO_COMMIT = true →
    completes .booted s (fun t =>
      raised t Ev.SYS.BOOTED ∧ t.get Fld.SYS.STATE_REQ.CODE = s.get Fld.SYS.BOOT_CFG.TARGET ∧ t.flag Fld.SYS.CFG_STATUS.CHECKING = true)) ∧
  (∀ (obs : BootObs) (s : State), s.pwr.mode = .boot → s.pwr.stage = .vddio →
    completes (.vddioPresent obs) s (fun t => t.pwr.vddio = true ∧ t.pwr.addrSel = obs.addrSel % 4 ∧ bootGoes obs.recoveryLow obs s t)) ∧
  (∀ (obs : BootObs) (s : State), s.pwr.mode ≠ .boot → completes (.vddioPresent obs) s (fun t =>
    t.pwr.vddio = true ∧ { t.pwr with vddio := false, pins := {} } = { s.pwr with vddio := false, pins := {} } ∧
    (coexGranted t = true → t.aux.waits = []) ∧ (coexActive t = true → coexActive s = false → t.aux.actSince = some s.time) ∧
    (coexGranted t = false → coexActive t = coexActive s → frame [.pwr] [] s t))) ∧
  (∀ (s : State), completes .vddioAbsent s (fun t =>
    t.pwr.vddio = false ∧ { t.pwr with vddio := true, pins := {} } = { s.pwr with vddio := true, pins := {} } ∧
    coexGranted t = false ∧ coexActive t = false ∧ (coexActive s = true → t.aux.actSince = none) ∧ frame [.pwr, .aux] [] s t)) ∧
  (∀ (s : State), s.pwr.mode ≠ .off → s.pwr.mode ≠ .sleep → s.pwr.trans = none →
    completes .pwrEnFall s (fun t =>
      t.pwr.pwrEn = false ∧ t.pwr.trans.map (fun x => (x.target, x.since)) = some (.off, s.epoch) ∧ t.pwr.mode = s.pwr.mode ∧
      frame [.pwr] [Reg.SYS.CFG_STATUS] s t)) ∧
  (∀ (s : State), s.pwr.mode = .off ∨ s.pwr.mode = .sleep → completes .pwrEnFall s (fun t =>
    t.pwr.pwrEn = false ∧ t.pwr.mode = s.pwr.mode ∧ t.pwr.trans = s.pwr.trans ∧ frame [.pwr] [] s t)) ∧
  (∀ (s : State), s.pwr.mode ≠ .off → s.pwr.mode ≠ .sleep →
    completes .resetAssert s (fun t => t.pwr.mode = .boot ∧ t.pwr.stage = .reset ∧ t.pwr.cause = 3 ∧ stoppedAtOnce s t 3)) ∧
  (∀ (s : State), s.pwr.mode = .off ∨ s.pwr.mode = .sleep → completes .resetAssert s (fun t => frame [] [] s t)) ∧
  (∀ (obs : BootObs) (s : State), s.pwr.mode = .boot → s.pwr.stage = .reset → obs.vddio = s.pwr.vddio →
    completes (.resetRelease obs) s (fun t => started s t 3 obs)) ∧
  (∀ (s : State), railsUp s = true → completes .uvlo s (fun t =>
    t.pwr.mode = .off ∧ t.pwr.down = some .uvlo ∧ t.pwr.vsysOk = false ∧ stoppedAtOnce s t 4)) ∧
  (∀ (s : State), railsUp s = true → completes .railFault s (fun t =>
    t.pwr.mode = .off ∧ t.pwr.down = some .rail ∧ t.pwr.vsysOk = s.pwr.vsysOk ∧ stoppedAtOnce s t 5)) ∧
  (∀ (s : State), railsUp s = true → completes .thermalTrip s (fun t =>
    t.pwr.mode = .off ∧ t.pwr.down = some .trip ∧ t.pwr.vsysOk = s.pwr.vsysOk ∧ stoppedAtOnce s t 6)) ∧
  (∀ (s : State), railsUp s = true → completes .vsysLost s (fun t =>
    t.pwr.mode = .off ∧ t.pwr.down = some .lost ∧ t.pwr.vsysOk = false ∧ t.pwr.aonTime = 0 ∧ t.pwr.lastStop = (if s.nv.marker then 0 else 2) ∧
    t.nv.stopTest = 5 ∧ frame [.pwr, .nv, .nvJob, .free] [] s t)) ∧
  (∀ (obs : BootObs) (s : State) (cause : Nat), s.pwr.vsysOk = false → s.pwr.pwrEn = true →
    (cause = 4 ∧ s.pwr.down = some .uvlo) ∨ (cause = 0 ∧ s.pwr.down = some .lost) →
    completes (.vsysReturn obs) s (fun t => started s t cause obs ∧ t.pwr.vsysOk = true)) ∧
  (∀ (obs : BootObs) (s : State), s.pwr.down = some .rail → s.pwr.pwrEn = true → s.pwr.vsysOk = true →
    completes (.railRestart obs) s (fun t => started s t 5 obs))

/-- Warnings, telemetry, the governor, HOST_WAKE and GPIO (R338, R343 to R347, R401, R405): each warning sets once and clears; a snapshot is posted and
read by the ambient rule; a level takes effect on its boundary; the wake pulse ends; pins follow their configuration. It rests also on the model's
own readings: log entries 6 and 79. -/
def Obligations.TelemetryCompletes : Prop :=
  (∀ (s : State), railsUp s = true → s.flag Fld.PMU.STAT.VSYS_LOW = false →
    completes .vsysLow s (fun t =>
      t.flag Fld.PMU.STAT.VSYS_LOW = true ∧ raised t Ev.PMU.VSYS_LOW ∧ frame evParts (Reg.PMU.STAT :: evWords Ev.PMU.VSYS_LOW) s t)) ∧
  (∀ (s : State), completes .vsysLowClear s (fun t =>
    t.flag Fld.PMU.STAT.VSYS_LOW = false ∧ wrote s t Fld.PMU.STAT.VSYS_LOW 0 ∧ frame [] [Reg.PMU.STAT] s t)) ∧
  (∀ (s : State), railsUp s = true → s.flag Fld.PMU.STAT.TJ_WARN = false →
    completes .tjWarn s (fun t =>
      t.flag Fld.PMU.STAT.TJ_WARN = true ∧ raised t Ev.PMU.TJ_WARN ∧ frame evParts (Reg.PMU.STAT :: evWords Ev.PMU.TJ_WARN) s t)) ∧
  (∀ (s : State), completes .tjWarnClear s (fun t =>
    t.flag Fld.PMU.STAT.TJ_WARN = false ∧ wrote s t Fld.PMU.STAT.TJ_WARN 0 ∧ frame [] [Reg.PMU.STAT] s t)) ∧
  (∀ (obs : TelObs) (s : State) (hot : Int), controlRuns s = true → onBoundary s = true → s.epoch % 100 = 0 →
    hot = max (max obs.rf obs.fabric) (max obs.cores obs.pmu) →
    completes (.telemetrySnapshot obs) s (fun t =>
      t.get Fld.PMU.VSYS.MV = obs.vsys % 65536 ∧ t.get Fld.PMU.POWER.MW = obs.power % 65536 ∧ t.word Reg.PMU.TJ = withField (s.word Reg.PMU.TJ) 0 16 (ofSigned 16 hot) ∧
      (s.flag Fld.TEL.CTRL.EN = true → posted s t 26 (telWords obs s) ∧ raised t Ev.TEL.READY) ∧
      (16 * (s.get Fld.TEL.TJ_THR.DEG_C : Int) < hot → raised t Ev.TEL.TJ_HIGH) ∧
      (s.flag Fld.PMU.STAT.GRADE_E = true → 700000 < 625 * hot - s.get Fld.PMU.GOV_CFG.THETA * obs.power → s.get Fld.PMU.GOV_STAT.LEVEL < 2 →
        t.flag Fld.PMU.GOV_STAT.AMBIENT = true ∧ t.pwr.govNext = some (2, s.epoch + 1)) ∧
      frame [.pwr, .flt, .fab, .twc] ([Reg.PMU.VSYS, Reg.PMU.POWER, Reg.PMU.TJ, Reg.PMU.GOV_STAT] ++ (telWords obs s).map (fun c => c.1) ++
        evsWords [Ev.TEL.READY, Ev.TEL.TJ_HIGH, Ev.TEL.OVERFLOW]) s t)) ∧
  (∀ (s : State) (l b : Nat), s.pwr.govNext = some (l, b) → l < 4 → onBoundary s = true → b ≤ s.epoch →
    completes .governorLevel s (fun t => t.get Fld.PMU.GOV_STAT.LEVEL = l ∧ t.pwr.govNext = none ∧ raised t Ev.PMU.GOV_STEP)) ∧
  (∀ (s : State) (b : Nat), s.pwr.govNext = some (0, b) → onBoundary s = true → b ≤ s.epoch → s.pwr.mode ≠ .full →
    completes .governorLevel s (fun t =>
      t.get Fld.PMU.GOV_STAT.LEVEL = 0 ∧ frame [.pwr, .twc, .fab] (Reg.PMU.GOV_STAT :: evWords Ev.PMU.GOV_STEP) s t)) ∧
  (∀ (s : State), s.flag Fld.SYS.WAKE_CFG.ASSERTED = true → 0 < s.get Fld.SYS.WAKE_CFG.PULSE_MS →
    s.pwr.wakeSince + s.get Fld.SYS.WAKE_CFG.PULSE_MS * 163840 ≤ s.time →
    completes .wakePulseEnd s (fun t => t.flag Fld.SYS.WAKE_CFG.ASSERTED = false ∧ wrote s t Fld.SYS.WAKE_CFG.ASSERTED 0 ∧ frame [] [Reg.SYS.WAKE_CFG] s t)) ∧
  (∀ (port : Port) (n : Fin 8) (v : Word) (s : State), lets s (Reg.SYS.GPIO_CFG n.val) = true →
    completes (.gpioConfigWrite port n v) s (fun t =>
      t.word (Reg.SYS.GPIO_CFG n.val) = afterWrite s port (Reg.SYS.GPIO_CFG n.val) v ∧
      (s.running = true → s.committed = true → s.pwr.vddio = true → t.get (Fld.SYS.GPIO_CFG.FUNC n.val) = 1 →
        at' t.pwr.pins.gpio n.val .hiZ = (if t.flag (Fld.SYS.GPIO_CFG.OUT n.val) then (if t.flag (Fld.SYS.GPIO_CFG.OD n.val) then .hiZ else .high) else .low)) ∧
      ((List.range 8).all (fun k => t.get (Fld.SYS.GPIO_CFG.FUNC k) != 2) = true → t.flag Fld.SYS.WAKE_CFG.ASSERTED = false) ∧
      frame [.fab] [Reg.SYS.GPIO_CFG n.val, Reg.SYS.WAKE_CFG] s t)) ∧
  (∀ (s : State), s.pwr.mode ≠ .off → s.pwr.aonCrystal = true →
    completes .aonClockSwitch s (fun t => t.pwr.aonCrystal = false ∧ raised t Ev.SYS.AON_CLOCK ∧ frame [.pwr, .twc, .fab] (evWords Ev.SYS.AON_CLOCK) s t))

/-! ## Firmware and update (chapter 15) -/

/-- Update commands (R281, R356 to R362, R366): each needs its key; BEGIN, VERIFY, ACTIVATE, CONFIRM and REVERT act in their stages, and any other
command fails with STATE, or with BUSY while one is in progress. A slot's last word hands it to the Husk. It rests also on the model's own readings:
log entries 6 and 75. -/
def Obligations.UpdateCommandsComplete : Prop :=
  (∀ (port : Port) (v : Word) (s : State), lets s Reg.FWU.CMD = true → keyOpen s 0x06A port = true → s.fw.job = none → beginStage (fwStage s) = true →
    completes (.fwuBegin port v) s (fun t =>
      fwStage t = 1 ∧ t.get Fld.FWU.RX_COUNT.EXPECTED = 0 ∧
      t.fw = { s.fw with received := [], wrote := false, armed := s.fw.armed || fwStage s == 5 } ∧ fwPosted s t 5 0 ∧
      (fwStage s ≠ 1 → raised t Ev.FWU.STAGE) ∧ frame [.fw, .fab, .twc, .free] (Reg.FWU.RX_COUNT :: fwRegs) s t)) ∧
  (∀ (port : Port) (v : Word) (s : State), lets s Reg.FWU.CMD = true → keyOpen s 0x06A port = true → s.fw.job = none → fwStage s = 1 →
    completes (.fwuVerify port v) s (fun t => t.fw = { s.fw with job := some .verify } ∧ frame [.fw, .fab] [] s t)) ∧
  (∀ (port : Port) (v : Word) (obs : BootObs) (s : State), lets s Reg.FWU.CMD = true → keyOpen s 0x06A port = true → s.fw.job = none → fwStage s = 2 →
    s.pwr.mode ≠ .recovery → headerWord (imageHeader s.nv) 8 / 65536 ≤ s.fw.running.stateFmt →
    headerWord (imageHeader s.nv) 7 / 65536 ≤ s.fw.running.settingsFmt → (∀ (c : Nat), c < 6 → s.flag (Fld.LNM.CORE_STAT.IN_TEST c) = false) →
    completes (.fwuActivate port v obs) s (fun t =>
      fwStage t = 3 ∧ t.fw = { s.fw with job := some .activate } ∧ raised t Ev.FWU.STAGE ∧
      frame [.fw, .fab, .twc] (Reg.FWU.STAT :: evWords Ev.FWU.STAGE) s t)) ∧
  (∀ (port : Port) (v : Word) (obs : BootObs) (s : State) (err : Nat), lets s Reg.FWU.CMD = true → keyOpen s 0x06A port = true → s.fw.job = none →
    fwStage s = 2 → s.pwr.mode ≠ .recovery →
    (err = 8 ∧ (s.fw.running.stateFmt < headerWord (imageHeader s.nv) 8 / 65536 ∨ s.fw.running.settingsFmt < headerWord (imageHeader s.nv) 7 / 65536)) ∨
      (err = 10 ∧ headerWord (imageHeader s.nv) 8 / 65536 ≤ s.fw.running.stateFmt ∧ headerWord (imageHeader s.nv) 7 / 65536 ≤ s.fw.running.settingsFmt ∧
        (List.range 6).any (fun c => s.flag (Fld.LNM.CORE_STAT.IN_TEST c)) = true) →
    completes (.fwuActivate port v obs) s (fun t => fwPosted s t 2 err ∧ fwStage t = 2 ∧ t.fw = s.fw ∧ frame [.fab, .twc, .free] fwRegs s t)) ∧
  (∀ (port : Port) (v : Word) (obs : BootObs) (s : State), lets s Reg.FWU.CMD = true → keyOpen s 0x06A port = true → s.fw.job = none →
    s.pwr.mode = .recovery → nvState s = 0 → obs.vddio = true →
    completes (.fwuActivate port v obs) s (fun t => started s t 6 obs)) ∧
  (∀ (port : Port) (v : Word) (s : State), lets s Reg.FWU.CMD = true → keyOpen s 0x06A port = true → s.fw.job = none → fwStage s = 4 →
    s.pwr.mode ≠ .recovery → s.fw.swap = none → s.fw.handOver = none →
    completes (.fwuConfirm port v) s (fun t =>
      fwStage t = 0 ∧ nvState t = 0 ∧ t.fw = { s.fw with old := none, oldLost := false } ∧
      t.nv.gens = s.nv.gens.filter (fun g => g.fmt == s.fw.running.settingsFmt) ∧ fwPosted s t 3 0 ∧ raised t Ev.FWU.STAGE ∧
      frame [.fw, .nv, .fab, .twc, .free] (Reg.NVS.WEAR :: fwRegs) s t)) ∧
  (∀ (port : Port) (v : Word) (s : State), lets s Reg.FWU.CMD = true → keyOpen s 0x06A port = true → s.fw.job = none → fwStage s = 4 →
    s.fw.swap.isSome = true →
    completes (.fwuConfirm port v) s (fun t => fwPosted s t 3 10 ∧ fwStage t = 4 ∧ t.fw = s.fw ∧ frame [.fab, .twc, .free] fwRegs s t)) ∧
  (∀ (port : Port) (v : Word) (s : State), lets s Reg.FWU.CMD = true → keyOpen s 0x06A port = true → s.fw.job = none → fwStage s = 4 →
    s.fw.handOver = none →
    completes (.fwuRevert port v) s (fun t =>
      t.fw = { s.fw with job := some .revert, handOver := some .back, swap := none } ∧ t.flag Fld.FWU.STAT.SWAPPING = false ∧
      asked s t .handover 0 ∧ frame [.fw, .fab, .plan] (Reg.FWU.STAT :: planWords) s t)) ∧
  (∀ (port : Port) (v : Word) (s : State) (err : Nat), lets s Reg.FWU.CMD = true → keyOpen s 0x06A port = true →
    (err = 10 ∧ s.fw.job.isSome = true) ∨
      (err = 1 ∧ s.fw.job = none ∧ s.pwr.mode ≠ .recovery ∧ ([1, 2, 3, 4, 5] : List Nat).contains (fieldOf v 0 4) = false) ∨
      (err = 1 ∧ s.fw.job = none ∧ s.pwr.mode ≠ .recovery ∧ fwStage s = 5 ∧ fieldOf v 0 4 ≠ 5) →
    completes (.fwuInvalidOp port v) s (fun t => fwPosted s t (fieldOf v 0 4) err ∧ fwStage t = fwStage s ∧ t.fw = s.fw ∧ frame [.fab, .twc, .free] fwRegs s t)) ∧
  (∀ (port : Port) (v : Word) (s : State), lets s Reg.FWU.CMD = true → keyOpen s 0x06A port = false →
    completes (.fwuInvalidOp port v) s (fun t => recorded s t port Reg.FWU.CMD 3 true ∧ frame evParts accRegs s t)) ∧
  (∀ (port : Port) (slot : Fin 16) (v : Word) (s : State), s.served = true → (s.get Fld.FWU.SLOT_BUSY.BUSY).testBit slot.val = false →
    completes (.blockHandoff port slot v) s (fun t =>
      windowWord t (slotAddr slot.val + 0xFFC) = v ∧ t.fw.handed = s.fw.handed ++ [(slot.val, s.get Fld.FWU.DL_BASE.BASE + slot.val)] ∧
      (∀ (k : Nat), k < 16 → (t.get Fld.FWU.SLOT_BUSY.BUSY).testBit k = ((s.get Fld.FWU.SLOT_BUSY.BUSY).testBit k || k == slot.val)) ∧
      (∀ (a : Nat), a ≠ slotAddr slot.val + 0xFFC → windowWord t a = windowWord s a) ∧ frame [.fw, .fab] [Reg.FWU.SLOT_BUSY] s t)) ∧
  (∀ (port : Port) (slot : Fin 16) (v : Word) (s : State), port = .spi → s.served = true → (s.get Fld.FWU.SLOT_BUSY.BUSY).testBit slot.val = true →
    completes (.blockHandoff port slot v) s (fun t =>
      raised t Ev.FWU.BLOCK_ERR ∧
      t.word Reg.FWU.BLOCK_ERR = (if s.flag Fld.FWU.BLOCK_ERR.VALID then s.word Reg.FWU.BLOCK_ERR
        else wordOf [(0, 9, s.get Fld.FWU.DL_BASE.BASE + slot.val), (12, 4, 5), (31, 1, 1)]) ∧
      frame evParts (Reg.FWU.BLOCK_ERR :: evWords Ev.FWU.BLOCK_ERR) s t))

/-- What the Husk and the new firmware do (R354, R356, R357, R359 to R363): a block is written or rejected with its cause; a VERIFY ends with the first
check that fails or with VERIFIED; staging posts the hand-over; a hand-over runs the new firmware in TRIAL, leaves the old one, or runs it again;
the swap goes core by core; a missed heartbeat or the end of the window reverts. It rests also on the model's own readings: log entries 6, 73, 74,
75 and 120. -/
def Obligations.UpdateWorkCompletes : Prop :=
  (∀ (nvFail : Bool) (s : State) (k blk : Nat) (rest : List (Nat × Nat)) (ws : List Word), s.fw.handed = (k, blk) :: rest → ws = slotBlock s k →
    fwStage s = 1 → blockPasses ws = true → 0 < blk → blk < s.get Fld.FWU.RX_COUNT.EXPECTED → blk < 384 → s.nvJob.storing = false → nvFail = false →
    completes (.blockWritten nvFail) s (fun t =>
      imageBlock t.nv blk = some ws ∧ (∀ (n : Nat), n ≠ blk → imageBlock t.nv n = imageBlock s.nv n) ∧ t.fw.received.contains blk = true ∧
      t.fw.handed = rest ∧ t.fw.wrote = true ∧ (s.fw.wrote = false → nvState t = 1) ∧ raised t Ev.FWU.SLOT_FREE ∧
      t.get Fld.FWU.SLOT_BUSY.BUSY = s.get Fld.FWU.SLOT_BUSY.BUSY - 2 ^ k ∧
      frame [.fw, .nv, .fab, .twc] (Reg.FWU.SLOT_BUSY :: evWords Ev.FWU.SLOT_FREE) s t)) ∧
  (∀ (nvFail : Bool) (s : State) (k blk : Nat) (rest : List (Nat × Nat)) (cause : Nat), s.fw.handed = (k, blk) :: rest →
    (cause = 6 ∧ fwStage s ≠ 1) ∨ (cause = 1 ∧ fwStage s = 1 ∧ blockPasses (slotBlock s k) = false) ∨
      (cause = 2 ∧ fwStage s = 1 ∧ blockPasses (slotBlock s k) = true ∧
        (384 ≤ blk ∨ (0 < blk ∧ 0 < s.get Fld.FWU.RX_COUNT.EXPECTED ∧ s.get Fld.FWU.RX_COUNT.EXPECTED ≤ blk))) ∨
      (cause = 3 ∧ fwStage s = 1 ∧ blockPasses (slotBlock s k) = true ∧ 0 < blk ∧ blk < 384 ∧ s.get Fld.FWU.RX_COUNT.EXPECTED = 0) →
    completes (.blockWritten nvFail) s (fun t =>
      raised t Ev.FWU.BLOCK_ERR ∧ raised t Ev.FWU.SLOT_FREE ∧
      t.word Reg.FWU.BLOCK_ERR = (if s.flag Fld.FWU.BLOCK_ERR.VALID then s.word Reg.FWU.BLOCK_ERR
        else wordOf [(0, 9, blk), (12, 4, cause), (31, 1, 1)]) ∧
      t.fw.handed = rest ∧ t.get Fld.FWU.SLOT_BUSY.BUSY = s.get Fld.FWU.SLOT_BUSY.BUSY - 2 ^ k ∧
      frame [.fw, .fab, .twc] ([Reg.FWU.SLOT_BUSY, Reg.FWU.BLOCK_ERR] ++ evsWords [Ev.FWU.SLOT_FREE, Ev.FWU.BLOCK_ERR]) s t)) ∧
  (∀ (obs : VerifyObs) (s : State), s.fw.job = some .verify → 0 < s.get Fld.FWU.RX_COUNT.EXPECTED →
    (List.range (s.get Fld.FWU.RX_COUNT.EXPECTED)).all (fun b => s.fw.received.contains b) = true → imageError s obs.badBlocks obs.keyOk obs.sigOk = 0 →
    ¬(s.fw.armed = true ∧ obs.digest = s.fw.running.digest) → s.pwr.mode ≠ .recovery →
    completes (.verifyDone obs) s (fun t =>
      fwStage t = 2 ∧ nvState t = 2 ∧ (imageRecord t.nv).digest = obs.digest ∧ t.fw = { s.fw with job := none, armed := false } ∧
      posted s t 24 [(Reg.FWU.RES0, wordOf [(12, 4, 1), (16, 8, 0)]), (Reg.FWU.RES1, (imageHeader s.nv).getD 3 0)] ∧ raised t Ev.FWU.RESULT ∧
      frame [.fw, .nv, .fab, .twc] fwRegs s t)) ∧
  (∀ (obs : VerifyObs) (s : State), s.fw.job = some .verify → 0 < s.get Fld.FWU.RX_COUNT.EXPECTED →
    (List.range (s.get Fld.FWU.RX_COUNT.EXPECTED)).all (fun b => s.fw.received.contains b) = true → imageError s obs.badBlocks obs.keyOk obs.sigOk = 0 →
    s.fw.armed = true → obs.digest = s.fw.running.digest →
    completes (.verifyDone obs) s (fun t =>
      fwStage t = 0 ∧ nvState t = 0 ∧ t.fw = { s.fw with job := none, armed := false } ∧ raised t Ev.FWU.RESULT ∧
      frame [.fw, .nv, .fab, .twc] fwRegs s t)) ∧
  (∀ (obs : VerifyObs) (s : State) (err : Nat), s.fw.job = some .verify →
    (err = 2 ∧ (s.get Fld.FWU.RX_COUNT.EXPECTED = 0 ∨ (List.range (s.get Fld.FWU.RX_COUNT.EXPECTED)).any (fun b => !(s.fw.received.contains b)) = true)) ∨
      (0 < s.get Fld.FWU.RX_COUNT.EXPECTED ∧ (List.range (s.get Fld.FWU.RX_COUNT.EXPECTED)).all (fun b => s.fw.received.contains b) = true ∧
        err ≠ 0 ∧ err = imageError s obs.badBlocks obs.keyOk obs.sigOk) →
    completes (.verifyDone obs) s (fun t =>
      posted s t 24 [(Reg.FWU.RES0, wordOf [(12, 4, 1), (16, 8, err)]), (Reg.FWU.RES1, (imageHeader s.nv).getD 3 0)] ∧ raised t Ev.FWU.RESULT ∧
      fwStage t = fwStage s ∧ t.fw = { s.fw with job := none } ∧ frame [.fw, .fab, .twc] fwRegs s t)) ∧
  (∀ (badBlock : Option Nat) (s : State), s.fw.job = some .activate → fwStage s = 3 → s.fw.handOver = none → badBlock = none →
    completes (.stagingDone badBlock) s (fun t =>
      t.fw = { s.fw with handOver := some .forward } ∧ asked s t .handover 0 ∧ frame [.fw, .plan] planWords s t)) ∧
  (∀ (badBlock : Option Nat) (s : State) (b : Nat), s.fw.job = some .activate → fwStage s = 3 → s.fw.handOver = none → badBlock = some b →
    completes (.stagingDone badBlock) s (fun t =>
      fwStage t = 1 ∧ nvState t = 1 ∧ t.fw.received = s.fw.received.filter (fun n => n != b) ∧ t.fw.job = none ∧ fwPosted s t 2 3 ∧
      frame [.fw, .nv, .fab, .twc, .free] fwRegs s t)) ∧
  (∀ (accepted : Bool) (s : State), s.fab.pause = some .handover → s.fw.handOver = some .forward → accepted = true →
    completes (.handoverDone accepted) s (fun t =>
      fwStage t = 4 ∧ nvState t = 3 ∧ t.fw.running = slotHeader s ∧ t.fw.old = some s.fw.running ∧ t.fw.handOver = none ∧ t.fw.job = none ∧
      t.word Reg.FWU.RUN_VER = (imageHeader s.nv).getD 3 0 ∧ t.get Fld.FWU.STAT.FAULTS = 0 ∧ fwPosted s t 2 0 ∧ t.nv.image = s.nv.image)) ∧
  (∀ (accepted : Bool) (s : State), s.fab.pause = some .handover → s.fw.handOver = some .forward → accepted = false →
    completes (.handoverDone accepted) s (fun t =>
      fwStage t = 2 ∧ t.fw = { s.fw with handOver := none, job := none } ∧ fwPosted s t 2 9 ∧ frame [.fw, .fab, .twc, .free] fwRegs s t)) ∧
  (∀ (accepted : Bool) (s : State) (old : ImageHeader), s.fab.pause = some .handover → s.fw.handOver = some .back → s.fw.old = some old → s.fw.oldLost = false →
    completes (.handoverDone accepted) s (fun t =>
      fwStage t = 5 ∧ nvState t = 4 ∧ t.fw.running = old ∧ t.fw.old = none ∧ t.fw.handOver = none ∧ t.fw.job = none ∧
      t.word Reg.FWU.RUN_VER = lowWord old.version ∧ (s.fw.job = some .revert → fwPosted s t 4 0) ∧
      (s.fw.running.settingsFmt ≠ old.settingsFmt → t.nv.gens = s.nv.gens.filter (fun g => g.fmt != s.fw.running.settingsFmt)))) ∧
  (∀ (s : State) (c k : Nat) (d : HandOver), s.fw.swap = some (c, d) → s.fab.pause = none → coreEmpty s c = true →
    (List.range 6).find? (fun i => decide (c < i) && s.flag (Fld.LNM.CORE_STAT.HEALTHY i)) = some k →
    completes .coreSwapStep s (fun t => t.fw = { s.fw with swap := some (k, d) } ∧ frame [.fw] [] s t)) ∧
  (∀ (s : State) (c : Nat) (d : HandOver), s.fw.swap = some (c, d) → s.fab.pause = none → coreEmpty s c = true →
    (List.range 6).all (fun i => !(decide (c < i) && s.flag (Fld.LNM.CORE_STAT.HEALTHY i))) = true →
    completes .coreSwapStep s (fun t =>
      t.fw = { s.fw with swap := none, reloadAt := some (s.epoch + 1) } ∧ t.flag Fld.FWU.STAT.SWAPPING = false ∧ frame [.fw] [Reg.FWU.STAT] s t)) ∧
  (∀ (s : State), fwStage s = 4 → s.fw.handOver = none →
    completes .heartbeatMiss s (fun t =>
      t.fw = { s.fw with handOver := some .back, swap := none } ∧ asked s t .handover 0 ∧ frame [.fw, .plan] (Reg.FWU.STAT :: planWords) s t)) ∧
  (∀ (s : State), fwStage s = 4 → s.fw.handOver = none → s.fw.trialEnd ≤ s.epoch →
    completes .trialWindowExpire s (fun t =>
      t.fw = { s.fw with handOver := some .back, swap := none } ∧ asked s t .handover 0 ∧ frame [.fw, .plan] (Reg.FWU.STAT :: planWords) s t))

/-! ## NV store, limits and seal (chapter 16) -/

/-- Settings (R371 to R376, R383): a STORE takes its snapshot on the next boundary and writes a generation on the least worn free sectors, or ends with
NV_FAIL; RESTORE and DEFAULTS set every RWP field; other commands fail with STATE, BUSY or NV_EMPTY; a worn or failing sector is retired. It rests
also on the model's own readings: log entries 6, 70, 76 and 77. -/
def Obligations.SettingsComplete : Prop :=
  (∀ (port : Port) (v : Word) (s : State), lets s Reg.NVS.CMD = true → s.nvJob.storing = false → s.running = true ∨ s.pwr.mode = .hold ∨ s.pwr.mode = .safe →
    completes (.nvStore port v) s (fun t =>
      t.nvJob = { s.nvJob with storing := true, snapAt := some (s.epoch + 1) } ∧ frame [.nvJob, .fab] [] s t)) ∧
  (∀ (obs : NvObs) (s : State) (g : Generation) (l : List Nat), s.nvJob.snap = some g → obs.failed = [] → obs.failedTwice = false →
    1 + clampNat 1 63 obs.body ≤ (freeSectors s.nv).length → l = (freeSectors s.nv).take (1 + clampNat 1 63 obs.body) →
    completes (.storeDone obs) s (fun t =>
      t.nv.gens.head? = some { g with sectors := l } ∧ (t.nv.gens.filter (fun x => x.fmt == g.fmt)).length ≤ 2 ∧
      t.nv.gens.filter (fun x => x.fmt != g.fmt) = s.nv.gens.filter (fun x => x.fmt != g.fmt) ∧
      t.get Fld.NVS.GEN_NOW.FORMAT = g.fmt % 65536 ∧ t.get Fld.NVS.GEN_NOW.GEN_LO = g.num % 65536 ∧ t.get Fld.NVS.WEAR.G = l.length ∧
      t.nvJob.storing = false ∧ t.nvJob.snap = none ∧
      posted s t 23 [(Reg.NVS.RESULT, wordOf [(12, 4, 1), (16, 4, 0)]), (Reg.NVS.RESULT1, lowWord g.num)] ∧ raised t Ev.NVS.RESULT ∧
      frame [.nv, .nvJob, .fab, .twc] ([Reg.NVS.GEN_NOW, Reg.NVS.WEAR] ++ nvRegs) s t)) ∧
  (∀ (obs : NvObs) (s : State) (g : Generation), s.nvJob.snap = some g → (freeSectors s.nv).length < 1 + clampNat 1 63 obs.body →
    completes (.storeDone obs) s (fun t =>
      nvPosted s t 1 4 ∧ t.nv = s.nv ∧ t.nvJob.storing = false ∧ t.nvJob.snap = none ∧ frame [.nvJob, .fab, .twc, .free] nvRegs s t)) ∧
  (∀ (obs : NvObs) (s : State) (g : Generation), s.nvJob.snap = some g → 1 + clampNat 1 63 obs.body ≤ (freeSectors s.nv).length → obs.failedTwice = true →
    completes (.storeDone obs) s (fun t =>
      nvPosted s t 1 4 ∧ t.nv.gens = s.nv.gens ∧ t.nv.retired = s.nv.retired + 1 ∧ raised t Ev.NVS.RETIRED ∧ t.nvJob.storing = false ∧
      frame [.nv, .nvJob, .fab, .twc, .free] (Reg.NVS.WEAR :: nvRegs ++ evsWords [Ev.NVS.RETIRED, Ev.NVS.WEAR_LOW]) s t)) ∧
  (∀ (port : Port) (v : Word) (s : State) (g : Generation), lets s Reg.NVS.CMD = true → s.nvJob.storing = false → s.pwr.mode = .hold →
    pickGen s.nv (settingsFormat s) s.fw.running.settingsFrom = some g →
    completes (.nvRestore port v) s (fun t =>
      (∀ a ∈ rwpAddrs, a / 4096 ≠ 0x002 → a / 4096 ≠ 0x055 → t.word a =
        (let w : Word := ((g.words.find? (fun c => c.1 == a)).map (fun c => c.2)).getD (resetWord a)
         if s.word a &&& rwpMask a = w &&& rwpMask a then s.word a else treat a ((s.word a &&& ~~~(rwpMask a)) ||| (w &&& rwpMask a)))) ∧
      t.pwr.mode = .hold ∧ t.nv = s.nv ∧ raised t Ev.NVS.RESULT)) ∧
  (∀ (port : Port) (v : Word) (s : State), lets s Reg.NVS.CMD = true → s.nvJob.storing = false → s.pwr.mode = .hold →
    pickGen s.nv (settingsFormat s) s.fw.running.settingsFrom = none →
    completes (.nvRestore port v) s (fun t => nvPosted s t 2 3 ∧ t.nv = s.nv ∧ frame [.fab, .twc, .free] nvRegs s t)) ∧
  (∀ (port : Port) (v : Word) (s : State), lets s Reg.NVS.CMD = true → s.nvJob.storing = false → s.pwr.mode = .hold →
    completes (.nvDefaults port v) s (fun t =>
      (∀ a ∈ rwpAddrs, a / 4096 ≠ 0x002 → a / 4096 ≠ 0x055 → s.word a &&& rwpMask a ≠ resetWord a &&& rwpMask a →
        t.word a = treat a ((s.word a &&& ~~~(rwpMask a)) ||| (resetWord a &&& rwpMask a))) ∧
      (∀ (i : Nat), i < 64 → ((at' t.pib.classes i none).map (fun c => c.host)) ≠ some true) ∧ t.nv = s.nv ∧ raised t Ev.NVS.RESULT)) ∧
  (∀ (port : Port) (v : Word) (s : State) (err : Nat), lets s Reg.NVS.CMD = true →
    (err = 1 ∧ (fieldOf v 0 4 = 0 ∨ 3 < fieldOf v 0 4)) ∨ (err = 2 ∧ 0 < fieldOf v 0 4 ∧ fieldOf v 0 4 ≤ 3 ∧ s.nvJob.storing = true) ∨
      (err = 1 ∧ 2 ≤ fieldOf v 0 4 ∧ s.nvJob.storing = false ∧ s.pwr.mode ≠ .hold) →
    completes (.nvInvalidOp port v) s (fun t => nvPosted s t (fieldOf v 0 4) err ∧ t.nvJob = s.nvJob ∧ t.nv = s.nv ∧ frame [.fab, .twc, .free] nvRegs s t)) ∧
  (∀ (sector : Nat) (failing : Bool) (s : State), s.nvJob.storing = false → s.fw.handed = [] → sector < sectorCount → s.nv.lostSettings.contains sector = false →
    failing = true ∨ 100000 ≤ eraseCount s.nv sector → 0 < s.nv.spares →
    completes (.wearManagement sector failing) s (fun t =>
      t.nv.retired = s.nv.retired + 1 ∧ t.nv.spares = s.nv.spares - 1 ∧ eraseCount t.nv sector = 0 ∧ t.nv.gens = s.nv.gens ∧ raised t Ev.NVS.RETIRED ∧
      (s.nv.spares ≤ 16 → s.nv.lowRaised = false → raised t Ev.NVS.WEAR_LOW) ∧
      frame [.nv, .fab, .twc] (Reg.NVS.WEAR :: evsWords [Ev.NVS.RETIRED, Ev.NVS.WEAR_LOW]) s t))

/-- Limits and seal (R377 to R380): a limit is written in HOLD under the key and refused elsewhere; SEAL freezes the limits once its block is written; a
valid token opens the seal and raises its count. It rests also on the model's own readings: log entries 6 and 71. -/
def Obligations.SealCompletes : Prop :=
  (∀ (port : Port) (r : Fin 4) (v : Word) (s : State) (a : Nat), a = rglRegs.getD r.val 0 → lets s a = true → keyOpen s 0x069 port = true →
    s.pwr.mode = .hold → s.flag Fld.RGL.SEAL.SEALED = false →
    completes (.rglLimitWrite port r v) s (fun t =>
      t.word a = afterWrite s port a v ∧ t.flag Fld.RGL.STAT.NOT_HOLD = false ∧ frame [.nvJob, .fab] [a, Reg.RGL.STAT] s t)) ∧
  (∀ (port : Port) (r : Fin 4) (v : Word) (s : State) (a : Nat), a = rglRegs.getD r.val 0 → lets s a = true → keyOpen s 0x069 port = true →
    s.pwr.mode ≠ .hold → s.flag Fld.RGL.SEAL.SEALED = false →
    completes (.rglLimitWrite port r v) s (fun t =>
      t.word a = s.word a ∧ t.flag Fld.RGL.STAT.NOT_HOLD = true ∧ raised t Ev.RGL.REFUSED ∧
      frame evParts (Reg.RGL.STAT :: evWords Ev.RGL.REFUSED) s t)) ∧
  (∀ (port : Port) (r : Fin 4) (v : Word) (s : State) (a : Nat), a = rglRegs.getD r.val 0 → lets s a = true → keyOpen s 0x069 port = true →
    s.flag Fld.RGL.SEAL.SEALED = true → treat a (s.word a) = s.word a →
    completes (.rglLimitWrite port r v) s (fun t => t.word a = s.word a ∧ recorded s t port a 4 true ∧ frame evParts accRegs s t)) ∧
  (∀ (port : Port) (v : Word) (s : State), lets s Reg.RGL.SEAL = true → keyOpen s 0x069 port = true → s.pwr.mode = .hold → s.flag Fld.RGL.SEAL.SEALED = false →
    completes (.seal port v) s (fun t =>
      t.nvJob = { s.nvJob with sealing := true } ∧ t.flag Fld.RGL.STAT.NOT_HOLD = false ∧ frame [.nvJob, .fab] [Reg.RGL.STAT] s t)) ∧
  (∀ (port : Port) (v : Word) (s : State), lets s Reg.RGL.SEAL = true → keyOpen s 0x069 port = true → s.pwr.mode ≠ .hold ∨ s.flag Fld.RGL.SEAL.SEALED = true →
    completes (.seal port v) s (fun t =>
      t.nvJob = s.nvJob ∧ t.flag Fld.RGL.STAT.NOT_HOLD = true ∧ raised t Ev.RGL.REFUSED ∧ frame evParts (Reg.RGL.STAT :: evWords Ev.RGL.REFUSED) s t)) ∧
  (∀ (s : State), s.nvJob.sealing = true →
    completes .sealDone s (fun t =>
      t.flag Fld.RGL.SEAL.SEALED = true ∧ raised t Ev.RGL.SEAL_CHANGE ∧ t.nvJob.sealing = false ∧
      (let b : RglBlock := ⟨s.get Fld.RGL.BAND_PLAN.BANDS, s.get Fld.RGL.INJ_CEIL.LEVEL, s.get Fld.RGL.COEX_DUTY_CEIL.DUTY,
         s.get Fld.RGL.AER_ILIM_CEIL.STEPS, true, (s.word Reg.RGL.SEAL_COUNT).toNat⟩
       t.nv = { eraseSector rglSector s.nv with rgl := some b }) ∧
      frame [.nv, .nvJob, .fab, .twc] (Reg.RGL.SEAL :: evWords Ev.RGL.SEAL_CHANGE) s t)) ∧
  (∀ (port : Port) (v : Word) (s : State), lets s Reg.RGL.UNSEAL = true → keyOpen s 0x069 port = true → s.pwr.mode = .hold →
    completes (.unseal port v) s (fun t =>
      t.nvJob = { s.nvJob with unsealing := true } ∧ t.flag Fld.RGL.UNSEAL.BUSY = true ∧ t.flag Fld.RGL.STAT.NOT_HOLD = false ∧
      frame [.nvJob, .fab] [Reg.RGL.UNSEAL, Reg.RGL.STAT] s t)) ∧
  (∀ (valid : Bool) (s : State), s.nvJob.unsealing = true → valid = true → s.flag Fld.RGL.SEAL.SEALED = true →
    completes (.unsealCheckDone valid) s (fun t =>
      t.flag Fld.RGL.SEAL.SEALED = false ∧ t.word Reg.RGL.SEAL_COUNT = s.word Reg.RGL.SEAL_COUNT + 1 ∧ t.flag Fld.RGL.UNSEAL.BUSY = false ∧
      t.flag Fld.RGL.UNSEAL.ERR = false ∧ raised t Ev.RGL.SEAL_CHANGE ∧
      t.nv.rgl.map (fun b => (b.isSealed, b.count)) = some (false, (s.word Reg.RGL.SEAL_COUNT + 1).toNat) ∧
      frame [.nv, .nvJob, .fab, .twc] ([Reg.RGL.SEAL, Reg.RGL.SEAL_COUNT, Reg.RGL.UNSEAL] ++ evWords Ev.RGL.SEAL_CHANGE) s t)) ∧
  (∀ (valid : Bool) (s : State), s.nvJob.unsealing = true → valid = false →
    completes (.unsealCheckDone valid) s (fun t =>
      t.flag Fld.RGL.UNSEAL.ERR = true ∧ t.flag Fld.RGL.UNSEAL.BUSY = false ∧ raised t Ev.RGL.REFUSED ∧ t.nvJob = { s.nvJob with unsealing := false } ∧
      frame [.nvJob, .fab, .twc] (Reg.RGL.UNSEAL :: evWords Ev.RGL.REFUSED) s t))

/-! ## Self-test, memory errors, faults and SAFE (chapter 17) -/

/-- Watchdog and run-time self-test (R382, R392, R393): a first expiry restarts the control plane, a second within 60 s leads to SAFE; a test is
accepted or refused with its ERR, runs once its unit carries nothing, and ends with its result; a failed one retires the unit. It rests also on the
model's own readings: log entries 6, 36 and 82. -/
def Obligations.SelfTestCompletes : Prop :=
  (∀ (s : State), controlRuns s = true → s.fab.pause = none → (∀ e, s.flt.watchdogAt = some e → e + 60000 ≤ s.epoch) →
    completes .watchdogExpiry s (fun t =>
      t.fab.pause = some .watchdog ∧ t.flt.watchdogAt = some s.epoch ∧ logged s t 0x08 (Config.freeValue 1 s.free).toNat 7 ∧
      t.flag (evRaw Ev.FLT.FAULT) = true ∧ t.free = s.free + 1 ∧
      frame [.fab, .flt, .free, .twc, .fw, .plan] ([Reg.FLT.TRANSIENT_CNT, Reg.FWU.STAT] ++ planWords ++ evWords Ev.FLT.FAULT) s t)) ∧
  (∀ (s : State) (e : Nat), controlRuns s = true → s.flt.watchdogAt = some e → s.epoch < e + 60000 → s.pwr.mode ≠ .safe → s.flt.safeAt = none →
    (s.flt.counted.filter (fun x => decide (s.epoch < x + 10000))).length < 8 →
    completes .watchdogExpiry s (fun t =>
      t.flt.safeAt = some (s.epoch + 1, 2) ∧ t.fab.pause = s.fab.pause ∧ logged s t 0x08 (Config.freeValue 1 s.free).toNat 7 ∧
      raised t Ev.FLT.FAULT ∧
      frame [.fab, .flt, .free, .twc, .fw, .plan] ([Reg.FLT.TRANSIENT_CNT, Reg.FWU.STAT] ++ planWords ++ evWords Ev.FLT.FAULT) s t)) ∧
  (∀ (port : Port) (v : Word) (s : State) (u inst : Nat), lets s Reg.BST.CMD = true → u = fieldOf v 0 8 → inst = fieldOf v 8 8 → s.receiving = true →
    s.flt.bist = none → s.fw.swap = none → s.flt.recovery = none → inst < unitInstances u → unitRetired s u inst = false →
    servedLanes s u inst = [] ∨ (u = 1 ∧ v.getLsbD 17 = true) →
    completes (.bistStart port v) s (fun t =>
      t.flt = { s.flt with bist := some { unit := u, inst := inst, migrate := v.getLsbD 17 } } ∧
      t.word Reg.BST.STAT = wordOf [(0, 1, 1), (1, 1, (u == 1 && !(servedLanes s u inst).isEmpty).toNat), (8, 8, u), (16, 8, inst)] ∧
      frame [.flt, .fab] [Reg.BST.STAT] s t)) ∧
  (∀ (port : Port) (v : Word) (s : State) (u inst err : Nat), lets s Reg.BST.CMD = true → u = fieldOf v 0 8 → inst = fieldOf v 8 8 →
    (err = 1 ∧ s.receiving = false) ∨
      (err = 2 ∧ s.receiving = true ∧ (s.flt.bist.isSome = true ∨ s.fw.swap.isSome = true ∨ s.flt.recovery.isSome = true ∨
        (hasReset u = true ∧ servedLanes s u inst ≠ [] ∧ ¬(u = 1 ∧ v.getLsbD 17 = true)))) ∨
      (err = 3 ∧ s.receiving = true ∧ s.flt.bist = none ∧ s.fw.swap = none ∧ s.flt.recovery = none ∧
        (servedLanes s u inst = [] ∨ hasReset u = false) ∧ (unitInstances u ≤ inst ∨ unitRetired s u inst = true)) →
    completes (.bistStart port v) s (fun t =>
      posted s t 25 [(Reg.BST.RES0, wordOf [(12, 4, err), (16, 1, 0)]), (Reg.BST.RES1, wordOf [(0, 8, u), (8, 8, inst), (16, 16, 0)])] ∧
      raised t Ev.BST.RESULT ∧ t.flt = s.flt ∧ frame [.fab, .twc] ([Reg.BST.RES0, Reg.BST.RES1] ++ evWords Ev.BST.RESULT) s t)) ∧
  (∀ (s : State) (j : BistJob), s.flt.bist = some j → j.running = false → j.unit = 1 → j.inst < 6 → coreEmpty s j.inst = true →
    completes .bistRun s (fun t =>
      t.flt = { s.flt with bist := some { j with running := true } } ∧ t.flag (Fld.LNM.CORE_STAT.IN_TEST j.inst) = true ∧
      t.flag Fld.BST.STAT.MIGRATING = false ∧ frame [.flt] [Reg.BST.STAT, Reg.LNM.CORE_STAT j.inst] s t)) ∧
  (∀ (s : State) (j : BistJob), s.flt.bist = some j → j.running = false → j.unit ≠ 1 →
    completes .bistRun s (fun t =>
      t.flt = { s.flt with bist := some { j with running := true } } ∧ t.flag Fld.BST.STAT.MIGRATING = false ∧ frame [.flt] [Reg.BST.STAT] s t)) ∧
  (∀ (pass : Bool) (us : Nat) (records : List BistRecord) (s : State) (j : BistJob), s.flt.bist = some j → j.running = true → pass = true →
    completes (.bistDone pass us records) s (fun t =>
      posted s t 25 [(Reg.BST.RES0, wordOf [(12, 4, 0), (16, 1, 1)]),
        (Reg.BST.RES1, wordOf [(0, 8, j.unit), (8, 8, j.inst), (16, 16, min us 65535)])] ∧ raised t Ev.BST.RESULT ∧
      t.flt = { s.flt with bist := none } ∧ t.word Reg.BST.STAT = 0 ∧
      frame [.flt, .fab, .twc] ([Reg.BST.STAT, Reg.BST.RES0, Reg.BST.RES1] ++ evWords Ev.BST.RESULT) s t)) ∧
  (∀ (pass : Bool) (us : Nat) (records : List BistRecord) (s : State) (j : BistJob), s.flt.bist = some j → j.running = true → pass = false → j.inst < unitInstances j.unit →
    completes (.bistDone pass us records) s (fun t =>
      t.flt.bist = none ∧ t.flt.retired = (j.unit, j.inst) :: s.flt.retired ∧ logged s t j.unit j.inst 8 ∧ t.nv = { s.nv with runFails := s.nv.runFails ++ records } ∧
      raised t Ev.BST.FAIL ∧ raised t Ev.BST.RESULT ∧ raised t Ev.FLT.PERMANENT ∧ raised t Ev.FLT.FAULT ∧
      (j.unit = 1 → t.flag (Fld.LNM.CORE_STAT.HEALTHY j.inst) = false ∧ t.flag (Fld.LNM.CORE_STAT.RETIRED j.inst) = true) ∧
      ∀ p ∈ ([.time, .paths, .loops, .maps, .ens, .links, .queues, .audio, .fw, .nvJob, .host, .free] : List Part), p.same s t))

/-- Memory errors (R394 to R396, R399): a corrected error is counted, shown and logged, and a repeat within the hour marks its row; the first
uncorrectable error at a word acts by its region, the second marks its row; a macro's fault while a unit recovers starts a device recovery. It rests
also on the model's own readings: log entries 6, 31, 32 and 33. -/
def Obligations.MemoryErrorsComplete : Prop :=
  (∀ (ms : Nat) (s : State), controlRuns s = true →
    completes (.scrubPassDone ms) s (fun t =>
      t.word Reg.ECC.PASS_CNT = s.word Reg.ECC.PASS_CNT + 1 ∧ t.get Fld.ECC.PASS_MS.MS = min ms 65535 ∧
      frame [] [Reg.ECC.PASS_CNT, Reg.ECC.PASS_MS] s t)) ∧
  (∀ (word : Nat) (s : State), controlRuns s = true → (∀ c ∈ s.flt.corrected, c.1 = word → c.2 + 3600000 ≤ s.epoch) →
    completes (.eccCorrected word) s (fun t =>
      t.word Reg.ECC.CE_CNT = s.word Reg.ECC.CE_CNT + 1 ∧ t.word Reg.ECC.LAST = wordOf [(0, 22, word), (22, 1, 0), (31, 1, 1)] ∧
      raised t Ev.ECC.CORRECTED ∧ raised t Ev.FLT.FAULT ∧ logged s t 7 (macroOf word) 1 ∧ t.flt.corrected.head? = some (word, s.epoch) ∧
      t.flt.corrected.length ≤ 64 ∧ t.flt.counted = s.flt.counted ∧ t.flt.safeAt = s.flt.safeAt ∧
      frame [.flt, .fab, .twc] ([Reg.ECC.CE_CNT, Reg.ECC.LAST, Reg.FLT.TRANSIENT_CNT] ++ evsWords [Ev.ECC.CORRECTED, Ev.FLT.FAULT]) s t)) ∧
  (∀ (word : Nat) (s : State) (e : Nat), controlRuns s = true → (word, e) ∈ s.flt.corrected → s.epoch < e + 3600000 →
    completes (.eccCorrected word) s (fun t =>
      t.word Reg.ECC.CE_CNT = s.word Reg.ECC.CE_CNT + 1 ∧ raised t Ev.ECC.CORRECTED ∧ raised t Ev.FLT.PERMANENT ∧ logged s t 7 (macroOf word) 1 ∧
      t.nv.pendingRows.any (fun r => r.inst == macroOf word && r.row == rowOf word) = true ∧ t.flt.counted = s.flt.counted ∧
      frame [.flt, .nv, .fab, .twc] ([Reg.ECC.CE_CNT, Reg.ECC.LAST, Reg.FLT.PERMANENT_CNT] ++
        evsWords [Ev.ECC.CORRECTED, Ev.FLT.FAULT, Ev.FLT.PERMANENT]) s t)) ∧
  (∀ (word : Nat) (r : Region) (s : State), controlRuns s = true → s.flt.uncorrected.contains word = false →
    (match r with | .buffers => true | .oldCode => true | .survey _ _ => true | _ => false) = true →
    completes (.eccUncorrected word r) s (fun t =>
      t.word Reg.ECC.UE_CNT = s.word Reg.ECC.UE_CNT + 1 ∧ t.word Reg.ECC.LAST = wordOf [(0, 22, word), (22, 1, 1), (31, 1, 1)] ∧
      raised t Ev.ECC.UNCORRECTED ∧ raised t Ev.FLT.FAULT ∧ logged s t 7 (macroOf word) 2 ∧ t.flt.uncorrected = word :: s.flt.uncorrected ∧
      t.fw = (if r = .oldCode then { s.fw with oldLost := true } else s.fw) ∧
      t.dsp = { s.dsp with touched := s.dsp.touched ++ (match r with | .survey m es => es.map (fun i => (m, i)) | _ => []) } ∧
      frame [.flt, .fw, .dsp, .fab, .twc] ([Reg.ECC.UE_CNT, Reg.ECC.LAST, Reg.FLT.TRANSIENT_CNT, Reg.FLT.ESCALATE_CNT, Reg.FLT.STAT] ++
        evsWords [Ev.ECC.UNCORRECTED, Ev.FLT.FAULT, Ev.FLT.ESCALATE]) s t)) ∧
  (∀ (word n k : Nat) (s : State), controlRuns s = true → s.flt.uncorrected.contains word = false → n < 4 → k < 4 →
    completes (.eccUncorrected word (.pool n k)) s (fun t =>
      (t.src n k).lostBlocks.head? = some s.epoch ∧ raised t Ev.ECC.UNCORRECTED ∧ logged s t 7 (macroOf word) 2 ∧
      frame [.flt, .slots, .fab, .twc] ([Reg.ECC.UE_CNT, Reg.ECC.LAST, Reg.FLT.TRANSIENT_CNT, Reg.FLT.ESCALATE_CNT, Reg.FLT.STAT] ++
        evsWords [Ev.ECC.UNCORRECTED, Ev.FLT.FAULT, Ev.FLT.ESCALATE]) s t)) ∧
  (∀ (word : Nat) (ls : List Nat) (s : State), controlRuns s = true → s.flt.uncorrected.contains word = false →
    completes (.eccUncorrected word (.rings ls)) s (fun t =>
      (∀ l ∈ ls, blockConcealed t l = true) ∧ (∀ x ∈ s.blocks.own, x.1 ∉ ls → x ∈ t.blocks.own) ∧
      raised t Ev.ECC.UNCORRECTED ∧ logged s t 7 (macroOf word) 2 ∧
      frame [.flt, .blocks, .fab, .twc] ([Reg.ECC.UE_CNT, Reg.ECC.LAST, Reg.FLT.TRANSIENT_CNT, Reg.FLT.ESCALATE_CNT, Reg.FLT.STAT] ++
        evsWords [Ev.ECC.UNCORRECTED, Ev.FLT.FAULT, Ev.FLT.ESCALATE]) s t)) ∧
  (∀ (word : Nat) (r : Region) (s : State) (why : PauseCause), controlRuns s = true → s.flt.uncorrected.contains word = false → s.fab.pause = none →
    (r = .code ∧ why = .reload ∧ nvState s ≠ nvWriting ∧ nvState s ≠ nvVerified ∧ nvState s ≠ nvReverted) ∨
      (r = .control ∧ why = .watchdog ∧ s.flt.watchdogAt = none) →
    completes (.eccUncorrected word r) s (fun t =>
      t.fab.pause = some why ∧ t.flag (evRaw Ev.ECC.UNCORRECTED) = true ∧ t.word Reg.ECC.UE_CNT = s.word Reg.ECC.UE_CNT + 1 ∧
      logged s t 7 (macroOf word) 2)) ∧
  (∀ (word : Nat) (r : Region) (s : State), controlRuns s = true → s.flt.uncorrected.contains word = false → s.flt.safeAt = none → s.pwr.mode ≠ .safe →
    (s.flt.counted.filter (fun x => decide (s.epoch < x + 10000))).length < 8 →
    r = .husk ∨ (r = .code ∧ (nvState s = nvWriting ∨ nvState s = nvVerified ∨ nvState s = nvReverted)) →
    completes (.eccUncorrected word r) s (fun t =>
      t.flt.safeAt = some (s.epoch + 1, 4) ∧ t.fab.pause = s.fab.pause ∧ raised t Ev.ECC.UNCORRECTED ∧ logged s t 7 (macroOf word) 2)) ∧
  (∀ (word : Nat) (s : State) (l : Nat), controlRuns s = true → s.flt.uncorrected.contains word = false → l < 156 → s.laneInUse l = true →
    completes (.eccUncorrected word (.lane l)) s (fun t =>
      (t.lane l).restart = true ∧ raised t Ev.ECC.UNCORRECTED ∧ raised t Ev.FLT.FAULT ∧ logged s t 7 (macroOf word) 2)) ∧
  (∀ (word : Nat) (s : State) (q i : Nat), controlRuns s = true → s.flt.uncorrected.contains word = false → q < 16 → i < (at' s.queues q {}).recs.length →
    completes (.eccUncorrected word (.queue q i)) s (fun t =>
      (at' t.queues q {}).recs = (at' s.queues q {}).recs.eraseIdx i ∧
      t.get (Fld.SDQ.QDROP.CRC q) = (s.get (Fld.SDQ.QDROP.CRC q) + 1) % 2 ^ (Fld.SDQ.QDROP.CRC q).width ∧ raised t Ev.ECC.UNCORRECTED ∧
      logged s t 7 (macroOf word) 2)) ∧
  (∀ (word : Nat) (r : Region) (s : State), controlRuns s = true → s.flt.uncorrected.contains word = true →
    completes (.eccUncorrected word r) s (fun t =>
      t.word Reg.ECC.UE_CNT = s.word Reg.ECC.UE_CNT + 1 ∧ raised t Ev.ECC.UNCORRECTED ∧ raised t Ev.FLT.PERMANENT ∧
      t.nv.pendingRows.any (fun x => x.inst == macroOf word && x.row == rowOf word) = true ∧ logged s t 7 (macroOf word) 2 ∧
      t.flt.withheld = (match r with | .buffers | .lane _ | .rings _ => r :: s.flt.withheld | _ => s.flt.withheld))) ∧
  (∀ (word : Nat) (r : Region) (s : State), controlRuns s = true → s.flt.uncorrected.contains word = false → s.flt.recovery = none →
    recoveringUnits s ≠ [] → (match r with | .buffers => true | .survey _ _ => true | _ => false) = true →
    completes (.eccUncorrected word r) s (fun t =>
      t.flt.recovery = some (.ramping (s.epoch + 1), (7, macroOf word) :: (recoveringUnits s).filter (fun x => x != (7, macroOf word))) ∧
      t.flag Fld.FLT.STAT.RECOVERING = true ∧ raised t Ev.FLT.ESCALATE ∧ raised t Ev.FLT.FAULT))

/-- Unit faults, device recovery and SAFE (R121, R397 to R400, R403): a fault pulls the sprouts that use its unit, a transient one resets it and
restarts the lanes it serves, the fourth reset within 60 s retires it, a shared one while another unit recovers starts a device recovery; SAFE is
entered on its boundary, but not during an orderly stop; the log is cleared by the host. It rests also on the model's own readings: log entries 6,
31, 32 and 109. -/
def Obligations.FaultsComplete : Prop :=
  (∀ (core : Fin 6) (exception : Bool) (s : State) (cause : Nat), s.receiving = true → s.flt.retired.contains (1, core.val) = false →
    isRecovering s (1, core.val) = false → recentResets s (1, core.val) < 3 → s.flt.recovery = none → cause = (if exception then 5 else 4) →
    completes (.coreHang core exception) s (fun t =>
      (1, core.val) ∈ t.flt.inReset ∧ logged s t 1 core.val cause ∧ raised t Ev.FLT.FAULT ∧ ((1, core.val), s.epoch) ∈ t.flt.resets ∧
      (∀ l ∈ lanesOnCore s core.val, (t.lane l).restart = true) ∧ t.flt.retired = s.flt.retired ∧
      (∀ i ∈ usersOf s 1 core.val, (t.sprout i).state = .pulled ∧ (t.sprout i).reason = .fault) ∧
      (usersOf s 1 core.val = [] → frame [.flt, .mgr, .fab, .twc] (Reg.FLT.TRANSIENT_CNT :: evWords Ev.FLT.FAULT) s t) ∧
      pageFrame pullParts (0x071 :: pullPages) s t)) ∧
  (∀ (core : Fin 6) (exception : Bool) (s : State), s.receiving = true → s.flt.retired.contains (1, core.val) = false →
    isRecovering s (1, core.val) = true ∨ 3 ≤ recentResets s (1, core.val) →
    completes (.coreHang core exception) s (fun t =>
      t.flt.retired = (1, core.val) :: s.flt.retired ∧ logged s t 1 core.val (if exception then 5 else 4) ∧ raised t Ev.FLT.PERMANENT ∧
      t.flag (Fld.LNM.CORE_STAT.HEALTHY core.val) = false ∧ t.flag (Fld.LNM.CORE_STAT.RETIRED core.val) = true ∧
      ∀ p ∈ ([.time, .paths, .loops, .maps, .ens, .links, .queues, .audio, .fw, .nv, .nvJob, .host, .free] : List Part), p.same s t)) ∧
  (∀ (unit inst : Nat) (s : State), s.receiving = true → 2 ≤ unit → unit ≤ 6 → inst < unitInstances unit → s.flt.retired.contains (unit, inst) = false →
    recoveringUnits s = [] → isRecovering s (unit, inst) = false → recentResets s (unit, inst) < 3 → s.flt.recovery = none →
    completes (.accelFault unit inst) s (fun t =>
      (unit, inst) ∈ t.flt.inReset ∧ logged s t unit inst 4 ∧ raised t Ev.FLT.FAULT ∧
      (∀ l ∈ servedLanes s unit inst, (t.lane l).restart = true) ∧
      (∀ i ∈ usersOf s unit inst, (t.sprout i).state = .pulled ∧ (t.sprout i).reason = .fault) ∧
      (usersOf s unit inst = [] → frame [.flt, .mgr, .fab, .twc] (Reg.FLT.TRANSIENT_CNT :: evWords Ev.FLT.FAULT) s t) ∧
      pageFrame pullParts (0x071 :: pullPages) s t)) ∧
  (∀ (unit inst : Nat) (s : State), s.receiving = true → 3 ≤ unit → unit ≤ 5 → inst < unitInstances unit → s.flt.retired.contains (unit, inst) = false →
    recoveringUnits s ≠ [] → isRecovering s (unit, inst) = false → recentResets s (unit, inst) < 3 → s.flt.recovery = none →
    completes (.accelFault unit inst) s (fun t =>
      t.flt.recovery = some (.ramping (s.epoch + 1), (unit, inst) :: (recoveringUnits s).filter (fun x => x != (unit, inst))) ∧
      t.flag Fld.FLT.STAT.RECOVERING = true ∧ raised t Ev.FLT.ESCALATE ∧ raised t Ev.FLT.FAULT ∧ logged s t unit inst 4 ∧
      t.get Fld.FLT.ESCALATE_CNT.COUNT = min 65535 (s.get Fld.FLT.ESCALATE_CNT.COUNT + 1) ∧
      (∀ i ∈ usersOf s unit inst, (t.sprout i).state = .pulled ∧ (t.sprout i).reason = .fault) ∧
      (usersOf s unit inst = [] →
        frame [.flt, .mgr, .fab, .twc] ([Reg.FLT.TRANSIENT_CNT, Reg.FLT.STAT, Reg.FLT.ESCALATE_CNT] ++ evsWords [Ev.FLT.FAULT, Ev.FLT.ESCALATE]) s t) ∧
      pageFrame pullParts (0x071 :: pullPages) s t)) ∧
  (∀ (unit inst : Nat) (s : State), (unit, inst) ∈ s.flt.inReset →
    completes (.unitResetDone unit inst) s (fun t =>
      (unit, inst) ∉ t.flt.inReset ∧ ((unit, inst), s.epoch + 100) ∈ t.flt.recovering ∧ frame [.flt] [] s t)) ∧
  (∀ (unit inst : Nat) (s : State) (e : Nat), ((unit, inst), e) ∈ s.flt.recovering → e ≤ s.epoch →
    completes (.recoveringEnd unit inst) s (fun t =>
      ((unit, inst), e) ∉ t.flt.recovering ∧ (∀ r ∈ s.flt.recovering, r.1 ≠ (unit, inst) → r ∈ t.flt.recovering) ∧ frame [.flt] [] s t)) ∧
  (∀ (s : State) (b : Nat) (us : List UnitId), s.flt.recovery = some (.ramping b, us) → onBoundary s = true → b + 20 ≤ s.epoch →
    completes .deviceRecoveryReset s (fun t =>
      (t.flt.recovery.map (fun r => r.1)) = some .resetting ∧
      (∀ u ∈ us, s.flt.retired.contains u = false → sharedUnit u.1 = true ∨ isRecovering s u = true →
        u ∈ (t.flt.recovery.map (fun r => r.2)).getD [] ∧ u ∈ t.flt.inReset) ∧
      t.flt.retired = s.flt.retired ∧ t.flt.log = s.flt.log)) ∧
  (∀ (s : State) (us : List UnitId), s.flt.recovery = some (.resetting, us) → onBoundary s = true → us.all (fun u => !(s.flt.inReset.contains u)) = true →
    completes .deviceRecoveryDone s (fun t =>
      t.flt = { s.flt with recovery := none } ∧ t.flag Fld.FLT.STAT.RECOVERING = false ∧
      frame [.flt, .slots, .fab, .twc] (Reg.FLT.STAT :: (List.range 4).map Reg.PGM.STAT ++ evsWords ((List.range 4).map Ev.PGM.MUTE)) s t)) ∧
  (∀ (s : State) (b why : Nat), s.flt.safeAt = some (b, why) → onBoundary s = true → b ≤ s.epoch → controlRuns s = true → stopping s = false →
    completes .safeEntry s (fun t =>
      t.pwr.mode = .safe ∧ t.get Fld.FLT.STAT.SAFE_WHY = why % 8 ∧ raised t Ev.FLT.SAFE ∧ t.flt.safeAt = none ∧ t.flt.recovery = none ∧
      t.pwr.trans = none ∧ t.pwr.held = none ∧ t.flag Fld.FLT.STAT.RECOVERING = false ∧ t.flt.log = s.flt.log ∧ t.nv = s.nv ∧ t.fw = s.fw)) ∧
  (∀ (s : State) (b why : Nat), s.flt.safeAt = some (b, why) → onBoundary s = true → b ≤ s.epoch → controlRuns s = true → stopping s = true →
    completes .safeEntry s (fun t => t.flt = { s.flt with safeAt := none } ∧ frame [.flt] [] s t)) ∧
  (∀ (port : Port) (v : Word) (s : State), lets s Reg.FLT.LOG_CLR = true →
    completes (.faultLogClear port v) s (fun t => t.flt = { s.flt with log := [] } ∧ frame [.flt, .fab] [] s t))

/-! ## The boundary, the queue and what every step keeps -/

/-- EPOCH_BOUNDARY (R14, R15, R281): while device time runs, the tick count stands at the next multiple of 163 840, and every key is one boundary nearer
its expiry; in OFF, SLEEP and before the lock of PLL-S nothing changes. It rests also on the model's own readings: log entries 1 and 94. -/
def Obligations.BoundaryCompletes : Prop :=
  (∀ (obs : EpochObs) (s : State), clockRuns s = true →
    completes (.epochBoundary obs) s (fun t =>
      t.time = (s.time / 163840 + 1) * 163840 ∧ t.fab.keys = s.fab.keys.map (fun k => { k with left := k.left - 1 }))) ∧
  (∀ (obs : EpochObs) (s : State), clockRuns s = false → completes (.epochBoundary obs) s (fun t => frame [] [] s t))

/-- A step takes the command at the front of the queue and answers what the command does on the state with the queue's rest. -/
def Obligations.StepRunsFront : Prop :=
  ∀ (c : Instr) (rest : List Instr) (s : State), s.pending = c :: rest → step s = exec c { s with pending := rest }

/-- With an empty queue a step lets one tick of the sample clock pass, up to the last tick before the next boundary, and changes nothing else but
`SYS.TIME` (the model's choice: log entry 1). -/
def Obligations.IdleStepTicks : Prop :=
  (∀ (s : State), s.pending = [] → clockRuns s = true → (s.time + 1) % 163840 ≠ 0 → step s = .next { s with time := s.time + 1 }) ∧
  (∀ (s : State), s.pending = [] → clockRuns s = false ∨ (s.time + 1) % 163840 = 0 → step s = .next s)

/-- Every command answers a next state and leaves the queue of waiting commands as it is (log entry 2). -/
def Obligations.QueueUntouched : Prop := ∀ (c : Instr) (s : State), completes c s (fun t => t.pending = s.pending)

/-- Reset (R14, R22, R283, R287): every register word is the one the register maps give for reset, `SYS.TIME` is 0, the plan and every result window are
empty, no event is pending, no command waits, and the pins follow. It rests also on the model's own readings: log entry 12. -/
def Obligations.ResetHolds : Prop :=
  (∀ a : Nat, State.reset.word a = resetWord a) ∧
  (State.reset.time = 0 ∧ State.reset.plan = [] ∧ State.reset.planWait = [] ∧ State.reset.planHeld = [] ∧ State.reset.pending = [] ∧ State.reset.pwr.mode = .boot) ∧
  (∀ (g : Nat), g < 256 → isPending State.reset g = false) ∧
  (pinsOf State.reset = State.reset.pwr.pins ∧ State.reset.served = false ∧ State.reset.pwr.pins.irqN = .hiZ)

/-- Result windows (R283): all are empty at BOOT, with SEQ 0; each result takes the next SEQ, 1 for the first, then 2 to 255, then 1 again; a window
holds one result and has one side slot. -/
def Obligations.WindowsHoldOneResult : Prop :=
  (∀ (i : Nat), i < 27 → State.reset.flag (windowValid i) = false ∧ State.reset.get (windowSeq i) = 0 ∧ at' State.reset.fab.windows i {} = {}) ∧
  (nextSeq 0 = 1 ∧ (∀ (n : Nat), n < 255 → nextSeq n = n + 1) ∧ nextSeq 255 = 1) ∧
  (∀ (i : Nat) (words : List (Nat × Word)) (s : State), i < 27 → s.flag (windowValid i) = false → (words.map (fun c => c.1)).Nodup →
    (at' s.fab.windows i {}).last < 256 →
    (postNow i words s).flag (windowValid i) = true ∧ (postNow i words s).get (windowSeq i) = nextSeq (at' s.fab.windows i {}).last ∧
    (at' (postNow i words s).fab.windows i {}).last = nextSeq (at' s.fab.windows i {}).last ∧
    (∀ c ∈ words, c.1 ≠ windowHeader i → (postNow i words s).word c.1 = c.2) ∧
    frame [.fab] (windowHeader i :: words.map (fun c => c.1)) s (postNow i words s)) ∧
  (∀ (i : Nat) (words : List (Nat × Word)) (s : State), i < 27 → s.flag (windowValid i) = true →
    (at' (postNow i words s).fab.windows i {}).side = some { seq := nextSeq (at' s.fab.windows i {}).last, words := words } ∧
    (at' (postNow i words s).fab.windows i {}).last = nextSeq (at' s.fab.windows i {}).last ∧
    (postNow i words s).get (windowSeq i) = s.get (windowSeq i) ∧
    frame [.fab, .twc] (windowHeader i :: evWords Ev.TEL.OVERFLOW) s (postNow i words s))

/-- The band plan (R138, R163): an FM lane takes 64 000 to 108 000 kHz where ±100 kHz lie wholly within one enabled band, and a refused tune keeps TUNE,
sets REFUSED and posts nothing; on the LF path AM lanes, AM watch entries and DRM engines take the enabled ranges of LW, MW and SW. -/
def Obligations.BandPlanHolds : Prop :=
  (∀ (s : State) (khz : Nat), fmAllowed s khz = true ↔ 64000 ≤ khz ∧ khz ≤ 108000 ∧
    (((s.get Fld.RGL.BAND_PLAN.BANDS).testBit 0 = true ∧ 87500 + 100 ≤ khz ∧ khz + 100 ≤ 108000) ∨
      ((s.get Fld.RGL.BAND_PLAN.BANDS).testBit 1 = true ∧ 76000 + 100 ≤ khz ∧ khz + 100 ≤ 95000) ∨
      ((s.get Fld.RGL.BAND_PLAN.BANDS).testBit 2 = true ∧ 65800 + 100 ≤ khz ∧ khz + 100 ≤ 74000) ∨
      ((s.get Fld.RGL.BAND_PLAN.BANDS).testBit 3 = true ∧ 64000 + 100 ≤ khz ∧ khz + 100 ≤ 108000))) ∧
  (∀ (s : State) (khz : Nat), amAllowed s khz = true ↔
    ((s.get Fld.RGL.BAND_PLAN.BANDS).testBit 5 = true ∧ 144 ≤ khz ∧ khz ≤ 288) ∨
      ((s.get Fld.RGL.BAND_PLAN.BANDS).testBit 6 = true ∧ 520 ≤ khz ∧ khz ≤ 1710) ∨
      ((s.get Fld.RGL.BAND_PLAN.BANDS).testBit 7 = true ∧ 1711 ≤ khz ∧ khz ≤ 30000)) ∧
  (∀ (s : State) (khz : Nat), drmAllowed s false khz = amAllowed s khz) ∧
  (∀ (port : Port) (n : Fin 8) (v : Word) (s : State), lets s (Reg.FMF.TUNE n.val) = true → fieldOf v 0 17 ≠ 0 →
    (s.lane n.val).state = .retired ∨ fmAllowed s (fieldOf v 0 17) = false →
    completes (.fmTune port n v) s (fun t =>
      t.word (Reg.FMF.TUNE n.val) = s.word (Reg.FMF.TUNE n.val) ∧ t.flag (Fld.FMF.CHG.REFUSED n.val) = true ∧ t.plan = s.plan ∧
      t.planWait = s.planWait ∧ t.planHeld = s.planHeld ∧ frame evParts (Reg.FMF.CHG n.val :: evWords (Ev.FMF.CHANGE n.val)) s t))

/-- The output pins follow: after every step they are what the rules on IRQ_N, LOCK_A, COEX_REQ, the aerial feed, the injector, CLKOUT, the audio ports,
GPIO and the auxiliary port make of the state (R46, R51, R70, R77, R263, R289, R313, R331, R347, R411). -/
def Obligations.PinsFollow : Prop :=
  (∀ (s t : State), pinsOf s = s.pwr.pins → step s = .next t → pinsOf t = t.pwr.pins)

/-- Every entry of the epoch plan lies ahead (R17, R18): if all entries name boundaries after the present epoch, they do after every step, since the
entries of a boundary leave the plan as it is crossed and none is posted for a boundary less than two epochs away. -/
def Obligations.PlanAhead : Prop :=
  (∀ (s t : State), (∀ e ∈ s.plan, s.epoch < e.at_) → step s = .next t → ∀ e ∈ t.plan, t.epoch < e.at_)
end

