-- ==== Sys2Proof/Laws/State.lean ====
section
/-!
SUPPORT. One lemma for each part of the state and each named update, so that no proof unfolds a record update.
-/

namespace Sys2Proof.Machine

/-! `State.setWord` writes registers only. -/

@[simp] theorem State.setWord_time (s : State) (a : Nat) (w : Word) : (s.setWord a w).time = s.time := rfl
@[simp] theorem State.setWord_plan (s : State) (a : Nat) (w : Word) : (s.setWord a w).plan = s.plan := rfl
@[simp] theorem State.setWord_planWait (s : State) (a : Nat) (w : Word) : (s.setWord a w).planWait = s.planWait := rfl
@[simp] theorem State.setWord_planHeld (s : State) (a : Nat) (w : Word) : (s.setWord a w).planHeld = s.planHeld := rfl
@[simp] theorem State.setWord_fab (s : State) (a : Nat) (w : Word) : (s.setWord a w).fab = s.fab := rfl
@[simp] theorem State.setWord_paths (s : State) (a : Nat) (w : Word) : (s.setWord a w).paths = s.paths := rfl
@[simp] theorem State.setWord_blocks (s : State) (a : Nat) (w : Word) : (s.setWord a w).blocks = s.blocks := rfl
@[simp] theorem State.setWord_dsp (s : State) (a : Nat) (w : Word) : (s.setWord a w).dsp = s.dsp := rfl
@[simp] theorem State.setWord_aux (s : State) (a : Nat) (w : Word) : (s.setWord a w).aux = s.aux := rfl
@[simp] theorem State.setWord_loops (s : State) (a : Nat) (w : Word) : (s.setWord a w).loops = s.loops := rfl
@[simp] theorem State.setWord_maps (s : State) (a : Nat) (w : Word) : (s.setWord a w).maps = s.maps := rfl
@[simp] theorem State.setWord_mgr (s : State) (a : Nat) (w : Word) : (s.setWord a w).mgr = s.mgr := rfl
@[simp] theorem State.setWord_rds (s : State) (a : Nat) (w : Word) : (s.setWord a w).rds = s.rds := rfl
@[simp] theorem State.setWord_fm (s : State) (a : Nat) (w : Word) : (s.setWord a w).fm = s.fm := rfl
@[simp] theorem State.setWord_watchFifo (s : State) (a : Nat) (w : Word) : (s.setWord a w).watchFifo = s.watchFifo := rfl
@[simp] theorem State.setWord_am (s : State) (a : Nat) (w : Word) : (s.setWord a w).am = s.am := rfl
@[simp] theorem State.setWord_amWatch (s : State) (a : Nat) (w : Word) : (s.setWord a w).amWatch = s.amWatch := rfl
@[simp] theorem State.setWord_drm (s : State) (a : Nat) (w : Word) : (s.setWord a w).drm = s.drm := rfl
@[simp] theorem State.setWord_decoders (s : State) (a : Nat) (w : Word) : (s.setWord a w).decoders = s.decoders := rfl
@[simp] theorem State.setWord_decWait (s : State) (a : Nat) (w : Word) : (s.setWord a w).decWait = s.decWait := rfl
@[simp] theorem State.setWord_dab (s : State) (a : Nat) (w : Word) : (s.setWord a w).dab = s.dab := rfl
@[simp] theorem State.setWord_ens (s : State) (a : Nat) (w : Word) : (s.setWord a w).ens = s.ens := rfl
@[simp] theorem State.setWord_links (s : State) (a : Nat) (w : Word) : (s.setWord a w).links = s.links := rfl
@[simp] theorem State.setWord_queues (s : State) (a : Nat) (w : Word) : (s.setWord a w).queues = s.queues := rfl
@[simp] theorem State.setWord_slots (s : State) (a : Nat) (w : Word) : (s.setWord a w).slots = s.slots := rfl
@[simp] theorem State.setWord_pib (s : State) (a : Nat) (w : Word) : (s.setWord a w).pib = s.pib := rfl
@[simp] theorem State.setWord_audio (s : State) (a : Nat) (w : Word) : (s.setWord a w).audio = s.audio := rfl
@[simp] theorem State.setWord_pwr (s : State) (a : Nat) (w : Word) : (s.setWord a w).pwr = s.pwr := rfl
@[simp] theorem State.setWord_fw (s : State) (a : Nat) (w : Word) : (s.setWord a w).fw = s.fw := rfl
@[simp] theorem State.setWord_nv (s : State) (a : Nat) (w : Word) : (s.setWord a w).nv = s.nv := rfl
@[simp] theorem State.setWord_nvJob (s : State) (a : Nat) (w : Word) : (s.setWord a w).nvJob = s.nvJob := rfl
@[simp] theorem State.setWord_flt (s : State) (a : Nat) (w : Word) : (s.setWord a w).flt = s.flt := rfl
@[simp] theorem State.setWord_host (s : State) (a : Nat) (w : Word) : (s.setWord a w).host = s.host := rfl
@[simp] theorem State.setWord_twc (s : State) (a : Nat) (w : Word) : (s.setWord a w).twc = s.twc := rfl
@[simp] theorem State.setWord_free (s : State) (a : Nat) (w : Word) : (s.setWord a w).free = s.free := rfl
@[simp] theorem State.setWord_pending (s : State) (a : Nat) (w : Word) : (s.setWord a w).pending = s.pending := rfl

/-! `State.set` writes registers only. -/

@[simp] theorem State.set_time (s : State) (f : Field) (v : Nat) : (s.set f v).time = s.time := rfl
@[simp] theorem State.set_plan (s : State) (f : Field) (v : Nat) : (s.set f v).plan = s.plan := rfl
@[simp] theorem State.set_planWait (s : State) (f : Field) (v : Nat) : (s.set f v).planWait = s.planWait := rfl
@[simp] theorem State.set_planHeld (s : State) (f : Field) (v : Nat) : (s.set f v).planHeld = s.planHeld := rfl
@[simp] theorem State.set_fab (s : State) (f : Field) (v : Nat) : (s.set f v).fab = s.fab := rfl
@[simp] theorem State.set_paths (s : State) (f : Field) (v : Nat) : (s.set f v).paths = s.paths := rfl
@[simp] theorem State.set_blocks (s : State) (f : Field) (v : Nat) : (s.set f v).blocks = s.blocks := rfl
@[simp] theorem State.set_dsp (s : State) (f : Field) (v : Nat) : (s.set f v).dsp = s.dsp := rfl
@[simp] theorem State.set_aux (s : State) (f : Field) (v : Nat) : (s.set f v).aux = s.aux := rfl
@[simp] theorem State.set_loops (s : State) (f : Field) (v : Nat) : (s.set f v).loops = s.loops := rfl
@[simp] theorem State.set_maps (s : State) (f : Field) (v : Nat) : (s.set f v).maps = s.maps := rfl
@[simp] theorem State.set_mgr (s : State) (f : Field) (v : Nat) : (s.set f v).mgr = s.mgr := rfl
@[simp] theorem State.set_rds (s : State) (f : Field) (v : Nat) : (s.set f v).rds = s.rds := rfl
@[simp] theorem State.set_fm (s : State) (f : Field) (v : Nat) : (s.set f v).fm = s.fm := rfl
@[simp] theorem State.set_watchFifo (s : State) (f : Field) (v : Nat) : (s.set f v).watchFifo = s.watchFifo := rfl
@[simp] theorem State.set_am (s : State) (f : Field) (v : Nat) : (s.set f v).am = s.am := rfl
@[simp] theorem State.set_amWatch (s : State) (f : Field) (v : Nat) : (s.set f v).amWatch = s.amWatch := rfl
@[simp] theorem State.set_drm (s : State) (f : Field) (v : Nat) : (s.set f v).drm = s.drm := rfl
@[simp] theorem State.set_decoders (s : State) (f : Field) (v : Nat) : (s.set f v).decoders = s.decoders := rfl
@[simp] theorem State.set_decWait (s : State) (f : Field) (v : Nat) : (s.set f v).decWait = s.decWait := rfl
@[simp] theorem State.set_dab (s : State) (f : Field) (v : Nat) : (s.set f v).dab = s.dab := rfl
@[simp] theorem State.set_ens (s : State) (f : Field) (v : Nat) : (s.set f v).ens = s.ens := rfl
@[simp] theorem State.set_links (s : State) (f : Field) (v : Nat) : (s.set f v).links = s.links := rfl
@[simp] theorem State.set_queues (s : State) (f : Field) (v : Nat) : (s.set f v).queues = s.queues := rfl
@[simp] theorem State.set_slots (s : State) (f : Field) (v : Nat) : (s.set f v).slots = s.slots := rfl
@[simp] theorem State.set_pib (s : State) (f : Field) (v : Nat) : (s.set f v).pib = s.pib := rfl
@[simp] theorem State.set_audio (s : State) (f : Field) (v : Nat) : (s.set f v).audio = s.audio := rfl
@[simp] theorem State.set_pwr (s : State) (f : Field) (v : Nat) : (s.set f v).pwr = s.pwr := rfl
@[simp] theorem State.set_fw (s : State) (f : Field) (v : Nat) : (s.set f v).fw = s.fw := rfl
@[simp] theorem State.set_nv (s : State) (f : Field) (v : Nat) : (s.set f v).nv = s.nv := rfl
@[simp] theorem State.set_nvJob (s : State) (f : Field) (v : Nat) : (s.set f v).nvJob = s.nvJob := rfl
@[simp] theorem State.set_flt (s : State) (f : Field) (v : Nat) : (s.set f v).flt = s.flt := rfl
@[simp] theorem State.set_host (s : State) (f : Field) (v : Nat) : (s.set f v).host = s.host := rfl
@[simp] theorem State.set_twc (s : State) (f : Field) (v : Nat) : (s.set f v).twc = s.twc := rfl
@[simp] theorem State.set_free (s : State) (f : Field) (v : Nat) : (s.set f v).free = s.free := rfl
@[simp] theorem State.set_pending (s : State) (f : Field) (v : Nat) : (s.set f v).pending = s.pending := rfl

/-! `State.seti` writes registers only. -/

@[simp] theorem State.seti_time (s : State) (f : Field) (v : Int) : (s.seti f v).time = s.time := rfl
@[simp] theorem State.seti_plan (s : State) (f : Field) (v : Int) : (s.seti f v).plan = s.plan := rfl
@[simp] theorem State.seti_planWait (s : State) (f : Field) (v : Int) : (s.seti f v).planWait = s.planWait := rfl
@[simp] theorem State.seti_planHeld (s : State) (f : Field) (v : Int) : (s.seti f v).planHeld = s.planHeld := rfl
@[simp] theorem State.seti_fab (s : State) (f : Field) (v : Int) : (s.seti f v).fab = s.fab := rfl
@[simp] theorem State.seti_paths (s : State) (f : Field) (v : Int) : (s.seti f v).paths = s.paths := rfl
@[simp] theorem State.seti_blocks (s : State) (f : Field) (v : Int) : (s.seti f v).blocks = s.blocks := rfl
@[simp] theorem State.seti_dsp (s : State) (f : Field) (v : Int) : (s.seti f v).dsp = s.dsp := rfl
@[simp] theorem State.seti_aux (s : State) (f : Field) (v : Int) : (s.seti f v).aux = s.aux := rfl
@[simp] theorem State.seti_loops (s : State) (f : Field) (v : Int) : (s.seti f v).loops = s.loops := rfl
@[simp] theorem State.seti_maps (s : State) (f : Field) (v : Int) : (s.seti f v).maps = s.maps := rfl
@[simp] theorem State.seti_mgr (s : State) (f : Field) (v : Int) : (s.seti f v).mgr = s.mgr := rfl
@[simp] theorem State.seti_rds (s : State) (f : Field) (v : Int) : (s.seti f v).rds = s.rds := rfl
@[simp] theorem State.seti_fm (s : State) (f : Field) (v : Int) : (s.seti f v).fm = s.fm := rfl
@[simp] theorem State.seti_watchFifo (s : State) (f : Field) (v : Int) : (s.seti f v).watchFifo = s.watchFifo := rfl
@[simp] theorem State.seti_am (s : State) (f : Field) (v : Int) : (s.seti f v).am = s.am := rfl
@[simp] theorem State.seti_amWatch (s : State) (f : Field) (v : Int) : (s.seti f v).amWatch = s.amWatch := rfl
@[simp] theorem State.seti_drm (s : State) (f : Field) (v : Int) : (s.seti f v).drm = s.drm := rfl
@[simp] theorem State.seti_decoders (s : State) (f : Field) (v : Int) : (s.seti f v).decoders = s.decoders := rfl
@[simp] theorem State.seti_decWait (s : State) (f : Field) (v : Int) : (s.seti f v).decWait = s.decWait := rfl
@[simp] theorem State.seti_dab (s : State) (f : Field) (v : Int) : (s.seti f v).dab = s.dab := rfl
@[simp] theorem State.seti_ens (s : State) (f : Field) (v : Int) : (s.seti f v).ens = s.ens := rfl
@[simp] theorem State.seti_links (s : State) (f : Field) (v : Int) : (s.seti f v).links = s.links := rfl
@[simp] theorem State.seti_queues (s : State) (f : Field) (v : Int) : (s.seti f v).queues = s.queues := rfl
@[simp] theorem State.seti_slots (s : State) (f : Field) (v : Int) : (s.seti f v).slots = s.slots := rfl
@[simp] theorem State.seti_pib (s : State) (f : Field) (v : Int) : (s.seti f v).pib = s.pib := rfl
@[simp] theorem State.seti_audio (s : State) (f : Field) (v : Int) : (s.seti f v).audio = s.audio := rfl
@[simp] theorem State.seti_pwr (s : State) (f : Field) (v : Int) : (s.seti f v).pwr = s.pwr := rfl
@[simp] theorem State.seti_fw (s : State) (f : Field) (v : Int) : (s.seti f v).fw = s.fw := rfl
@[simp] theorem State.seti_nv (s : State) (f : Field) (v : Int) : (s.seti f v).nv = s.nv := rfl
@[simp] theorem State.seti_nvJob (s : State) (f : Field) (v : Int) : (s.seti f v).nvJob = s.nvJob := rfl
@[simp] theorem State.seti_flt (s : State) (f : Field) (v : Int) : (s.seti f v).flt = s.flt := rfl
@[simp] theorem State.seti_host (s : State) (f : Field) (v : Int) : (s.seti f v).host = s.host := rfl
@[simp] theorem State.seti_twc (s : State) (f : Field) (v : Int) : (s.seti f v).twc = s.twc := rfl
@[simp] theorem State.seti_free (s : State) (f : Field) (v : Int) : (s.seti f v).free = s.free := rfl
@[simp] theorem State.seti_pending (s : State) (f : Field) (v : Int) : (s.seti f v).pending = s.pending := rfl

/-! `State.put` writes registers only. -/

@[simp] theorem State.put_time (s : State) (f : Field) (b : Bool) : (s.put f b).time = s.time := rfl
@[simp] theorem State.put_plan (s : State) (f : Field) (b : Bool) : (s.put f b).plan = s.plan := rfl
@[simp] theorem State.put_planWait (s : State) (f : Field) (b : Bool) : (s.put f b).planWait = s.planWait := rfl
@[simp] theorem State.put_planHeld (s : State) (f : Field) (b : Bool) : (s.put f b).planHeld = s.planHeld := rfl
@[simp] theorem State.put_fab (s : State) (f : Field) (b : Bool) : (s.put f b).fab = s.fab := rfl
@[simp] theorem State.put_paths (s : State) (f : Field) (b : Bool) : (s.put f b).paths = s.paths := rfl
@[simp] theorem State.put_blocks (s : State) (f : Field) (b : Bool) : (s.put f b).blocks = s.blocks := rfl
@[simp] theorem State.put_dsp (s : State) (f : Field) (b : Bool) : (s.put f b).dsp = s.dsp := rfl
@[simp] theorem State.put_aux (s : State) (f : Field) (b : Bool) : (s.put f b).aux = s.aux := rfl
@[simp] theorem State.put_loops (s : State) (f : Field) (b : Bool) : (s.put f b).loops = s.loops := rfl
@[simp] theorem State.put_maps (s : State) (f : Field) (b : Bool) : (s.put f b).maps = s.maps := rfl
@[simp] theorem State.put_mgr (s : State) (f : Field) (b : Bool) : (s.put f b).mgr = s.mgr := rfl
@[simp] theorem State.put_rds (s : State) (f : Field) (b : Bool) : (s.put f b).rds = s.rds := rfl
@[simp] theorem State.put_fm (s : State) (f : Field) (b : Bool) : (s.put f b).fm = s.fm := rfl
@[simp] theorem State.put_watchFifo (s : State) (f : Field) (b : Bool) : (s.put f b).watchFifo = s.watchFifo := rfl
@[simp] theorem State.put_am (s : State) (f : Field) (b : Bool) : (s.put f b).am = s.am := rfl
@[simp] theorem State.put_amWatch (s : State) (f : Field) (b : Bool) : (s.put f b).amWatch = s.amWatch := rfl
@[simp] theorem State.put_drm (s : State) (f : Field) (b : Bool) : (s.put f b).drm = s.drm := rfl
@[simp] theorem State.put_decoders (s : State) (f : Field) (b : Bool) : (s.put f b).decoders = s.decoders := rfl
@[simp] theorem State.put_decWait (s : State) (f : Field) (b : Bool) : (s.put f b).decWait = s.decWait := rfl
@[simp] theorem State.put_dab (s : State) (f : Field) (b : Bool) : (s.put f b).dab = s.dab := rfl
@[simp] theorem State.put_ens (s : State) (f : Field) (b : Bool) : (s.put f b).ens = s.ens := rfl
@[simp] theorem State.put_links (s : State) (f : Field) (b : Bool) : (s.put f b).links = s.links := rfl
@[simp] theorem State.put_queues (s : State) (f : Field) (b : Bool) : (s.put f b).queues = s.queues := rfl
@[simp] theorem State.put_slots (s : State) (f : Field) (b : Bool) : (s.put f b).slots = s.slots := rfl
@[simp] theorem State.put_pib (s : State) (f : Field) (b : Bool) : (s.put f b).pib = s.pib := rfl
@[simp] theorem State.put_audio (s : State) (f : Field) (b : Bool) : (s.put f b).audio = s.audio := rfl
@[simp] theorem State.put_pwr (s : State) (f : Field) (b : Bool) : (s.put f b).pwr = s.pwr := rfl
@[simp] theorem State.put_fw (s : State) (f : Field) (b : Bool) : (s.put f b).fw = s.fw := rfl
@[simp] theorem State.put_nv (s : State) (f : Field) (b : Bool) : (s.put f b).nv = s.nv := rfl
@[simp] theorem State.put_nvJob (s : State) (f : Field) (b : Bool) : (s.put f b).nvJob = s.nvJob := rfl
@[simp] theorem State.put_flt (s : State) (f : Field) (b : Bool) : (s.put f b).flt = s.flt := rfl
@[simp] theorem State.put_host (s : State) (f : Field) (b : Bool) : (s.put f b).host = s.host := rfl
@[simp] theorem State.put_twc (s : State) (f : Field) (b : Bool) : (s.put f b).twc = s.twc := rfl
@[simp] theorem State.put_free (s : State) (f : Field) (b : Bool) : (s.put f b).free = s.free := rfl
@[simp] theorem State.put_pending (s : State) (f : Field) (b : Bool) : (s.put f b).pending = s.pending := rfl

/-! `State.bump` writes registers only. -/

@[simp] theorem State.bump_time (s : State) (f : Field) (k : Nat) : (s.bump f k).time = s.time := rfl
@[simp] theorem State.bump_plan (s : State) (f : Field) (k : Nat) : (s.bump f k).plan = s.plan := rfl
@[simp] theorem State.bump_planWait (s : State) (f : Field) (k : Nat) : (s.bump f k).planWait = s.planWait := rfl
@[simp] theorem State.bump_planHeld (s : State) (f : Field) (k : Nat) : (s.bump f k).planHeld = s.planHeld := rfl
@[simp] theorem State.bump_fab (s : State) (f : Field) (k : Nat) : (s.bump f k).fab = s.fab := rfl
@[simp] theorem State.bump_paths (s : State) (f : Field) (k : Nat) : (s.bump f k).paths = s.paths := rfl
@[simp] theorem State.bump_blocks (s : State) (f : Field) (k : Nat) : (s.bump f k).blocks = s.blocks := rfl
@[simp] theorem State.bump_dsp (s : State) (f : Field) (k : Nat) : (s.bump f k).dsp = s.dsp := rfl
@[simp] theorem State.bump_aux (s : State) (f : Field) (k : Nat) : (s.bump f k).aux = s.aux := rfl
@[simp] theorem State.bump_loops (s : State) (f : Field) (k : Nat) : (s.bump f k).loops = s.loops := rfl
@[simp] theorem State.bump_maps (s : State) (f : Field) (k : Nat) : (s.bump f k).maps = s.maps := rfl
@[simp] theorem State.bump_mgr (s : State) (f : Field) (k : Nat) : (s.bump f k).mgr = s.mgr := rfl
@[simp] theorem State.bump_rds (s : State) (f : Field) (k : Nat) : (s.bump f k).rds = s.rds := rfl
@[simp] theorem State.bump_fm (s : State) (f : Field) (k : Nat) : (s.bump f k).fm = s.fm := rfl
@[simp] theorem State.bump_watchFifo (s : State) (f : Field) (k : Nat) : (s.bump f k).watchFifo = s.watchFifo := rfl
@[simp] theorem State.bump_am (s : State) (f : Field) (k : Nat) : (s.bump f k).am = s.am := rfl
@[simp] theorem State.bump_amWatch (s : State) (f : Field) (k : Nat) : (s.bump f k).amWatch = s.amWatch := rfl
@[simp] theorem State.bump_drm (s : State) (f : Field) (k : Nat) : (s.bump f k).drm = s.drm := rfl
@[simp] theorem State.bump_decoders (s : State) (f : Field) (k : Nat) : (s.bump f k).decoders = s.decoders := rfl
@[simp] theorem State.bump_decWait (s : State) (f : Field) (k : Nat) : (s.bump f k).decWait = s.decWait := rfl
@[simp] theorem State.bump_dab (s : State) (f : Field) (k : Nat) : (s.bump f k).dab = s.dab := rfl
@[simp] theorem State.bump_ens (s : State) (f : Field) (k : Nat) : (s.bump f k).ens = s.ens := rfl
@[simp] theorem State.bump_links (s : State) (f : Field) (k : Nat) : (s.bump f k).links = s.links := rfl
@[simp] theorem State.bump_queues (s : State) (f : Field) (k : Nat) : (s.bump f k).queues = s.queues := rfl
@[simp] theorem State.bump_slots (s : State) (f : Field) (k : Nat) : (s.bump f k).slots = s.slots := rfl
@[simp] theorem State.bump_pib (s : State) (f : Field) (k : Nat) : (s.bump f k).pib = s.pib := rfl
@[simp] theorem State.bump_audio (s : State) (f : Field) (k : Nat) : (s.bump f k).audio = s.audio := rfl
@[simp] theorem State.bump_pwr (s : State) (f : Field) (k : Nat) : (s.bump f k).pwr = s.pwr := rfl
@[simp] theorem State.bump_fw (s : State) (f : Field) (k : Nat) : (s.bump f k).fw = s.fw := rfl
@[simp] theorem State.bump_nv (s : State) (f : Field) (k : Nat) : (s.bump f k).nv = s.nv := rfl
@[simp] theorem State.bump_nvJob (s : State) (f : Field) (k : Nat) : (s.bump f k).nvJob = s.nvJob := rfl
@[simp] theorem State.bump_flt (s : State) (f : Field) (k : Nat) : (s.bump f k).flt = s.flt := rfl
@[simp] theorem State.bump_host (s : State) (f : Field) (k : Nat) : (s.bump f k).host = s.host := rfl
@[simp] theorem State.bump_twc (s : State) (f : Field) (k : Nat) : (s.bump f k).twc = s.twc := rfl
@[simp] theorem State.bump_free (s : State) (f : Field) (k : Nat) : (s.bump f k).free = s.free := rfl
@[simp] theorem State.bump_pending (s : State) (f : Field) (k : Nat) : (s.bump f k).pending = s.pending := rfl

/-! `State.bumpSat` writes registers only. -/

@[simp] theorem State.bumpSat_time (s : State) (f : Field) (k : Nat) : (s.bumpSat f k).time = s.time := rfl
@[simp] theorem State.bumpSat_plan (s : State) (f : Field) (k : Nat) : (s.bumpSat f k).plan = s.plan := rfl
@[simp] theorem State.bumpSat_planWait (s : State) (f : Field) (k : Nat) : (s.bumpSat f k).planWait = s.planWait := rfl
@[simp] theorem State.bumpSat_planHeld (s : State) (f : Field) (k : Nat) : (s.bumpSat f k).planHeld = s.planHeld := rfl
@[simp] theorem State.bumpSat_fab (s : State) (f : Field) (k : Nat) : (s.bumpSat f k).fab = s.fab := rfl
@[simp] theorem State.bumpSat_paths (s : State) (f : Field) (k : Nat) : (s.bumpSat f k).paths = s.paths := rfl
@[simp] theorem State.bumpSat_blocks (s : State) (f : Field) (k : Nat) : (s.bumpSat f k).blocks = s.blocks := rfl
@[simp] theorem State.bumpSat_dsp (s : State) (f : Field) (k : Nat) : (s.bumpSat f k).dsp = s.dsp := rfl
@[simp] theorem State.bumpSat_aux (s : State) (f : Field) (k : Nat) : (s.bumpSat f k).aux = s.aux := rfl
@[simp] theorem State.bumpSat_loops (s : State) (f : Field) (k : Nat) : (s.bumpSat f k).loops = s.loops := rfl
@[simp] theorem State.bumpSat_maps (s : State) (f : Field) (k : Nat) : (s.bumpSat f k).maps = s.maps := rfl
@[simp] theorem State.bumpSat_mgr (s : State) (f : Field) (k : Nat) : (s.bumpSat f k).mgr = s.mgr := rfl
@[simp] theorem State.bumpSat_rds (s : State) (f : Field) (k : Nat) : (s.bumpSat f k).rds = s.rds := rfl
@[simp] theorem State.bumpSat_fm (s : State) (f : Field) (k : Nat) : (s.bumpSat f k).fm = s.fm := rfl
@[simp] theorem State.bumpSat_watchFifo (s : State) (f : Field) (k : Nat) : (s.bumpSat f k).watchFifo = s.watchFifo := rfl
@[simp] theorem State.bumpSat_am (s : State) (f : Field) (k : Nat) : (s.bumpSat f k).am = s.am := rfl
@[simp] theorem State.bumpSat_amWatch (s : State) (f : Field) (k : Nat) : (s.bumpSat f k).amWatch = s.amWatch := rfl
@[simp] theorem State.bumpSat_drm (s : State) (f : Field) (k : Nat) : (s.bumpSat f k).drm = s.drm := rfl
@[simp] theorem State.bumpSat_decoders (s : State) (f : Field) (k : Nat) : (s.bumpSat f k).decoders = s.decoders := rfl
@[simp] theorem State.bumpSat_decWait (s : State) (f : Field) (k : Nat) : (s.bumpSat f k).decWait = s.decWait := rfl
@[simp] theorem State.bumpSat_dab (s : State) (f : Field) (k : Nat) : (s.bumpSat f k).dab = s.dab := rfl
@[simp] theorem State.bumpSat_ens (s : State) (f : Field) (k : Nat) : (s.bumpSat f k).ens = s.ens := rfl
@[simp] theorem State.bumpSat_links (s : State) (f : Field) (k : Nat) : (s.bumpSat f k).links = s.links := rfl
@[simp] theorem State.bumpSat_queues (s : State) (f : Field) (k : Nat) : (s.bumpSat f k).queues = s.queues := rfl
@[simp] theorem State.bumpSat_slots (s : State) (f : Field) (k : Nat) : (s.bumpSat f k).slots = s.slots := rfl
@[simp] theorem State.bumpSat_pib (s : State) (f : Field) (k : Nat) : (s.bumpSat f k).pib = s.pib := rfl
@[simp] theorem State.bumpSat_audio (s : State) (f : Field) (k : Nat) : (s.bumpSat f k).audio = s.audio := rfl
@[simp] theorem State.bumpSat_pwr (s : State) (f : Field) (k : Nat) : (s.bumpSat f k).pwr = s.pwr := rfl
@[simp] theorem State.bumpSat_fw (s : State) (f : Field) (k : Nat) : (s.bumpSat f k).fw = s.fw := rfl
@[simp] theorem State.bumpSat_nv (s : State) (f : Field) (k : Nat) : (s.bumpSat f k).nv = s.nv := rfl
@[simp] theorem State.bumpSat_nvJob (s : State) (f : Field) (k : Nat) : (s.bumpSat f k).nvJob = s.nvJob := rfl
@[simp] theorem State.bumpSat_flt (s : State) (f : Field) (k : Nat) : (s.bumpSat f k).flt = s.flt := rfl
@[simp] theorem State.bumpSat_host (s : State) (f : Field) (k : Nat) : (s.bumpSat f k).host = s.host := rfl
@[simp] theorem State.bumpSat_twc (s : State) (f : Field) (k : Nat) : (s.bumpSat f k).twc = s.twc := rfl
@[simp] theorem State.bumpSat_free (s : State) (f : Field) (k : Nat) : (s.bumpSat f k).free = s.free := rfl
@[simp] theorem State.bumpSat_pending (s : State) (f : Field) (k : Nat) : (s.bumpSat f k).pending = s.pending := rfl

/-! `finish` settles the pins and gives back the queue. -/

@[simp] theorem finish_time (s t : State) : (finish s t).time = t.time := rfl
@[simp] theorem finish_plan (s t : State) : (finish s t).plan = t.plan := rfl
@[simp] theorem finish_planWait (s t : State) : (finish s t).planWait = t.planWait := rfl
@[simp] theorem finish_planHeld (s t : State) : (finish s t).planHeld = t.planHeld := rfl
@[simp] theorem finish_fab (s t : State) : (finish s t).fab = t.fab := rfl
@[simp] theorem finish_paths (s t : State) : (finish s t).paths = t.paths := rfl
@[simp] theorem finish_blocks (s t : State) : (finish s t).blocks = t.blocks := rfl
@[simp] theorem finish_dsp (s t : State) : (finish s t).dsp = t.dsp := rfl
@[simp] theorem finish_aux (s t : State) : (finish s t).aux = t.aux := rfl
@[simp] theorem finish_loops (s t : State) : (finish s t).loops = t.loops := rfl
@[simp] theorem finish_maps (s t : State) : (finish s t).maps = t.maps := rfl
@[simp] theorem finish_mgr (s t : State) : (finish s t).mgr = t.mgr := rfl
@[simp] theorem finish_rds (s t : State) : (finish s t).rds = t.rds := rfl
@[simp] theorem finish_fm (s t : State) : (finish s t).fm = t.fm := rfl
@[simp] theorem finish_watchFifo (s t : State) : (finish s t).watchFifo = t.watchFifo := rfl
@[simp] theorem finish_am (s t : State) : (finish s t).am = t.am := rfl
@[simp] theorem finish_amWatch (s t : State) : (finish s t).amWatch = t.amWatch := rfl
@[simp] theorem finish_drm (s t : State) : (finish s t).drm = t.drm := rfl
@[simp] theorem finish_decoders (s t : State) : (finish s t).decoders = t.decoders := rfl
@[simp] theorem finish_decWait (s t : State) : (finish s t).decWait = t.decWait := rfl
@[simp] theorem finish_dab (s t : State) : (finish s t).dab = t.dab := rfl
@[simp] theorem finish_ens (s t : State) : (finish s t).ens = t.ens := rfl
@[simp] theorem finish_links (s t : State) : (finish s t).links = t.links := rfl
@[simp] theorem finish_queues (s t : State) : (finish s t).queues = t.queues := rfl
@[simp] theorem finish_slots (s t : State) : (finish s t).slots = t.slots := rfl
@[simp] theorem finish_pib (s t : State) : (finish s t).pib = t.pib := rfl
@[simp] theorem finish_audio (s t : State) : (finish s t).audio = t.audio := rfl
@[simp] theorem finish_pwr (s t : State) : (finish s t).pwr = { t.pwr with pins := pinsOf t } := rfl
@[simp] theorem finish_fw (s t : State) : (finish s t).fw = t.fw := rfl
@[simp] theorem finish_nv (s t : State) : (finish s t).nv = t.nv := rfl
@[simp] theorem finish_nvJob (s t : State) : (finish s t).nvJob = t.nvJob := rfl
@[simp] theorem finish_flt (s t : State) : (finish s t).flt = t.flt := rfl
@[simp] theorem finish_host (s t : State) : (finish s t).host = t.host := rfl
@[simp] theorem finish_twc (s t : State) : (finish s t).twc = t.twc := rfl
@[simp] theorem finish_free (s t : State) : (finish s t).free = t.free := rfl
@[simp] theorem finish_pending (s t : State) : (finish s t).pending = s.pending := rfl
@[simp] theorem finish_regs (s t : State) : (finish s t).regs = t.regs := rfl
@[simp] theorem finish_word (s t : State) (a : Nat) : (finish s t).word a = t.word a := rfl
@[simp] theorem finish_get (s t : State) (f : Field) : (finish s t).get f = t.get f := rfl
@[simp] theorem finish_flag (s t : State) (f : Field) : (finish s t).flag f = t.flag f := rfl

end Sys2Proof.Machine
end

