-- ==== Sys2Proof/Laws/Regs.lean ====
section
/-!
SUPPORT. The laws of the register words and of fields: a read after a write, the canonical form, and what a field write leaves.
-/

namespace Sys2Proof.Machine

/-! ## Read after write -/

theorem RegFile.read_erase_same (r : RegFile) (a : Nat) : (r.erase a).read a = resetWord a := by
  induction r with
  | nil => rfl
  | cons c t ih =>
    obtain ⟨b, w⟩ := c
    by_cases h : b = a
    · simpa [RegFile.erase, h] using ih
    · simpa [RegFile.erase, RegFile.read, h] using ih

theorem RegFile.read_erase_ne (r : RegFile) {a b : Nat} (h : b ≠ a) : (r.erase a).read b = r.read b := by
  induction r with
  | nil => rfl
  | cons c t ih =>
    obtain ⟨k, w⟩ := c
    by_cases hk : k = a
    · subst hk
      simpa [RegFile.erase, RegFile.read, Ne.symm h] using ih
    · by_cases hb : k = b
      · subst hb
        simp [RegFile.erase, RegFile.read, hk]
      · simpa [RegFile.erase, RegFile.read, hk, hb] using ih

theorem RegFile.read_insert_ne (r : RegFile) {a b : Nat} (w : Word) (h : b ≠ a) : (r.insert a w).read b = r.read b := by
  induction r with
  | nil => simp [RegFile.insert, RegFile.read, Ne.symm h]
  | cons c t ih =>
    obtain ⟨k, v⟩ := c
    by_cases hk : a < k
    · simp [RegFile.insert, RegFile.read, hk, Ne.symm h]
    · by_cases hb : k = b
      · subst hb
        simp [RegFile.insert, RegFile.read, hk]
      · simpa [RegFile.insert, RegFile.read, hk, hb] using ih

theorem RegFile.read_insert_same (r : RegFile) (a : Nat) (w : Word) (h : ∀ c ∈ r, c.1 ≠ a) : (r.insert a w).read a = w := by
  induction r with
  | nil => simp [RegFile.insert, RegFile.read]
  | cons c t ih =>
    obtain ⟨k, v⟩ := c
    have hk : k ≠ a := h (k, v) (by simp)
    have ht : ∀ c ∈ t, c.1 ≠ a := fun c hc => h c (by simp [hc])
    by_cases hl : a < k
    · simp [RegFile.insert, RegFile.read, hl]
    · simpa [RegFile.insert, RegFile.read, hl, hk] using ih ht

theorem RegFile.read_write (r : RegFile) (a b : Nat) (w : Word) : (r.write a w).read b = if b = a then w else r.read b := by
  by_cases hb : b = a
  · subst hb
    by_cases hw : w = resetWord b
    · simp [RegFile.write, hw, RegFile.read_erase_same]
    · simp only [RegFile.write, hw, ↓reduceIte]
      exact RegFile.read_insert_same _ _ _ (fun c hc => by
        have := (List.mem_filter.mp hc).2
        simpa using this)
  · by_cases hw : w = resetWord a
    · simp [RegFile.write, hw, hb, RegFile.read_erase_ne _ hb]
    · simp [RegFile.write, hw, hb, RegFile.read_insert_ne _ _ hb, RegFile.read_erase_ne _ hb]

@[simp] theorem State.word_setWord (s : State) (a b : Nat) (w : Word) : (s.setWord a w).word b = if b = a then w else s.word b :=
  RegFile.read_write s.regs a b w

@[simp] theorem State.word_set (s : State) (f : Field) (v b : Nat) :
    (s.set f v).word b = if b = f.addr then withField (s.word b) f.lo f.width v else s.word b := by
  by_cases h : b = f.addr <;> simp [State.set, h]

@[simp] theorem State.word_put (s : State) (f : Field) (v : Bool) (b : Nat) :
    (s.put f v).word b = if b = f.addr then withField (s.word b) f.lo f.width v.toNat else s.word b := by simp [State.put]

/-! ## The canonical form -/

theorem RegFile.wfAbove_mono {r : RegFile} {lo : Nat} {l : Option Nat} (h : r.wfAbove (some lo) = true)
    (hl : ∀ k, l = some k → k ≤ lo) : r.wfAbove l = true := by
  cases r with
  | nil => rfl
  | cons c t =>
    obtain ⟨a, w⟩ := c
    simp only [RegFile.wfAbove, Bool.and_eq_true, decide_eq_true_eq] at h ⊢
    refine ⟨⟨?_, h.1.2⟩, h.2⟩
    cases l with
    | none => rfl
    | some k => exact decide_eq_true (Nat.lt_of_le_of_lt (hl k rfl) h.1.1)

theorem RegFile.wfAbove_erase {r : RegFile} {l : Option Nat} (a : Nat) (h : r.wfAbove l = true) : (r.erase a).wfAbove l = true := by
  induction r generalizing l with
  | nil => rfl
  | cons c t ih =>
    obtain ⟨b, w⟩ := c
    simp only [RegFile.wfAbove, Bool.and_eq_true] at h
    by_cases hb : b = a
    · have : RegFile.erase ((b, w) :: t) a = RegFile.erase t a := by simp [RegFile.erase, hb]
      rw [this]
      refine RegFile.wfAbove_mono (ih h.2) ?_
      intro k hk
      subst hk
      exact Nat.le_of_lt (of_decide_eq_true h.1.1)
    · have : RegFile.erase ((b, w) :: t) a = (b, w) :: RegFile.erase t a := by simp [RegFile.erase, hb]
      rw [this]
      simp only [RegFile.wfAbove, Bool.and_eq_true]
      exact ⟨h.1, ih h.2⟩

theorem RegFile.wfAbove_insert {r : RegFile} {l : Option Nat} {a : Nat} {w : Word} (hw : w ≠ resetWord a)
    (hl : ∀ k, l = some k → k < a) (hr : ∀ c ∈ r, c.1 ≠ a) (h : r.wfAbove l = true) : (r.insert a w).wfAbove l = true := by
  induction r generalizing l with
  | nil =>
    cases l with
    | none => simp [RegFile.insert, RegFile.wfAbove, hw]
    | some k => simp [RegFile.insert, RegFile.wfAbove, hw, hl k rfl]
  | cons c t ih =>
    obtain ⟨b, v⟩ := c
    have hb : b ≠ a := hr (b, v) (by simp)
    simp only [RegFile.wfAbove, Bool.and_eq_true] at h
    by_cases hab : a < b
    · simp only [RegFile.insert, hab, ↓reduceIte, RegFile.wfAbove, Bool.and_eq_true, decide_eq_true_eq]
      refine ⟨⟨?_, hw⟩, ⟨trivial, of_decide_eq_true h.1.2⟩, h.2⟩
      cases l with
      | none => rfl
      | some k => exact decide_eq_true (hl k rfl)
    · simp only [RegFile.insert, hab, ↓reduceIte, RegFile.wfAbove, Bool.and_eq_true]
      exact ⟨h.1, ih (fun k hk => by cases hk; omega) (fun c hc => hr c (by simp [hc])) h.2⟩

/-- A write keeps the canonical form. -/
theorem RegFile.wf_write {r : RegFile} (a : Nat) (w : Word) (h : r.wf = true) : (r.write a w).wf = true := by
  by_cases hw : w = resetWord a
  · simpa [RegFile.write, hw, RegFile.wf] using RegFile.wfAbove_erase a h
  · simp only [RegFile.write, hw, ↓reduceIte]
    exact RegFile.wfAbove_insert hw (by simp) (fun c hc => by simpa using (List.mem_filter.mp hc).2) (RegFile.wfAbove_erase a h)

/-- So does a write of the state. -/
theorem State.wf_setWord {s : State} (a : Nat) (w : Word) (h : s.regs.wf = true) : (s.setWord a w).regs.wf = true :=
  RegFile.wf_write a w h

end Sys2Proof.Machine
end

