-- ==== Sys2Proof/Laws/Frames.lean ====
section
/-!
SUPPORT. Frames compose: what each shared operation may change, said once. A frame of a command is put together from these.
-/

namespace Sys2Proof.Machine

variable {ps : List Part} {as : List Nat} {s t : State}

theorem Part.same_refl (p : Part) (s : State) : p.same s s := by cases p <;> simp [Part.same]

theorem Part.same_trans {p : Part} {s t u : State} (h : p.same s t) (k : p.same t u) : p.same s u := by
  cases p <;> simp_all [Part.same]

theorem frame_refl (ps : List Part) (as : List Nat) (s : State) : frame ps as s s :=
  ⟨fun p _ => p.same_refl s, fun _ _ => rfl⟩

theorem frame_trans {u : State} (h : frame ps as s t) (k : frame ps as t u) : frame ps as s u :=
  ⟨fun p hp => Part.same_trans (h.1 p hp) (k.1 p hp), fun a ha => (k.2 a ha).trans (h.2 a ha)⟩

theorem frame_mono {qs : List Part} {bs : List Nat} (h : frame ps as s t) (hp : ps ⊆ qs) (ha : as ⊆ bs) : frame qs bs s t :=
  ⟨fun p k => h.1 p (fun m => k (hp m)), fun a k => h.2 a (fun m => k (ha m))⟩

theorem frame_of_pages {pages : List Nat} (h : frame ps as s t) (k : ∀ a ∈ as, a / 4096 ∈ pages) : pageFrame ps pages s t :=
  ⟨h.1, fun a ha => h.2 a (fun m => ha (k a m))⟩

/-! ## Register writes -/

theorem frame_setWord {a : Nat} {w : Word} (ha : a ∈ as) (h : frame ps as s t) : frame ps as s (t.setWord a w) :=
  frame_trans h ⟨fun p _ => by cases p <;> simp [Part.same], fun b hb => by
    have : b ≠ a := fun e => hb (e ▸ ha)
    simp [this]⟩

theorem frame_set {f : Field} {v : Nat} (ha : f.addr ∈ as) (h : frame ps as s t) : frame ps as s (t.set f v) := frame_setWord ha h
theorem frame_seti {f : Field} {v : Int} (ha : f.addr ∈ as) (h : frame ps as s t) : frame ps as s (t.seti f v) := frame_set ha h
theorem frame_put {f : Field} {b : Bool} (ha : f.addr ∈ as) (h : frame ps as s t) : frame ps as s (t.put f b) := frame_set ha h
theorem frame_bump {f : Field} {k : Nat} (ha : f.addr ∈ as) (h : frame ps as s t) : frame ps as s (t.bump f k) := frame_set ha h
theorem frame_bumpSat {f : Field} {k : Nat} (ha : f.addr ∈ as) (h : frame ps as s t) : frame ps as s (t.bumpSat f k) := frame_set ha h

/-! ## Updates of one part -/

theorem frame_time {x : Nat} (hm : Part.time ∈ ps) (h : frame ps as s t) : frame ps as s { t with time := x } :=
  ⟨fun p hp => by cases p <;> first | exact absurd hm hp | exact h.1 _ hp, h.2⟩
theorem frame_plan {x : List Entry} (hm : Part.plan ∈ ps) (h : frame ps as s t) : frame ps as s { t with plan := x } :=
  ⟨fun p hp => by cases p <;> first | exact absurd hm hp | exact h.1 _ hp, h.2⟩
theorem frame_planWait {x : List (Nat × List Change)} (hm : Part.plan ∈ ps) (h : frame ps as s t) : frame ps as s { t with planWait := x } :=
  ⟨fun p hp => by cases p <;> first | exact absurd hm hp | exact h.1 _ hp, h.2⟩
theorem frame_planHeld {x : List (Nat × List Change)} (hm : Part.plan ∈ ps) (h : frame ps as s t) : frame ps as s { t with planHeld := x } :=
  ⟨fun p hp => by cases p <;> first | exact absurd hm hp | exact h.1 _ hp, h.2⟩
theorem frame_fab {x : Fabric} (hm : Part.fab ∈ ps) (h : frame ps as s t) : frame ps as s { t with fab := x } :=
  ⟨fun p hp => by cases p <;> first | exact absurd hm hp | exact h.1 _ hp, h.2⟩
theorem frame_paths {x : Vector PathState 3} (hm : Part.paths ∈ ps) (h : frame ps as s t) : frame ps as s { t with paths := x } :=
  ⟨fun p hp => by cases p <;> first | exact absurd hm hp | exact h.1 _ hp, h.2⟩
theorem frame_blocks {x : Blocks} (hm : Part.blocks ∈ ps) (h : frame ps as s t) : frame ps as s { t with blocks := x } :=
  ⟨fun p hp => by cases p <;> first | exact absurd hm hp | exact h.1 _ hp, h.2⟩
theorem frame_dsp {x : Dsp} (hm : Part.dsp ∈ ps) (h : frame ps as s t) : frame ps as s { t with dsp := x } :=
  ⟨fun p hp => by cases p <;> first | exact absurd hm hp | exact h.1 _ hp, h.2⟩
theorem frame_aux {x : Aux} (hm : Part.aux ∈ ps) (h : frame ps as s t) : frame ps as s { t with aux := x } :=
  ⟨fun p hp => by cases p <;> first | exact absurd hm hp | exact h.1 _ hp, h.2⟩
theorem frame_loops {x : Loops} (hm : Part.loops ∈ ps) (h : frame ps as s t) : frame ps as s { t with loops := x } :=
  ⟨fun p hp => by cases p <;> first | exact absurd hm hp | exact h.1 _ hp, h.2⟩
theorem frame_maps {x : Vector SurveyMap 3} (hm : Part.maps ∈ ps) (h : frame ps as s t) : frame ps as s { t with maps := x } :=
  ⟨fun p hp => by cases p <;> first | exact absurd hm hp | exact h.1 _ hp, h.2⟩
theorem frame_mgr {x : Manager} (hm : Part.mgr ∈ ps) (h : frame ps as s t) : frame ps as s { t with mgr := x } :=
  ⟨fun p hp => by cases p <;> first | exact absurd hm hp | exact h.1 _ hp, h.2⟩
theorem frame_rds {x : Vector RdsCtx 104} (hm : Part.rds ∈ ps) (h : frame ps as s t) : frame ps as s { t with rds := x } :=
  ⟨fun p hp => by cases p <;> first | exact absurd hm hp | exact h.1 _ hp, h.2⟩
theorem frame_fm {x : Vector FmLane 8} (hm : Part.fm ∈ ps) (h : frame ps as s t) : frame ps as s { t with fm := x } :=
  ⟨fun p hp => by cases p <;> first | exact absurd hm hp | exact h.1 _ hp, h.2⟩
theorem frame_watchFifo {x : GroupFifo} (hm : Part.watchFifo ∈ ps) (h : frame ps as s t) : frame ps as s { t with watchFifo := x } :=
  ⟨fun p hp => by cases p <;> first | exact absurd hm hp | exact h.1 _ hp, h.2⟩
theorem frame_am {x : Vector AmLane 6} (hm : Part.am ∈ ps) (h : frame ps as s t) : frame ps as s { t with am := x } :=
  ⟨fun p hp => by cases p <;> first | exact absurd hm hp | exact h.1 _ hp, h.2⟩
theorem frame_amWatch {x : Vector AmWatch 24} (hm : Part.amWatch ∈ ps) (h : frame ps as s t) : frame ps as s { t with amWatch := x } :=
  ⟨fun p hp => by cases p <;> first | exact absurd hm hp | exact h.1 _ hp, h.2⟩
theorem frame_drm {x : Vector DrmEngine 2} (hm : Part.drm ∈ ps) (h : frame ps as s t) : frame ps as s { t with drm := x } :=
  ⟨fun p hp => by cases p <;> first | exact absurd hm hp | exact h.1 _ hp, h.2⟩
theorem frame_decoders {x : Vector (Option DecUser) 8} (hm : Part.decoders ∈ ps) (h : frame ps as s t) : frame ps as s { t with decoders := x } :=
  ⟨fun p hp => by cases p <;> first | exact absurd hm hp | exact h.1 _ hp, h.2⟩
theorem frame_decWait {x : List DecUser} (hm : Part.decoders ∈ ps) (h : frame ps as s t) : frame ps as s { t with decWait := x } :=
  ⟨fun p hp => by cases p <;> first | exact absurd hm hp | exact h.1 _ hp, h.2⟩
theorem frame_dab {x : Vector DabLane 20} (hm : Part.dab ∈ ps) (h : frame ps as s t) : frame ps as s { t with dab := x } :=
  ⟨fun p hp => by cases p <;> first | exact absurd hm hp | exact h.1 _ hp, h.2⟩
theorem frame_ens {x : List Ensemble} (hm : Part.ens ∈ ps) (h : frame ps as s t) : frame ps as s { t with ens := x } :=
  ⟨fun p hp => by cases p <;> first | exact absurd hm hp | exact h.1 _ hp, h.2⟩
theorem frame_links {x : List LinkSet} (hm : Part.links ∈ ps) (h : frame ps as s t) : frame ps as s { t with links := x } :=
  ⟨fun p hp => by cases p <;> first | exact absurd hm hp | exact h.1 _ hp, h.2⟩
theorem frame_queues {x : Vector DataQueue 16} (hm : Part.queues ∈ ps) (h : frame ps as s t) : frame ps as s { t with queues := x } :=
  ⟨fun p hp => by cases p <;> first | exact absurd hm hp | exact h.1 _ hp, h.2⟩
theorem frame_slots {x : Vector Slot 4} (hm : Part.slots ∈ ps) (h : frame ps as s t) : frame ps as s { t with slots := x } :=
  ⟨fun p hp => by cases p <;> first | exact absurd hm hp | exact h.1 _ hp, h.2⟩
theorem frame_pib {x : Pib} (hm : Part.pib ∈ ps) (h : frame ps as s t) : frame ps as s { t with pib := x } :=
  ⟨fun p hp => by cases p <;> first | exact absurd hm hp | exact h.1 _ hp, h.2⟩
theorem frame_audio {x : Audio} (hm : Part.audio ∈ ps) (h : frame ps as s t) : frame ps as s { t with audio := x } :=
  ⟨fun p hp => by cases p <;> first | exact absurd hm hp | exact h.1 _ hp, h.2⟩
theorem frame_pwr {x : Power} (hm : Part.pwr ∈ ps) (h : frame ps as s t) : frame ps as s { t with pwr := x } :=
  ⟨fun p hp => by cases p <;> first | exact absurd hm hp | exact h.1 _ hp, h.2⟩
theorem frame_fw {x : Firmware} (hm : Part.fw ∈ ps) (h : frame ps as s t) : frame ps as s { t with fw := x } :=
  ⟨fun p hp => by cases p <;> first | exact absurd hm hp | exact h.1 _ hp, h.2⟩
theorem frame_nv {x : NvStore} (hm : Part.nv ∈ ps) (h : frame ps as s t) : frame ps as s { t with nv := x } :=
  ⟨fun p hp => by cases p <;> first | exact absurd hm hp | exact h.1 _ hp, h.2⟩
theorem frame_nvJob {x : NvJob} (hm : Part.nvJob ∈ ps) (h : frame ps as s t) : frame ps as s { t with nvJob := x } :=
  ⟨fun p hp => by cases p <;> first | exact absurd hm hp | exact h.1 _ hp, h.2⟩
theorem frame_flt {x : Faults} (hm : Part.flt ∈ ps) (h : frame ps as s t) : frame ps as s { t with flt := x } :=
  ⟨fun p hp => by cases p <;> first | exact absurd hm hp | exact h.1 _ hp, h.2⟩
theorem frame_host {x : HostPorts} (hm : Part.host ∈ ps) (h : frame ps as s t) : frame ps as s { t with host := x } :=
  ⟨fun p hp => by cases p <;> first | exact absurd hm hp | exact h.1 _ hp, h.2⟩
theorem frame_twc {x : Twc} (hm : Part.twc ∈ ps) (h : frame ps as s t) : frame ps as s { t with twc := x } :=
  ⟨fun p hp => by cases p <;> first | exact absurd hm hp | exact h.1 _ hp, h.2⟩
theorem frame_free {x : Nat} (hm : Part.free ∈ ps) (h : frame ps as s t) : frame ps as s { t with free := x } :=
  ⟨fun p hp => by cases p <;> first | exact absurd hm hp | exact h.1 _ hp, h.2⟩

theorem frame_finish (h : frame ps as s t) : frame ps as s (finish s t) :=
  ⟨fun p hp => by cases p <;> exact h.1 _ hp, h.2⟩

/-! ## Folds -/

theorem frame_forEach {α : Type} {l : List α} {f : α → State → State} (hf : ∀ x t, x ∈ l → frame ps as s t → frame ps as s (f x t))
    (h : frame ps as s t) : frame ps as s (forEach l f t) := by
  unfold forEach
  induction l generalizing t with
  | nil => exact h
  | cons x l ih => exact ih (fun y u hy hu => hf y u (by simp [hy]) hu) (hf x t (by simp) h)

/-! ## Events (R287, R290, R322) -/

theorem frame_triggerScript {n : Nat} (hp : Part.twc ∈ ps) (ha : Reg.TWC.SKIP_CNT ∈ as) (h : frame ps as s t) :
    frame ps as s (triggerScript n t) := by
  unfold triggerScript
  split
  · exact frame_bumpSat ha h
  · exact frame_twc hp h

theorem frame_triggerScripts {g : Nat} (hp : Part.twc ∈ ps) (ha : Reg.TWC.SKIP_CNT ∈ as) (h : frame ps as s t) :
    frame ps as s (triggerScripts g t) := by
  unfold triggerScripts
  split
  · exact h
  · refine frame_forEach (fun n u _ hu => ?_) h
    split
    · exact frame_triggerScript hp ha hu
    · exact hu

theorem frame_occur {g : Nat} (hp : Part.twc ∈ ps) (ha : evWords g ⊆ as) (h : frame ps as s t) : frame ps as s (occur g t) :=
  frame_triggerScripts hp (ha (by simp [evWords])) (frame_put (ha (by simp [evWords, evRaw])) h)

theorem frame_raise {g : Nat} (hp : evParts ⊆ ps) (ha : evWords g ⊆ as) (h : frame ps as s t) : frame ps as s (raise g t) := by
  unfold raise
  split
  · exact frame_fab (hp (by simp [evParts])) h
  · exact frame_occur (hp (by simp [evParts])) ha h

theorem frame_raiseIf {c : Bool} {g : Nat} (hp : evParts ⊆ ps) (ha : evWords g ⊆ as) (h : frame ps as s t) :
    frame ps as s (raiseIf c g t) := by
  unfold raiseIf
  split
  · exact frame_raise hp ha h
  · exact h

end Sys2Proof.Machine
end

