-- ==== Sys2Proof/Laws/Ops.lean ====
section
/-!
SUPPORT. The laws of the shared operations: what a field reads after a write, what raising an event leaves, when a host write acts, what
the pins read after a command, and the frames of keys, records, result windows and the plan.
-/

namespace Sys2Proof.Machine

open Sys2Proof

variable {ps : List Part} {as : List Nat} {s t : State}

/-! ## Fields -/

theorem fieldOf_lt (w : Word) (lo width : Nat) : fieldOf w lo width < 2 ^ width := Nat.mod_lt _ (Nat.two_pow_pos width)

theorem fieldOf_le (w : Word) (lo width : Nat) : fieldOf w lo width * 2 ^ lo ≤ w.toNat :=
  Nat.le_trans (Nat.mul_le_mul_right _ (Nat.mod_le _ _)) (Nat.div_mul_le_self _ _)

/-- The bits of a word with a field written: the field's own and every other as before. -/
theorem withField_parts (w : Word) (lo width : Nat) :
    w.toNat = w.toNat % 2 ^ lo + fieldOf w lo width * 2 ^ lo + w.toNat / 2 ^ (lo + width) * 2 ^ (lo + width) := by
  have h1 := Nat.div_add_mod w.toNat (2 ^ lo)
  have h2 := Nat.div_add_mod (w.toNat / 2 ^ lo) (2 ^ width)
  rw [Nat.div_div_eq_div_mul, ← Nat.pow_add] at h2
  unfold fieldOf
  rw [Nat.pow_add]
  rw [Nat.pow_add] at h2
  generalize w.toNat / 2 ^ lo % 2 ^ width = f at *
  generalize w.toNat / (2 ^ lo * 2 ^ width) = q at *
  rw [← h2] at h1
  have : 2 ^ lo * (2 ^ width * q + f) = f * 2 ^ lo + q * (2 ^ lo * 2 ^ width) := by ring
  omega

theorem withField_toNat (w : Word) {lo width : Nat} (v : Nat) (h : lo + width ≤ 32) :
    (withField w lo width v).toNat = w.toNat % 2 ^ lo + (v % 2 ^ width) * 2 ^ lo + w.toNat / 2 ^ (lo + width) * 2 ^ (lo + width) := by
  have p := withField_parts w lo width
  have e : w.toNat - fieldOf w lo width * 2 ^ lo + v % 2 ^ width * 2 ^ lo =
      w.toNat % 2 ^ lo + (v % 2 ^ width) * 2 ^ lo + w.toNat / 2 ^ (lo + width) * 2 ^ (lo + width) := by omega
  unfold withField
  rw [BitVec.toNat_ofNat, e]
  refine Nat.mod_eq_of_lt ?_
  have hv : v % 2 ^ width < 2 ^ width := Nat.mod_lt _ (Nat.two_pow_pos _)
  have hl : w.toNat % 2 ^ lo < 2 ^ lo := Nat.mod_lt _ (Nat.two_pow_pos _)
  have hq : w.toNat / 2 ^ (lo + width) < 2 ^ (32 - (lo + width)) := by
    refine Nat.div_lt_of_lt_mul ?_
    rw [← Nat.pow_add, Nat.add_sub_cancel' h]
    exact w.isLt
  have hm : w.toNat / 2 ^ (lo + width) * 2 ^ (lo + width) + 2 ^ (lo + width) ≤ 2 ^ 32 := by
    have := Nat.mul_le_mul_right (2 ^ (lo + width)) hq
    rwa [Nat.succ_mul, ← Nat.pow_add, Nat.sub_add_cancel h] at this
  have hf : v % 2 ^ width * 2 ^ lo + 2 ^ lo ≤ 2 ^ (lo + width) := by
    have := Nat.mul_le_mul_right (2 ^ lo) hv
    rwa [Nat.succ_mul, ← Nat.pow_add, Nat.add_comm width lo] at this
  omega

/-- A field reads what was written to it, cut to its width. -/
theorem fieldOf_withField_same (w : Word) {lo width : Nat} (v : Nat) (h : lo + width ≤ 32) :
    fieldOf (withField w lo width v) lo width = v % 2 ^ width := by
  unfold fieldOf
  rw [withField_toNat w v h, Nat.pow_add]
  have hl : w.toNat % 2 ^ lo < 2 ^ lo := Nat.mod_lt _ (Nat.two_pow_pos _)
  have e : w.toNat % 2 ^ lo + v % 2 ^ width * 2 ^ lo + w.toNat / (2 ^ lo * 2 ^ width) * (2 ^ lo * 2 ^ width) =
      w.toNat % 2 ^ lo + 2 ^ lo * (v % 2 ^ width + 2 ^ width * (w.toNat / (2 ^ lo * 2 ^ width))) := by ring
  rw [e, Nat.add_mul_div_left _ _ (Nat.two_pow_pos lo), Nat.div_eq_of_lt hl, Nat.zero_add, Nat.add_mul_mod_self_left]
  exact Nat.mod_mod _ _

/-- A field below the written one reads as before. -/
theorem fieldOf_withField_below (w : Word) {lo width l k : Nat} (v : Nat) (h : lo + width ≤ 32) (hb : l + k ≤ lo) :
    fieldOf (withField w lo width v) l k = fieldOf w l k := by
  have cut : ∀ n m : Nat, n % 2 ^ lo = m % 2 ^ lo → n / 2 ^ l % 2 ^ k = m / 2 ^ l % 2 ^ k := by
    intro n m e
    have red : ∀ x : Nat, x / 2 ^ l % 2 ^ k = x % 2 ^ lo / 2 ^ l % 2 ^ k := by
      intro x
      apply Nat.eq_of_testBit_eq
      intro i
      simp only [Nat.testBit_mod_two_pow, Nat.testBit_div_two_pow]
      by_cases hi : i < k
      · simp [hi, show i + l < lo by omega]
      · simp [hi]
    rw [red n, red m, e]
  unfold fieldOf
  refine cut _ _ ?_
  rw [withField_toNat w v h, Nat.pow_add]
  have e : w.toNat % 2 ^ lo + v % 2 ^ width * 2 ^ lo + w.toNat / (2 ^ lo * 2 ^ width) * (2 ^ lo * 2 ^ width) =
      w.toNat % 2 ^ lo + 2 ^ lo * (v % 2 ^ width + 2 ^ width * (w.toNat / (2 ^ lo * 2 ^ width))) := by ring
  rw [e, Nat.add_mul_mod_self_left, Nat.mod_mod]

/-- A field above the written one reads as before. -/
theorem fieldOf_withField_above (w : Word) {lo width l k : Nat} (v : Nat) (h : lo + width ≤ 32) (hb : lo + width ≤ l) :
    fieldOf (withField w lo width v) l k = fieldOf w l k := by
  have red : ∀ x : Nat, x / 2 ^ l = x / 2 ^ (lo + width) / 2 ^ (l - (lo + width)) := by
    intro x
    rw [Nat.div_div_eq_div_mul, ← Nat.pow_add, Nat.add_sub_cancel' hb]
  unfold fieldOf
  rw [red (withField w lo width v).toNat, red w.toNat, withField_toNat w v h]
  have hv : v % 2 ^ width < 2 ^ width := Nat.mod_lt _ (Nat.two_pow_pos _)
  have hl : w.toNat % 2 ^ lo < 2 ^ lo := Nat.mod_lt _ (Nat.two_pow_pos _)
  have hf : v % 2 ^ width * 2 ^ lo + 2 ^ lo ≤ 2 ^ (lo + width) := by
    have := Nat.mul_le_mul_right (2 ^ lo) hv
    rwa [Nat.succ_mul, ← Nat.pow_add, Nat.add_comm width lo] at this
  rw [Nat.add_mul_div_right _ _ (Nat.two_pow_pos _), Nat.div_eq_of_lt (by omega : _ < 2 ^ (lo + width)), Nat.zero_add]

theorem State.get_set_same (s : State) (f : Field) (v : Nat) (h : f.lo + f.width ≤ 32) : (s.set f v).get f = v % 2 ^ f.width := by
  simp only [State.get, State.set, State.word, State.setWord, RegFile.read_write, ↓reduceIte]
  exact fieldOf_withField_same _ v h

theorem State.get_set_addr (s : State) (f g : Field) (v : Nat) (h : g.addr ≠ f.addr) : (s.set f v).get g = s.get g := by
  simp [State.get, State.set, State.word, State.setWord, RegFile.read_write, h]

theorem State.get_set_bits (s : State) (f g : Field) (v : Nat) (h : f.lo + f.width ≤ 32) (hd : g.lo + g.width ≤ f.lo ∨ f.lo + f.width ≤ g.lo) :
    (s.set f v).get g = s.get g := by
  by_cases ha : g.addr = f.addr
  · simp only [State.get, State.set, State.word, State.setWord, RegFile.read_write, ha, ↓reduceIte]
    rcases hd with hd | hd
    · exact fieldOf_withField_below _ v h hd
    · exact fieldOf_withField_above _ v h hd
  · exact State.get_set_addr s f g v ha

theorem State.flag_put_same (s : State) (f : Field) (b : Bool) (h : f.lo + f.width ≤ 32) (hw : 0 < f.width) : (s.put f b).flag f = b := by
  have h1 : 1 < 2 ^ f.width := Nat.one_lt_two_pow (by omega)
  unfold State.flag State.put
  rw [State.get_set_same s f _ h]
  cases b
  · simp
  · simp [Nat.mod_eq_of_lt h1]

/-! ## Commands and pins -/

theorem pinsOf_time (s : State) (n : Nat) : pinsOf { s with time := n } = pinsOf s := rfl
theorem pinsOf_pending (s : State) (q : List Instr) : pinsOf { s with pending := q } = pinsOf s := rfl
theorem finish_pins (s t : State) : pinsOf (finish s t) = (finish s t).pwr.pins := rfl

/-- A command whose meaning commits `t` completes with what `finish s t` gives. -/
theorem completes_of_commit {c : Instr} {Q : State → Prop} (h : exec c s = commit s t) (k : Q (finish s t)) : completes c s Q :=
  ⟨finish s t, h, k⟩

/-! ## Host writes -/

/-- A write that reaches its register acts, with the page's key used up or closed (R276, R281, R290). -/
theorem hostWrite_lets {port : Port} {a : Nat} {v : Word} {act : Bool → State → State} (h : lets s a = true) :
    hostWrite port a v act s = act (keyOpen s (a / 4096) port) (if a % 4096 = 0x20 then s else closeKey (a / 4096) s) := by
  simp only [lets, Bool.and_eq_true, beq_iff_eq, Bool.not_eq_true'] at h
  obtain ⟨⟨⟨⟨h1, h2⟩, h3⟩, h4⟩, h5⟩ := h
  have ha : a / 4 * 4 = a := by omega
  have hp : ∀ t : State, t = (if a % 4096 = 0x20 then s else closeKey (a / 4096) s) → t.fab.pause = s.fab.pause := by
    intro t ht
    subst ht
    split <;> rfl
  unfold hostWrite
  simp only [h1, h2, ha, Bool.not_true, Bool.false_eq_true, ↓reduceIte]
  generalize hu : (if a % 4096 = 0x20 then s else closeKey (a / 4096) s) = u
  rw [hp u hu.symm, h3, h5]
  simp [noteMisaligned, h4]

/-- A write while the fabric does not serve changes nothing. -/
theorem hostWrite_unserved {port : Port} {a : Nat} {v : Word} {act : Bool → State → State} (h : s.served = false) :
    hostWrite port a v act s = s := by
  simp [hostWrite, h]

/-! ## Frames of the register fabric and the plan -/

theorem frame_closeKey {p : Nat} (hp : Part.fab ∈ ps) (h : frame ps as s t) : frame ps as s (closeKey p t) := frame_fab hp h

theorem frame_recordAccess {port : Port} {addr cause : Nat} {w : Bool} (hp : evParts ⊆ ps) (ha : accRegs ⊆ as) (h : frame ps as s t) :
    frame ps as s (recordAccess port addr cause w t) := by
  have hc : Fld.SYS.ACC_CNT.COUNT.addr ∈ as := ha (by decide)
  have he : Reg.SYS.ACC_ERR ∈ as := ha (by decide)
  have k : frame ps as s (raise Ev.SYS.ACC_ERR (t.bumpSat Fld.SYS.ACC_CNT.COUNT)) :=
    frame_raise hp (fun x hx => ha (List.mem_append_right _ hx)) (frame_bumpSat hc h)
  unfold recordAccess
  dsimp only
  split
  · exact k
  · exact frame_setWord he k

theorem frame_holdResult {i : Nat} {r : Result} (ha : windowHeader i ∈ as) (hw : r.words.map (fun c => c.1) ⊆ as) (h : frame ps as s t) :
    frame ps as s (holdResult i r t) :=
  frame_put ha (frame_set ha (frame_forEach (fun _ _ hc hu => frame_setWord (hw (List.mem_map_of_mem hc)) hu) h))

theorem frame_postNow {i : Nat} {words : List (Nat × Word)} (hp : evParts ⊆ ps) (ha : windowHeader i ∈ as)
    (hw : words.map (fun c => c.1) ⊆ as) (he : evWords Ev.TEL.OVERFLOW ⊆ as) (h : frame ps as s t) : frame ps as s (postNow i words t) := by
  have hf : Part.fab ∈ ps := hp (by simp [evParts])
  unfold postNow
  dsimp only
  split
  · exact frame_raiseIf hp he (frame_put ha (frame_fab hf h))
  · exact frame_holdResult ha hw (frame_fab hf h)

theorem frame_postResult {i : Nat} {words : List (Nat × Word)} (hp : evParts ⊆ ps) (ha : windowHeader i ∈ as)
    (hw : words.map (fun c => c.1) ⊆ as) (he : evWords Ev.TEL.OVERFLOW ⊆ as) (h : frame ps as s t) : frame ps as s (postResult i words t) := by
  unfold postResult
  split
  · exact frame_fab (hp (by simp [evParts])) h
  · exact frame_postNow hp ha hw he h

/-- What posting a change may alter: the plan, the shown frequency epoch and the count of deferrals (R18, R22, R129). -/
def planRegs : List Nat := [Fld.OFS.EPOCH_PLAN.EPOCH.addr, Fld.OFS.STEP_PPB.PPB.addr, Fld.SYS.SCHED_STAT.DEFERRED.addr]

theorem frame_showFreqPlan (ha : planRegs ⊆ as) (h : frame ps as s t) : frame ps as s (showFreqPlan t) := by
  have h1 : Fld.OFS.EPOCH_PLAN.EPOCH.addr ∈ as := ha (by simp [planRegs])
  have h2 : Fld.OFS.STEP_PPB.PPB.addr ∈ as := ha (by simp [planRegs])
  unfold showFreqPlan
  split
  · exact frame_seti h2 (frame_set h1 h)
  · exact frame_set h2 (frame_set h1 h)

theorem frame_servePlan (hp : Part.plan ∈ ps) (ha : planRegs ⊆ as) (h : frame ps as s t) : frame ps as s (servePlan t) := by
  unfold servePlan
  split
  · split
    · exact frame_showFreqPlan ha (frame_plan hp (frame_planWait hp h))
    · exact h
  · exact h

theorem frame_serveWaiting {n : Nat} (hp : Part.plan ∈ ps) (ha : planRegs ⊆ as) (h : frame ps as s t) :
    frame ps as s (serveWaiting n t) := by
  induction n generalizing t with
  | zero => exact h
  | succ n ih => exact ih (frame_servePlan hp ha h)

theorem frame_postAll {cs : List Change} {want : Nat} (hp : Part.plan ∈ ps) (ha : planRegs ⊆ as) (h : frame ps as s t) :
    frame ps as s (postAll cs want t) := by
  unfold postAll
  dsimp only
  split
  · exact frame_planHeld hp h
  split
  · exact frame_showFreqPlan ha (frame_plan hp h)
  have k := frame_serveWaiting (n := t.planWait.length + 1) hp ha (frame_planWait (x := t.planWait ++ [(want, cs)]) hp h)
  split
  · exact frame_bump (ha (by simp [planRegs])) k
  · exact k

/-- The next set of a synthesiser (R60). -/
def nextRegs (l : Lo) : List Nat :=
  [(Fld.LO.NEXT_INT.N l.idx).addr, (Fld.LO.NEXT_FRAC.F l.idx).addr, (Fld.LO.NEXT_ODIV.D l.idx).addr, (Fld.LO.NEXT_EPOCH.EPOCH l.idx).addr]

theorem frame_clearNext {l : Lo} (ha : nextRegs l ⊆ as) (h : frame ps as s t) : frame ps as s (clearNext l t) :=
  frame_set (ha (by simp [nextRegs])) (frame_set (ha (by simp [nextRegs])) (frame_set (ha (by simp [nextRegs]))
    (frame_set (ha (by simp [nextRegs])) h)))

theorem frame_discardNext {c : Change} (ha : nextRegs .lof ++ nextRegs .lob ⊆ as) (h : frame ps as s t) :
    frame ps as s (discardNext c t) := by
  have hf : nextRegs .lof ⊆ as := fun _ hx => ha (List.mem_append_left _ hx)
  have hb : nextRegs .lob ⊆ as := fun _ hx => ha (List.mem_append_right _ hx)
  unfold discardNext
  split
  · rename_i l _
    cases l
    · exact frame_clearNext hf h
    · exact frame_clearNext hb h
  · exact frame_clearNext hb (frame_clearNext hf h)
  · exact h

theorem frame_cancelEntries {p : Change → Bool} (hp : Part.plan ∈ ps) (ha : planRegs ⊆ as) (hn : nextRegs .lof ++ nextRegs .lob ⊆ as)
    (h : frame ps as s t) : frame ps as s (cancelEntries p t) := by
  unfold cancelEntries
  dsimp only
  have k := frame_forEach (l := t.plan.filter (fun e => e.announced && p e.change)) (f := fun e u => discardNext e.change u)
    (fun _ _ _ hu => frame_discardNext hn hu) h
  refine frame_showFreqPlan ha ⟨fun q hq => ?_, k.2⟩
  cases q <;> first | exact absurd hp hq | exact k.1 _ hq

end Sys2Proof.Machine
end

