-- ==== Sys2Proof/Laws/Lanes.lean ====
section
/-!
SUPPORT. What the shared operations on lanes, sprouts and gaps may change, said once for each.
-/

namespace Sys2Proof.Machine

variable {ps : List Part} {as : List Nat} {s t : State}

/-! ## Gaps (R16, R19) -/

theorem frame_gapPath {p : Path} (hp : Part.blocks ∈ ps) (h : frame ps as s t) : frame ps as s (gapPath p t) := frame_blocks hp h

theorem frame_gapLane {l : Nat} (hp : Part.blocks ∈ ps) (h : frame ps as s t) : frame ps as s (gapLane l t) := frame_blocks hp h

/-- A lane that is given a gap has one throughout the epoch, whatever its path has. -/
theorem laneGap_gapLane (l : Nat) (s : State) : (laneGap (gapLane l s) l).isSome = true := by
  unfold laneGap gapLane gapLaneIn ownGap
  cases hg : (State.hdr { s with blocks := { s.blocks with own := (l, wholeGap) :: s.blocks.own.filter (fun x => x.1 != l) } } (s.lane l).path).gap <;>
    simp_all [State.lane, joinGaps]

/-! ## Sprouts (R119, R121) -/

/-- The records of the down-converters. -/
def ddcRegs : List Nat :=
  [Path.lf, Path.fm, Path.b3].flatMap (fun p => (List.range (ddcTotal p)).flatMap (fun k => [Reg.CH.DDC_W0 p.idx k, Reg.CH.DDC_W1 p.idx k]))

theorem mem_ddcRegs {p : Path} {k : Nat} (hk : k < ddcTotal p) : Reg.CH.DDC_W0 p.idx k ∈ ddcRegs ∧ Reg.CH.DDC_W1 p.idx k ∈ ddcRegs := by
  constructor <;>
  · refine List.mem_flatMap.mpr ⟨p, by cases p <;> simp, List.mem_flatMap.mpr ⟨k, List.mem_range.mpr hk, by simp⟩⟩

theorem frame_clearDdc {p : Path} {k : Nat} (ha : ddcRegs ⊆ as) (hk : k < ddcTotal p) (h : frame ps as s t) : frame ps as s (clearDdc p k t) :=
  frame_setWord (ha (mem_ddcRegs hk).2) (frame_setWord (ha (mem_ddcRegs hk).1) h)

theorem frame_releaseReq {u : CoexUse} (hp : Part.aux ∈ ps) (ha : Reg.COX.STAT ∈ as) (h : frame ps as s t) : frame ps as s (releaseReq u t) := by
  unfold releaseReq
  dsimp only
  split
  · exact frame_aux hp h
  split
  · unfold dropReq
    split
    · exact frame_aux hp h
    · exact frame_put ha (frame_aux hp (frame_aux hp h))
  · exact frame_aux hp (frame_aux hp h)

theorem frame_endSprout {i : Nat} {st : SproutState} {why : PullReason} (hm : Part.mgr ∈ ps) (hx : Part.aux ∈ ps) (ha : ddcRegs ⊆ as)
    (hc : Reg.COX.STAT ∈ as) (h : frame ps as s t) : frame ps as s (endSprout i st why t) := by
  refine frame_releaseReq hx hc (frame_forEach (fun k u hk hu => ?_) (frame_mgr hm h))
  split
  · exact frame_clearDdc ha (List.mem_range.mp hk) hu
  · exact hu

theorem frame_discardShadow {l : Nat} (hr : Part.rds ∈ ps) (hd : Part.dab ∈ ps) (h : frame ps as s t) : frame ps as s (discardShadow l t) := by
  unfold discardShadow
  split
  · exact frame_rds hr h
  · exact frame_rds hr h
  · exact frame_dab hd h
  · exact frame_dab hd h
  · exact h

/-- What pulling a sprout may change (R119). -/
def pullRegs : List Nat := ddcRegs ++ [Reg.COX.STAT] ++ planRegs ++ (nextRegs .lof ++ nextRegs .lob) ++ evWords Ev.LNM.SPROUT_PULLED

theorem frame_pull {i : Nat} {why : PullReason} (hp : pullParts ⊆ ps) (ha : pullRegs ⊆ as) (h : frame ps as s t) :
    frame ps as s (pull i why t) := by
  have hd : ddcRegs ⊆ as := fun x hx => ha (by simp [pullRegs, hx])
  have hc : Reg.COX.STAT ∈ as := ha (by simp [pullRegs])
  have hl : planRegs ⊆ as := fun x hx => ha (by simp [pullRegs, hx])
  have hn : nextRegs .lof ++ nextRegs .lob ⊆ as := fun x hx => ha (by
    rcases List.mem_append.mp hx with k | k <;> simp [pullRegs, k])
  have he : evWords Ev.LNM.SPROUT_PULLED ⊆ as := fun x hx => ha (by simp [pullRegs, hx])
  have hm : Part.mgr ∈ ps := hp (by simp [pullParts])
  unfold pull
  dsimp only
  split
  · exact h
  have k := frame_cancelEntries (p := fun c => c == .root i) (hp (by simp [pullParts])) hl hn
    (frame_endSprout (i := i) (st := .pulled) (why := why) hm (hp (by simp [pullParts])) hd hc h)
  have hv : evParts ⊆ pullParts := by simp [pullParts, noticeParts, evParts]
  refine frame_raise (fun _ hx => hp (hv hx)) he ?_
  split
  · exact frame_mgr hm k
  split
  · exact k
  · exact frame_discardShadow (hp (by simp [pullParts])) (hp (by simp [pullParts])) k

theorem frame_pullUsers {u inst : Nat} (hp : pullParts ⊆ ps) (ha : pullRegs ⊆ as) (h : frame ps as s t) :
    frame ps as s (pullUsers u inst t) :=
  frame_forEach (fun _ _ _ hu => frame_pull hp ha hu) (frame_mgr (hp (by simp [pullParts])) h)

end Sys2Proof.Machine
end

