-- ==== Sys2Proof/Laws/Samples.lean ====
section
/-!
SUPPORT. What the operations on samples give, and that they change samples only.
-/

namespace Sys2Proof.Machine

variable {ps : List Part} {as : List Nat} {s t : State}

/-! ## Word lengths and words (R84, R85) -/

/-- What is narrowed fits its word, stands as it is where it fitted before, and counts as saturated where it did not. -/
theorem narrow_spec (w : Nat) (x : Int) :
    -(2 ^ (w - 1)) ≤ (narrow w x).1 ∧ (narrow w x).1 ≤ 2 ^ (w - 1) - 1 ∧
      (-(2 ^ (w - 1)) ≤ x → x ≤ 2 ^ (w - 1) - 1 → narrow w x = (x, 0)) ∧ (narrow w x).2 = if (narrow w x).1 = x then 0 else 1 := by
  have h : (0 : Int) < 2 ^ (w - 1) := by positivity
  have e : (narrow w x).1 = max (-(2 ^ (w - 1))) (min (2 ^ (w - 1) - 1) x) := rfl
  have f : (narrow w x).2 = if x = (narrow w x).1 then 0 else 1 := rfl
  refine ⟨by omega, by omega, fun h1 h2 => ?_, by simp only [f, eq_comm]⟩
  have g : (narrow w x).1 = x := by omega
  exact Prod.ext g (by simp [f, g])

/-- Rounding moves a quotient by at most a half. -/
theorem roundEven_near (num : Int) {den : Nat} (hd : 0 < den) :
    2 * (den * roundEven num den - num) ≤ den ∧ 2 * (num - den * roundEven num den) ≤ den := by
  have h1 := Int.mul_ediv_add_emod num den
  have h2 := Int.emod_nonneg num (b := (den : Int)) (by omega)
  have h3 := Int.emod_lt_of_pos num (b := (den : Int)) (by omega)
  unfold roundEven
  dsimp only
  split
  · constructor <;> nlinarith
  · split
    · constructor <;> nlinarith
    · split <;> constructor <;> nlinarith

/-- The halves of two words put together. -/
theorem upper_half (x y : BitVec 32) : (x ++ y).extractLsb' 32 32 = x := by
  ext i hi
  rw [BitVec.getElem_extractLsb', BitVec.getLsbD_append, if_neg (by omega)]
  simp [BitVec.getLsbD_eq_getElem hi]

theorem lower_half (x y : BitVec 32) : (x ++ y).extractLsb' 0 32 = y := by
  ext i hi
  rw [BitVec.getElem_extractLsb', BitVec.getLsbD_append, if_pos (by omega)]
  simp [BitVec.getLsbD_eq_getElem hi]

/-- A word holds the sample packed into it. -/
theorem wordSample_sampleWord {a b : Int} (ha : -2 ^ 31 ≤ a) (ha' : a < 2 ^ 31) (hb : -2 ^ 31 ≤ b) (hb' : b < 2 ^ 31) :
    wordSample (sampleWord (a, b)) = (a, b) := by
  have h (x : Int) (h1 : -2 ^ 31 ≤ x) (h2 : x < 2 ^ 31) : (BitVec.ofInt 32 x).toInt = x := by
    rw [BitVec.toInt_ofInt, Int.bmod_def]
    split <;> omega
  simp only [wordSample, sampleWord, upper_half, lower_half, h a ha ha', h b hb hb']

/-- The NCO's accumulator advances by its word for each sample (R88). -/
theorem mix_phase (w p : Nat) (xs : List Sample) (hp : p < 2 ^ 32) : (mix w p xs).1 = (p + xs.length * w) % 2 ^ 32 := by
  have key : ∀ (l : List Sample) (r : Nat × List Sample × Nat), r.1 < 2 ^ 32 →
      (l.foldl (fun r x => let y := turned r.1 x; ((r.1 + w) % 2 ^ 32, y.1 :: r.2.1, r.2.2 + y.2)) r).1 = (r.1 + l.length * w) % 2 ^ 32 := by
    intro l
    induction l with
    | nil => intro r hr; simpa using (Nat.mod_eq_of_lt hr).symm
    | cons x l ih =>
      intro r hr
      rw [List.foldl_cons, ih _ (Nat.mod_lt _ (by norm_num))]
      simp only [List.length_cons]
      rw [Nat.add_mod, Nat.mod_mod, ← Nat.add_mod]
      congr 1
      ring
  simpa [mix] using key xs.reverse (p, [], 0) hp

/-! ## Frames: samples change, nothing else -/

theorem frame_surveyEpoch {p : Path} {o : PathObs} {xs : List Sample} (hp : Part.dsp ∈ ps) (h : frame ps as s t) :
    frame ps as s (surveyEpoch p o xs t) := frame_dsp hp h

theorem frame_sampleEpoch {p : Path} {o : PathObs} (hp : Part.dsp ∈ ps) (h : frame ps as s t) : frame ps as s (sampleEpoch p o t) := by
  unfold sampleEpoch
  split <;> exact frame_surveyEpoch hp (frame_dsp hp h)

theorem frame_putBlock {lane sel ahead lead trail : Nat} {b : List (Sample × FrameMark)} (hp : Part.dsp ∈ ps) (h : frame ps as s t) :
    frame ps as s (putBlock lane sel ahead lead trail b t) := frame_dsp hp h

theorem frame_fmAudioEpoch {l : List AudioObs} {n : Nat} (hp : Part.dsp ∈ ps) (h : frame ps as s t) : frame ps as s (fmAudioEpoch l n t) := by
  unfold fmAudioEpoch
  dsimp only
  split
  · exact h
  split
  · exact frame_putBlock hp (frame_dsp hp h)
  split
  · exact frame_putBlock hp h
  · exact h

theorem frame_amAudioEpoch {l : List AudioObs} {n : Nat} (hp : Part.dsp ∈ ps) (h : frame ps as s t) : frame ps as s (amAudioEpoch l n t) := by
  unfold amAudioEpoch
  dsimp only
  split
  · exact frame_dsp hp h
  split
  · split
    · exact frame_dsp hp h
    · exact frame_putBlock hp (frame_dsp hp h)
  split
  · exact frame_putBlock hp (frame_dsp hp h)
  · exact frame_dsp hp h

theorem frame_decoderAudio {o : AudioObs} (hp : Part.dsp ∈ ps) (h : frame ps as s t) : frame ps as s (decoderAudio o t) := by
  unfold decoderAudio
  split
  · exact frame_putBlock hp h
  split
  · exact h
  · exact frame_putBlock hp h

theorem frame_audioEpoch {o : EpochObs} (hp : Part.dsp ∈ ps) (h : frame ps as s t) : frame ps as s (audioEpoch o t) :=
  frame_forEach (fun _ _ _ hu => frame_decoderAudio hp hu)
    (frame_forEach (fun _ _ _ hu => frame_amAudioEpoch hp hu)
      (frame_forEach (fun _ _ _ hu => frame_fmAudioEpoch hp hu) (frame_dsp hp h)))

theorem frame_linesEpoch (hp : Part.dsp ∈ ps) (h : frame ps as s t) : frame ps as s (linesEpoch t) := by
  refine frame_forEach (fun e u _ hu => ?_) h
  unfold lineEpoch
  dsimp only
  split <;> exact frame_dsp hp hu

theorem frame_programmeEpoch {n : Nat} (hp : Part.dsp ∈ ps) (h : frame ps as s t) : frame ps as s (programmeEpoch n t) := frame_dsp hp h

end Sys2Proof.Machine
end

