-- ==== Sys2Proof/WellFormed.lean ====
section
/-!
DEFINITION. Which commands are well formed: operands within the ranges that the spec gives what they stand for. The operands that a
constructor's type bounds already need no check.
-/

namespace Sys2Proof

/-- A converter code has 12 bits (R81). -/
def code12 (x : Int) : Bool := decide (-2048 ≤ x) && decide (x ≤ 2047)

/-- Lanes, slots and sources that a boundary's measurements name, and the eight GPIO levels (R25, R114, R227, R347); whole
epochs of samples, where there are any (R15, R227). -/
def epochObs (o : EpochObs) : Bool :=
  [o.lf, o.fm, o.b3].all (fun x => (x.adc.isEmpty || x.adc.length == 163840) && x.adc.all (fun c => code12 c.1 && code12 c.2)) &&
  o.audio.all (fun x => decide (x.lane < 20 ∨ x.lane = 255) && decide (x.sel < 6) && x.frames.length == 48) &&
  o.fmLanes.all (fun x => decide (x.lane < 8)) && o.amLanes.all (fun x => decide (8 ≤ x.lane) && decide (x.lane < 14)) &&
  o.watches.all (fun x => decide (20 ≤ x.lane) && decide (x.lane < 156)) && o.sources.all (fun x => decide (x.pgm < 4) && decide (x.src < 4)) &&
  o.sprouts.all (fun x => decide (x.slot < 32)) && o.loads.all (fun x => decide (x.1 < 156)) && decide (o.gpio < 256)

/-- The owner of a failing word exists (R25, R92, R211, R227). -/
def ownerInRange : Region → Bool
  | .code => true
  | .oldCode => true
  | .husk => true
  | .control => true
  | .lane l => decide (l < 156)
  | .rings lanes => lanes.all (fun l => decide (l < 156))
  | .survey _ entries => entries.all (fun i => decide (i < 12223))
  | .pool n k => decide (n < 4) && decide (k < 4)
  | .buffers => true
  | .queue q _ => decide (q < 16)

/-- The units of R386 with a reset, by their instances. -/
def hasInstance (unit inst : Nat) : Bool :=
  [(0x01, 6), (0x02, 8), (0x03, 1), (0x04, 2), (0x05, 2), (0x06, 2)].any (fun u => u.1 == unit && decide (inst < u.2))

/-- Every operand of a command lies in its range. -/
def WellFormed (i : Instr) : Bool :=
  match i with
  | .epochBoundary obs => epochObs obs
  | .schedPlaceFreed => true
  | .overloadClear _ => true
  | .agcAttack _ => true
  | .agcRelease _ => true
  | .agcManStepWrite _ _ => true
  | .tileEnter _ => true
  | .tileExit _ => true
  | .glimpseHop _ => true
  | .pathModeWrite _ _ _ => true
  | .tileCentreWrite _ _ _ => true
  | .pathTestEnter _ _ _ => true
  | .pathTestReady _ => true
  | .pathTestExit _ _ _ => true
  | .gainCheckStart _ _ => true
  | .gainCheckWindow => true
  | .gainCheckDone measured => decide (measured.length ≤ 24)
  | .injEnable _ _ => true
  | .injMaskCheckDone us => decide (us ≤ 2000)
  | .injStart => true
  | .injDisable _ _ => true
  | .coexGntEdge _ => true
  | .coexGrantTimeout => true
  | .coexLimitCut => true
  | .coexActEdge _ => true
  | .coexActLong => true
  | .aerLatchOff => true
  | .aerRetry => true
  | .aerThermalCut => true
  | .aerThermalRestore => true
  | .refLost => true
  | .refValid => true
  | .lockAcquired _ => true
  | .lockLost _ => true
  | .holdoverDegraded => true
  | .phaseRebase _ _ _ => true
  | .loSettled _ code => code.all (fun c => decide (c < 64))
  | .loCalStart _ _ _ => true
  | .loCalForce _ _ _ => true
  | .loCalAll _ _ _ => true
  | .loCalIdlePost _ => true
  | .stalenessCheck => true
  | .clkoutCfgWrite _ _ _ => true
  | .snapshotClose _ readings => readings.all (fun r => decide (r.1 < 12223))
  | .snapshotPosted _ => true
  | .ficRotate _ => true
  | .laneAllocRetry _ => true
  | .coreOverloadMigrate _ => true
  | .sproutSlotFreed => true
  | .sproutCriterionMet _ _ pi => decide (pi < 65536)
  | .sproutTimeout _ => true
  | .sproutReplantTimer _ => true
  | .sproutSentinel _ _ _ => true
  | .migrateCompare _ _ => true
  | .ofsWindow obs => obs.all (fun o => decide (o.lane < 156))
  | .fmTune _ _ _ => true
  | .fmRelease _ _ _ => true
  | .qualitySummaryPost _ => true
  | .captureTriggerExpire _ => true
  | .rdsBlock _ _ obs => decide (obs.halves.length = 26)
  | .alarmOutOfSyncTimeout _ => true
  | .rds2Acquire _ _ => true
  | .afVerify => true
  | .groupAck _ _ _ => true
  | .watchAssign _ _ _ => true
  | .watchRelease _ _ _ => true
  | .afSelCopy _ _ => true
  | .watchAgeTick => true
  | .amTune _ _ _ => true
  | .amRelease _ _ _ => true
  | .amConfigWrite _ _ _ => true
  | .amCarrierLock _ => true
  | .amCarrierUnlock _ => true
  | .amssBlock _ _ => true
  | .amssAck _ _ _ => true
  | .watchCarrierSet _ => true
  | .watchCarrierClear _ => true
  | .drmDetectWindow _ _ => true
  | .drmTune _ _ _ => true
  | .drmRelease _ _ _ => true
  | .drmFrame _ _ => true
  | .drmServiceSelect _ _ _ _ => true
  | .decoderFreed => true
  | .audioFrame _ _ _ _ => true
  | .dabTune _ _ _ => true
  | .dabRelease _ _ _ => true
  | .dabFrame _ _ => true
  | .fibReceived _ _ => true
  | .dabAlarmTimeout _ => true
  | .dabReconfig block => decide (block ≤ 37)
  | .serviceLapse block sid => decide (block ≤ 37 ∧ sid < 2 ^ 32)
  | .ensembleDelete block => decide (block ≤ 37)
  | .linkageLapse _ => true
  | .dabSelect _ _ _ _ _ => true
  | .layer2Frame _ _ _ scf _ _ => decide (scf ≤ 4)
  | .dabplusSuperframe _ _ obs => decide (obs.aus.length ≤ 6 ∧ obs.phase < 5)
  | .queueConfig _ _ _ => true
  | .queueAck _ _ _ => true
  | .slotEnable _ _ _ => true
  | .slotDisable _ _ _ => true
  | .hostMute _ _ _ => true
  | .hostUnmute _ _ _ => true
  | .sourceEntryWrite _ _ _ _ => true
  | .coarseAlignEval _ => true
  | .fineAlignTrack _ => true
  | .joinRetry _ _ => true
  | .delayLineFilled _ _ => true
  | .slewDone _ => true
  | .timelineHoldExpire _ => true
  | .sourceFloorOut _ _ => true
  | .sourceFloorIn _ _ => true
  | .selectionSwitch _ => true
  | .sumEnter _ => true
  | .sumLeave _ _ => true
  | .muteRampDone _ => true
  | .policyPropose _ => true
  | .policyRelease _ _ => true
  | .pibNew _ _ => true
  | .pibAdd _ _ => true
  | .pibRemove _ _ => true
  | .pibDelete _ _ => true
  | .pibCommandDone => true
  | .portEnable _ _ _ => true
  | .portDisable _ _ _ => true
  | .portFormatWrite _ _ _ => true
  | .portFrame _ obs => decide (obs.slots.length ≤ 2)
  | .nonaudioRelease _ => true
  | .portClockFault _ => true
  | .portClockOk _ => true
  | .portLocked _ => true
  | .aipClockTimeout => true
  | .routeWrite _ _ _ => true
  | .podMembersWrite _ _ _ => true
  | .podStart _ _ _ => true
  | .podStartPost _ => true
  | .podStop _ _ _ => true
  | .registerWrite _ _ _ => true
  | .latchCaptureRead _ _ => true
  | .resultAck _ _ _ => true
  | .lockkeyOpen _ page => decide (page < 4096)
  | .lockkeyClose _ page _ => decide (page < 4096)
  | .keyExpire page => decide (page < 4096)
  | .eventClear _ page _ => decide (page < 4096)
  | .eventSetTest _ page _ => decide (page < 4096)
  | .eventEnableWrite _ page _ => decide (page < 4096)
  | .accErrClear _ _ => true
  | .pauseEnd => true
  | .spiWrite _ _ _ => true
  | .spiWriteQuad _ _ _ => true
  | .spiRead _ _ _ _ => true
  | .spiReadQuad _ _ _ _ => true
  | .spiStatus _ => true
  | .spiOtherOpcode _ _ => true
  | .spiCsRise _ _ _ _ => true
  | .crcEnableWrite _ _ => true
  | .twtWriteTransfer _ _ => true
  | .twtReadTransfer _ _ => true
  | .twtBusAbort _ _ _ => true
  | .twtTimeout _ _ => true
  | .twtStretchLimit _ _ => true
  | .twtWakeMatch _ obs => decide (obs.addrSel < 4)
  | .twtComparatorWrite _ _ _ => true
  | .twtMaskWrite _ _ => true
  | .twcHostTransfer _ _ => true
  | .scriptRunCmd _ _ => true
  | .twcWorkStart _ => true
  | .twcTransferDone obs => decide (obs.wrDone ≤ 32 ∧ obs.rdBytes.length ≤ 32 ∧ !(obs.nackAddr && obs.nackData))
  | .scriptWaitEnd => true
  | .arbitrationLost => true
  | .twcBusBusyTimeout => true
  | .twcStuckScl wr rd => decide (wr ≤ 32 ∧ rd ≤ 32)
  | .twcReset _ _ => true
  | .twcReenable _ _ => true
  | .requestQuiet _ => true
  | .requestWatch _ => true
  | .requestFull _ => true
  | .requestHold _ => true
  | .requestSleep _ => true
  | .requestOff _ => true
  | .requestInvalid _ _ => true
  | .transitionComplete obs => decide (obs.boot.addrSel < 4)
  | .leaveFullCommit => true
  | .cfgCommit _ _ => true
  | .cfgCheckDone => true
  | .pwrEnRise obs => decide (obs.addrSel < 4)
  | .refClassifyRetry obs => decide (obs.addrSel < 4)
  | .booted => true
  | .vddioPresent obs => decide (obs.addrSel < 4)
  | .pwrEnFall => true
  | .resetAssert => true
  | .resetRelease obs => decide (obs.addrSel < 4)
  | .vsysLow => true
  | .uvlo => true
  | .railFault => true
  | .tjWarn => true
  | .thermalTrip => true
  | .vsysLost => true
  | .vsysReturn obs => decide (obs.addrSel < 4)
  | .telemetrySnapshot _ => true
  | .governorLevel => true
  | .wakePulseEnd => true
  | .gpioConfigWrite _ _ _ => true
  | .aonClockSwitch => true
  | .fwuBegin _ _ => true
  | .fwuVerify _ _ => true
  | .verifyDone _ => true
  | .fwuActivate _ _ obs => decide (obs.addrSel < 4)
  | .stagingDone _ => true
  | .handoverDone _ => true
  | .coreSwapStep => true
  | .fwuConfirm _ _ => true
  | .fwuRevert _ _ => true
  | .fwuInvalidOp _ _ => true
  | .heartbeatMiss => true
  | .trialWindowExpire => true
  | .blockHandoff _ _ _ => true
  | .blockWritten _ => true
  | .nvStore _ _ => true
  | .storeDone obs => decide (1 ≤ obs.body ∧ obs.body ≤ 63)
  | .nvRestore _ _ => true
  | .nvDefaults _ _ => true
  | .nvInvalidOp _ _ => true
  | .wearManagement sector _ => decide (sector < 723)
  | .rglLimitWrite _ _ _ => true
  | .seal _ _ => true
  | .sealDone => true
  | .unseal _ _ => true
  | .unsealCheckDone _ => true
  | .watchdogExpiry => true
  | .bistStart _ _ => true
  | .bistRun => true
  | .bistDone _ _ records => records.all (fun r => decide (r.unit < 256) && decide (r.inst < 256) && decide (r.row < 4096))
  | .scrubPassDone ms => decide (ms ≤ 4000)
  | .eccCorrected word => decide (word < 2359296)
  | .eccUncorrected word region => decide (word < 2359296 ∧ ownerInRange region)
  | .coreHang _ _ => true
  | .accelFault unit inst => decide (hasInstance unit inst ∧ unit ≠ 0x01)
  | .unitResetDone unit inst => decide (unit < 256 ∧ inst < 256)
  | .recoveringEnd unit inst => decide (unit < 256 ∧ inst < 256)
  | .deviceRecoveryReset => true
  | .deviceRecoveryDone => true
  | .safeEntry => true
  | .faultLogClear _ _ => true
  | .railRestart obs => decide (obs.addrSel < 4)
  | .vddioAbsent => true
  | .vsysLowClear => true
  | .tjWarnClear => true

end Sys2Proof
end

