-- ==== Sys2Proof/Tests/Slice0.lean ====
section
/-!
SUPPORT. Tests: small states, what the spec's own examples give, operands that are not well formed, and for every statement with
hypotheses a state and operands that meet them.
-/

namespace Sys2Proof.Tests

set_option Elab.async false

open Sys2Proof Sys2Proof.Machine

/-- A block in FULL with its settings committed, on the first boundary. -/
def wFull : State := { (State.reset.put Fld.SYS.CFG_STATUS.COMMITTED true) with pwr := { mode := .full } }

/-- The same in QUIET. -/
def wQuiet : State := { wFull with pwr := { mode := .quiet } }

/-- A VHF path in tile mode at `c` kHz. -/
def wTile (v : Vhf) (c : Nat) (s : State) : State :=
  (s.set (Fld.FE.STAT.MODE_NOW v.path.idx) 1).set (Fld.FE.TILE_NOW.KHZ v.path.idx) c

/-- The loops locked to a valid reference. -/
def wLocked (s : State) : State :=
  (((s.put Fld.CLK.STAT.LOCKED true).put Fld.CLK.STAT.REF_VALID true).put (Fld.LO.STAT.LOCKED 0) true).put (Fld.LO.STAT.LOCKED 1) true

/-- A synthesiser whose change settles. -/
def wSettling (l : Lo) (r : LoReq) (s : State) : State := s.setLo l (fun x => { x with busy := some r, settling := true })

/-- A full lane ACTIVE in synchronisation. -/
def wLive (l : Nat) (s : State) : State := s.setLane l (fun x => { x with state := .active, sync := true, core := 0 })

/-- A planted sprout. -/
def wPlanted (i : Nat) (k : SproutKind) (l : Nat) (s : State) : State :=
  s.setSprout i (fun x => { x with kind := some k, state := .planted, lane := l })

/-- A healthy lane core. -/
def wCore (c : Nat) (s : State) : State := s.put (Fld.LNM.CORE_STAT.HEALTHY c) true


/-- A header whose five sections take one block each, bound to no unit. -/
def wHeader : List Word :=
  [0x4E554C4F, 1, 0x0D968000, 0x01020003, 0xFFFFFFFF, 0xFFFFFFFF, 6, 0x00010001, 0x00010001] ++ List.replicate 55 0 ++
    [1, 1, 1, 4000, 2, 2, 1, 4000, 3, 3, 1, 4000, 4, 4, 1, 4000, 5, 5, 1, 4000]

/-- An image slot with that image. -/
def wImage : NvStore := { image := [(0, wHeader), (1, []), (2, []), (3, []), (4, []), (5, [])] }

/-- BOOT at step 5 with that image. -/
def wBoot : State := { State.reset with nv := wImage }

/-- All lane cores healthy, as step 7 of BOOT finds them. -/
def wCores (s : State) : State := forEach (List.range 6) wCore s

/-- A key of page `p` open for SPI. -/
def wKey (p : Nat) (s : State) : State := { s with fab := { s.fab with keys := [⟨p, .spi, 2⟩] } }

/-- The update in stage `n`. -/
def wStage (n : Nat) (s : State) : State := s.set Fld.FWU.STAT.STAGE n

/-- The 26 bits of an RDS block with this information word at a place of its group, by IEC 62106. -/
def wBlock (data place : Nat) : Nat := data * 1024 + (rdsRemainder (data * 1024) ^^^ ((rdsOffsets place).headD (0, false)).1)

/-- Those bits as they are received after a 0, differentially encoded. -/
def wRx (w : Nat) : RdsObs :=
  { halves := ((List.range 26).foldl (fun (x : Bool × List (Int × Int)) i =>
      let b := x.1 != w.testBit (25 - i)
      (b, x.2 ++ [if b then (1, 0) else (0, 1)])) (false, [])).2 }

/-- Three seconds of a loudness contour. -/
def wContour : List Int := (List.range 600).map (fun i => if i % 7 < 3 then 100 else -50)

/-! ## What every step keeps -/

/-- QUIET with two hand-overs in the plan and a boundary to come. -/
def wPlanned : State :=
  { wQuiet with plan := [⟨1, true, .handover⟩, ⟨2, false, .handover⟩], pending := [.epochBoundary {}], pwr := { mode := .quiet, pins := pinsOf wQuiet } }

/-- The boundary crossed from there. -/
def wCrossed : State := finish { wPlanned with pending := [] } (announce { wPlanned with pending := [] } (crossBoundary {} { wPlanned with pending := [] }))

theorem step_wPlanned : step wPlanned = .next wCrossed := rfl

theorem witness_PinsFollow_1_1 : ∃ s t, pinsOf s = s.pwr.pins ∧ step s = .next t := ⟨State.reset, idle State.reset, by decide +kernel, rfl⟩

theorem witness_PinsFollow_1_2 : ∃ s t, pinsOf s = s.pwr.pins ∧ step s = .next t := ⟨wPlanned, wCrossed, by decide +kernel, step_wPlanned⟩

theorem witness_PlanAhead_1_1 : ∃ s t, (∀ e ∈ s.plan, s.epoch < e.at_) ∧ step s = .next t :=
  ⟨wPlanned, wCrossed, by decide +kernel, step_wPlanned⟩

theorem witness_StepRunsFront_1 : ∃ (c : Instr) (rest : List Instr) (s : State), s.pending = c :: rest := ⟨.epochBoundary {}, [], wPlanned, rfl⟩

/-! ## A block of zeros in the window and its CRC (R352) -/

/-- The CRC of the 1023 words of a block of zeros. -/
def wCrc : Word := crc32c (wordBytes (List.replicate 1023 0))

theorem zeros_take (n : Nat) (w : Word) : (List.replicate n 0 ++ [w]).take n = List.replicate n 0 :=
  List.take_left' List.length_replicate

theorem zeros_last (n : Nat) (w : Word) : (List.replicate n 0 ++ [w]).getD n 0 = w := by
  simp [List.getD_eq_getElem?_getD]

theorem zeros_length (n : Nat) (w : Word) : (List.replicate n 0 ++ [w]).length = n + 1 := by simp

theorem zeros_pass (w : Word) : blockPasses (List.replicate 1023 0 ++ [w]) = (w == wCrc) := by
  unfold blockPasses
  rw [zeros_take, zeros_last, zeros_length, ← wCrc]
  rfl

/-- A slot that holds block 5 of zeros with the last word `w`. -/
def wHanded (w : Word) : State :=
  { wStage 1 (wFull.set Fld.FWU.RX_COUNT.EXPECTED 6 |>.set Fld.FWU.SLOT_BUSY.BUSY 4) with
    fw := { handed := [(2, 5)], window := [(slotAddr 2 + 0xFFC, w)], received := [0] } }

theorem window_wHanded (w : Word) (a : Nat) : windowWord (wHanded w) a = if slotAddr 2 + 0xFFC = a then w else 0 := by
  show ((List.find? (fun c => c.1 == a) [(slotAddr 2 + 0xFFC, w)]).map (fun c => c.2)).getD 0 = _
  by_cases h : slotAddr 2 + 0xFFC = a
  · simp [h]
  · have e : (slotAddr 2 + 0xFFC == a) = false := by simpa using h
    simp only [List.find?, e, if_neg h]
    rfl

theorem zeros_map (f : Nat → Word) (w : Word) (n : Nat) (h0 : ∀ i, i < n → f i = 0) (hn : f n = w) :
    (List.range (n + 1)).map f = List.replicate n 0 ++ [w] := by
  rw [List.range_succ, List.map_append]
  congr 1
  · rw [List.eq_replicate_iff]
    refine ⟨by simp, fun b hb => ?_⟩
    obtain ⟨i, hi, rfl⟩ := List.mem_map.1 hb
    exact h0 i (List.mem_range.1 hi)
  · simp [hn]

theorem slot_wHanded (w : Word) : slotBlock (wHanded w) 2 = List.replicate 1023 0 ++ [w] := by
  refine zeros_map _ _ _ (fun i hi => ?_) ?_
  · rw [window_wHanded, if_neg (by omega)]
  · rw [window_wHanded, if_pos (by decide)]

theorem witness_UpdateWorkCompletes_1 : ∃ (nvFail : Bool) (s : State) (k blk : Nat) (rest : List (Nat × Nat)) (ws : List Word),
    s.fw.handed = (k, blk) :: rest ∧ ws = slotBlock s k ∧ fwStage s = 1 ∧ blockPasses ws = true ∧ 0 < blk ∧
    blk < s.get Fld.FWU.RX_COUNT.EXPECTED ∧ blk < 384 ∧ s.nvJob.storing = false ∧ nvFail = false :=
  ⟨false, wHanded wCrc, 2, 5, [], _, rfl, rfl, rfl, by rw [slot_wHanded, zeros_pass]; simp, by decide, by show 5 < 6; decide, by decide, rfl, rfl⟩

theorem witness_UpdateWorkCompletes_2_2 : ∃ (s : State) (k blk : Nat) (rest : List (Nat × Nat)) (cause : Nat),
    s.fw.handed = (k, blk) :: rest ∧
    ((cause = 6 ∧ fwStage s ≠ 1) ∨ (cause = 1 ∧ fwStage s = 1 ∧ blockPasses (slotBlock s k) = false) ∨
      (cause = 2 ∧ fwStage s = 1 ∧ blockPasses (slotBlock s k) = true ∧
        (384 ≤ blk ∨ (0 < blk ∧ 0 < s.get Fld.FWU.RX_COUNT.EXPECTED ∧ s.get Fld.FWU.RX_COUNT.EXPECTED ≤ blk))) ∨
      (cause = 3 ∧ fwStage s = 1 ∧ blockPasses (slotBlock s k) = true ∧ 0 < blk ∧ blk < 384 ∧ s.get Fld.FWU.RX_COUNT.EXPECTED = 0)) :=
  ⟨wHanded (wCrc ^^^ 1), 2, 5, [], 1, rfl, .inr (.inl ⟨rfl, rfl, by
    rw [slot_wHanded, zeros_pass]; generalize wCrc = c; revert c; simp⟩)⟩

/-! ## Commands that are not well formed: one for each check -/

theorem test_wf_lane_of_measurement : WellFormed (.epochBoundary { fmLanes := [{ lane := 8 }] }) = false := by decide
theorem test_wf_am_lane : WellFormed (.epochBoundary { amLanes := [{ lane := 14 }] }) = false := by decide
theorem test_wf_watch : WellFormed (.epochBoundary { watches := [{ lane := 19 }] }) = false := by decide
theorem test_wf_source : WellFormed (.epochBoundary { sources := [{ pgm := 4, src := 0 }] }) = false := by decide
theorem test_wf_sprout : WellFormed (.epochBoundary { sprouts := [{ slot := 32, metric := 0, progress := 0 }] }) = false := by decide
theorem test_wf_load : WellFormed (.epochBoundary { loads := [(156, 1)] }) = false := by decide
theorem test_wf_gpio : WellFormed (.epochBoundary { gpio := 256 }) = false := by decide
theorem test_wf_page : WellFormed (.keyExpire 4096) = false := by decide
theorem test_wf_block : WellFormed (.dabReconfig 38) = false := by decide
theorem test_wf_service : WellFormed (.serviceLapse 3 (2 ^ 32)) = false := by decide
theorem test_wf_loop_code : WellFormed (.loSettled .lof (some 64)) = false := by decide
theorem test_wf_stuck_count : WellFormed (.twcStuckScl 33 0) = false := by decide
theorem test_wf_sector : WellFormed (.wearManagement 723 false) = false := by decide
theorem test_wf_body : WellFormed (.storeDone { body := 64 }) = false := by decide
theorem test_wf_word : WellFormed (.eccCorrected 2359296) = false := by decide
theorem test_wf_region : WellFormed (.eccUncorrected 0 (.lane 156)) = false := by decide
theorem test_wf_accelerator : WellFormed (.accelFault 0x07 0) = false := by decide
theorem test_wf_unit : WellFormed (.unitResetDone 256 0) = false := by decide
theorem test_wf_scrub : WellFormed (.scrubPassDone 4001) = false := by decide
theorem test_wf_strap : WellFormed (.vddioPresent { addrSel := 4 }) = false := by decide
theorem test_wf_measured : WellFormed (.gainCheckDone (List.replicate 25 0)) = false := by decide
theorem test_wf_mask_time : WellFormed (.injMaskCheckDone 2001) = false := by decide
theorem test_wf_reading : WellFormed (.snapshotClose .lf [(12223, 0)]) = false := by decide
/-- R30: 1450 lies at −2.9993 dBFS and 1449 at −3.0053; a code at an end of the range clips, of LF only the one ADC counts. -/
theorem test_converter_peak : (Machine.converterPeak .fm { adc := [(3, -1450)] } Machine.State.reset).1 = -300 := by decide +kernel
theorem test_clips : Machine.clipCount .lf { adc := [(2047, 2047), (-2048, 0), (2046, 0)] } = 2 := by decide
theorem test_wf_codes : WellFormed (.epochBoundary { fm := { adc := [(2048, 0)] } }) = false := by decide
theorem test_wf_samples : WellFormed (.epochBoundary { fm := { adc := [(0, 0)] } }) = false := by decide
theorem test_wf_audio : WellFormed (.epochBoundary { audio := [{ lane := 14, frames := [] }] }) = false := by decide
theorem test_wf_map_entry : WellFormed (.eccUncorrected 0 (.survey .lf [12223])) = false := by decide
theorem test_wf_superframe : WellFormed (.dabplusSuperframe 0 0 { phase := 5 }) = false := by decide
theorem test_wf_pi : WellFormed (.sproutCriterionMet 0 0 65536) = false := by decide
theorem test_wf_report : WellFormed (.ofsWindow [⟨156, 0, 1, 0⟩]) = false := by decide
theorem test_wf_place : WellFormed (.rdsBlock 0 0 { halves := [] }) = false := by decide
theorem test_wf_ensemble : WellFormed (.ensembleDelete 38) = false := by decide
theorem test_wf_scale_factors : WellFormed (.layer2Frame 0 0 true 5 24 []) = false := by decide
theorem test_wf_units : WellFormed (.dabplusSuperframe 0 0 { aus := List.replicate 7 true }) = false := by decide
theorem test_wf_slots : WellFormed (.portFrame 0 { slots := [0, 0, 0] }) = false := by decide
theorem test_wf_key_open : WellFormed (.lockkeyOpen .spi 4096) = false := by decide
theorem test_wf_key_close : WellFormed (.lockkeyClose .spi 4096 0) = false := by decide
theorem test_wf_event_clear : WellFormed (.eventClear .spi 4096 0) = false := by decide
theorem test_wf_event_set : WellFormed (.eventSetTest .spi 4096 0) = false := by decide
theorem test_wf_event_enable : WellFormed (.eventEnableWrite .spi 4096 0) = false := by decide
theorem test_wf_transfer : WellFormed (.twcTransferDone { wrDone := 33 }) = false := by decide
theorem test_wf_two_nacks : WellFormed (.twcTransferDone { nackAddr := true, nackData := true }) = false := by decide
theorem test_wf_record : WellFormed (.bistDone true 0 [{ unit := 256, inst := 0 }]) = false := by decide
theorem test_wf_unc_word : WellFormed (.eccUncorrected 2359296 .code) = false := by decide
theorem test_wf_recovering : WellFormed (.recoveringEnd 0 256) = false := by decide
theorem test_wf_holds : WellFormed (.keyExpire 4095) = true := by decide

/-! ## The spec's own examples -/

/-- The state `f` at boundary `e`. -/
def atEpoch (e : Nat) (s : State) : State := { s with time := boundaryTick e }

/-- R278: the ID words that the text after it names. -/
theorem test_ids : [0x000000, 0x004000, 0x00A000, 0x025000, 0x052000, 0x054000].map (readWord State.reset) =
    [0x00000000, 0x00030001, 0x00080002, 0x00200005, 0x00500002, 0x00540000] := by decide +kernel

/-- Chapter 19: the reset words of PGMn.BLEND and PGMn.STAT. -/
theorem test_blend_reset : readWord State.reset (Reg.PGM.BLEND 0) = 0x01280A14 := by decide +kernel
theorem test_slot_stat_reset : readWord State.reset (Reg.PGM.STAT 0) = 0x0007F008 := by decide +kernel

/-- Chapter 1, device time: tick 1 000 000 000 lies in epoch 6 103. -/
theorem test_epoch : ({ State.reset with time := 1000000000 } : State).epoch = 6103 := by decide

/-- The window of `PGM0.ALIGN_RES` with SEQ 0x40 behind it, its header as the host reads it. -/
def wWindow : State := { State.reset with fab := { State.reset.fab with windows := upd State.reset.fab.windows 18 (fun w => { w with last := 0x40 }) } }
def wHeaderWord (s : State) : Nat × Nat × Nat := (s.get (windowValid 18), s.get (windowSeq 18), s.get (windowOverflow 18))
def wThree : State := postNow 18 [] (postNow 18 [] (postNow 18 [] wWindow))

/-- Chapter 11, a slow host: three posts, an acknowledgement out of turn, two in turn, a fourth post. -/
theorem test_window_post : wHeaderWord (postNow 18 [] wWindow) = (1, 0x41, 0) := by decide +kernel
theorem test_window_overflow : wHeaderWord wThree = (1, 0x41, 1) := by decide +kernel
theorem test_window_wrong_ack : wHeaderWord (ackResult 18 0x42 wThree) = (1, 0x41, 1) := by decide +kernel
theorem test_window_promote : wHeaderWord (ackResult 18 0x41 wThree) = (1, 0x43, 1) := by decide +kernel
theorem test_window_empty : wHeaderWord (ackResult 18 0x43 (ackResult 18 0x41 wThree)) = (0, 0x43, 0) := by decide +kernel
theorem test_window_next : wHeaderWord (postNow 18 [] (ackResult 18 0x43 (ackResult 18 0x41 wThree))) = (1, 0x44, 0) := by decide +kernel

/-- Chapter 9, four programmes: the blocks of the delays 0, 1 840.28, 3 040.28, 2 600.00 and 2 500.40 ms (R242). -/
theorem test_blocks : [0, 184028, 304028, 260000, 250040].map (fun d => blocksFor (d * 122880)) = [16, 1857, 3057, 2616, 2517] := by decide

/-- R243: CNR 30 dB and MULTIPATH 25 % score 37. -/
theorem test_quality : quality (((State.reset.set (Fld.PGM.SRC.KIND 0 0) 1).setWord (Reg.FMF.QUAL 0 0) 0x00780000).setWord (Reg.FMF.QUAL 0 1) 25)
    0 0 none = 37 := by decide +kernel

/-- Chapter 5, one frequency epoch: the word deltas of DAB2 on 12B and of DRM0 at 6 095 kHz for +50 ppb (R127). -/
theorem test_delta_dab : freqDelta .b3 225648 50 = -592 := by decide
theorem test_delta_drm : freqDelta .lf 6095 50 = -8181 := by decide

/-- Chapter 2, a blocker at 91.3 MHz: of the centres from 91.50 MHz the best is 100.10 MHz (R33). -/
theorem test_centre : bestCentre (some 91300) ((tileCentres .fm).filter (fun c => fitsTile 95800 100 c)) = some 100100 := by decide +kernel

/-- R344's introduction: Tj 106.9 °C and 1 420 mW give 75.7 °C. -/
theorem test_ambient : ambientShown State.reset { rf := 1710, power := 1420 } = 1210 := by decide +kernel

/-- R345: an E-grade unit at level 0 with that snapshot moves to level 2 on the next boundary. -/
theorem test_governor : (governorReads { rf := 1710, power := 1420 } (atEpoch 300 (State.reset.put Fld.PMU.STAT.GRADE_E true))).pwr.govNext = some (2, 301) := by
  decide +kernel

/-- Chapter 12: the frame 10 04 80 08 00 00 00 01 enables PGM0. -/
theorem test_spi_frame : (wordsOf [0x00, 0x00, 0x00, 0x01] = [0x00000001]) ∧ Reg.PGM.CTRL 0 = 0x048008 := by decide

/-- Chapter 13: step 0 of the script is a WRITE2 of 0x01, 0x80 to address 0x4A, step 1 none. -/
theorem test_step_write2 : stepTransfer 0x204A0180 = some (0x4A, [0x01, 0x80]) := by decide
theorem test_step_wait : stepTransfer 0x30000014 = none := by decide

/-- Chapter 13: WRD.ALARM is global event 165, on page 0x044. -/
theorem test_alarm_event : Ev.WRD.ALARM = 165 ∧ Ev.WRD.ALARM / 32 = 5 := by decide

/-- R281: 0x0000_5EED opens a page's key for the port that writes it, another value closes it. -/
theorem test_key_opens : keyOpen (writeLockKey 0x069 .spi 0x5EED State.reset) 0x069 .spi = true := by decide +kernel
theorem test_key_other_port : keyOpen (writeLockKey 0x069 .spi 0x5EED State.reset) 0x069 .twoWire = false := by decide +kernel
theorem test_key_closes : keyOpen (writeLockKey 0x069 .spi 1 (writeLockKey 0x069 .spi 0x5EED State.reset)) 0x069 .spi = false := by decide +kernel

/-- R352: the check value of CRC-32C over the digits 1 to 9. -/
theorem test_crc : crc32c [0x31, 0x32, 0x33, 0x34, 0x35, 0x36, 0x37, 0x38, 0x39] = 0xE3069283 := by decide +kernel

theorem witness_PathEventsComplete_1 : ∃ (p : Path) (s : State),
    s.flag (Fld.FE.STAT.OVERLOAD p.idx) = true ∧
    100 ≤ (s.path p).clearEpochs :=
  ⟨.fm, ((wFull.put (Fld.FE.STAT.OVERLOAD 1) true).setPath .fm (fun x => { x with clearEpochs := 100 })), by decide +kernel⟩

theorem witness_PathEventsComplete_2_1 : ∃ (p : Path) (s : State) (peak : Int),
    (s.path p).attack = some peak ∧
    pathOn s p = true ∧
    agcMode s p = 0 ∧
    modeNow s p ≠ 2 ∧
    gainStep s p ≠ 0 :=
  ⟨.lf, ((showGain .lf 10 wFull).setPath .lf (fun x => { x with attack := some (-300) })), (-300), by decide +kernel⟩

theorem witness_PathEventsComplete_2_2 : ∃ (p : Path) (s : State) (peak : Int),
    (s.path p).attack = some peak ∧
    pathOn s p = true ∧
    agcMode s p = 0 ∧
    modeNow s p ≠ 2 ∧
    gainStep s p ≠ 0 :=
  ⟨.fm, { ((showGain .fm 1 wFull).setPath .fm (fun x => { x with attack := some 0 })) with plan := List.replicate 64 ⟨5, true, .release 3⟩ }, 0, by decide +kernel⟩

theorem witness_PathEventsComplete_3 : ∃ (p : Path) (s : State),
    pathOn s p = true ∧
    agcMode s p = 0 ∧
    modeNow s p ≠ 2 ∧
    50 ≤ (s.path p).quietPeak ∧
    gainStep s p < 23 ∧
    isPlanned (isAgcStep p) s = false :=
  ⟨.b3, (wFull.setPath .b3 (fun x => { x with quietPeak := 50 })), by decide +kernel⟩

theorem witness_PathEventsComplete_4 : ∃ (v : Vhf) (s : State) (c : Nat),
    pathOn s v.path = true ∧
    modeNow s v.path = 0 ∧
    s.get (Fld.FE.CTRL.MODE v.path.idx) = 0 ∧
    (s.path v.path).testAt = none ∧
    3 ≤ (s.path v.path).loudRefreshes ∧
    wantedTile s v none = some c ∧
    headedFor s v (some (some c)) (c * 1000) = false ∧
    (s.path v.path).rejected ≠ some c :=
  ⟨.b3, (wFull.setPath .b3 (fun x => { x with loudRefreshes := 3 })), 178150, by decide +kernel⟩

theorem witness_PathEventsComplete_5 : ∃ (v : Vhf) (s : State),
    pathOn s v.path = true ∧
    (tileNow s v.path).isSome = true ∧
    s.get (Fld.FE.CTRL.MODE v.path.idx) = 0 ∧
    2000 ≤ (s.path v.path).quietEpochs ∧
    headedFor s v (some none) (spanHz v) = false :=
  ⟨.fm, ((wTile .fm 86000 wFull).setPath .fm (fun x => { x with quietEpochs := 2000 })), by decide +kernel⟩

theorem witness_PathEventsComplete_6_1 : ∃ (v : Vhf) (s : State) (c d : Nat),
    tileNow s v.path = some c ∧
    glimpsing s v.path = true ∧
    nextTile s v c = some d ∧
    d ≠ c ∧
    headedFor s v none (d * 1000) = false :=
  ⟨.fm, (wTile .fm 86000 wFull), 86000, 94800, by decide +kernel⟩

theorem witness_PathEventsComplete_6_2 : ∃ (v : Vhf) (s : State) (c d : Nat),
    tileNow s v.path = some c ∧
    glimpsing s v.path = true ∧
    nextTile s v c = some d ∧
    d ≠ c ∧
    headedFor s v none (d * 1000) = false :=
  ⟨.b3, ((wTile .b3 235900 wFull).setLo .lob (fun x => { x with busy := some { kind := .hop, hz := 0 } })), 235900, 178150, by decide +kernel⟩

theorem witness_PathEventsComplete_7 : ∃ (p : Path) (s : State) (b : Nat),
    (s.path p).testAt = some b ∧
    s.time % epochTicks = 0 ∧
    b ≤ s.epoch ∧
    modeNow s p = 0 ∧
    s.flag (Fld.FE.CTRL.TEST p.idx) = true :=
  ⟨.lf, ((wFull.put (Fld.FE.CTRL.TEST 0) true).setPath .lf (fun x => { x with testAt := some 0 })), 0, by decide +kernel⟩

theorem witness_PathEventsComplete_8 : ∃ (s : State) (p : Path),
    gainStep s p ≠ 0 :=
  ⟨(showGain .lf 10 wFull), .lf, by decide +kernel⟩

theorem witness_CaptureWritesComplete_1 : ∃ (s : State),
    lets s Reg.AGC.MAN_STEP = true :=
  ⟨(wFull.set Fld.AGC.CTRL.FM 2), by decide +kernel⟩

theorem witness_CaptureWritesComplete_2 : ∃ (p : Vhf) (v : Word) (s : State) (c : Nat),
    lets s (Reg.FE.CTRL p.path.idx) = true ∧
    pathOn s p.path = true ∧
    modeNow s p.path = 0 ∧
    s.flag (Fld.FE.CTRL.TEST p.path.idx) = false ∧
    (s.path p.path).testAt = none ∧
    fieldOf v 0 2 = 2 ∧
    s.get (Fld.FE.TILE_CENTRE.KHZ p.path.idx) = c ∧
    headedFor s p (some (some c)) (c * 1000) = false :=
  ⟨.b3, 2, (wFull.set (Fld.FE.TILE_CENTRE.KHZ 2) 178150), 178150, by decide +kernel⟩

theorem witness_CaptureWritesComplete_3 : ∃ (p : Vhf) (v : Word) (s : State),
    lets s (Reg.FE.CTRL p.path.idx) = true ∧
    pathOn s p.path = true ∧
    (tileNow s p.path).isSome = true ∧
    fieldOf v 0 2 = 1 ∧
    headedFor s p (some none) (spanHz p) = false :=
  ⟨.fm, 17, (wTile .fm 86000 wFull), by decide +kernel⟩

theorem witness_CaptureWritesComplete_4 : ∃ (p : Path) (s : State),
    lets s (Reg.FE.CTRL p.idx) = true :=
  ⟨.b3, wFull, by decide +kernel⟩

theorem witness_CaptureWritesComplete_5 : ∃ (port : Port) (p : Vhf) (v : Word) (s : State) (c d : Nat),
    lets s (Reg.FE.TILE_CENTRE p.path.idx) = true ∧
    pathOn s p.path = true ∧
    tileNow s p.path = some c ∧
    s.get (Fld.FE.CTRL.MODE p.path.idx) = 2 ∧
    (s.path p.path).testAt = none ∧
    (s.lo p.lo).pass = none ∧
    fieldOf (afterWrite s port (Reg.FE.TILE_CENTRE p.path.idx) v) 0 18 = d ∧
    d ≠ c ∧
    headedFor s p none (d * 1000) = false :=
  ⟨.twoWire, .fm, 90000, (wTile .fm 86000 (wFull.set (Fld.FE.CTRL.MODE 1) 2)), 86000, 90000, by decide +kernel⟩

theorem witness_CaptureWritesComplete_6 : ∃ (p : Vhf) (s : State),
    lets s (Reg.FE.TILE_CENTRE p.path.idx) = true :=
  ⟨.b3, wQuiet, by decide +kernel⟩

theorem witness_CaptureWritesComplete_7_1 : ∃ (p : Path) (v : Word) (s : State),
    lets s (Reg.FE.CTRL p.idx) = true ∧
    s.flag (Fld.FE.CTRL.TEST p.idx) = false ∧
    pathOn s p = true ∧
    (((feedingLanes s).any (fun l => s.laneInUse l && (s.lane l).path == p)) = false ∨ v.getLsbD 3 = true) :=
  ⟨.lf, 0, wFull, by decide +kernel⟩

theorem witness_CaptureWritesComplete_7_2 : ∃ (p : Path) (v : Word) (s : State),
    lets s (Reg.FE.CTRL p.idx) = true ∧
    s.flag (Fld.FE.CTRL.TEST p.idx) = false ∧
    pathOn s p = true ∧
    (((feedingLanes s).any (fun l => s.laneInUse l && (s.lane l).path == p)) = false ∨ v.getLsbD 3 = true) :=
  ⟨.b3, 8, (wTile .b3 186400 wFull), by decide +kernel⟩

theorem witness_CaptureWritesComplete_7_3 : ∃ (p : Path) (v : Word) (s : State),
    lets s (Reg.FE.CTRL p.idx) = true ∧
    s.flag (Fld.FE.CTRL.TEST p.idx) = false ∧
    pathOn s p = true ∧
    (((feedingLanes s).any (fun l => s.laneInUse l && (s.lane l).path == p)) = false ∨ v.getLsbD 3 = true) :=
  ⟨.fm, 8, ((wFull.set (Fld.PGM.SRC.KIND 0 0) 1).put (Fld.PGM.CTRL.EN 0) true).setLane 0 (fun x => { x with state := .active, path := .fm, khz := 90000 }), by decide +kernel⟩

theorem witness_CaptureWritesComplete_8 : ∃ (p : Path) (v : Word) (s : State),
    lets s (Reg.FE.CTRL p.idx) = true ∧
    s.flag (Fld.FE.CTRL.TEST p.idx) = false ∧
    (pathOn s p = false ∨ (((feedingLanes s).any (fun l => s.laneInUse l && (s.lane l).path == p)) = true ∧ v.getLsbD 3 = false)) :=
  ⟨.fm, 0, wQuiet, by decide +kernel⟩

theorem witness_CaptureWritesComplete_9 : ∃ (p : Path) (s : State),
    lets s (Reg.FE.CTRL p.idx) = true ∧
    s.flag (Fld.FE.CTRL.TEST p.idx) = true ∧
    modeNow s p ≠ 2 :=
  ⟨.fm, (wFull.put (Fld.FE.CTRL.TEST 1) true), by decide +kernel⟩

theorem witness_CaptureWritesComplete_10 : ∃ (p : Path) (s : State),
    lets s (Reg.FE.CTRL p.idx) = true ∧
    s.flag (Fld.FE.CTRL.TEST p.idx) = true ∧
    modeNow s p = 2 :=
  ⟨.lf, ((wFull.put (Fld.FE.CTRL.TEST 0) true).set (Fld.FE.STAT.MODE_NOW 0) 2), by decide +kernel⟩

theorem witness_GainCheckCompletes_1 : ∃ (v : Word) (s : State),
    lets s Reg.AGC.CHECK_CMD = true ∧
    fieldOf v 0 2 ≠ 3 ∧
    modeNow s (Path.ofIdx (fieldOf v 0 2)) = 2 ∧
    s.aux.check = none ∧
    15 ≤ s.get Fld.RGL.INJ_CEIL.LEVEL :=
  ⟨0, (wFull.set (Fld.FE.STAT.MODE_NOW 0) 2), by decide +kernel⟩

theorem witness_GainCheckCompletes_2 : ∃ (v : Word) (s : State),
    lets s Reg.AGC.CHECK_CMD = true ∧
    (fieldOf v 0 2 = 3 ∨ modeNow s (Path.ofIdx (fieldOf v 0 2)) ≠ 2 ∨ s.aux.check ≠ none ∨ s.get Fld.RGL.INJ_CEIL.LEVEL < 15) :=
  ⟨3, wFull, by decide +kernel⟩

theorem witness_GainCheckCompletes_3 : ∃ (s : State) (c : GainCheck),
    s.aux.check = some c ∧
    s.time % epochTicks = 0 ∧
    c.start = none ∧
    c.windows < 3 ∧
    c.nextAt ≤ s.epoch ∧
    s.aux.uses.contains .window = true ∧
    waitsForGrant s .window = false :=
  ⟨{ wFull with aux := { check := some { path := .fm, windows := 2 }, uses := [.window], reqSince := some 0 } }, { path := .fm, windows := 2 }, by decide +kernel⟩

theorem witness_GainCheckCompletes_4 : ∃ (s : State) (c : GainCheck),
    s.aux.check = some c ∧
    3 ≤ c.windows :=
  ⟨{ wFull with aux := { check := some { path := .b3, windows := 3 } } }, { path := .b3, windows := 3 }, by decide +kernel⟩

theorem witness_InjectorCompletes_1 : ∃ (port : Port) (v : Word) (s : State),
    lets s Reg.INJ.CTRL = true ∧
    s.flag Fld.INJ.STAT.ACTIVE = false ∧
    injReason (s.setWord Reg.INJ.CTRL (afterWrite s port Reg.INJ.CTRL (withField v 0 1 1))) = none :=
  ⟨.spi, 2, ((wFull.set Fld.INJ.FREQ.W 0x10000000).set (Fld.FE.STAT.MODE_NOW 0) 2), by decide +kernel⟩

theorem witness_InjectorCompletes_2_1 : ∃ (port : Port) (v : Word) (s : State) (why : Nat),
    lets s Reg.INJ.CTRL = true ∧
    s.flag Fld.INJ.STAT.ACTIVE = false ∧
    injReason (s.setWord Reg.INJ.CTRL (afterWrite s port Reg.INJ.CTRL (withField v 0 1 1))) = some why :=
  ⟨.spi, 0, wFull, 3, by decide +kernel⟩

theorem witness_InjectorCompletes_2_2 : ∃ (port : Port) (v : Word) (s : State) (why : Nat),
    lets s Reg.INJ.CTRL = true ∧
    s.flag Fld.INJ.STAT.ACTIVE = false ∧
    injReason (s.setWord Reg.INJ.CTRL (afterWrite s port Reg.INJ.CTRL (withField v 0 1 1))) = some why :=
  ⟨.twoWire, 2, (wFull.set Fld.INJ.FREQ.W 0x10000000), 2, by decide +kernel⟩

theorem witness_InjectorCompletes_3_1 : ∃ (s : State),
    s.aux.maskPending = true :=
  ⟨{ wFull with aux := { maskPending := true } }, by decide +kernel⟩

theorem witness_InjectorCompletes_3_2 : ∃ (s : State),
    s.aux.maskPending = true :=
  ⟨{ (wFull.set (Fld.INJ.COEF.C 0) 100) with aux := { maskPending := true } }, by decide +kernel⟩

theorem witness_InjectorCompletes_4 : ∃ (s : State) (p : Path),
    s.time % epochTicks = 0 ∧
    s.flag Fld.INJ.CTRL.ENABLE = true ∧
    s.flag Fld.INJ.STAT.ACTIVE = false ∧
    s.aux.maskPending = false ∧
    (s.flag Fld.INJ.CTRL.SHAPED = true → s.flag Fld.INJ.STAT.MASK_OK = true) ∧
    injPath s = some p ∧
    modeNow s p = 2 ∧
    injWaits s p = false :=
  ⟨(((wFull.set Fld.INJ.FREQ.W 0x10000000).set (Fld.FE.STAT.MODE_NOW 0) 2).setWord Reg.INJ.CTRL 0x1F03), .lf, by decide +kernel⟩

theorem witness_InjectorCompletes_5 : ∃ (s : State),
    lets s Reg.INJ.CTRL = true ∧
    s.flag Fld.INJ.STAT.ACTIVE = true :=
  ⟨(wFull.put Fld.INJ.STAT.ACTIVE true), by decide +kernel⟩

theorem witness_CoexAndAerialComplete_2 : ∃ (s : State) (w : GrantWait),
    w ∈ s.aux.waits ∧
    w.by_ ≤ s.epoch :=
  ⟨{ wFull with aux := { waits := [{ use := .sprout 3, by_ := 0 }] } }, { use := .sprout 3, by_ := 0 }, by decide +kernel⟩

theorem witness_CoexAndAerialComplete_3 : ∃ (s : State) (since : Nat),
    s.aux.reqSince = some since ∧
    (20 * epochTicks ≤ s.time - since ∨ dutyTicks s ≤ usedTicks s) :=
  ⟨{ wFull with time := 3276800, aux := { reqSince := some 0, uses := [.window], check := some { path := .fm } } }, 0, by decide +kernel⟩

theorem witness_CoexAndAerialComplete_5 : ∃ (s : State) (since : Nat),
    s.aux.actSince = some since ∧
    since + 10 * epochTicks < s.time :=
  ⟨{ wFull with time := 1638401, aux := { actSince := some 0 } }, 0, by decide +kernel⟩

theorem witness_CoexAndAerialComplete_6 : ∃ (s : State),
    aerialOn s = true ∧
    5 ≤ s.aux.limiting :=
  ⟨{ wFull.put Fld.PMU.AER_CTRL.EN true with aux := { limiting := 5 } }, by decide +kernel⟩

theorem witness_CoexAndAerialComplete_7 : ∃ (s : State) (b : Nat),
    s.aux.retryAt = some b ∧
    b ≤ s.epoch :=
  ⟨{ wFull.put Fld.PMU.AER_STAT.LATCHED_OFF true with aux := { retryAt := some 0 } }, 0, by decide +kernel⟩

theorem witness_CoexAndAerialComplete_8 : ∃ (s : State),
    aerialOn s = true :=
  ⟨(wFull.put Fld.PMU.AER_CTRL.EN true), by decide +kernel⟩

theorem witness_LoopEventsComplete_1 : ∃ (s : State),
    s.flag Fld.CLK.STAT.REF_VALID = true :=
  ⟨(wLocked wFull), by decide +kernel⟩

theorem witness_LoopEventsComplete_2 : ∃ (s : State),
    s.flag Fld.CLK.STAT.REF_VALID = false ∧
    2 ≤ s.loops.sys.valid :=
  ⟨{ wFull with loops := { sys := { valid := 2 } } }, by decide +kernel⟩

theorem witness_LoopEventsComplete_3 : ∃ (s : State),
    s.flag Fld.CLK.STAT.COAST = false ∧
    s.flag Fld.CLK.STAT.REF_VALID = true :=
  ⟨(wFull.put Fld.CLK.STAT.REF_VALID true), by decide +kernel⟩

theorem witness_LoopEventsComplete_4 : ∃ (l : Lo) (s : State),
    loOn s l = true ∧
    s.flag (Fld.LO.STAT.COAST l.idx) = false :=
  ⟨.lob, wFull, by decide +kernel⟩

theorem witness_LoopEventsComplete_5 : ∃ (s : State),
    s.flag Fld.CLK.STAT.COAST = false ∧
    s.flag Fld.CLK.STAT.LOCKED = true ∧
    s.flag Fld.CLK.STAT.REF_VALID = true :=
  ⟨(wLocked wFull), by decide +kernel⟩

theorem witness_LoopEventsComplete_6 : ∃ (l : Lo) (s : State),
    loOn s l = true ∧
    s.flag (Fld.LO.STAT.COAST l.idx) = false ∧
    s.flag (Fld.LO.STAT.LOCKED l.idx) = true ∧
    s.flag Fld.CLK.STAT.REF_VALID = true :=
  ⟨.lof, (wLocked wFull), by decide +kernel⟩

theorem witness_LoopEventsComplete_7 : ∃ (s : State),
    holdoverDue s = true ∧
    s.flag Fld.CLK.STAT.HOLDOVER_DEGRADED = false :=
  ⟨{ (wFull.put Fld.CLK.STAT.COAST true) with time := 4915363840 }, by decide +kernel⟩

theorem witness_RebaseAndSettleComplete_1_1 : ∃ (s : State),
    s.flag Fld.CLK.STAT.COAST = true ∧
    s.flag Fld.CLK.STAT.REF_VALID = true ∧
    2 ≤ s.loops.sys.valid :=
  ⟨{ ((wFull.put Fld.CLK.STAT.COAST true).put Fld.CLK.STAT.REF_VALID true).put (Fld.LO.STAT.COAST 1) true with loops := { sys := { valid := 2 }, loops := #v[{}, { byRef := true }] } }, by decide +kernel⟩

theorem witness_RebaseAndSettleComplete_1_2 : ∃ (s : State),
    s.flag Fld.CLK.STAT.COAST = true ∧
    s.flag Fld.CLK.STAT.REF_VALID = true ∧
    2 ≤ s.loops.sys.valid :=
  ⟨{ (wFull.put Fld.CLK.STAT.COAST true).put Fld.CLK.STAT.REF_VALID true with loops := { sys := { valid := 2 } } }, by decide +kernel⟩

theorem witness_RebaseAndSettleComplete_3_1 : ∃ (l : Lo) (code : Option Nat) (r : LoReq) (c : Nat) (s : State),
    (s.lo l).busy = some r ∧
    (s.lo l).settling = true ∧
    r.entry < 32 ∧
    (if r.fresh then code else some (s.get (Fld.LO.HOP_W1.SUBBAND l.idx r.entry))) = some c :=
  ⟨.lof, (some 17), ({ kind := .retune, hz := 90000000, fresh := true, entry := 7 }), 17, (wSettling .lof { kind := .retune, hz := 90000000, fresh := true, entry := 7 } wFull), by decide +kernel⟩

theorem witness_RebaseAndSettleComplete_3_2 : ∃ (l : Lo) (code : Option Nat) (r : LoReq) (c : Nat) (s : State),
    (s.lo l).busy = some r ∧
    (s.lo l).settling = true ∧
    r.entry < 32 ∧
    (if r.fresh then code else some (s.get (Fld.LO.HOP_W1.SUBBAND l.idx r.entry))) = some c :=
  ⟨.lob, none, ({ kind := .hop, hz := 178150000, entry := 0 }), 5, ((wSettling .lob { kind := .hop, hz := 178150000, entry := 0 } wFull).set (Fld.LO.HOP_W1.SUBBAND 1 0) 5), by decide +kernel⟩

theorem witness_RebaseAndSettleComplete_4 : ∃ (l : Lo) (r : LoReq) (s : State),
    (s.lo l).busy = some r ∧
    (s.lo l).settling = true ∧
    r.fresh = true :=
  ⟨.lob, ({ kind := .cal, hz := 207000000, fresh := true, entry := 8 }), (wSettling .lob { kind := .cal, hz := 207000000, fresh := true, entry := 8 } wFull), by decide +kernel⟩

theorem witness_CalibrationAndClkoutComplete_1 : ∃ (l : Lo) (s : State),
    lets s (Reg.LO.CAL_CMD l.idx) = true ∧
    (loOn s l && loIdle s l) = false :=
  ⟨.lof, wQuiet, by decide +kernel⟩

theorem witness_CalibrationAndClkoutComplete_2 : ∃ (l : Lo) (s : State),
    lets s (Reg.LO.CAL_CMD l.idx) = true ∧
    (loOn s l && loIdle s l) = true ∧
    s.flag Fld.COX.CTRL.GNT_USE = false ∧
    usedTicks s < dutyTicks s ∧
    waitsForGrant s (.calibration l) = false :=
  ⟨.lof, wFull, by decide +kernel⟩

theorem witness_CalibrationAndClkoutComplete_3 : ∃ (l : Lo) (s : State),
    lets s (Reg.LO.CAL_CMD l.idx) = true ∧
    loOn s l = true ∧
    s.flag Fld.COX.CTRL.GNT_USE = false ∧
    usedTicks s < dutyTicks s ∧
    waitsForGrant s (.calibration l) = false :=
  ⟨.lob, wFull, by decide +kernel⟩

theorem witness_CalibrationAndClkoutComplete_4 : ∃ (l : Lo) (s : State),
    lets s (Reg.LO.CAL_CMD l.idx) = true ∧
    loOn s l = false :=
  ⟨.lob, wQuiet, by decide +kernel⟩

theorem witness_CalibrationAndClkoutComplete_5 : ∃ (l : Lo) (s : State),
    lets s (Reg.LO.CAL_CMD l.idx) = true ∧
    (loOn s l && loIdle s l) = false :=
  ⟨.lof, wQuiet, by decide +kernel⟩

theorem witness_CalibrationAndClkoutComplete_6 : ∃ (l : Lo) (s : State) (i : Nat) (rest : List Nat),
    lets s (Reg.LO.CAL_CMD l.idx) = true ∧
    (loOn s l && loIdle s l) = true ∧
    validEntries s l = i :: rest :=
  ⟨.lof, ((wFull.put (Fld.LO.HOP_W1.VALID 0 3) true).put (Fld.LO.HOP_W1.VALID 0 9) true), 3, [9], by decide +kernel⟩

theorem witness_CalibrationAndClkoutComplete_7 : ∃ (l : Lo) (s : State),
    lets s (Reg.LO.CAL_CMD l.idx) = true ∧
    (loOn s l && loIdle s l) = true ∧
    validEntries s l = [] :=
  ⟨.lob, wFull, by decide +kernel⟩

theorem witness_CalibrationAndClkoutComplete_8 : ∃ (l : Lo) (s : State) (r : LoReq),
    s.time % epochTicks = 0 ∧
    loOn s l = true ∧
    (s.lo l).waiting = some r ∧
    (r.forced = true ∨ (loIdle s l = true ∧ (s.lo l).skipIdle = false)) ∧
    outdatedCal s l r = false ∧
    waitsForGrant s (.calibration l) = false ∧
    s.flag Fld.COX.CTRL.GNT_USE = false ∧
    usedTicks s < dutyTicks s :=
  ⟨.lof, (wFull.setLo .lof (fun x => { x with waiting := some (calRequest false true) })), calRequest false true, by decide +kernel⟩

theorem witness_CalibrationAndClkoutComplete_9 : ∃ (s : State),
    s.time % (100 * epochTicks) = 0 :=
  ⟨{ ((wFull.put (Fld.LO.HOP_W1.VALID 1 31) true).seti (Fld.LO.HOP_W2.TJ_CAL 1 31) 593) with pwr := { mode := .full } }, by decide +kernel⟩

theorem witness_CalibrationAndClkoutComplete_10_1 : ∃ (n : Fin 3) (s : State),
    lets s (Reg.CLK.CLKOUT_CFG n.val) = true :=
  ⟨2, wQuiet, by decide +kernel⟩

theorem witness_CalibrationAndClkoutComplete_10_2 : ∃ (n : Fin 3) (s : State),
    lets s (Reg.CLK.CLKOUT_CFG n.val) = true :=
  ⟨0, (wQuiet.set Fld.CLK.REF_CFG.REF_FREQ 4), by decide +kernel⟩

theorem witness_SurveyCompletes_1_1 : ∃ (m : MapSel) (s : State),
    s.receiving = true ∧
    s.time % (m.period * epochTicks) = 0 :=
  ⟨.fm, { wFull with dsp := { surveys := #v[[], [⟨86000000, none, 9, [(2, 2 ^ 40)]⟩], []] } }, by decide +kernel⟩

theorem witness_SurveyCompletes_1_2 : ∃ (m : MapSel) (s : State),
    s.receiving = true ∧
    s.time % (m.period * epochTicks) = 0 :=
  ⟨.lf, { (wFull.set (Fld.FE.STAT.MODE_NOW 0) 2) with time := 6553600 }, by decide +kernel⟩

theorem witness_SurveyCompletes_2_1 : ∃ (m : MapSel) (s : State),
    (s.map m).unposted = true ∧
    postsMap s m = true :=
  ⟨.b3, (wFull.setMap .b3 (fun x => { x with unposted := true, now := { epoch := 24 } })), by decide +kernel⟩

theorem witness_SurveyCompletes_2_2 : ∃ (m : MapSel) (s : State),
    (s.map m).unposted = true ∧
    postsMap s m = true :=
  ⟨.lf, ((wFull.setMap .lf (fun x => { x with unposted := true, now := { epoch := 40 } })).put (windowValid 3) true), by decide +kernel⟩

theorem witness_SurveyCompletes_3 : ∃ (m : MapSel) (s : State),
    (s.map m).unposted = true ∧
    postsMap s m = false :=
  ⟨.fm, ((wFull.setMap .fm (fun x => { x with unposted := true })).put ⟨Reg.SRV.CTRL, 0, 1⟩ false), by decide +kernel⟩

theorem witness_SurveyCompletes_4 : ∃ (e : Fin 16) (d : Nat × Nat) (s : State) (f : Nat),
    nextVisit s (candidates s .fic) (s.lane (116 + e.val)).khz = some f ∧
    isPlanned (isTuneOf (116 + e.val)) s = false ∧
    s.mgr.dwell.find? (fun x => x.1 == 116 + e.val) = some d ∧
    d.2 ≤ s.epoch + 2 ∧
    autoWatch s .fic = true :=
  ⟨15, (116 + 15, 2), (({ wFull.put Fld.LNM.CTRL.AUTO_FIC true with mgr := { dwell := [(131, 2)] } }.setMap .b3 (fun x => { x with now := { cells := [⟨2, 300, 0, false⟩, ⟨9, 200, 0, false⟩] } })).setLane 131 (fun x => { x with khz := 178352 })), 190640, by decide +kernel⟩

theorem witness_OffsetWindowCompletes_1 : ∃ (obs : List OfsObs) (s : State),
    s.receiving = true ∧
    s.time % (100 * epochTicks) = 0 ∧
    obs.filter (ofsSource s) = [] :=
  ⟨[⟨3, 40, 10, 80⟩], wFull, by decide +kernel⟩

theorem witness_OffsetWindowCompletes_2 : ∃ (obs : List OfsObs) (s : State) (used : List OfsObs),
    s.receiving = true ∧
    s.time % (100 * epochTicks) = 0 ∧
    used = (obs.filter (ofsSource s)).filter (fun o => decide ((2 * o.err - twiceMedian (obs.filter (ofsSource s))).natAbs ≤ 600)) ∧
    (used.map ofsWeight).sum ≠ 0 :=
  ⟨[⟨14, 40, 10, 80⟩, ⟨15, 44, 10, 200⟩, ⟨16, 9000, 1, 4⟩], (wLive 14 (wLive 15 (wLive 16 wFull))), [⟨14, 40, 10, 80⟩, ⟨15, 44, 10, 200⟩], by decide +kernel⟩

theorem witness_SproutsComplete_1_1 : ∃ (slot : Fin 32) (pi : Nat) (s : State) (k : SproutKind),
    (s.sprout slot.val).state = .planted ∧
    (s.sprout slot.val).met = false ∧
    (s.sprout slot.val).kind = some k ∧
    k.acquires = true ∧
    waitsForGrant s (.sprout slot.val) = false ∧
    criterionCounts s (s.sprout slot.val) pi = true :=
  ⟨31, 2, ((wPlanted 31 .drm 18 wFull).setSprout 31 (fun x => { x with passes := 2 })), .drm, by decide +kernel⟩

theorem witness_SproutsComplete_1_2 : ∃ (slot : Fin 32) (pi : Nat) (s : State) (k : SproutKind),
    (s.sprout slot.val).state = .planted ∧
    (s.sprout slot.val).met = false ∧
    (s.sprout slot.val).kind = some k ∧
    k.acquires = true ∧
    waitsForGrant s (.sprout slot.val) = false ∧
    criterionCounts s (s.sprout slot.val) pi = true :=
  ⟨0, 0, ((wPlanted 0 .dab 14 wFull).setSprout 0 (fun x => { x with passes := 2, fibs := [true, false, true] })), .dab, by decide +kernel⟩

theorem witness_SproutsComplete_2 : ∃ (slot : Fin 32) (s : State) (k : SproutKind),
    (s.sprout slot.val).state = .planted ∧
    (s.sprout slot.val).met = false ∧
    (s.sprout slot.val).kind = some k ∧
    k.acquires = true ∧
    (s.sprout slot.val).plantedAt + timeoutOf s (s.sprout slot.val) ≤ s.epoch ∧
    (s.sprout slot.val).stream = 0 ∧
    (isFull (s.sprout slot.val).lane && (s.lane (s.sprout slot.val).lane).host) = false ∧
    (s.sprout slot.val).lane < 156 :=
  ⟨0, { (wPlanted 0 .rds 20 wFull) with time := 327680000 }, .rds, by decide +kernel⟩

theorem witness_SproutsComplete_3 : ∃ (slot : Fin 32) (s : State) (k : SproutKind),
    (s.sprout slot.val).state = .planted ∧
    (s.sprout slot.val).met = false ∧
    (s.sprout slot.val).kind = some k ∧
    k.acquires = true ∧
    (s.sprout slot.val).plantedAt + timeoutOf s (s.sprout slot.val) ≤ s.epoch ∧
    (s.sprout slot.val).stream = 0 ∧
    (isFull (s.sprout slot.val).lane && (s.lane (s.sprout slot.val).lane).host) = true ∧
    s.receiving = true ∧
    acquireKind (s.sprout slot.val).lane = some k :=
  ⟨0, { ((wPlanted 0 .rds 3 wFull).setLane 3 (fun x => { x with host := true })) with time := 327680000 }, .rds, by decide +kernel⟩

theorem witness_SproutsComplete_4 : ∃ (lane : Fin 156) (s : State) (e : Nat) (k : SproutKind),
    (s.lane lane.val).replantAt = some e ∧
    e ≤ s.epoch ∧
    (s.lane lane.val).state = .acquiring ∧
    acquireKind lane.val = some k ∧
    s.receiving = true :=
  ⟨20, (wFull.setLane 20 (fun x => { x with state := .acquiring, replantAt := some 0 })), 0, .rds, by decide +kernel⟩

theorem witness_SproutsComplete_5 : ∃ (slot : Fin 32) (twice : Bool) (s : State) (k : SproutKind),
    (s.sprout slot.val).state = .planted ∧
    (s.sprout slot.val).adopted = true ∧
    twice = true ∧
    rootAnnounced s slot.val = false ∧
    (s.sprout slot.val).kind = some k ∧
    k.acquires = true ∧
    s.receiving = true :=
  ⟨5, true, ((wPlanted 5 .dab 14 wFull).setSprout 5 (fun x => { x with adopted := true })), .dab, by decide +kernel⟩

theorem witness_SproutsComplete_6 : ∃ (slot : Fin 32) (s : State),
    (s.sprout slot.val).state = .planted ∧
    (s.sprout slot.val).kind = some .migrate ∧
    (s.sprout slot.val).met = false ∧
    (s.sprout slot.val).plantedAt + 2 ≤ s.epoch ∧
    (s.sprout slot.val).comparedAt + 1 = s.epoch :=
  ⟨7, { ((wPlanted 7 .migrate 0 wFull).setSprout 7 (fun x => { x with metric := 7, comparedAt := 8 })) with time := 1474560 }, by decide +kernel⟩

theorem witness_SproutsComplete_7 : ∃ (slot : Fin 32) (s : State),
    (s.sprout slot.val).state = .planted ∧
    (s.sprout slot.val).kind = some .migrate ∧
    (s.sprout slot.val).met = false ∧
    (s.sprout slot.val).plantedAt + 2 ≤ s.epoch ∧
    (s.sprout slot.val).comparedAt < s.epoch ∧
    (s.sprout slot.val).mismatches < 2 ∧
    s.receiving = true :=
  ⟨7, { (wPlanted 7 .migrate 0 wFull) with time := 1474560 }, by decide +kernel⟩

theorem witness_SproutsComplete_8 : ∃ (s : State) (r : SproutReq),
    s.fab.pause = none ∧
    (freeSlot s).isSome = true ∧
    nextReq s = some r ∧
    s.receiving = true :=
  ⟨{ wFull with mgr := { waiting := [{ kind := .dab, lane := 116 }, { kind := .join, lane := 0, pgm := 2 }] } }, { kind := .join, lane := 0, pgm := 2 }, by decide +kernel⟩

theorem witness_SproutsComplete_9 : ∃ (core : Fin 6) (s : State) (l c : Nat),
    100 ≤ at' s.mgr.overload core.val 0 ∧
    migrating s = false ∧
    lightestLane s core.val = some l ∧
    quietCore s core.val = some c ∧
    s.receiving = true :=
  ⟨2, (wCore 4 (wCore 2 { wFull with mgr := { (wLive 3 wFull).mgr with overload := #v[0, 0, 100, 0, 0, 0], lanes := upd (wLive 3 wFull).mgr.lanes 3 (fun x => { x with core := 2 }) } })), 3, 4, by decide +kernel⟩

theorem witness_TunesComplete_1_1 : ∃ (n : Fin 8) (v : Word) (s : State),
    lets s (Reg.FMF.TUNE n.val) = true ∧
    fieldOf v 0 17 ≠ 0 :=
  ⟨7, 108000, (wFull.set Fld.RGL.BAND_PLAN.BANDS 0x1F), by decide +kernel⟩

theorem witness_TunesComplete_1_2 : ∃ (n : Fin 8) (v : Word) (s : State),
    lets s (Reg.FMF.TUNE n.val) = true ∧
    fieldOf v 0 17 ≠ 0 :=
  ⟨0, 98500, wQuiet, by decide +kernel⟩

theorem witness_TunesComplete_2_1 : ∃ (n : Fin 6) (v : Word) (s : State),
    lets s (Reg.AMF.TUNE n.val) = true ∧
    fieldOf v 0 15 ≠ 0 :=
  ⟨5, 1710, wFull, by decide +kernel⟩

theorem witness_TunesComplete_2_2 : ∃ (n : Fin 6) (v : Word) (s : State),
    lets s (Reg.AMF.TUNE n.val) = true ∧
    fieldOf v 0 15 ≠ 0 :=
  ⟨0, 1711, ((wFull.set Fld.RGL.BAND_PLAN.BANDS 0x40).setWord (Reg.AMF.CHG_EN 0) 0xFFFFFFFF), by decide +kernel⟩

theorem witness_TunesComplete_3_1 : ∃ (n : Fin 2) (v : Word) (s : State),
    lets s (Reg.DRM.TUNE n.val) = true ∧
    fieldOf v 0 17 ≠ 0 :=
  ⟨1, 0x3844, wFull, by decide +kernel⟩

theorem witness_TunesComplete_3_2 : ∃ (n : Fin 2) (v : Word) (s : State),
    lets s (Reg.DRM.TUNE n.val) = true ∧
    fieldOf v 0 17 ≠ 0 :=
  ⟨1, 0x38440, wFull, by decide +kernel⟩

theorem witness_TunesComplete_4_1 : ∃ (n : Fin 4) (s : State),
    lets s (Reg.DAB.TUNE n.val) = true :=
  ⟨3, wFull, by decide +kernel⟩

theorem witness_ReleasesComplete_1_1 : ∃ (n : Fin 8) (s : State),
    lets s (Reg.FMF.TUNE n.val) = true :=
  ⟨7, wFull, by decide +kernel⟩

theorem witness_ReleasesComplete_1_2 : ∃ (n : Fin 8) (s : State),
    lets s (Reg.FMF.TUNE n.val) = true :=
  ⟨0, wQuiet, by decide +kernel⟩

theorem witness_ReleasesComplete_2 : ∃ (n : Fin 6) (s : State),
    lets s (Reg.AMF.TUNE n.val) = true :=
  ⟨5, wFull, by decide +kernel⟩

theorem witness_ReleasesComplete_3 : ∃ (n : Fin 2) (s : State),
    lets s (Reg.DRM.TUNE n.val) = true :=
  ⟨1, wFull, by decide +kernel⟩

theorem witness_ReleasesComplete_4 : ∃ (n : Fin 4) (s : State),
    lets s (Reg.DAB.TUNE n.val) = true :=
  ⟨3, wFull, by decide +kernel⟩

theorem witness_RdsCompletes_1_1 : ∃ (ctx : Fin 104) (obs : RdsObs) (s : State) (place bits : Nat) (b : RdsBlk),
    (s.lane (rdsLane ctx.val)).inUse = true ∧
    (s.lane (rdsLane ctx.val)).sync = true ∧
    place = (s.rdsCtx ctx.val).place 0 ∧
    bits = (s.rdsCtx ctx.val).bits 0 obs ∧
    b = rdsReceive (rdsEcc s ctx.val) place bits ∧
    (rdsRbds s ctx.val = true → rdsRemainder bits ≠ 0) ∧
    (s.rdsCtx ctx.val).armedTo = none ∧
    (place = 1 → (s.rdsCtx ctx.val).foreign = none) ∧
    (((b.cls :: (s.rdsCtx ctx.val).recent).take 25).filter (fun k => k == 3)).length < 20 ∧
    (s.rdsCtx ctx.val).misplaced < 5 ∧
    (addBlock (groupOf (s.rdsCtx ctx.val) 0) place b).length < 4 :=
  ⟨7, (wRx (wBlock 0x2410 2)), ((wLive 7 wFull).setRds 7 (fun x => { x with next := [(0, 2)] })), 2, (wBlock 0x2410 2), ⟨0x2410, 0, false⟩, by decide +kernel⟩

theorem witness_RdsCompletes_1_2 : ∃ (ctx : Fin 104) (obs : RdsObs) (s : State) (place bits : Nat) (b : RdsBlk),
    (s.lane (rdsLane ctx.val)).inUse = true ∧
    (s.lane (rdsLane ctx.val)).sync = true ∧
    place = (s.rdsCtx ctx.val).place 0 ∧
    bits = (s.rdsCtx ctx.val).bits 0 obs ∧
    b = rdsReceive (rdsEcc s ctx.val) place bits ∧
    (rdsRbds s ctx.val = true → rdsRemainder bits ≠ 0) ∧
    (s.rdsCtx ctx.val).armedTo = none ∧
    (place = 1 → (s.rdsCtx ctx.val).foreign = none) ∧
    (((b.cls :: (s.rdsCtx ctx.val).recent).take 25).filter (fun k => k == 3)).length < 20 ∧
    (s.rdsCtx ctx.val).misplaced < 5 ∧
    (addBlock (groupOf (s.rdsCtx ctx.val) 0) place b).length < 4 :=
  ⟨3, (wRx (wBlock 0xD318 1 ^^^ 0x7000)), (wLive 3 wFull), 1, (wBlock 0xD318 1 ^^^ 0x7000), (rdsReceive (rdsEcc wFull 3) 1 (wBlock 0xD318 1 ^^^ 0x7000)), by decide +kernel⟩

theorem witness_RdsCompletes_2 : ∃ (ctx : Fin 104) (obs : RdsObs) (s : State) (g : List RdsBlk) (b : RdsBlk) (bits : Nat),
    (s.lane (rdsLane ctx.val)).inUse = true ∧
    (s.lane (rdsLane ctx.val)).sync = true ∧
    (s.rdsCtx ctx.val).place 0 = 4 ∧
    bits = (s.rdsCtx ctx.val).bits 0 obs ∧
    b = rdsReceive (rdsEcc s ctx.val) 4 bits ∧
    (rdsRbds s ctx.val = true → rdsRemainder bits ≠ 0) ∧
    (s.rdsCtx ctx.val).armedTo = none ∧
    (((b.cls :: (s.rdsCtx ctx.val).recent).take 25).filter (fun k => k == 3)).length < 20 ∧
    (s.rdsCtx ctx.val).misplaced < 5 ∧
    (groupOf (s.rdsCtx ctx.val) 0).length = 3 ∧
    g = groupOf (s.rdsCtx ctx.val) 0 ++ [b] ∧
    (groupBlk g 0).data = (s.rdsCtx ctx.val).record.pi ∧
    (groupBlk g 2).cPrime = false :=
  ⟨3, (wRx (wBlock 0x4142 4)), ((wLive 3 wFull).setRds 3 (fun x => { x with next := [(0, 4)], record := { pi := 0xD318, piValid := true }, group := [(0, [⟨0xD318, 0, false⟩, ⟨0x0408, 0, false⟩, ⟨0xE0CD, 0, false⟩])] })), [⟨0xD318, 0, false⟩, ⟨0x0408, 0, false⟩, ⟨0xE0CD, 0, false⟩, ⟨0x4142, 0, false⟩], ⟨0x4142, 0, false⟩, (wBlock 0x4142 4), by decide +kernel⟩

theorem witness_RdsCompletes_3 : ∃ (ctx : Fin 104) (obs : RdsObs) (s : State) (i : Nat) (p : Sprout) (bits : Nat) (b : RdsBlk),
    (s.lane (rdsLane ctx.val)).inUse = true ∧
    (s.lane (rdsLane ctx.val)).sync = false ∧
    rdsSprout s (rdsLane ctx.val) 0 = some i ∧
    bits = (s.rdsCtx ctx.val).bits 0 obs ∧
    p = (s.sprout i).search bits ∧
    b = rdsReceive 0 p.placeNow bits ∧
    (rdsRbds s ctx.val = true → rdsRemainder bits ≠ 0) :=
  ⟨1, (wRx (wBlock 0x4142 4)), (wPlanted 4 .rds 1 (wFull.setLane 1 (fun x => { x with state := .acquiring }))), 4, (((wPlanted 4 .rds 1 wFull).sprout 4).search (wBlock 0x4142 4)), (wBlock 0x4142 4), ⟨0x4142, 0, false⟩, by decide +kernel⟩

theorem witness_RdsCompletes_4 : ∃ (ctx : Fin 104) (s : State) (e : Nat),
    (s.rdsCtx ctx.val).armedTo = some e ∧
    e ≤ s.epoch :=
  ⟨8, (wFull.setRds 8 (fun x => { x with armedTo := some 0 })), 0, by decide +kernel⟩

theorem witness_RdsCompletes_5 : ∃ (lane : Fin 156) (s : State),
    (laneClass lane.val = .fm ∨ laneClass lane.val = .rds) ∧
    (s.rdsCtx (rdsIndex lane.val)).alarm = true ∧
    10000 ≤ (s.rdsCtx (rdsIndex lane.val)).outOfSync :=
  ⟨115, (wFull.setRds 103 (fun x => { x with alarm := true, outOfSync := 10000 })), by decide +kernel⟩

theorem witness_RdsCompletes_6 : ∃ (lane : Fin 156) (s : State),
    (laneClass lane.val = .dab ∨ laneClass lane.val = .fic) ∧
    (s.dabCtx (dabIndex lane.val)).alarm = true ∧
    10000 ≤ (s.dabCtx (dabIndex lane.val)).outOfSync :=
  ⟨131, (wFull.setDab 19 (fun x => { x with alarm := true, outOfSync := 10000 })), by decide +kernel⟩

theorem witness_FmUpkeepCompletes_1 : ∃ (n : Fin 8) (stream : Fin 4) (s : State),
    stream.val ≠ 0 ∧
    s.flag (Fld.FMF.CTRL.RDS2_EN n.val) = true ∧
    (s.lane n.val).sync = true ∧
    (s.rdsCtx n.val).upper.contains stream.val = false ∧
    s.receiving = true ∧
    s.mgr.waiting.any (fun r => r.kind == .rds && r.lane == n.val && r.stream == stream.val) = false ∧
    plantedSlots s (fun y => y.lane == n.val && y.kind == some .rds && y.stream == stream.val) = [] ∧
    20 ≤ (((s.rdsCtx n.val).carrier.find? (fun y => y.1 == stream.val)).map (fun y => y.2)).getD 0 :=
  ⟨7, 3, (((wLive 7 wFull).put (Fld.FMF.CTRL.RDS2_EN 7) true).setRds 7 (fun x => { x with carrier := [(3, 20)] })), by decide +kernel⟩

theorem witness_FmUpkeepCompletes_2 : ∃ (s : State),
    s.time % (10 * epochTicks) = 0 :=
  ⟨{ ((wLive 20 wFull).setRds 8 (fun x => { x with record := { pi := 0xD318, piValid := true, af := { expected := 1, entries := [⟨10, false, true, false, false⟩] } } })) with time := 16384000 }, by decide +kernel⟩

theorem witness_FmUpkeepCompletes_3_1 : ∃ (fifo : Fin 9) (v : Word) (s : State) (i : Nat),
    lets s (groupAckAddr fifo.val) = true ∧
    lowest (s.fifo fifo.val).groups.length (fun j => (((s.fifo fifo.val).groups[j]?).map (fun g => g.seq)) == some (fieldOf v 0 8)) = some i :=
  ⟨8, 254, { wFull with watchFifo := { groups := [⟨253, 0, [], false, 5, 0⟩, ⟨254, 0, [], false, 5, 0⟩, ⟨255, 0, [], false, 5, 0⟩] } }, 1, by decide +kernel⟩

theorem witness_FmUpkeepCompletes_3_2 : ∃ (fifo : Fin 9) (v : Word) (s : State) (i : Nat),
    lets s (groupAckAddr fifo.val) = true ∧
    lowest (s.fifo fifo.val).groups.length (fun j => (((s.fifo fifo.val).groups[j]?).map (fun g => g.seq)) == some (fieldOf v 0 8)) = some i :=
  ⟨7, 0, (wFull.setFifo 7 (fun _ => { groups := [⟨0, 0, [], true, 0, 0⟩] })), 0, by decide +kernel⟩

theorem witness_FmUpkeepCompletes_4 : ∃ (v : Word) (s : State) (l : AfList),
    lets s Reg.WRD.AF_SEL = true ∧
    fieldOf v 0 7 < 96 ∧
    l = (s.rdsCtx (8 + fieldOf v 0 7)).record.af :=
  ⟨95, (wFull.setRds 103 (fun x => { x with record := { af := { expected := 2, entries := [⟨10, false, true, false, false⟩, ⟨20, true, false, false, false⟩] } } })), { expected := 2, entries := [⟨10, false, true, false, false⟩, ⟨20, true, false, false, false⟩] }, by decide +kernel⟩

theorem witness_FmUpkeepCompletes_6 : ∃ (lane : Fin 14) (s : State) (q : QualSum),
    lane.val < 8 ∧
    s.time % (10 * epochTicks) = 0 ∧
    q = (s.fmLane lane.val).sum ∧
    q.used = true ∧
    q.epochs ≠ [] :=
  ⟨7, { (wFull.setFm 7 (fun x => { x with sum := { epochs := [⟨200, 160, 5, -3⟩, ⟨210, 150, 9, 4⟩], concealed := 1, used := true } })) with time := 1638400 }, { epochs := [⟨200, 160, 5, -3⟩, ⟨210, 150, 9, 4⟩], concealed := 1, used := true }, by decide +kernel⟩

theorem witness_FmUpkeepCompletes_7 : ∃ (lane : Fin 14) (s : State) (q : QualSum),
    lane.val < 8 ∧
    s.time % (10 * epochTicks) = 0 ∧
    q = (s.fmLane lane.val).sum ∧
    q.used = true ∧
    q.epochs = [] :=
  ⟨7, { (wFull.setFm 7 (fun x => { x with sum := { used := true } })) with time := 1638400 }, { used := true }, by decide +kernel⟩

theorem witness_FmUpkeepCompletes_8 : ∃ (lane : Fin 14) (s : State) (q : QualSum),
    8 ≤ lane.val ∧
    s.time % (10 * epochTicks) = 0 ∧
    q = (s.amLane (lane.val - 8)).sum ∧
    q.used = true ∧
    q.epochs ≠ [] :=
  ⟨13, { (wFull.setAm 5 (fun x => { x with sum := { epochs := [⟨200, 160, 5, -3⟩], blanked := 70000, used := true } })) with time := 1638400 }, { epochs := [⟨200, 160, 5, -3⟩], blanked := 70000, used := true }, by decide +kernel⟩

theorem witness_WatchAssignCompletes_1 : ∃ (tb : WatchTable) (v : Word) (s : State) (k : Nat),
    lets s (assignAddr tb) = true ∧
    autoWatch s (watchClass tb) = false ∧
    assignEntry tb v < s.get (Fld.LNM.CAPACITY.COUNT (watchClass tb).idx) ∧
    (s.lane ((watchClass tb).base + assignEntry tb v)).state ≠ .retired ∧
    assignKhz s tb v = some k ∧
    (tb = .fic → engineHolds s k = false) ∧
    s.receiving = true :=
  ⟨.rds, 0x0180F05F, (((wFull.setWord Reg.LNM.CTRL 0).set Fld.RGL.BAND_PLAN.BANDS 0xFF).set (Fld.LNM.CAPACITY.COUNT 4) 96), 98544, by decide +kernel⟩

theorem witness_WatchAssignCompletes_2_1 : ∃ (tb : WatchTable) (v : Word) (s : State),
    lets s (assignAddr tb) = true ∧
    (autoWatch s (watchClass tb) = true ∨ s.get (Fld.LNM.CAPACITY.COUNT (watchClass tb).idx) ≤ assignEntry tb v ∨
      (s.lane ((watchClass tb).base + assignEntry tb v)).state = .retired ∨ assignKhz s tb v = none) :=
  ⟨.fic, 0x00002610, wFull, by decide +kernel⟩

theorem witness_WatchAssignCompletes_2_2 : ∃ (tb : WatchTable) (v : Word) (s : State),
    lets s (assignAddr tb) = true ∧
    (autoWatch s (watchClass tb) = true ∨ s.get (Fld.LNM.CAPACITY.COUNT (watchClass tb).idx) ≤ assignEntry tb v ∨
      (s.lane ((watchClass tb).base + assignEntry tb v)).state = .retired ∨ assignKhz s tb v = none) :=
  ⟨.am, 0x00000018, wFull, by decide +kernel⟩

theorem witness_WatchAssignCompletes_3 : ∃ (tb : WatchTable) (v : Word) (s : State),
    lets s (assignAddr tb) = true ∧
    autoWatch s (watchClass tb) = false ∧
    assignEntry tb v < s.get (Fld.LNM.CAPACITY.COUNT (watchClass tb).idx) ∧
    (s.lane ((watchClass tb).base + assignEntry tb v)).state ≠ .retired ∧
    s.receiving = true :=
  ⟨.am, 23, ((wFull.setWord Reg.LNM.CTRL 0).set (Fld.LNM.CAPACITY.COUNT 6) 24), by decide +kernel⟩

theorem witness_WatchAssignCompletes_4 : ∃ (tb : WatchTable) (v : Word) (s : State),
    lets s (assignAddr tb) = true ∧
    (autoWatch s (watchClass tb) = true ∨ s.get (Fld.LNM.CAPACITY.COUNT (watchClass tb).idx) ≤ assignEntry tb v ∨
      (s.lane ((watchClass tb).base + assignEntry tb v)).state = .retired) :=
  ⟨.fic, 0x2610, wFull, by decide +kernel⟩

theorem witness_AmLanesComplete_1_1 : ∃ (n : Fin 6) (s : State),
    lets s (Reg.AMF.CTRL n.val) = true :=
  ⟨5, wFull, by decide +kernel⟩

theorem witness_AmLanesComplete_1_2 : ∃ (n : Fin 6) (s : State),
    lets s (Reg.AMF.CTRL n.val) = true :=
  ⟨0, wQuiet, by decide +kernel⟩

theorem witness_AmLanesComplete_2 : ∃ (n : Fin 6) (s : State),
    s.laneInUse (8 + n.val) = true ∧
    100 ≤ (s.amLane n.val).above :=
  ⟨5, ((wLive 13 wFull).setAm 5 (fun x => { x with above := 100 })), by decide +kernel⟩

theorem witness_AmLanesComplete_3 : ∃ (n : Fin 6) (s : State),
    20 ≤ (s.amLane n.val).below :=
  ⟨0, ((wLive 8 (wFull.put (Fld.AMF.STAT.LOCK 0) true)).setAm 0 (fun x => { x with below := 20 })), by decide +kernel⟩

theorem witness_AmLanesComplete_4 : ∃ (lane : Fin 30) (obs : AmssObs) (s : State),
    lane.val < 6 ∧
    (s.lane (8 + lane.val)).live = true ∧
    s.flag (Fld.AMF.CTRL.AMSS_EN lane.val) = true ∧
    s.flag (Fld.AMF.STAT.LOCK lane.val) = true ∧
    obs.ok = false :=
  ⟨5, ⟨false, 0, 0, none⟩, (((wLive 13 wFull).put (Fld.AMF.CTRL.AMSS_EN 5) true).put (Fld.AMF.STAT.LOCK 5) true), by decide +kernel⟩

theorem witness_AmLanesComplete_5 : ∃ (lane : Fin 30) (obs : AmssObs) (s : State),
    lane.val < 6 ∧
    (s.lane (8 + lane.val)).live = true ∧
    s.flag (Fld.AMF.CTRL.AMSS_EN lane.val) = true ∧
    s.flag (Fld.AMF.STAT.LOCK lane.val) = true ∧
    obs.ok = true ∧
    (s.amLane lane.val).fifo.length < 16 ∧
    (obs.ident.isSome = true → (s.amLane lane.val).amss.candidate ≠ obs.ident) :=
  ⟨2, ⟨true, 0x123456789ABC, 0, some (0xD318, 4)⟩, (((wLive 10 wFull).put (Fld.AMF.CTRL.AMSS_EN 2) true).put (Fld.AMF.STAT.LOCK 2) true), by decide +kernel⟩

theorem witness_AmLanesComplete_6 : ∃ (lane : Fin 30) (obs : AmssObs) (s : State) (id : Nat × Nat),
    lane.val < 6 ∧
    (s.lane (8 + lane.val)).live = true ∧
    s.flag (Fld.AMF.CTRL.AMSS_EN lane.val) = true ∧
    s.flag (Fld.AMF.STAT.LOCK lane.val) = true ∧
    obs.ok = true ∧
    obs.ident = some id ∧
    (s.amLane lane.val).amss.candidate = some id ∧
    (s.word (Reg.AMF.AMSS_SI lane.val)).getLsbD 28 = false :=
  ⟨2, ⟨true, 0, 0, some (0xD318, 4)⟩, ((((wLive 10 wFull).put (Fld.AMF.CTRL.AMSS_EN 2) true).put (Fld.AMF.STAT.LOCK 2) true).setAm 2 (fun x => { x with amss := { candidate := some (0xD318, 4) } })), (0xD318, 4), by decide +kernel⟩

theorem witness_AmLanesComplete_7 : ∃ (lane : Fin 30) (obs : AmssObs) (s : State) (id : Nat × Nat),
    6 ≤ lane.val ∧
    (s.lane (126 + lane.val)).live = true ∧
    s.flag (Fld.WAM.A_W0.CARRIER (lane.val - 6)) = true ∧
    obs.ok = true ∧
    obs.ident = some id ∧
    (s.watchAm (lane.val - 6)).amss.candidate = some id :=
  ⟨29, ⟨true, 0, 0, some (0xD318, 4)⟩, (((wLive 155 wFull).put (Fld.WAM.A_W0.CARRIER 23) true).setWatchAm 23 (fun x => { x with amss := { candidate := some (0xD318, 4) } })), (0xD318, 4), by decide +kernel⟩

theorem witness_AmLanesComplete_8 : ∃ (n : Fin 6) (v : Word) (s : State) (i : Nat),
    lets s (Reg.AMF.AMSS_ACK n.val) = true ∧
    lowest (s.amLane n.val).fifo.length (fun j => (((s.amLane n.val).fifo[j]?).map (fun r => r.seq)) == some (fieldOf v 0 8)) = some i :=
  ⟨5, 0x101, (wFull.setAm 5 (fun x => { x with fifo := [⟨0, 1, 0, 3⟩, ⟨1, 2, 0, 4⟩] })), 1, by decide +kernel⟩

theorem witness_AmWatchCompletes_1 : ∃ (a : Fin 24) (s : State),
    (s.lane (132 + a.val)).live = true ∧
    200 ≤ (s.watchAm a.val).above ∧
    s.flag (Fld.WAM.A_W0.CARRIER a.val) = false :=
  ⟨23, ((wLive 155 wFull).setWatchAm 23 (fun x => { x with above := 200 })), by decide +kernel⟩

theorem witness_AmWatchCompletes_2 : ∃ (a : Fin 24) (s : State),
    200 ≤ (s.watchAm a.val).below :=
  ⟨0, (((wLive 132 wFull).put (Fld.WAM.A_W0.CARRIER 0) true).setWatchAm 0 (fun x => { x with below := 200 })), by decide +kernel⟩

theorem witness_AmWatchCompletes_3_1 : ∃ (a : Fin 24) (mode : Option (Fin 4)) (s : State) (m : Fin 4),
    mode = some m ∧
    (s.lane (132 + a.val)).live = true :=
  ⟨3, some 2, ((wLive 135 wFull).setWatchAm 3 (fun x => { x with lastMode := some 2 })), 2, by decide +kernel⟩

theorem witness_AmWatchCompletes_3_2 : ∃ (a : Fin 24) (mode : Option (Fin 4)) (s : State) (m : Fin 4),
    mode = some m ∧
    (s.lane (132 + a.val)).live = true :=
  ⟨3, some 1, (wLive 135 wFull), 1, by decide +kernel⟩

theorem witness_AmWatchCompletes_4 : ∃ (a : Fin 24) (s : State),
    (s.lane (132 + a.val)).live = true :=
  ⟨3, ((wLive 135 wFull).setWatchAm 3 (fun x => { x with lastMode := some 2, misses := 4 })), by decide +kernel⟩

theorem witness_DrmCompletes_1_1 : ∃ (n : Fin 2) (obs : DrmObs) (s : State),
    (s.lane (18 + n.val)).live = true ∧
    obs.texts = [] ∧
    obs.data = [] ∧
    obs.sdc = none :=
  ⟨1, ⟨false, some ⟨0, 3, false, 1, 0, 1, false⟩, none, false, 5, 200, 60, 50, -7, 3, 9, none, [], []⟩, (wLive 19 wFull), by decide +kernel⟩

theorem witness_DrmCompletes_1_2 : ∃ (n : Fin 2) (obs : DrmObs) (s : State),
    (s.lane (18 + n.val)).live = true ∧
    obs.texts = [] ∧
    obs.data = [] ∧
    obs.sdc = none :=
  ⟨0, ⟨false, none, none, false, 0, 0, 0, 0, 0, 0, 0, none, [], []⟩, (wLive 18 wFull), by decide +kernel⟩

theorem witness_DrmCompletes_2 : ∃ (n : Fin 2) (obs : DrmObs) (s : State) (svcs : List DrmSvcObs),
    (s.lane (18 + n.val)).live = true ∧
    obs.sdc = some (true, svcs) :=
  ⟨1, ⟨false, some ⟨0, 3, false, 1, 0, 1, false⟩, some (true, [⟨2, 0xD318, true, false, 4, 10, 0, true, false, none⟩]), false, 5, 200, 60, 50, -7, 3, 9, none, [⟨2, true, some [72, 105]⟩], []⟩, (wLive 19 wFull), [⟨2, 0xD318, true, false, 4, 10, 0, true, false, none⟩], by decide +kernel⟩

theorem witness_DrmCompletes_3 : ∃ (n : Fin 2) (k : Fin 4) (s : State),
    lets s (Reg.DRM.SVC_SEL n.val k.val) = true ∧
    s.pwr.mode ≠ .full :=
  ⟨1, 3, wQuiet, by decide +kernel⟩

theorem witness_DrmCompletes_4_1 : ∃ (n : Fin 2) (k : Fin 4) (s : State),
    lets s (Reg.DRM.SVC_SEL n.val k.val) = true ∧
    s.pwr.mode = .full :=
  ⟨1, 3, (((wLive 19 wFull).put (Fld.DRM.STAT.SDC_VALID 1) true).setWord (Reg.DRM.SVC_STAT 1 3) 0x14), by decide +kernel⟩

theorem witness_DrmCompletes_4_2 : ∃ (n : Fin 2) (k : Fin 4) (s : State),
    lets s (Reg.DRM.SVC_SEL n.val k.val) = true ∧
    s.pwr.mode = .full :=
  ⟨1, 3, ((((wLive 19 wFull).put (Fld.DRM.STAT.SDC_VALID 1) true).set (Fld.LNM.CAPACITY.COUNT 7) 8).setDrm 1 (fun x => { x with services := [⟨2, 0xD318, true, false, 4, 10, 0, true, false⟩] })), by decide +kernel⟩

theorem witness_DrmCompletes_5 : ∃ (s : State) (u : DecUser) (rest : List DecUser) (c : Nat),
    s.time % epochTicks = 0 ∧
    s.decWait = u :: rest ∧
    rest.contains u = false ∧
    mayDecode s u = true ∧
    freeDecoder s = some c :=
  ⟨{ (wFull.set (Fld.LNM.CAPACITY.COUNT 7) 8) with decWait := [⟨true, 1, 3⟩, ⟨false, 0, 0⟩] }, ⟨true, 1, 3⟩, [⟨false, 0, 0⟩], 0, by decide +kernel⟩

theorem witness_DrmCompletes_6 : ∃ (n : Fin 2) (k : Fin 4) (s : State),
    s.flag (Fld.DRM.SVC_STAT.DECODING n.val k.val) = true ∧
    (s.lane (18 + n.val)).live = true :=
  ⟨1, 3, ((wLive 19 wFull).put (Fld.DRM.SVC_STAT.DECODING 1 3) true), by decide +kernel⟩

theorem witness_DabFramesComplete_1_1 : ∃ (lane : Fin 20) (obs : DabObs) (s : State),
    lane.val < 4 ∧
    (s.lane (14 + lane.val)).live = true ∧
    (s.lane (14 + lane.val)).sync = true ∧
    obs.packets = [] ∧
    obs.data = [] :=
  ⟨3, ⟨0, true, [true, true, false], 17, 240, 60, -3, 12, 40, 100, [], []⟩, (wLive 17 wFull), by decide +kernel⟩

theorem witness_DabFramesComplete_1_2 : ∃ (lane : Fin 20) (obs : DabObs) (s : State),
    lane.val < 4 ∧
    (s.lane (14 + lane.val)).live = true ∧
    (s.lane (14 + lane.val)).sync = true ∧
    obs.packets = [] ∧
    obs.data = [] :=
  ⟨0, ⟨81920, false, [false, false, false], 17, 240, 60, -3, 12, 40, 100, [], []⟩, ((wLive 14 wFull).setDab 0 (fun x => { x with nullMisses := 3 })), by decide +kernel⟩

theorem witness_DabFramesComplete_2 : ∃ (lane : Fin 20) (s : State),
    4 ≤ lane.val ∧
    (s.lane (112 + lane.val)).live = true ∧
    (s.lane (112 + lane.val)).sync = true :=
  ⟨19, (wLive 131 wFull), by decide +kernel⟩

theorem witness_DabFramesComplete_3_1 : ∃ (lane : Fin 20) (s : State),
    ((s.lane (dabLane lane.val)).live = false ∨ (s.lane (dabLane lane.val)).sync = false) :=
  ⟨19, wFull, by decide +kernel⟩

theorem witness_DabFramesComplete_3_2 : ∃ (lane : Fin 20) (s : State),
    ((s.lane (dabLane lane.val)).live = false ∨ (s.lane (dabLane lane.val)).sync = false) :=
  ⟨3, (wPlanted 4 .dab 17 (wFull.setLane 17 (fun x => { x with state := .acquiring, path := .b3, khz := 178352 }))), by decide +kernel⟩

theorem witness_DatabaseCompletes_1 : ∃ (lane : Fin 20) (s : State),
    laneBlock s (dabLane lane.val) ≠ 63 ∧
    (s.lane (dabLane lane.val)).live = true ∧
    (s.lane (dabLane lane.val)).sync = true :=
  ⟨19, ((wLive 131 wFull).setLane 131 (fun x => { x with khz := 178352 })), by decide +kernel⟩

theorem witness_DatabaseCompletes_2 : ∃ (lane : Fin 20) (s : State) (e : Ensemble),
    (s.lane (dabLane lane.val)).live = true ∧
    (s.lane (dabLane lane.val)).sync = true ∧
    laneBlock s (dabLane lane.val) ≠ 63 ∧
    ensembleOf s (laneBlock s (dabLane lane.val)) = some e :=
  ⟨0, { ((wLive 14 wFull).setLane 14 (fun x => { x with khz := 178352 })) with ens := [{ block := 2, eid := 0x1234, seenAt := 0 }] }, { block := 2, eid := 0x1234, seenAt := 0 }, by decide +kernel⟩

theorem witness_DatabaseCompletes_3 : ∃ (lane : Fin 20) (s : State),
    laneBlock s (dabLane lane.val) ≠ 63 ∧
    ((s.lane (dabLane lane.val)).live = false ∨ (s.lane (dabLane lane.val)).sync = false) ∧
    dabSprout s (dabLane lane.val) = true :=
  ⟨19, ((wPlanted 8 .dab 131 wFull).setLane 131 (fun x => { x with state := .acquiring, khz := 178352 })), by decide +kernel⟩

theorem witness_DatabaseCompletes_4 : ∃ (lane : Fin 20) (s : State),
    (s.dabCtx lane.val).alarm = true ∧
    (s.dabCtx lane.val).aswEpoch + 2000 ≤ s.epoch :=
  ⟨5, { (wFull.setDab 5 (fun x => { x with alarm := true, aswEpoch := 3 })) with time := 328171520 }, by decide +kernel⟩

theorem witness_DatabaseCompletes_5 : ∃ (block : Nat) (s : State) (e : Ensemble),
    ensembleOf s block = some e ∧
    e.changeCif.isSome = true :=
  ⟨2, { ((wLive 17 wFull).setLane 17 (fun x => { x with khz := 178352 })) with ens := [{ block := 2, subchs := [⟨1, 0, 84, 3, true, false, 12⟩], nextSubchs := [⟨4, 0, 60, 3, true, false, 10⟩], nextServices := [{ sid := 7 }], changeCif := some 250, changeFlags := 3 }] }, { block := 2, subchs := [⟨1, 0, 84, 3, true, false, 12⟩], nextSubchs := [⟨4, 0, 60, 3, true, false, 10⟩], nextServices := [{ sid := 7 }], changeCif := some 250, changeFlags := 3 }, by decide +kernel⟩

theorem witness_DatabaseCompletes_6 : ∃ (block sid : Nat) (s : State) (e : Ensemble),
    ensembleOf s block = some e ∧
    e.services.any (fun x => x.sid == sid && decide (30000 ≤ x.unseen)) = true :=
  ⟨2, 7, { wFull with ens := [{ block := 2, services := [{ sid := 7, unseen := 30000 }, { sid := 8 }] }] }, { block := 2, services := [{ sid := 7, unseen := 30000 }, { sid := 8 }] }, by decide +kernel⟩

theorem witness_DatabaseCompletes_7 : ∃ (block : Nat) (s : State) (e : Ensemble),
    ensembleOf s block = some e ∧
    s.get Fld.WFC.DB_HOLD.SECONDS ≤ (s.epoch - e.seenAt) / 1000 :=
  ⟨2, { ((wFull.set Fld.WFC.DB_HOLD.SECONDS 60)) with ens := [{ block := 2, seenAt := 5 }, { block := 3 }], links := [{ lsn := 1, hard := true, ils := false, key := 7, suppliers := [2] }], time := 9831219200 }, { block := 2, seenAt := 5 }, by decide +kernel⟩

theorem witness_DatabaseCompletes_8 : ∃ (index : Nat) (s : State) (x : LinkSet),
    s.links[index]? = some x ∧
    120000 ≤ x.unseen :=
  ⟨1, { wFull with links := [{ lsn := 1, hard := true, ils := false, key := 7 }, { lsn := 2, hard := true, ils := false, key := 9, unseen := 120000 }] }, { lsn := 2, hard := true, ils := false, key := 9, unseen := 120000 }, by decide +kernel⟩

theorem witness_DabSelectionsComplete_1 : ∃ (n : Fin 4) (k : Fin 6) (ctrl : Bool) (s : State),
    lets s (selAddr n.val k.val ctrl) = true ∧
    s.pwr.mode ≠ .full :=
  ⟨3, 5, false, wQuiet, by decide +kernel⟩

theorem witness_DabSelectionsComplete_2_1 : ∃ (n : Fin 4) (k : Fin 6) (ctrl : Bool) (s : State),
    lets s (selAddr n.val k.val ctrl) = true ∧
    s.pwr.mode = .full :=
  ⟨3, 5, true, ((wLive 17 wFull).setWord (Reg.DAB.SEL_STAT 3 5) 0x441), by decide +kernel⟩

theorem witness_DabSelectionsComplete_2_2 : ∃ (n : Fin 4) (k : Fin 6) (ctrl : Bool) (s : State),
    lets s (selAddr n.val k.val ctrl) = true ∧
    s.pwr.mode = .full :=
  ⟨3, 0, true, { ((((wLive 17 wFull).setLane 17 (fun x => { x with khz := 178352 })).set (Fld.DAB.SEL_SID.SID 3 0) 7).set (Fld.LNM.CAPACITY.COUNT 7) 8) with ens := [{ block := 2, subchs := [⟨1, 0, 84, 3, true, false, 12⟩], services := [{ sid := 7, comps := [⟨0, 0, 63, 1, false, 0, true⟩] }] }] }, by decide +kernel⟩

theorem witness_DabSelectionsComplete_3_1 : ∃ (n : Fin 4) (k : Fin 6) (ok : Bool) (scfErrors ms : Nat) (s : State) (bad : Bool),
    decodes s n.val k.val = true ∧
    bad = (!ok || decide (0 < scfErrors) || (decide (0 < ms / 24) && decide (ms / 24 ≤ (at' (s.dabCtx n.val).sels k.val {}).refill))) :=
  ⟨3, 5, true, 2, 24, ((wLive 17 wFull).put (Fld.DAB.SEL_STAT.DECODING 3 5) true), true, by decide +kernel⟩

theorem witness_DabSelectionsComplete_3_2 : ∃ (n : Fin 4) (k : Fin 6) (ok : Bool) (scfErrors ms : Nat) (s : State) (bad : Bool),
    decodes s n.val k.val = true ∧
    bad = (!ok || decide (0 < scfErrors) || (decide (0 < ms / 24) && decide (ms / 24 ≤ (at' (s.dabCtx n.val).sels k.val {}).refill))) :=
  ⟨0, 0, true, 0, 24, ((wLive 14 wFull).put (Fld.DAB.SEL_STAT.DECODING 0 0) true), false, by decide +kernel⟩

theorem witness_DabSelectionsComplete_3_3 : ∃ (n : Fin 4) (k : Fin 6) (ok : Bool) (scfErrors ms : Nat) (s : State) (bad : Bool),
    decodes s n.val k.val = true ∧
    bad = (!ok || decide (0 < scfErrors) || (decide (0 < ms / 24) && decide (ms / 24 ≤ (at' (s.dabCtx n.val).sels k.val {}).refill))) :=
  ⟨0, 0, true, 0, 24, (((wLive 14 wFull).put (Fld.DAB.SEL_STAT.DECODING 0 0) true).setDab 0 (fun x => { x with sels := upd x.sels 0 (fun y => { y with refill := 16 }) })), true, by decide +kernel⟩

theorem witness_DabSelectionsComplete_4_1 : ∃ (n : Fin 4) (k : Fin 6) (obs : SuperframeObs) (s : State) (on : Bool),
    decodes s n.val k.val = true ∧
    s.flag (Fld.DAB.SEL_STAT.DABPLUS n.val k.val) = true ∧
    otherPhase s n.val k.val obs = false ∧
    obs.dls = [] ∧
    obs.data = [] ∧
    on = ((at' (s.dabCtx n.val).sels k.val {}).firecode (s.flag (Fld.DAB.SEL_STAT.SF_SYNC n.val k.val)) obs.phase obs.firecode).2 :=
  ⟨3, 5, ⟨2, true, [(3, 2), (6, 0)], [true, false, true], 40, 1, true, false, true, [], []⟩, (((((wLive 17 wFull).put (Fld.DAB.SEL_STAT.DECODING 3 5) true).put (Fld.DAB.SEL_STAT.DABPLUS 3 5) true).put (Fld.DAB.SEL_STAT.SF_SYNC 3 5) true).setDab 3 (fun x => { x with sels := upd x.sels 5 (fun y => { y with phase := some 2 }) })), true, by decide +kernel⟩

theorem witness_DabSelectionsComplete_4_2 : ∃ (n : Fin 4) (k : Fin 6) (obs : SuperframeObs) (s : State) (on : Bool),
    decodes s n.val k.val = true ∧
    s.flag (Fld.DAB.SEL_STAT.DABPLUS n.val k.val) = true ∧
    otherPhase s n.val k.val obs = false ∧
    obs.dls = [] ∧
    obs.data = [] ∧
    on = ((at' (s.dabCtx n.val).sels k.val {}).firecode (s.flag (Fld.DAB.SEL_STAT.SF_SYNC n.val k.val)) obs.phase obs.firecode).2 :=
  ⟨0, 0, ⟨4, true, [], [true, false, true], 40, 1, true, false, true, [], []⟩, (((wLive 14 wFull).put (Fld.DAB.SEL_STAT.DECODING 0 0) true).put (Fld.DAB.SEL_STAT.DABPLUS 0 0) true), false, by decide +kernel⟩

theorem witness_QueuesComplete_1 : ∃ (port : Port) (q : Fin 16) (v : Word) (s : State),
    lets s (Reg.SDQ.QCFG q.val) = true ∧
    queueUnits (s.setWord (Reg.SDQ.QCFG q.val) (afterWrite s port (Reg.SDQ.QCFG q.val) v)) ≤ 384 - s.flt.queueLost :=
  ⟨.spi, 15, 0x00A00401, wFull, by decide +kernel⟩

theorem witness_QueuesComplete_2 : ∃ (port : Port) (q : Fin 16) (v : Word) (s : State),
    lets s (Reg.SDQ.QCFG q.val) = true ∧
    384 - s.flt.queueLost < queueUnits (s.setWord (Reg.SDQ.QCFG q.val) (afterWrite s port (Reg.SDQ.QCFG q.val) v)) :=
  ⟨.spi, 15, 0x00A10001, (wFull.set (Fld.SDQ.QCFG.SIZE 0) 256), by decide +kernel⟩

theorem witness_QueuesComplete_3 : ∃ (q : Fin 16) (v : Word) (s : State) (i : Nat),
    lets s (Reg.SDQ.QACK q.val) = true ∧
    lowest (at' s.queues q.val {}).recs.length (fun j => (((at' s.queues q.val {}).recs[j]?).map (fun r => r.seq)) == some (fieldOf v 0 16)) = some i :=
  ⟨0, 0xFFFF, { wFull with queues := upd wFull.queues 0 (fun x => { x with recs := [⟨0xFFFF, 1, 0, 7, 3, []⟩, ⟨0, 1, 0, 7, 3, [1]⟩] }) }, 0, by decide +kernel⟩

theorem witness_SlotControlCompletes_1 : ∃ (n : Fin 4) (s : State),
    lets s (Reg.PGM.CTRL n.val) = true :=
  ⟨3, wFull, by decide +kernel⟩

theorem witness_SlotControlCompletes_2 : ∃ (n : Fin 4) (s : State),
    lets s (Reg.PGM.CTRL n.val) = true ∧
    s.flag (Fld.PGM.CTRL.EN n.val) = true :=
  ⟨3, ((wFull.put (Fld.PGM.CTRL.EN 3) true).setSlot 3 (fun x => { x with owned := [(1, ⟨1, 98500, 7⟩, 3)] }) |>.set (Fld.PGM.SRC_STAT.STATE 3 0) 3 |>.set (Fld.PGM.SRC_STAT.STATE 3 1) 3), by decide +kernel⟩

theorem witness_SlotControlCompletes_3_1 : ∃ (n : Fin 4) (v : Word) (s : State),
    lets s (Reg.PGM.CTRL n.val) = true ∧
    (s.flag (Fld.PGM.CTRL.EN n.val) = true → v.getLsbD 0 = true) :=
  ⟨3, 0x00000001, wFull, by decide +kernel⟩

theorem witness_SlotControlCompletes_3_2 : ∃ (n : Fin 4) (v : Word) (s : State),
    lets s (Reg.PGM.CTRL n.val) = true ∧
    (s.flag (Fld.PGM.CTRL.EN n.val) = true → v.getLsbD 0 = true) :=
  ⟨0, 0x00000003, (wFull.put (Fld.PGM.CTRL.EN 0) true), by decide +kernel⟩

theorem witness_SlotControlCompletes_4 : ∃ (n : Fin 4) (v : Word) (s : State),
    lets s (Reg.PGM.CTRL n.val) = true ∧
    (s.flag (Fld.PGM.CTRL.EN n.val) = true → v.getLsbD 0 = true) :=
  ⟨3, 0x00000001, (wFull.put (Fld.PGM.CTRL.EN 3) true), by decide +kernel⟩

theorem witness_SlotControlCompletes_5_1 : ∃ (n k : Fin 4) (s : State),
    lets s (Reg.PGM.SRC n.val k.val) = true :=
  ⟨0, 3, (wFull.setSlot 0 (fun x => { x with owned := [(1, ⟨1, 98500, 7⟩, 3)] })), by decide +kernel⟩

theorem witness_SlotControlCompletes_5_2 : ∃ (n k : Fin 4) (s : State),
    lets s (Reg.PGM.SRC n.val k.val) = true :=
  ⟨0, 1, (wFull.setSlot 0 (fun x => { x with owned := [(1, ⟨1, 98500, 7⟩, 3)] })), by decide +kernel⟩

theorem witness_AlignmentCompletes_1 : ∃ (n k : Fin 4) (s : State) (i : Nat) (lag : Int),
    (joinsOf s n.val k.val).head? = some i ∧
    (s.src n.val k.val).agree < 2 ∧
    (s.src n.val k.val).delivering = true ∧
    (s.src n.val k.val).coarseAt.all (fun e => decide (e + 500 ≤ s.epoch)) = true ∧
    coarseSearch (s.src n.val k.val).contour (s.slot n.val).contour = some lag :=
  ⟨0, 1, ((wPlanted 4 .join 0 wFull).setSprout 4 (fun x => { x with src := 1 }) |>.setSlot 0 (fun x => { x with contour := wContour }) |>.setSrc 0 1 (fun x => { x with delivering := true, coarse := some (-5), agree := 1, contour := wContour })), 4, 0, by decide +kernel⟩

theorem witness_AlignmentCompletes_2 : ∃ (n k : Fin 4) (s : State),
    joinsOf s n.val k.val ≠ [] ∧
    (s.src n.val k.val).agree < 2 ∧
    (s.src n.val k.val).delivering = true ∧
    (s.src n.val k.val).coarseAt.all (fun e => decide (e + 500 ≤ s.epoch)) = true ∧
    coarseSearch (s.src n.val k.val).contour (s.slot n.val).contour = none :=
  ⟨0, 1, ((wPlanted 4 .join 0 wFull).setSprout 4 (fun x => { x with src := 1 }) |>.setSrc 0 1 (fun x => { x with delivering := true, coarse := some 111, agree := 1 })), by decide +kernel⟩

theorem witness_AlignmentCompletes_3 : ∃ (obs : FineObs) (s : State),
    (s.src obs.pgm.val obs.src.val).delivering = true ∧
    (s.src obs.pgm.val obs.src.val).fresh = false ∧
    inSlot s obs.pgm.val obs.src.val = false ∧
    joinsOf s obs.pgm.val obs.src.val ≠ [] ∧
    2 ≤ (s.src obs.pgm.val obs.src.val).agree ∧
    (joinsOf s obs.pgm.val obs.src.val).any (fun i => (s.sprout i).met) = false ∧
    (s.src obs.pgm.val obs.src.val).trackedAt.all (fun e => decide (e + 100 ≤ s.epoch)) = true ∧
    (obs.arrival - (s.src obs.pgm.val obs.src.val).place).natAbs ≤ 96 * 256 :=
  ⟨⟨0, 1, 30720, 850, 3⟩, ((wPlanted 4 .join 0 wFull).setSprout 4 (fun x => { x with src := 1 }) |>.setSlot 0 (fun x => { x with srcs := upd x.srcs 0 (fun y => { y with contour := [-2000] }) }) |>.setSrc 0 1 (fun x => { x with delivering := true, agree := 2, place := 55296, contour := [-2500] })), by decide +kernel⟩

theorem witness_AlignmentCompletes_4 : ∃ (obs : FineObs) (s : State),
    (s.src obs.pgm.val obs.src.val).delivering = true ∧
    (s.src obs.pgm.val obs.src.val).fresh = false ∧
    inSlot s obs.pgm.val obs.src.val = true ∧
    joining s obs.pgm.val obs.src.val = false ∧
    isAip s obs.pgm.val obs.src.val = false ∧
    (s.src obs.pgm.val obs.src.val).trackedAt.all (fun e => decide (e + 100 ≤ s.epoch)) = true ∧
    500 ≤ obs.corr ∧
    (obs.arrival - (s.src obs.pgm.val obs.src.val).arrival).natAbs ≤ 24576 :=
  ⟨⟨3, 2, 1000, 850, 3⟩, (((wFull.set (Fld.PGM.SRC_STAT.STATE 3 2) 3).setSrc 3 2 (fun x => { x with delivering := true, gain := 4, contour := [-2500] })).set (Fld.PGM.SRC_STAT.BLOCKS 3 2) 64), by decide +kernel⟩

theorem witness_AlignmentCompletes_5 : ∃ (slot : Fin 32) (s : State) (n k : Nat) (goal : Int),
    (s.sprout slot.val).state = .planted ∧
    (s.sprout slot.val).met = false ∧
    (s.sprout slot.val).kind = some .join ∧
    n = (s.sprout slot.val).pgm ∧
    k = (s.sprout slot.val).src ∧
    n < 4 ∧
    k < 4 ∧
    (s.src n k).holdFrom.any (fun e => decide (e + 500 ≤ s.epoch)) = true ∧
    2 ≤ (s.src n k).agree ∧
    (checkIdentity s n k).isSome = true ∧
    isAip s n k = false ∧
    (s.src n k).gainOk = true ∧
    joinedNow s = [] ∧
    goal = max (s.slot n).goal (1000 * (s.src n k).arrival) ∧
    ((joinBlocks s n k goal).map (fun z => z.2 - heldBlocks s n z.1)).sum ≤ poolFree s :=
  ⟨9, ((((wPlanted 9 .join 0 wFull).setSprout 9 (fun x => { x with pgm := 3, src := 2 })).set (Fld.PGM.POOL_TOTAL.TOTAL 0) 4095).put (Fld.PGM.SRC.TRUST 3 2) true |>.setSrc 3 2 (fun x => { x with agree := 2, holdFrom := some 0, gainOk := true, arrival := 10 }) |> fun s => { s with time := 81920000 }), 3, 2, 10000, by decide +kernel⟩

theorem witness_AlignmentCompletes_6 : ∃ (n k : Fin 4) (s : State),
    srcState s n.val k.val = srcRefused ∧
    srcReason s n.val k.val ≠ whyInvalid ∧
    srcReason s n.val k.val ≠ whyDup ∧
    ((s.src n.val k.val).retryAt.any (fun e => decide (e ≤ s.epoch)) = true ∨ (s.src n.val k.val).ready = true) ∧
    ((s.src n.val k.val).delivering = false ∨ members s n.val = []) :=
  ⟨3, 2, ((wFull.set (Fld.PGM.SRC_STAT.STATE 3 2) 5).set (Fld.PGM.SRC_STAT.REASON 3 2) 4 |>.setSrc 3 2 (fun x => { x with retryAt := some 0 })), by decide +kernel⟩

theorem witness_AlignmentCompletes_7 : ∃ (n k : Fin 4) (s : State),
    srcState s n.val k.val = srcRefused ∧
    srcReason s n.val k.val ≠ whyInvalid ∧
    srcReason s n.val k.val ≠ whyDup ∧
    (s.src n.val k.val).ready = true ∧
    (s.src n.val k.val).delivering = true ∧
    members s n.val ≠ [] ∧
    s.receiving = true ∧
    identityOf s n.val k.val = none :=
  ⟨0, 1, ((((wFull.set (Fld.PGM.SRC_STAT.STATE 0 1) 5).set (Fld.PGM.SRC_STAT.REASON 0 1) 4).set (Fld.PGM.SRC_STAT.STATE 0 0) 3).setSrc 0 1 (fun x => { x with ready := true, delivering := true })), by decide +kernel⟩

theorem witness_SourcesMoveCompletes_1 : ∃ (n k : Fin 4) (s : State),
    onBoundary s = true ∧
    srcState s n.val k.val = srcPending ∧
    (s.src n.val k.val).later = false ∧
    delayAt s n.val k.val (s.slot n.val).timeline ≤ epochUnits * (s.epoch - (s.src n.val k.val).since) :=
  ⟨3, 2, (wFull.set (Fld.PGM.SRC_STAT.STATE 3 2) 2), by decide +kernel⟩

theorem witness_SourcesMoveCompletes_2 : ∃ (n : Fin 4) (s : State),
    onBoundary s = true ∧
    (s.slot n.val).slew = 0 :=
  ⟨1, ((wFull.set (Fld.PGM.SRC_STAT.STATE 1 2) 2).put (Fld.PGM.STAT.SLEWING 1) true |>.setSrc 1 2 (fun x => { x with later := true })), by decide +kernel⟩

theorem witness_SourcesMoveCompletes_3 : ∃ (n : Fin 4) (s : State) (e k : Nat),
    (s.slot n.val).heldTo = some e ∧
    e ≤ s.epoch ∧
    s.flag (Fld.PGM.STAT.TIMELINE_HELD n.val) = true ∧
    latestSource s n.val = some k ∧
    (s.slot n.val).slew = 0 ∧
    s.get (Fld.PGM.BLEND.SLEW n.val) ≠ 0 :=
  ⟨2, ((((wFull.put (Fld.PGM.STAT.TIMELINE_HELD 2) true).set (Fld.PGM.BLEND.SLEW 2) 2).set (Fld.PGM.SRC_STAT.STATE 2 0) 3).setSlot 2 (fun x => { x with heldTo := some 0, timeline := 500000 })), 0, 0, by decide +kernel⟩

theorem witness_SourcesMoveCompletes_4 : ∃ (n k : Fin 4) (s : State),
    onBoundary s = true ∧
    srcState s n.val k.val = srcIn ∧
    20 ≤ (s.src n.val k.val).below :=
  ⟨0, 3, ((wFull.set (Fld.PGM.SRC_STAT.STATE 0 3) 3).setSrc 0 3 (fun x => { x with below := 20 })), by decide +kernel⟩

theorem witness_SourcesMoveCompletes_5 : ∃ (n k : Fin 4) (s : State),
    onBoundary s = true ∧
    srcState s n.val k.val = srcOut ∧
    srcReason s n.val k.val = whyFloor ∧
    300 ≤ (s.src n.val k.val).above :=
  ⟨0, 3, (((wFull.set (Fld.PGM.SRC_STAT.STATE 0 3) 4).set (Fld.PGM.SRC_STAT.REASON 0 3) 9).setSrc 0 3 (fun x => { x with above := 300 })), by decide +kernel⟩

theorem witness_OutputCompletes_1 : ∃ (n : Fin 4) (s : State) (k : Nat),
    onBoundary s = true ∧
    s.get (Fld.PGM.STAT.MODE_NOW n.val) = 1 ∧
    (insOf s n.val).contains (s.get (Fld.PGM.STAT.SELECTED n.val)) = true ∧
    bestOf s n.val ((insOf s n.val).filter (fun j => decide (300 ≤ (s.src n.val j).better))) = some k :=
  ⟨3, (((((wFull.set (Fld.PGM.STAT.MODE_NOW 3) 1).set (Fld.PGM.SRC_STAT.STATE 3 0) 3).set (Fld.PGM.SRC_STAT.STATE 3 1) 3).set (Fld.PGM.SRC_STAT.Q 3 1) 90).setSrc 3 1 (fun x => { x with better := 300 })), 1, by decide +kernel⟩

theorem witness_OutputCompletes_2 : ∃ (n : Fin 4) (s : State) (k : Nat),
    onBoundary s = true ∧
    s.get (Fld.PGM.STAT.MODE_NOW n.val) = 1 ∧
    (insOf s n.val).contains (s.get (Fld.PGM.STAT.SELECTED n.val)) = false ∧
    bestOf s n.val (insOf s n.val) = some k :=
  ⟨0, (((wFull.set (Fld.PGM.STAT.MODE_NOW 0) 1).set (Fld.PGM.SRC_STAT.STATE 0 0) 4).set (Fld.PGM.SRC_STAT.STATE 0 2) 3), 2, by decide +kernel⟩

theorem witness_OutputCompletes_3 : ∃ (n : Fin 4) (s : State) (b : Nat),
    onBoundary s = true ∧
    sumBest s n.val = some b ∧
    (insOf s n.val).filter (fun k => k != b && srcKind s n.val k == 1 && decide (200 ≤ (s.src n.val k).corrRun)) ≠ [] :=
  ⟨1, ((((((wFull.put (Fld.PGM.BLEND.SUM_EN 1) true).set (Fld.PGM.SRC_STAT.STATE 1 0) 3).set (Fld.PGM.SRC_STAT.STATE 1 3) 3).set (Fld.PGM.SRC.KIND 1 0) 1).set (Fld.PGM.SRC.KIND 1 3) 1).setSrc 1 3 (fun x => { x with corrRun := 200 })), 0, by decide +kernel⟩

theorem witness_OutputCompletes_4 : ∃ (n k : Fin 4) (s : State),
    onBoundary s = true ∧
    s.flag (Fld.PGM.SRC_STAT.IN_SUM n.val k.val) = true ∧
    (((s.src n.val k.val).bandLow.any (fun b => decide (20 ≤ b)) = true ∧ sumBest s n.val ≠ some k.val) ∨ srcState s n.val k.val ≠ srcIn ∨ sumBest s n.val = none) :=
  ⟨1, 3, (((wFull.set (Fld.PGM.STAT.MODE_NOW 1) 2).put (Fld.PGM.SRC_STAT.IN_SUM 1 0) true).put (Fld.PGM.SRC_STAT.IN_SUM 1 3) true), by decide +kernel⟩

theorem witness_OutputCompletes_5 : ∃ (n : Fin 4) (s : State) (e : Nat),
    (s.slot n.val).ramp = .down e ∧
    e ≤ s.epoch :=
  ⟨3, ((wFull.set (Fld.PGM.STAT.MODE_NOW 3) 1).setSlot 3 (fun x => { x with ramp := .down 0 })), 0, by decide +kernel⟩

theorem witness_PolicyCompletes_1 : ∃ (n : Fin 4) (s : State) (k : Nat) (c : Candidate) (inst sel lane : Nat),
    (s.slot n.val).running = true ∧
    s.fab.pause = none ∧
    members s n.val ≠ [] ∧
    (s.slot n.val).owned.length < max 1 (s.get (Fld.PGM.POLICY.MAX n.val)) ∧
    undecided s n.val = false ∧
    lowest 4 (fun j => srcKind s n.val j == 0 && !((s.src n.val j).fresh)) = some k ∧
    (s.slot n.val).proposal = none ∧
    nextCandidate s n.val = some c ∧
    (takeSource s c).map (fun x => (x.1, x.2.1, x.2.2.1)) = some (inst, sel, lane) :=
  ⟨0, ((((((wLive 0 (wLive 20 wFull)).setRds 0 (fun x => { x with record := { pi := 0xD318, piValid := true } })).setRds 8 (fun x => { x with record := { pi := 0xD318, piValid := true } })).setLane 20 (fun x => { x with khz := 98500 })).set (Fld.PGM.SRC.KIND 0 0) 1 |>.set (Fld.PGM.SRC_STAT.STATE 0 0) 3 |>.set (Fld.PGM.POLICY.MODE 0) 1).setSlot 0 (fun x => { x with running := true })), 1, ⟨1, 98500, 0xD318⟩, 1, 0, 1, by decide +kernel⟩

theorem witness_PolicyCompletes_2 : ∃ (n : Fin 4) (s : State) (k : Nat) (c : Candidate),
    (s.slot n.val).running = true ∧
    s.fab.pause = none ∧
    members s n.val ≠ [] ∧
    (s.slot n.val).owned.length < max 1 (s.get (Fld.PGM.POLICY.MAX n.val)) ∧
    undecided s n.val = false ∧
    lowest 4 (fun j => srcKind s n.val j == 0 && !((s.src n.val j).fresh)) = some k ∧
    (s.slot n.val).proposal = none ∧
    nextCandidate s n.val = some c ∧
    (takeSource s c).isNone = true :=
  ⟨0, ((((((wLive 0 (wLive 20 wFull)).setRds 0 (fun x => { x with record := { pi := 0xD318, piValid := true } })).setRds 8 (fun x => { x with record := { pi := 0xD318, piValid := true } })).setLane 20 (fun x => { x with khz := 98500 })).set (Fld.PGM.SRC.KIND 0 0) 1 |>.set (Fld.PGM.SRC_STAT.STATE 0 0) 3 |>.set (Fld.PGM.POLICY.MODE 0) 1 |>.setWord Reg.LNM.FULL_OWN 0xFFFFFFFF).setSlot 0 (fun x => { x with running := true })), 1, ⟨1, 98500, 0xD318⟩, by decide +kernel⟩

theorem witness_PolicyCompletes_3 : ∃ (lane : Fin 20) (n : Fin 4) (s : State) (c : Candidate),
    (s.lane lane.val).state = .free ∧
    (s.slot n.val).proposal = some c ∧
    (∀ (m : Nat), m < 4 → m ≠ n.val → (s.slot m).proposal = none) :=
  ⟨19, 2, (wFull.setSlot 2 (fun x => { x with proposal := some ⟨1, 98500, 7⟩ })), ⟨1, 98500, 7⟩, by decide +kernel⟩

theorem witness_PolicyCompletes_4 : ∃ (n k : Fin 4) (s : State) (c : Candidate) (l : Nat),
    s.flag (Fld.PGM.SRC.OWNER n.val k.val) = true ∧
    (srcState s n.val k.val = srcOut ∨ srcState s n.val k.val = srcWaiting) ∧
    (s.src n.val k.val).idleSince + 10000 ≤ s.epoch ∧
    (s.slot n.val).owned.find? (fun o => o.1 == k.val) = some (k.val, c, l) :=
  ⟨3, 1, { (((wFull.put (Fld.PGM.SRC.OWNER 3 1) true).set (Fld.PGM.SRC_STAT.STATE 3 1) 1).setSlot 3 (fun x => { x with owned := [(1, ⟨1, 98500, 7⟩, 4)] })) with time := 1638400000 }, ⟨1, 98500, 7⟩, 4, by decide +kernel⟩

theorem witness_PibCompletes_1_1 : ∃ (s : State),
    lets s Reg.PIB.CMD = true :=
  ⟨wFull, by decide +kernel⟩

theorem witness_PibCompletes_1_2 : ∃ (s : State),
    lets s Reg.PIB.CMD = true :=
  ⟨{ wFull with pib := { busy := some (1, 0, 0) } }, by decide +kernel⟩

theorem witness_PibCompletes_2 : ∃ (s : State),
    lets s Reg.PIB.CMD = true :=
  ⟨(wFull.setWord Reg.PIB.ARG 0x0100D318), by decide +kernel⟩

theorem witness_PibCompletes_3 : ∃ (s : State),
    lets s Reg.PIB.CMD = true :=
  ⟨wFull, by decide +kernel⟩

theorem witness_PibCompletes_4 : ∃ (s : State),
    lets s Reg.PIB.CMD = true :=
  ⟨wFull, by decide +kernel⟩

theorem witness_PibCompletes_5 : ∃ (s : State) (cls : Nat) (arg : Word) (i : Nat),
    s.fab.pause = none ∧
    s.pib.busy = some (1, cls, arg) ∧
    freeClass s = some i :=
  ⟨{ wFull with pib := { busy := some (1, 5, 0) } }, 5, 0, 0, by decide +kernel⟩

theorem witness_PibCompletes_6_1 : ∃ (s : State) (op cls : Nat) (arg : Word) (c : PibClass) (d : Option PibClass),
    s.fab.pause = none ∧
    s.pib.busy = some (op, cls, arg) ∧
    op ≠ 1 ∧
    at' s.pib.classes cls none = some c ∧
    c.host = true ∧
    editClass op c { id := fieldOf arg 0 24, kind := fieldOf arg 24 2 } = .ok d :=
  ⟨{ wFull with pib := { busy := some (2, 5, 0x0100D318), classes := upd wFull.pib.classes 5 (fun _ => some { host := true }) } }, 2, 5, 0x0100D318, { host := true }, some { host := true, members := [⟨0xD318, 1, none⟩] }, by decide +kernel⟩

theorem witness_PibCompletes_6_2 : ∃ (s : State) (op cls : Nat) (arg : Word) (c : PibClass) (d : Option PibClass),
    s.fab.pause = none ∧
    s.pib.busy = some (op, cls, arg) ∧
    op ≠ 1 ∧
    at' s.pib.classes cls none = some c ∧
    c.host = true ∧
    editClass op c { id := fieldOf arg 0 24, kind := fieldOf arg 24 2 } = .ok d :=
  ⟨{ wFull with pib := { busy := some (4, 5, 0x0100D318), classes := upd wFull.pib.classes 5 (fun _ => some { host := true }) } }, 4, 5, 0x0100D318, { host := true }, none, by decide +kernel⟩

theorem witness_PibCompletes_7_1 : ∃ (s : State) (op cls : Nat) (arg : Word) (c : PibClass) (e : Nat),
    s.fab.pause = none ∧
    s.pib.busy = some (op, cls, arg) ∧
    op ≠ 1 ∧
    at' s.pib.classes cls none = some c ∧
    c.host = true ∧
    editClass op c { id := fieldOf arg 0 24, kind := fieldOf arg 24 2 } = .error e :=
  ⟨{ wFull with pib := { busy := some (3, 5, 0x0100D318), classes := upd wFull.pib.classes 5 (fun _ => some { host := true }) } }, 3, 5, 0x0100D318, { host := true }, 5, by decide +kernel⟩

theorem witness_PibCompletes_7_2 : ∃ (s : State) (op cls : Nat) (arg : Word) (c : PibClass) (e : Nat),
    s.fab.pause = none ∧
    s.pib.busy = some (op, cls, arg) ∧
    op ≠ 1 ∧
    at' s.pib.classes cls none = some c ∧
    c.host = true ∧
    editClass op c { id := fieldOf arg 0 24, kind := fieldOf arg 24 2 } = .error e :=
  ⟨{ wFull with pib := { busy := some (2, 5, 0x0300D318), classes := upd wFull.pib.classes 5 (fun _ => some { host := true }) } }, 2, 5, 0x0300D318, { host := true }, 4, by decide +kernel⟩

theorem witness_PortControlCompletes_1_1 : ∃ (port : Port) (p : Fin 5) (v : Word) (s : State) (w : Word),
    lets s (Reg.AOP.CTRL p.val) = true ∧
    w = afterWrite s port (Reg.AOP.CTRL p.val) (withField v 0 1 1) ∧
    formatLegal w = true ∧
    portState s p.val = portIdle ∧
    podOf s p.val = none ∧
    portsRun s = true :=
  ⟨.spi, 3, 0x000004C0, wFull, 0x000004C1, by decide +kernel⟩

theorem witness_PortControlCompletes_1_2 : ∃ (port : Port) (p : Fin 5) (v : Word) (s : State) (w : Word),
    lets s (Reg.AOP.CTRL p.val) = true ∧
    w = afterWrite s port (Reg.AOP.CTRL p.val) (withField v 0 1 1) ∧
    formatLegal w = true ∧
    portState s p.val = portIdle ∧
    podOf s p.val = none ∧
    portsRun s = true :=
  ⟨.spi, 4, 0x000004C0, (wFull.put (Fld.AOP.STAT.LOCKED 4) true), 0x000004C1, by decide +kernel⟩

theorem witness_PortControlCompletes_1_3 : ∃ (port : Port) (p : Fin 5) (v : Word) (s : State) (w : Word),
    lets s (Reg.AOP.CTRL p.val) = true ∧
    w = afterWrite s port (Reg.AOP.CTRL p.val) (withField v 0 1 1) ∧
    formatLegal w = true ∧
    portState s p.val = portIdle ∧
    podOf s p.val = none ∧
    portsRun s = true :=
  ⟨.spi, 2, 0x000004C0, (wFull.put (Fld.AOP.STAT.LOCKED 2) true), 0x000004C1, by decide +kernel⟩

theorem witness_PortControlCompletes_2 : ∃ (port : Port) (p : Fin 5) (v : Word) (s : State) (w : Word),
    lets s (Reg.AOP.CTRL p.val) = true ∧
    w = afterWrite s port (Reg.AOP.CTRL p.val) (withField v 0 1 1) ∧
    (s.committed = true → formatLegal w = true ∧ formatOf w = formatOf (s.word (Reg.AOP.CTRL p.val)) ∨ formatLegal w = true ∧ portState s p.val = portIdle) ∧
    podOf s p.val = none ∧
    portsRun s = false :=
  ⟨.twoWire, 3, 0x000004C0, wQuiet, 0x000004C1, by decide +kernel⟩

theorem witness_PortControlCompletes_3 : ∃ (port : Port) (p : Fin 5) (v : Word) (s : State),
    lets s (Reg.AOP.CTRL p.val) = true ∧
    s.committed = true ∧
    formatLegal (afterWrite s port (Reg.AOP.CTRL p.val) (withField v 0 1 1)) = false :=
  ⟨.spi, 3, 0x00001E46, wFull, by decide +kernel⟩

theorem witness_PortControlCompletes_4_1 : ∃ (port : Port) (p : Fin 5) (v : Word) (s : State) (w : Word),
    lets s (Reg.AOP.CTRL p.val) = true ∧
    w = afterWrite s port (Reg.AOP.CTRL p.val) (withField v 0 1 0) ∧
    formatLegal w = true ∧
    formatOf w = formatOf (s.word (Reg.AOP.CTRL p.val)) ∧
    podOf s p.val = none ∧
    portState s p.val ≠ portIdle :=
  ⟨.spi, 3, 0x000004C1, ((wFull.setWord (Reg.AOP.CTRL 3) 0x000004C1).set (Fld.AOP.STAT.STATE 3) 3), 0x000004C0, by decide +kernel⟩

theorem witness_PortControlCompletes_4_2 : ∃ (port : Port) (p : Fin 5) (v : Word) (s : State) (w : Word),
    lets s (Reg.AOP.CTRL p.val) = true ∧
    w = afterWrite s port (Reg.AOP.CTRL p.val) (withField v 0 1 0) ∧
    formatLegal w = true ∧
    formatOf w = formatOf (s.word (Reg.AOP.CTRL p.val)) ∧
    podOf s p.val = none ∧
    portState s p.val ≠ portIdle :=
  ⟨.spi, 4, 0x000004C1, ((wFull.setWord (Reg.AOP.CTRL 4) 0x000004C1).set (Fld.AOP.STAT.STATE 4) 1), 0x000004C0, by decide +kernel⟩

theorem witness_PortControlCompletes_5 : ∃ (port : Port) (p : Fin 5) (v : Word) (s : State) (w : Word),
    lets s (Reg.AOP.CTRL p.val) = true ∧
    w = afterWrite s port (Reg.AOP.CTRL p.val) v ∧
    w.getLsbD 0 = false ∧
    formatLegal w = true ∧
    portState s p.val = portIdle ∧
    podOf s p.val = none :=
  ⟨.spi, 0, 0x000004C0, wFull, 0x000004C0, by decide +kernel⟩

theorem witness_PortControlCompletes_6 : ∃ (port : Port) (p : Fin 5) (v : Word) (s : State),
    lets s (Reg.AOP.CTRL p.val) = true ∧
    s.committed = true ∧
    formatOf (afterWrite s port (Reg.AOP.CTRL p.val) v) ≠ formatOf (s.word (Reg.AOP.CTRL p.val)) ∧
    portState s p.val ≠ portIdle :=
  ⟨.spi, 0, 0x00000206, (wFull.set (Fld.AOP.STAT.STATE 0) 3), by decide +kernel⟩

theorem witness_PortControlCompletes_7 : ∃ (n : Fin 4) (s : State),
    lets s (Reg.POD.ROUTE n.val) = true :=
  ⟨3, wFull, by decide +kernel⟩

theorem witness_PortFramesComplete_1_1 : ∃ (p : Fin 5) (s : State) (bits : Nat),
    p.val < 4 ∧
    s.running = true ∧
    portState s p.val = portRunning ∧
    (s.port p.val).startAt = none ∧
    (s.port p.val).stopping = false ∧
    podOf s p.val = none ∧
    bits = frameBits s p.val :=
  ⟨3, { ((wFull.set (Fld.AOP.STAT.STATE 3) 3).setWord (Reg.AOP.CTRL 3) 0x000004C1) with time := 1000000 }, 64, by decide +kernel⟩

theorem witness_PortFramesComplete_1_2 : ∃ (p : Fin 5) (s : State) (bits : Nat),
    p.val < 4 ∧
    s.running = true ∧
    portState s p.val = portRunning ∧
    (s.port p.val).startAt = none ∧
    (s.port p.val).stopping = false ∧
    podOf s p.val = none ∧
    bits = frameBits s p.val :=
  ⟨0, { ((wFull.set (Fld.AOP.STAT.STATE 0) 3).setWord (Reg.AOP.CTRL 0) 0x000004C1) with time := 1000000 }, 64, by decide +kernel⟩

theorem witness_PortFramesComplete_2 : ∃ (p : Fin 5) (s : State) (b : Nat),
    p.val < 4 ∧
    s.running = true ∧
    portState s p.val = portArmed ∧
    (s.port p.val).startAt = some b ∧
    boundaryTick b ≤ s.time ∧
    podOf s p.val = none ∧
    clkOk s p.val = true ∧
    clkLocked s p.val = true :=
  ⟨3, { ((wFull.set (Fld.AOP.STAT.STATE 3) 2).put (Fld.AOP.STAT.CLK_OK 3) true |>.put (Fld.AOP.STAT.LOCKED 3) true |>.setPort 3 (fun x => { x with startAt := some 6 })) with time := 983041 }, 6, by decide +kernel⟩

theorem witness_PortFramesComplete_3_1 : ∃ (p : Fin 5) (s : State),
    s.running = true ∧
    (s.port p.val).startAt = none ∧
    (s.port p.val).stopping = true ∧
    podOf s p.val = none :=
  ⟨3, ((wFull.set (Fld.AOP.STAT.STATE 3) 3).setPort 3 (fun x => { x with stopping := true })), by decide +kernel⟩

theorem witness_PortFramesComplete_3_2 : ∃ (p : Fin 5) (s : State),
    s.running = true ∧
    (s.port p.val).startAt = none ∧
    (s.port p.val).stopping = true ∧
    podOf s p.val = none :=
  ⟨4, ((wFull.set (Fld.AOP.STAT.STATE 4) 3).setPort 4 (fun x => { x with stopping := true })), by decide +kernel⟩

theorem witness_PortFramesComplete_3_3 : ∃ (p : Fin 5) (s : State),
    s.running = true ∧
    (s.port p.val).startAt = none ∧
    (s.port p.val).stopping = true ∧
    podOf s p.val = none :=
  ⟨2, (((wFull.set (Fld.AOP.STAT.STATE 2) 3).put (Fld.AOP.CTRL.EN 2) true).put (Fld.AOP.STAT.LOCKED 2) true |>.setPort 2 (fun x => { x with stopping := true })), by decide +kernel⟩

theorem witness_PortFramesComplete_4 : ∃ (p : Fin 5) (s : State),
    p.val = 4 ∧
    s.running = true ∧
    portState s 4 = portRunning ∧
    (s.port 4).stopping = false :=
  ⟨4, (wFull.set (Fld.AOP.STAT.STATE 4) 3), by decide +kernel⟩

theorem witness_PortFramesComplete_5 : ∃ (pair : Fin 4) (s : State),
    (s.get Fld.AIP.STAT.NONAUDIO).testBit pair.val = true ∧
    16384 ≤ at' (s.port 4).quiet pair.val 0 :=
  ⟨3, ((wFull.set Fld.AIP.STAT.NONAUDIO 9).setPort 4 (fun x => { x with quiet := #v[0, 0, 0, 16384] })), by decide +kernel⟩

theorem witness_PortFramesComplete_6 : ∃ (p : Fin 5) (s : State),
    clkOk s p.val = true ∧
    clockFault s p.val = true ∧
    (s.port p.val).stopping = false :=
  ⟨3, ((wFull.set (Fld.AOP.STAT.STATE 3) 3).put (Fld.AOP.STAT.CLK_OK 3) true |>.setPort 3 (fun x => { x with stamp := some 0, bad := 4 })), by decide +kernel⟩

theorem witness_PortFramesComplete_7 : ∃ (p : Fin 5) (s : State),
    clkOk s p.val = false ∧
    8 ≤ (s.port p.val).good ∧
    (s.geti (Fld.AOP.PPM.PPM p.val)).natAbs ≤ 10000 :=
  ⟨4, (wFull.setPort 4 (fun x => { x with good := 8 })), by decide +kernel⟩

theorem witness_PortFramesComplete_8_1 : ∃ (p : Fin 5) (s : State),
    onBoundary s = true ∧
    clkLocked s p.val = false ∧
    clkOk s p.val = true ∧
    (s.port p.val).unlock = false ∧
    50 ≤ (s.port p.val).okEpochs :=
  ⟨0, ((wFull.put (Fld.AOP.STAT.CLK_OK 0) true).set (Fld.AOP.STAT.STATE 0) 1 |>.setPort 0 (fun x => { x with okEpochs := 50 })), by decide +kernel⟩

theorem witness_PortFramesComplete_8_2 : ∃ (p : Fin 5) (s : State),
    onBoundary s = true ∧
    clkLocked s p.val = false ∧
    clkOk s p.val = true ∧
    (s.port p.val).unlock = false ∧
    50 ≤ (s.port p.val).okEpochs :=
  ⟨4, ((wFull.put (Fld.AOP.STAT.CLK_OK 4) true).set (Fld.AOP.STAT.STATE 4) 4 |>.setPort 4 (fun x => { x with okEpochs := 50 })), by decide +kernel⟩

theorem witness_PortFramesComplete_9 : ∃ (s : State),
    portState s 4 = portZeros ∧
    1000 ≤ (s.port 4).noClock :=
  ⟨((wFull.set (Fld.AOP.STAT.STATE 4) 4).setPort 4 (fun x => { x with noClock := 1000 })), by decide +kernel⟩

theorem witness_PodsComplete_1 : ∃ (m : Fin 2) (v : Word) (s : State),
    lets s (Reg.POD.POD_CFG m.val) = true ∧
    podState s m.val = 0 ∧
    (∀ (n : Nat), n < 4 → v.getLsbD n = true → portState s n = portIdle ∧ (podMembers s (1 - m.val)).contains n = false) :=
  ⟨1, 0x0000000C, wFull, by decide +kernel⟩

theorem witness_PodsComplete_2 : ∃ (m : Fin 2) (v : Word) (s : State),
    lets s (Reg.POD.POD_CFG m.val) = true ∧
    (podState s m.val ≠ 0 ∨ (List.range 4).any (fun n => v.getLsbD n && (portState s n != portIdle || (podMembers s (1 - m.val)).contains n)) = true) :=
  ⟨0, 0x0000000F, ((wFull.set (Fld.AOP.STAT.STATE 3) 1)), by decide +kernel⟩

theorem witness_PodsComplete_3 : ∃ (m : Fin 2) (v : Word) (s : State) (ms : List Nat),
    lets s (Reg.POD.POD_CMD m.val) = true ∧
    v.getLsbD 1 = false ∧
    ms = podMembers s m.val ∧
    podState s m.val = 0 ∧
    ms ≠ [] ∧
    ms.all (fun p => podFormat (s.word (Reg.AOP.CTRL p)) == podFormat (s.word (Reg.AOP.CTRL (ms.headD 0)))) = true ∧
    portsRun s = true :=
  ⟨1, 0, ((wFull.set (Fld.POD.POD_CFG.MEMBERS 1) 0xC).put (Fld.AOP.STAT.LOCKED 3) true), [2, 3], by decide +kernel⟩

theorem witness_PodsComplete_4 : ∃ (m : Fin 2) (v : Word) (s : State),
    lets s (Reg.POD.POD_CMD m.val) = true ∧
    v.getLsbD 1 = false ∧
    (podState s m.val ≠ 0 ∨ podMembers s m.val = []) :=
  ⟨1, 0, wFull, by decide +kernel⟩

theorem witness_PodsComplete_5 : ∃ (m : Fin 2) (s : State),
    podState s m.val = 1 ∧
    (s.pod m.val).posted = false ∧
    (podMembers s m.val).all (fun p => clkLocked s p && (s.port p).startAt.isNone) = true :=
  ⟨1, (((wFull.set (Fld.POD.POD_CFG.MEMBERS 1) 0x8).set (Fld.POD.POD_STAT.STATE 1) 1).put (Fld.AOP.STAT.LOCKED 3) true), by decide +kernel⟩

theorem witness_PodsComplete_6 : ∃ (m : Fin 2) (s : State),
    lets s (Reg.POD.POD_CMD m.val) = true ∧
    podState s m.val = 1 ∧
    (podMembers s m.val).all (fun p => (s.port p).startAt.isNone) = true :=
  ⟨1, ((((wFull.set (Fld.POD.POD_CFG.MEMBERS 1) 0x8).set (Fld.POD.POD_STAT.STATE 1) 1).set (Fld.AOP.STAT.STATE 3) 2) |> fun s => { s with plan := [⟨4, false, .pod 1⟩] }), by decide +kernel⟩

theorem witness_PodsComplete_7 : ∃ (m : Fin 2) (s : State),
    lets s (Reg.POD.POD_CMD m.val) = true ∧
    podState s m.val = 2 :=
  ⟨1, ((((wFull.set (Fld.POD.POD_CFG.MEMBERS 1) 0xC).set (Fld.POD.POD_STAT.STATE 1) 2).set (Fld.AOP.STAT.STATE 3) 3).set (Fld.AOP.STAT.STATE 2) 4), by decide +kernel⟩

theorem witness_AccessesComplete_1_1 : ∃ (addr : BitVec 24) (s : State),
    lets s addr.toNat = true ∧
    0x40 ≤ addr.toNat % 4096 ∧
    ackWindow? addr.toNat = none ∧
    ((0x010 ≤ addr.toNat / 4096 ∧ addr.toNat / 4096 < 0x018) ∨ (0x020 ≤ addr.toNat / 4096 ∧ addr.toNat / 4096 < 0x028 ∧ 0x44 ≤ addr.toNat % 4096 ∧ addr.toNat % 4096 < 0x80)) :=
  ⟨0x01004C, wFull, by decide +kernel⟩

theorem witness_AccessesComplete_1_2 : ∃ (addr : BitVec 24) (s : State),
    lets s addr.toNat = true ∧
    0x40 ≤ addr.toNat % 4096 ∧
    ackWindow? addr.toNat = none ∧
    ((0x010 ≤ addr.toNat / 4096 ∧ addr.toNat / 4096 < 0x018) ∨ (0x020 ≤ addr.toNat / 4096 ∧ addr.toNat / 4096 < 0x028 ∧ 0x44 ≤ addr.toNat % 4096 ∧ addr.toNat % 4096 < 0x80)) :=
  ⟨0x020048, wFull, by decide +kernel⟩

theorem witness_AccessesComplete_2 : ∃ (addr : BitVec 24) (s : State),
    lets s addr.toNat = true ∧
    isRegPage (addr.toNat / 4096) = true ∧
    0x40 ≤ addr.toNat % 4096 ∧
    regSpec addr.toNat = none ∧
    ackWindow? addr.toNat = none :=
  ⟨0x018FFC, wFull, by decide +kernel⟩

theorem witness_AccessesComplete_3 : ∃ (addr : BitVec 24) (s : State),
    s.served = true ∧
    pageServed s (addr.toNat / 4096) = false :=
  ⟨0x0FF044, wFull, by decide +kernel⟩

theorem witness_AccessesComplete_4 : ∃ (addr : BitVec 24) (s : State) (a : Nat),
    a = addr.toNat / 4 * 4 ∧
    addr.toNat % 4 ≠ 0 ∧
    lets s a = true ∧
    0x40 ≤ a % 4096 ∧
    ackWindow? a = none ∧
    0x010 ≤ a / 4096 ∧
    a / 4096 < 0x018 :=
  ⟨0x01004F, wFull, 0x01004C, by decide +kernel⟩

theorem witness_AccessesComplete_5 : ∃ (addr : BitVec 24) (s : State),
    s.served = true ∧
    pageServed s (addr.toNat / 4096) = true ∧
    regServed s addr.toNat = true ∧
    addr.toNat % 4 = 0 ∧
    s.fab.pause.isSome = true ∧
    servedByFirmware addr.toNat = true ∧
    s.fab.held.length < 256 :=
  ⟨0x020040, { wFull with fab := { pause := some .handover } }, by decide +kernel⟩

theorem witness_AccessesComplete_6 : ∃ (addr : BitVec 24) (s : State),
    s.served = true ∧
    pageServed s (addr.toNat / 4096) = true ∧
    regServed s addr.toNat = true ∧
    addr.toNat % 4 = 0 ∧
    s.fab.pause.isSome = true ∧
    servedByFirmware addr.toNat = true ∧
    256 ≤ s.fab.held.length :=
  ⟨0x020040, { wFull with fab := { pause := some .handover, held := List.replicate 256 ⟨.spi, 0x020040, 0, false⟩ } }, by decide +kernel⟩

theorem witness_AccessesComplete_7 : ∃ (s : State),
    s.served = false :=
  ⟨State.reset, by decide +kernel⟩

theorem witness_AccessesComplete_8 : ∃ (port : Port) (addr : BitVec 24) (s : State),
    addr.toNat = Reg.SYS.TIME_LO ∧
    reads s addr.toNat = true ∧
    latched s port addr.toNat = none :=
  ⟨.spi, 0x000050, wFull, by decide +kernel⟩

theorem witness_AccessesComplete_9 : ∃ (port : Port) (addr : BitVec 24) (s : State) (w : Word),
    reads s addr.toNat = true ∧
    latched s port addr.toNat = some w :=
  ⟨.twoWire, 0x000054, { wFull with fab := { latches := [⟨.twoWire, 0, [(0x54, 9)]⟩] } }, 9, by decide +kernel⟩

theorem witness_AccessesComplete_10 : ∃ (port : Port) (addr : BitVec 24) (s : State),
    reads s addr.toNat = true ∧
    latched s port addr.toNat = none :=
  ⟨.spi, 0x000054, wFull, by decide +kernel⟩

theorem witness_AccessesComplete_11 : ∃ (addr : BitVec 24) (s : State),
    s.served = true ∧
    pageServed s (addr.toNat / 4096) = false :=
  ⟨0x0FF000, wFull, by decide +kernel⟩

theorem witness_AcksComplete_1 : ∃ (i : Fin 27) (v : Word) (s : State),
    lets s (windowAddrs.getD i.val (0, 0)).2 = true ∧
    s.flag (windowValid i.val) = true ∧
    s.get (windowSeq i.val) = fieldOf v 0 8 ∧
    (at' s.fab.windows i.val {}).side = none :=
  ⟨22, 0x41, ((wFull.put (windowValid 22) true).set (windowSeq 22) 0x41), by decide +kernel⟩

theorem witness_AcksComplete_2_1 : ∃ (i : Fin 27) (v : Word) (s : State) (r : Result),
    lets s (windowAddrs.getD i.val (0, 0)).2 = true ∧
    s.flag (windowValid i.val) = true ∧
    s.get (windowSeq i.val) = fieldOf v 0 8 ∧
    (at' s.fab.windows i.val {}).side = some r ∧
    (r.words.map (fun c => c.1)).Nodup ∧
    r.seq < 256 :=
  ⟨2, 0x41, { (((wFull.put (windowValid 2) true).set (windowSeq 2) 0x41).put (windowOverflow 2) true) with fab := { windows := upd (Vector.replicate 27 {}) 2 (fun _ => ⟨0x43, some ⟨0x43, [(0x014088, 7)]⟩, true⟩) } }, ⟨0x43, [(0x014088, 7)]⟩, by decide +kernel⟩

theorem witness_AcksComplete_2_2 : ∃ (i : Fin 27) (v : Word) (s : State) (r : Result),
    lets s (windowAddrs.getD i.val (0, 0)).2 = true ∧
    s.flag (windowValid i.val) = true ∧
    s.get (windowSeq i.val) = fieldOf v 0 8 ∧
    (at' s.fab.windows i.val {}).side = some r ∧
    (r.words.map (fun c => c.1)).Nodup ∧
    r.seq < 256 :=
  ⟨22, 0x41, { (((wFull.put (windowValid 22) true).set (windowSeq 22) 0x41).put (windowOverflow 22) true) with fab := { windows := upd (Vector.replicate 27 {}) 22 (fun _ => ⟨0x43, some ⟨0x43, [(Reg.TWC.RES0, 0x3000), (Reg.TWC.RES1, 7)]⟩, false⟩) } }, ⟨0x43, [(Reg.TWC.RES0, 0x3000), (Reg.TWC.RES1, 7)]⟩, by decide +kernel⟩

theorem witness_AcksComplete_3_1 : ∃ (i : Fin 27) (v : Word) (s : State),
    lets s (windowAddrs.getD i.val (0, 0)).2 = true ∧
    (s.flag (windowValid i.val) = false ∨ s.get (windowSeq i.val) ≠ fieldOf v 0 8) :=
  ⟨22, 0x42, ((wFull.put (windowValid 22) true).set (windowSeq 22) 0x41), by decide +kernel⟩

theorem witness_AcksComplete_3_2 : ∃ (i : Fin 27) (v : Word) (s : State),
    lets s (windowAddrs.getD i.val (0, 0)).2 = true ∧
    (s.flag (windowValid i.val) = false ∨ s.get (windowSeq i.val) ≠ fieldOf v 0 8) :=
  ⟨22, 0x00, wFull, by decide +kernel⟩

theorem witness_HeaderWritesComplete_1 : ∃ (page : Nat) (s : State),
    isRegPage page = true ∧
    lets s (page * 4096 + 0x20) = true :=
  ⟨0x061, { wFull with fab := { keys := [⟨0x061, .spi, 2⟩, ⟨0x060, .spi, 1⟩] } }, by decide +kernel⟩

theorem witness_HeaderWritesComplete_2 : ∃ (page : Nat) (s : State),
    isRegPage page = true ∧
    lets s (page * 4096 + 0x20) = true :=
  ⟨0x061, { wFull with fab := { keys := [⟨0x061, .spi, 2⟩, ⟨0x060, .spi, 1⟩] } }, by decide +kernel⟩

theorem witness_HeaderWritesComplete_3 : ∃ (page : Nat) (s : State),
    (∃ k ∈ s.fab.keys, k.page = page ∧ k.left = 0) :=
  ⟨0x061, { wFull with fab := { keys := [⟨0x061, .spi, 0⟩, ⟨0x060, .spi, 1⟩] } }, by decide +kernel⟩

theorem witness_HeaderWritesComplete_4_1 : ∃ (page : Nat) (s : State),
    isRegPage page = true ∧
    lets s (page * 4096 + 0x18) = true :=
  ⟨0x04A, (wFull.put (evRaw (Ev.PGM.POOL_FULL 2)) true), by decide +kernel⟩

theorem witness_HeaderWritesComplete_4_2 : ∃ (page : Nat) (s : State),
    isRegPage page = true ∧
    lets s (page * 4096 + 0x18) = true :=
  ⟨0x000, (wFull.put Fld.SYS.WAKE_CFG.ASSERTED true), by decide +kernel⟩

theorem witness_HeaderWritesComplete_5 : ∃ (page : Nat) (s : State),
    isRegPage page = true ∧
    lets s (page * 4096 + 0x1C) = true :=
  ⟨0x04A, wFull, by decide +kernel⟩

theorem witness_HeaderWritesComplete_6 : ∃ (page : Nat) (s : State),
    isRegPage page = true ∧
    lets s (page * 4096 + 0x14) = true :=
  ⟨0x04A, wFull, by decide +kernel⟩

theorem witness_HeaderWritesComplete_7 : ∃ (s : State),
    lets s Reg.SYS.ACC_ERR = true :=
  ⟨(wFull.setWord Reg.SYS.ACC_ERR 0x9101004F), by decide +kernel⟩

theorem witness_PausesAndPlacesComplete_1 : ∃ (why : PauseCause) (s : State),
    s.fab.pause = some why ∧
    ¬(why = .handover ∧ s.fw.handOver.isSome = true) ∧
    s.fab.held = [] ∧
    s.fab.lateResults = [] ∧
    s.planHeld = [] ∧
    (∀ u ∈ s.flt.inReset, u.1 ≠ 0x08) ∧
    plantedSlots s (fun x => x.met) = [] ∧
    s.mgr.waiting = [] :=
  ⟨.reload, { wFull with fab := { pause := some .reload, lateEvents := [Ev.FLT.FAULT, Ev.LNM.MIGRATE_FAIL] } }, by decide +kernel⟩

theorem witness_PausesAndPlacesComplete_2 : ∃ (why : PauseCause) (s : State) (h : HeldWrite),
    s.fab.pause = some why ∧
    ¬(why = .handover ∧ s.fw.handOver.isSome = true) ∧
    s.fab.held = [h] ∧
    h.addr / 4096 = 0x018 ∧
    0x40 ≤ h.addr % 4096 ∧
    s.fab.lateResults = [] ∧
    s.fab.lateEvents = [] ∧
    s.planHeld = [] ∧
    (∀ u ∈ s.flt.inReset, u.1 ≠ 0x08) ∧
    plantedSlots s (fun x => x.met) = [] ∧
    s.mgr.waiting = [] :=
  ⟨.reload, { wFull with fab := { pause := some .reload, held := [⟨.spi, 0x018064, 5, false⟩] } }, ⟨.spi, 0x018064, 5, false⟩, by decide +kernel⟩

theorem witness_PausesAndPlacesComplete_3 : ∃ (why : PauseCause) (s : State) (c : Change) (want : Nat),
    s.fab.pause = some why ∧
    ¬(why = .handover ∧ s.fw.handOver.isSome = true) ∧
    s.planHeld = [(want, [c])] ∧
    s.planWait = [] ∧
    s.plan.length < 64 ∧
    s.fab.held = [] ∧
    s.fab.lateResults = [] ∧
    s.fab.lateEvents = [] ∧
    (∀ u ∈ s.flt.inReset, u.1 ≠ 0x08) ∧
    plantedSlots s (fun x => x.met) = [] ∧
    s.mgr.waiting = [] :=
  ⟨.reload, { wFull with fab := { pause := some .reload }, planHeld := [(9, [.freq 40 0 0 .estimator])] }, .freq 40 0 0 .estimator, 9, by decide +kernel⟩

theorem witness_PausesAndPlacesComplete_4_1 : ∃ (s : State) (x : Nat × List Change),
    (s.planWait.find? (fun y => y.2.any firstClass)).orElse (fun _ => s.planWait.head?) = some x ∧
    fits x.2 x.1 s = true ∧
    x.2 ≠ [] ∧
    (x.2.length = 1 ∨ (x.2.all (fun c => !isFreq c) = true ∧ x.2.Pairwise (fun a b => sameKindTarget a b = false))) :=
  ⟨{ wFull with planWait := [(0, [.tune 3 .fm 98000 true]), (9, [.gain .fm 7 .attack])] }, (9, [.gain .fm 7 .attack]), by decide +kernel⟩

theorem witness_PausesAndPlacesComplete_4_2 : ∃ (s : State) (x : Nat × List Change),
    (s.planWait.find? (fun y => y.2.any firstClass)).orElse (fun _ => s.planWait.head?) = some x ∧
    fits x.2 x.1 s = true ∧
    x.2 ≠ [] ∧
    (x.2.length = 1 ∨ (x.2.all (fun c => !isFreq c) = true ∧ x.2.Pairwise (fun a b => sameKindTarget a b = false))) :=
  ⟨{ wFull with planWait := [(0, [.tune 3 .fm 98000 true]), (9, [.root 3])] }, (0, [.tune 3 .fm 98000 true]), by decide +kernel⟩

theorem witness_PausesAndPlacesComplete_5 : ∃ (s : State),
    s.planWait = [] :=
  ⟨wFull, by decide +kernel⟩

theorem witness_KeyedWritesComplete_1 : ∃ (port : Port) (s : State),
    lets s Reg.HSP.CTRL = true ∧
    keyOpen s 0x060 port = true :=
  ⟨.spi, { wFull with fab := { keys := [⟨0x060, .spi, 2⟩] } }, by decide +kernel⟩

theorem witness_KeyedWritesComplete_2 : ∃ (port : Port) (s : State),
    lets s Reg.HSP.CTRL = true ∧
    keyOpen s 0x060 port = false :=
  ⟨.twoWire, { wFull with fab := { keys := [⟨0x060, .spi, 2⟩] } }, by decide +kernel⟩

theorem witness_KeyedWritesComplete_3 : ∃ (port : Port) (k : Fin 2) (v : Word) (s : State) (a : Nat),
    lets s (Reg.TWT.CMP k.val) = true ∧
    keyOpen s 0x061 port = true ∧
    a = fieldOf v 0 7 ∧
    reservedAddr a = false ∧
    a ≠ twtBase s ∧
    a ≠ twtBase s + 1 ∧
    a ≠ s.get (Fld.TWT.CMP.ADDR (1 - k.val)) :=
  ⟨.spi, 1, 0x0000013A, { wFull with fab := { keys := [⟨0x061, .spi, 2⟩] } }, 0x3A, by decide +kernel⟩

theorem witness_KeyedWritesComplete_4 : ∃ (port : Port) (k : Fin 2) (v : Word) (s : State) (a : Nat),
    lets s (Reg.TWT.CMP k.val) = true ∧
    keyOpen s 0x061 port = true ∧
    a = fieldOf v 0 7 ∧
    (reservedAddr a = true ∨ a = twtBase s ∨ a = twtBase s + 1 ∨ a = s.get (Fld.TWT.CMP.ADDR (1 - k.val))) :=
  ⟨.spi, 0, 0x00000161, { wFull with fab := { keys := [⟨0x061, .spi, 2⟩] } }, 0x61, by decide +kernel⟩

theorem witness_KeyedWritesComplete_5 : ∃ (port : Port) (k : Fin 2) (s : State),
    lets s (Reg.TWT.CMP k.val) = true ∧
    keyOpen s 0x061 port = false :=
  ⟨.spi, 0, wFull, by decide +kernel⟩

theorem witness_KeyedWritesComplete_6 : ∃ (port : Port) (v : Word) (s : State),
    lets s Reg.TWT.CTRL = true ∧
    keyOpen s 0x061 port = true ∧
    (List.range 128).all (fun a => !(underMask (twtBase s) (fieldOf v 1 7) a && reservedAddr a)) = true :=
  ⟨.spi, 0x00000007, { wFull with fab := { keys := [⟨0x061, .spi, 2⟩] } }, by decide +kernel⟩

theorem witness_KeyedWritesComplete_7 : ∃ (port : Port) (v : Word) (s : State),
    lets s Reg.TWT.CTRL = true ∧
    keyOpen s 0x061 port = true ∧
    (List.range 128).any (fun a => underMask (twtBase s) (fieldOf v 1 7) a && reservedAddr a) = true :=
  ⟨.spi, 0x000000FF, { wFull with fab := { keys := [⟨0x061, .spi, 2⟩] } }, by decide +kernel⟩

theorem witness_KeyedWritesComplete_8 : ∃ (port : Port) (s : State),
    lets s Reg.TWT.CTRL = true ∧
    keyOpen s 0x061 port = false :=
  ⟨.twoWire, wFull, by decide +kernel⟩

theorem witness_SpiFramesComplete_1 : ∃ (addr : BitVec 24) (data : List (BitVec 8)) (s : State) (n : Nat),
    spiAlive s = true ∧
    s.served = true ∧
    s.host.frame = .none ∧
    s.flag Fld.HSP.CTRL.CRC_EN = false ∧
    n = data.length / 4 ∧
    0x010000 ≤ addr.toNat ∧
    addr.toNat + 4 * n ≤ 0x018000 ∧
    (∀ (i : Nat), i < n → lets s (addr.toNat + 4 * i) = true ∧ 0x40 ≤ (addr.toNat + 4 * i) % 4096 ∧ ackWindow? (addr.toNat + 4 * i) = none) :=
  ⟨0x01004C, [0, 0, 3, 9, 0, 0, 2, 9, 7], wFull, 2, by decide +kernel⟩

theorem witness_SpiFramesComplete_2 : ∃ (addr : BitVec 24) (data : List (BitVec 8)) (s : State),
    spiAlive s = true ∧
    s.served = true ∧
    s.host.frame = .none ∧
    s.flag Fld.HSP.CTRL.CRC_EN = false ∧
    data.length = 4 ∧
    0x010000 ≤ addr.toNat ∧
    addr.toNat < 0x018000 ∧
    lets s addr.toNat = true ∧
    0x40 ≤ addr.toNat % 4096 ∧
    ackWindow? addr.toNat = none :=
  ⟨0x01004C, [0, 0, 3, 9], wFull, by decide +kernel⟩

theorem witness_SpiFramesComplete_3 : ∃ (s : State),
    spiAlive s = true ∧
    s.served = true ∧
    s.host.frame = .none ∧
    s.flag Fld.HSP.CTRL.CRC_EN = true :=
  ⟨(wFull.put Fld.HSP.CTRL.CRC_EN true), by decide +kernel⟩

theorem witness_SpiFramesComplete_4_1 : ∃ (addr : BitVec 24) (count : Nat) (s : State),
    spiAlive s = true ∧
    s.served = true ∧
    s.host.frame = .none ∧
    s.flag Fld.HSP.CTRL.CRC_EN = false ∧
    (∀ l ∈ s.fab.latches, l.port = .twoWire) ∧
    (∀ (i : Nat), i < count → reads s (burstAddr addr.toNat i) = true ∧ burstAddr addr.toNat i / 4096 ≠ 0x060) :=
  ⟨0x000050, 2, wFull, by decide +kernel⟩

theorem witness_SpiFramesComplete_4_2 : ∃ (addr : BitVec 24) (count : Nat) (s : State),
    spiAlive s = true ∧
    s.served = true ∧
    s.host.frame = .none ∧
    s.flag Fld.HSP.CTRL.CRC_EN = false ∧
    (∀ l ∈ s.fab.latches, l.port = .twoWire) ∧
    (∀ (i : Nat), i < count → reads s (burstAddr addr.toNat i) = true ∧ burstAddr addr.toNat i / 4096 ≠ 0x060) :=
  ⟨0x018100, 4, (wPlanted 0 .migrate 3 wFull), by decide +kernel⟩

theorem witness_SpiFramesComplete_5 : ∃ (addr : BitVec 24) (count : Nat) (s : State),
    spiAlive s = true ∧
    s.served = true ∧
    s.host.frame = .none ∧
    s.flag Fld.HSP.CTRL.CRC_EN = false ∧
    (∀ l ∈ s.fab.latches, l.port = .twoWire) ∧
    (∀ (i : Nat), i < count → reads s (burstAddr addr.toNat i) = true ∧ burstAddr addr.toNat i / 4096 ≠ 0x060) :=
  ⟨0x000050, 1, (wFull.put Fld.HSP.CTRL.CRC_EN true |>.put Fld.HSP.CTRL.CRC_EN false), by decide +kernel⟩

theorem witness_SpiFramesComplete_6 : ∃ (addr : BitVec 24) (crc : BitVec 16) (s : State),
    spiAlive s = true ∧
    s.served = true ∧
    s.host.frame = .none ∧
    s.flag Fld.HSP.CTRL.CRC_EN = true ∧
    crc16 ([0x20] ++ addressBytes addr.toNat) ≠ crc :=
  ⟨0x000050, 0, (wFull.put Fld.HSP.CTRL.CRC_EN true), by decide +kernel⟩

theorem witness_SpiFramesComplete_7_1 : ∃ (s : State),
    spiAlive s = true ∧
    s.host.frame = .none :=
  ⟨wFull, by decide +kernel⟩

theorem witness_SpiFramesComplete_7_2 : ∃ (s : State),
    spiAlive s = true ∧
    s.host.frame = .none :=
  ⟨{ State.reset with pwr := { State.reset.pwr with stage := .reference } }, by decide +kernel⟩

theorem witness_SpiFramesComplete_8 : ∃ (op : BitVec 8) (s : State),
    spiAlive s = true ∧
    s.served = true ∧
    s.host.frame = .none ∧
    listedOpcodes.contains op = false ∧
    op ≠ 0x00 ∧
    op ≠ 0xFF :=
  ⟨0x42, wFull, by decide +kernel⟩

theorem witness_SpiFramesComplete_9 : ∃ (op : BitVec 8) (s : State),
    spiAlive s = true ∧
    s.host.frame = .none ∧
    (op = 0x00 ∨ op = 0xFF) :=
  ⟨0xFF, wFull, by decide +kernel⟩

theorem witness_SpiFramesComplete_10 : ∃ (s : State),
    spiAlive s = true ∧
    s.served = true ∧
    s.host.frame = .none :=
  ⟨wFull, by decide +kernel⟩

theorem witness_SpiFramesComplete_11_1 : ∃ (bits : Nat) (s : State) (a : Nat) (cut : Bool),
    spiAlive s = true ∧
    s.served = true ∧
    s.host.frame = .write a cut ∧
    (cut = true ∨ bits ≠ 0) :=
  ⟨5, { wFull with host := { frame := .write 0x01004C false } }, 0x01004C, false, by decide +kernel⟩

theorem witness_SpiFramesComplete_11_2 : ∃ (bits : Nat) (s : State) (a : Nat) (cut : Bool),
    spiAlive s = true ∧
    s.served = true ∧
    s.host.frame = .write a cut ∧
    (cut = true ∨ bits ≠ 0) :=
  ⟨0, { wFull with host := { frame := .write 0x01004C true } }, 0x01004C, true, by decide +kernel⟩

theorem witness_SpiFramesComplete_12_1 : ∃ (bits : Nat) (s : State) (a : Nat),
    spiAlive s = true ∧
    (s.host.frame = .write a false ∨ s.host.frame = .read a) ∧
    bits = 0 :=
  ⟨0, { wFull with host := { frame := .write 0x01004C false } }, 0x01004C, by decide +kernel⟩

theorem witness_SpiFramesComplete_12_2 : ∃ (bits : Nat) (s : State) (a : Nat),
    spiAlive s = true ∧
    (s.host.frame = .write a false ∨ s.host.frame = .read a) ∧
    bits = 0 :=
  ⟨0, { wFull with host := { frame := .read 0x01004C } }, 0x01004C, by decide +kernel⟩

theorem witness_SpiFramesComplete_13 : ∃ (bits : Nat) (s : State) (q : Bool) (a : Nat) (data : List (BitVec 8)) (n : Nat),
    spiAlive s = true ∧
    s.served = true ∧
    s.host.frame = .crcWrite q a data ∧
    bits = 0 ∧
    data.length = 4 * n + 2 ∧
    1 ≤ n ∧
    n ≤ 64 ∧
    (wordMsb (data.drop (4 * n))).toNat = (crc16 ([if q then 0x11 else 0x10] ++ addressBytes a ++ data.take (4 * n))).toNat ∧
    0x010000 ≤ a ∧
    a + 4 * n ≤ 0x018000 ∧
    (∀ (i : Nat), i < n → lets s (a + 4 * i) = true ∧ 0x40 ≤ (a + 4 * i) % 4096 ∧ ackWindow? (a + 4 * i) = none) :=
  ⟨0, { wFull with host := { frame := .crcWrite false 0x01004C [0, 0, 3, 9, 0xEA, 0xD2] } }, false, 0x01004C, [0, 0, 3, 9, 0xEA, 0xD2], 1, by decide +kernel⟩

theorem witness_SpiFramesComplete_14_1 : ∃ (bits : Nat) (s : State) (q : Bool) (a : Nat) (data : List (BitVec 8)) (cause : Nat),
    spiAlive s = true ∧
    s.served = true ∧
    s.host.frame = .crcWrite q a data ∧
    ((cause = 3 ∧ (bits ≠ 0 ∨ data.length < 6 ∨ data.length % 4 ≠ 2)) ∨ (cause = 6 ∧ bits = 0 ∧ data.length % 4 = 2 ∧ 258 < data.length) ∨
      (cause = 5 ∧ bits = 0 ∧ 6 ≤ data.length ∧ data.length ≤ 258 ∧ data.length % 4 = 2 ∧ (wordMsb (data.drop (data.length - 2))).toNat ≠
        (crc16 ([if q then 0x11 else 0x10] ++ addressBytes a ++ data.take (data.length - 2))).toNat)) :=
  ⟨0, { wFull with host := { frame := .crcWrite false 0x01004C [0, 0, 3, 9, 0, 0] } }, false, 0x01004C, [0, 0, 3, 9, 0, 0], 5, by decide +kernel⟩

theorem witness_SpiFramesComplete_14_2 : ∃ (bits : Nat) (s : State) (q : Bool) (a : Nat) (data : List (BitVec 8)) (cause : Nat),
    spiAlive s = true ∧
    s.served = true ∧
    s.host.frame = .crcWrite q a data ∧
    ((cause = 3 ∧ (bits ≠ 0 ∨ data.length < 6 ∨ data.length % 4 ≠ 2)) ∨ (cause = 6 ∧ bits = 0 ∧ data.length % 4 = 2 ∧ 258 < data.length) ∨
      (cause = 5 ∧ bits = 0 ∧ 6 ≤ data.length ∧ data.length ≤ 258 ∧ data.length % 4 = 2 ∧ (wordMsb (data.drop (data.length - 2))).toNat ≠
        (crc16 ([if q then 0x11 else 0x10] ++ addressBytes a ++ data.take (data.length - 2))).toNat)) :=
  ⟨0, { wFull with host := { frame := .crcWrite false 0x01004C [0, 0] } }, false, 0x01004C, [0, 0], 3, by decide +kernel⟩

theorem witness_SpiFramesComplete_14_3 : ∃ (bits : Nat) (s : State) (q : Bool) (a : Nat) (data : List (BitVec 8)) (cause : Nat),
    spiAlive s = true ∧
    s.served = true ∧
    s.host.frame = .crcWrite q a data ∧
    ((cause = 3 ∧ (bits ≠ 0 ∨ data.length < 6 ∨ data.length % 4 ≠ 2)) ∨ (cause = 6 ∧ bits = 0 ∧ data.length % 4 = 2 ∧ 258 < data.length) ∨
      (cause = 5 ∧ bits = 0 ∧ 6 ≤ data.length ∧ data.length ≤ 258 ∧ data.length % 4 = 2 ∧ (wordMsb (data.drop (data.length - 2))).toNat ≠
        (crc16 ([if q then 0x11 else 0x10] ++ addressBytes a ++ data.take (data.length - 2))).toNat)) :=
  ⟨4, { wFull with host := { frame := .crcWrite true 0x01004C [0, 0, 0, 0, 0, 0] } }, true, 0x01004C, [0, 0, 0, 0, 0, 0], 3, by decide +kernel⟩

theorem witness_SpiFramesComplete_14_4 : ∃ (bits : Nat) (s : State) (q : Bool) (a : Nat) (data : List (BitVec 8)) (cause : Nat),
    spiAlive s = true ∧
    s.served = true ∧
    s.host.frame = .crcWrite q a data ∧
    ((cause = 3 ∧ (bits ≠ 0 ∨ data.length < 6 ∨ data.length % 4 ≠ 2)) ∨ (cause = 6 ∧ bits = 0 ∧ data.length % 4 = 2 ∧ 258 < data.length) ∨
      (cause = 5 ∧ bits = 0 ∧ 6 ≤ data.length ∧ data.length ≤ 258 ∧ data.length % 4 = 2 ∧ (wordMsb (data.drop (data.length - 2))).toNat ≠
        (crc16 ([if q then 0x11 else 0x10] ++ addressBytes a ++ data.take (data.length - 2))).toNat)) :=
  ⟨0, { wFull with host := { frame := .crcWrite true 0x01004C (List.replicate 262 0) } }, true, 0x01004C, (List.replicate 262 0), 6, by decide +kernel⟩

theorem witness_SpiFramesComplete_15 : ∃ (s : State),
    s.served = false ∧
    s.host.frame = .none :=
  ⟨{ State.reset with pwr := { State.reset.pwr with stage := .reference } }, by decide +kernel⟩

theorem witness_TwoWireComplete_1 : ∃ (addr7 : BitVec 7) (data : List (BitVec 8)) (s : State) (c a : Nat),
    comparator s addr7.toNat = some c ∧
    windowed s c = false ∧
    data.length = 7 ∧
    a = (wordMsb (data.take 3)).toNat ∧
    0x010000 ≤ a ∧
    a < 0x018000 ∧
    lets s a = true ∧
    0x40 ≤ a % 4096 ∧
    ackWindow? a = none :=
  ⟨0x60, [0x01, 0x00, 0x4C, 0, 0, 3, 9], wFull, 0, 0x01004C, by decide +kernel⟩

theorem witness_TwoWireComplete_2_1 : ∃ (addr7 : BitVec 7) (data : List (BitVec 8)) (s : State) (c : Nat) (win : Bool),
    comparator s addr7.toNat = some c ∧
    win = windowed s c ∧
    data.length = 3 ∧
    ¬(win = true ∧ outsideWindows data = true) :=
  ⟨0x61, [0x10, 0x00, 0x04], wFull, 1, true, by decide +kernel⟩

theorem witness_TwoWireComplete_2_2 : ∃ (addr7 : BitVec 7) (data : List (BitVec 8)) (s : State) (c : Nat) (win : Bool),
    comparator s addr7.toNat = some c ∧
    win = windowed s c ∧
    data.length = 3 ∧
    ¬(win = true ∧ outsideWindows data = true) :=
  ⟨0x60, [0x00, 0x00, 0x50], wFull, 0, false, by decide +kernel⟩

theorem witness_TwoWireComplete_3_1 : ∃ (addr7 : BitVec 7) (data : List (BitVec 8)) (s : State) (c cause : Nat),
    comparator s addr7.toNat = some c ∧
    ((cause = 5 ∧ windowed s c = true ∧ outsideWindows data = true) ∨ (cause = 4 ∧ ¬(windowed s c = true ∧ outsideWindows data = true) ∧ data.length < 3) ∨
      (cause = 3 ∧ ¬(windowed s c = true ∧ outsideWindows data = true) ∧ 3 < data.length ∧ data.length < 7 ∧ (wordMsb (data.take 3)).toNat < 0x200000)) :=
  ⟨0x61, [0x00, 0x00, 0x50], wFull, 1, 5, by decide +kernel⟩

theorem witness_TwoWireComplete_3_2 : ∃ (addr7 : BitVec 7) (data : List (BitVec 8)) (s : State) (c cause : Nat),
    comparator s addr7.toNat = some c ∧
    ((cause = 5 ∧ windowed s c = true ∧ outsideWindows data = true) ∨ (cause = 4 ∧ ¬(windowed s c = true ∧ outsideWindows data = true) ∧ data.length < 3) ∨
      (cause = 3 ∧ ¬(windowed s c = true ∧ outsideWindows data = true) ∧ 3 < data.length ∧ data.length < 7 ∧ (wordMsb (data.take 3)).toNat < 0x200000)) :=
  ⟨0x60, [0x00, 0x00], wFull, 0, 4, by decide +kernel⟩

theorem witness_TwoWireComplete_3_3 : ∃ (addr7 : BitVec 7) (data : List (BitVec 8)) (s : State) (c cause : Nat),
    comparator s addr7.toNat = some c ∧
    ((cause = 5 ∧ windowed s c = true ∧ outsideWindows data = true) ∨ (cause = 4 ∧ ¬(windowed s c = true ∧ outsideWindows data = true) ∧ data.length < 3) ∨
      (cause = 3 ∧ ¬(windowed s c = true ∧ outsideWindows data = true) ∧ 3 < data.length ∧ data.length < 7 ∧ (wordMsb (data.take 3)).toNat < 0x200000)) :=
  ⟨0x60, [0x00, 0x00, 0x50, 1], wFull, 0, 3, by decide +kernel⟩

theorem witness_TwoWireComplete_4 : ∃ (addr7 : BitVec 7) (s : State),
    comparator s addr7.toNat = none :=
  ⟨0x42, wFull, by decide +kernel⟩

theorem witness_TwoWireComplete_5 : ∃ (addr7 : BitVec 7) (count : Nat) (s : State) (c n : Nat),
    comparator s addr7.toNat = some c ∧
    windowed s c = false ∧
    1 ≤ n ∧
    count = 4 * n ∧
    s.host.ptr0 % 4 = 0 ∧
    s.host.ptr0 < 16777216 ∧
    (∀ l ∈ s.fab.latches, l.port = .spi) ∧
    (∀ (i : Nat), i < n → reads s (burstAddr s.host.ptr0 i) = true ∧ burstAddr s.host.ptr0 i / 4096 ≠ 0x061) :=
  ⟨0x60, 8, { wFull with host := { ptr0 := 0x50 } }, 0, 2, by decide +kernel⟩

theorem witness_TwoWireComplete_6_1 : ∃ (addr7 : BitVec 7) (dir : TwtDir) (why : TwtAbort) (s : State) (c : Nat) (data : List (BitVec 8)),
    dir = .write data ∧
    why = .inByte ∧
    comparator s addr7.toNat = some c ∧
    ¬(windowed s c = true ∧ outsideWindows data = true) ∧
    data.length < 7 ∧
    (wordMsb (data.take 3)).toNat < 0x200000 :=
  ⟨0x60, .write [0, 0], .inByte, wFull, 0, [0, 0], by decide +kernel⟩

theorem witness_TwoWireComplete_6_2 : ∃ (addr7 : BitVec 7) (dir : TwtDir) (why : TwtAbort) (s : State) (c : Nat) (data : List (BitVec 8)),
    dir = .write data ∧
    why = .inByte ∧
    comparator s addr7.toNat = some c ∧
    ¬(windowed s c = true ∧ outsideWindows data = true) ∧
    data.length < 7 ∧
    (wordMsb (data.take 3)).toNat < 0x200000 :=
  ⟨0x60, .write [0, 0, 0x50, 1, 2], .inByte, wFull, 0, [0, 0, 0x50, 1, 2], by decide +kernel⟩

theorem witness_TwoWireComplete_7 : ∃ (addr7 : BitVec 7) (dir : TwtDir) (why : TwtAbort) (s : State) (c : Nat) (data : List (BitVec 8)),
    dir = .write data ∧
    why = .inWord ∧
    comparator s addr7.toNat = some c ∧
    ¬(windowed s c = true ∧ outsideWindows data = true) ∧
    3 < data.length ∧
    data.length < 7 ∧
    (wordMsb (data.take 3)).toNat < 0x200000 :=
  ⟨0x60, .write [0, 0, 0x50, 1, 2], .inWord, wFull, 0, [0, 0, 0x50, 1, 2], by decide +kernel⟩

theorem witness_TwoWireComplete_8 : ∃ (addr7 : BitVec 7) (dir : TwtDir) (why : TwtAbort) (s : State) (c : Nat) (data : List (BitVec 8)),
    dir = .write data ∧
    why = .nackRestart ∧
    comparator s addr7.toNat = some c ∧
    windowed s c = true ∧
    outsideWindows data = true ∧
    data.length = 1 :=
  ⟨0x61, .write [0], .nackRestart, wFull, 1, [0], by decide +kernel⟩

theorem witness_TwoWireComplete_9 : ∃ (addr7 : BitVec 7) (dir : TwtDir) (s : State) (c : Nat) (data : List (BitVec 8)),
    dir = .write data ∧
    comparator s addr7.toNat = some c ∧
    ¬(windowed s c = true ∧ outsideWindows data = true) ∧
    data.length < 7 ∧
    (wordMsb (data.take 3)).toNat < 0x200000 :=
  ⟨0x60, .write [0, 0, 0x50, 1, 2], wFull, 0, [0, 0, 0x50, 1, 2], by decide +kernel⟩

theorem witness_TwoWireComplete_10 : ∃ (addr7 : BitVec 7) (dir : TwtDir) (s : State) (c : Nat) (data : List (BitVec 8)),
    dir = .write data ∧
    s.pwr.mode = .recovery ∧
    comparator s addr7.toNat = some c ∧
    ¬(windowed s c = true ∧ outsideWindows data = true) ∧
    data.length < 7 ∧
    (wordMsb (data.take 3)).toNat < 0x200000 :=
  ⟨0x60, .write [0, 0], { wFull with pwr := { mode := .recovery } }, 0, [0, 0], by decide +kernel⟩

theorem witness_TwoWireComplete_11 : ∃ (addr7 : BitVec 7) (dir : TwtDir) (s : State) (c count k : Nat),
    dir = .read count ∧
    s.pwr.mode = .recovery ∧
    comparator s addr7.toNat = some c ∧
    windowed s c = false ∧
    k = (4 - (s.host.ptr0 + count) % 4) % 4 :=
  ⟨0x60, .read 3, { wFull with pwr := { mode := .recovery }, host := { ptr0 := 0x06A050 } }, 0, 3, 1, by decide +kernel⟩

theorem witness_TwoWireComplete_12_1 : ∃ (addr7 : BitVec 7) (s : State),
    s.pwr.mode = .sleep ∧
    addr7.toNat = 0x60 + 2 * s.pwr.addrSel ∧
    s.pwr.vsysOk = true :=
  ⟨0x62, { wFull with pwr := { mode := .sleep, addrSel := 1, lastStop := 4 } }, by decide +kernel⟩

theorem witness_TwoWireComplete_12_2 : ∃ (addr7 : BitVec 7) (s : State),
    s.pwr.mode = .sleep ∧
    addr7.toNat = 0x60 + 2 * s.pwr.addrSel ∧
    s.pwr.vsysOk = true :=
  ⟨0x60, { wFull with pwr := { mode := .sleep, lastStop := 4 } }, by decide +kernel⟩

theorem witness_TwoWireComplete_13 : ∃ (s : State),
    s.pwr.mode ≠ .sleep :=
  ⟨wFull, by decide +kernel⟩

theorem witness_TwcRequestsComplete_1 : ∃ (v : Word) (s : State),
    lets s Reg.TWC.CMD = true ∧
    s.twc.host = none ∧
    fieldOf v 8 6 ≤ 32 ∧
    fieldOf v 16 6 ≤ 32 ∧
    s.flag Fld.TWC.STAT.DISABLED = false :=
  ⟨0x0003204A, wFull, by decide +kernel⟩

theorem witness_TwcRequestsComplete_2_1 : ∃ (v : Word) (s : State),
    lets s Reg.TWC.CMD = true ∧
    (s.twc.host.isSome = true ∨ 32 < fieldOf v 8 6 ∨ 32 < fieldOf v 16 6) :=
  ⟨0x0000214A, wFull, by decide +kernel⟩

theorem witness_TwcRequestsComplete_2_2 : ∃ (v : Word) (s : State),
    lets s Reg.TWC.CMD = true ∧
    (s.twc.host.isSome = true ∨ 32 < fieldOf v 8 6 ∨ 32 < fieldOf v 16 6) :=
  ⟨0x0000014A, { wFull with twc := { host := some (1, 1, 1) } }, by decide +kernel⟩

theorem witness_TwcRequestsComplete_3 : ∃ (v : Word) (s : State),
    lets s Reg.TWC.CMD = true ∧
    s.twc.host = none ∧
    fieldOf v 8 6 ≤ 32 ∧
    fieldOf v 16 6 ≤ 32 ∧
    s.flag Fld.TWC.STAT.DISABLED = true :=
  ⟨0x0000014A, (wFull.put Fld.TWC.STAT.DISABLED true), by decide +kernel⟩

theorem witness_TwcRequestsComplete_4 : ∃ (v : Word) (s : State) (n : Nat),
    lets s Reg.TWC.CMD_RUN = true ∧
    n = fieldOf v 0 4 ∧
    n ∉ s.twc.order ∧
    s.flag Fld.TWC.STAT.DISABLED = false :=
  ⟨0x0000000F, { wFull with twc := { order := [3] } }, 15, by decide +kernel⟩

theorem witness_TwcRequestsComplete_5_1 : ∃ (v : Word) (s : State),
    lets s Reg.TWC.CMD_RUN = true ∧
    (fieldOf v 0 4 ∈ s.twc.order ∨ s.flag Fld.TWC.STAT.DISABLED = true) :=
  ⟨0x00000003, { wFull with twc := { order := [3] } }, by decide +kernel⟩

theorem witness_TwcRequestsComplete_5_2 : ∃ (v : Word) (s : State),
    lets s Reg.TWC.CMD_RUN = true ∧
    (fieldOf v 0 4 ∈ s.twc.order ∨ s.flag Fld.TWC.STAT.DISABLED = true) :=
  ⟨0x00000004, (wFull.put Fld.TWC.STAT.DISABLED true), by decide +kernel⟩

theorem witness_TwcRequestsComplete_6 : ∃ (s : State) (n step : Nat),
    lets s Reg.TWC.CTRL = true ∧
    s.twc.work = .script n step ∧
    s.twc.xfer = none :=
  ⟨{ wFull with twc := { order := [3], work := .script 2 7, waitTo := some 9 } }, 2, 7, by decide +kernel⟩

theorem witness_TwcRequestsComplete_7 : ∃ (v : Word) (s : State),
    lets s Reg.TWC.CTRL = true ∧
    s.twc.work = .idle ∧
    v.getLsbD 4 = false :=
  ⟨0x00000303, wFull, by decide +kernel⟩

theorem witness_TwcRequestsComplete_8 : ∃ (v : Word) (s : State),
    lets s Reg.TWC.CTRL = true ∧
    v.getLsbD 0 = true ∧
    v.getLsbD 3 = false :=
  ⟨0x00000303, (wFull.put Fld.TWC.STAT.DISABLED true), by decide +kernel⟩

theorem witness_TwcWorkCompletes_1_1 : ∃ (bus : TwcBus) (s : State) (h : Nat × Nat × Nat),
    auxDrives s = true ∧
    s.twc.work = .idle ∧
    s.twc.order = [] ∧
    s.twc.host = some h ∧
    s.twc.xfer = none ∧
    s.twc.waitTo = none ∧
    bus ≠ .stuck :=
  ⟨.free, { (wFull.put Fld.TWC.CTRL.EN true) with twc := { host := some (0x4A, 2, 3) } }, (0x4A, 2, 3), by decide +kernel⟩

theorem witness_TwcWorkCompletes_1_2 : ∃ (bus : TwcBus) (s : State) (h : Nat × Nat × Nat),
    auxDrives s = true ∧
    s.twc.work = .idle ∧
    s.twc.order = [] ∧
    s.twc.host = some h ∧
    s.twc.xfer = none ∧
    s.twc.waitTo = none ∧
    bus ≠ .stuck :=
  ⟨.cleared, { (wFull.put Fld.TWC.CTRL.EN true) with twc := { host := some (0x4A, 2, 3) } }, (0x4A, 2, 3), by decide +kernel⟩

theorem witness_TwcWorkCompletes_2 : ∃ (bus : TwcBus) (s : State) (h : Nat × Nat × Nat),
    auxDrives s = true ∧
    s.twc.work = .idle ∧
    s.twc.order = [] ∧
    s.twc.host = some h ∧
    s.twc.xfer = none ∧
    s.twc.waitTo = none ∧
    bus = .stuck :=
  ⟨.stuck, { (wFull.put Fld.TWC.CTRL.EN true) with twc := { host := some (0x4A, 2, 3) } }, (0x4A, 2, 3), by decide +kernel⟩

theorem witness_TwcWorkCompletes_3_1 : ∃ (bus : TwcBus) (s : State) (n : Nat) (rest : List Nat) (st : Nat) (w : Word),
    auxDrives s = true ∧
    s.twc.work = .idle ∧
    s.twc.order = n :: rest ∧
    n < 16 ∧
    bus ≠ .stuck ∧
    st = s.get (Fld.TWC.SCR_CFG.START n) ∧
    w = s.word (Reg.TWC.STEP st) ∧
    (fieldOf w 28 4 = 1 ∨ fieldOf w 28 4 = 2) :=
  ⟨.free, { ((wFull.put Fld.TWC.CTRL.EN true).set (Fld.TWC.SCR_CFG.START 3) 255 |>.setWord (Reg.TWC.STEP 255) 0x204A0180) with twc := { order := [3, 1], host := some (1, 1, 1) } }, 3, [1], 255, 0x204A0180, by decide +kernel⟩

theorem witness_TwcWorkCompletes_3_2 : ∃ (bus : TwcBus) (s : State) (n : Nat) (rest : List Nat) (st : Nat) (w : Word),
    auxDrives s = true ∧
    s.twc.work = .idle ∧
    s.twc.order = n :: rest ∧
    n < 16 ∧
    bus ≠ .stuck ∧
    st = s.get (Fld.TWC.SCR_CFG.START n) ∧
    w = s.word (Reg.TWC.STEP st) ∧
    (fieldOf w 28 4 = 1 ∨ fieldOf w 28 4 = 2) :=
  ⟨.free, { ((wFull.put Fld.TWC.CTRL.EN true).set (Fld.TWC.SCR_CFG.START 3) 0 |>.setWord (Reg.TWC.STEP 0) 0x10110080) with twc := { order := [3, 1] } }, 3, [1], 0, 0x10110080, by decide +kernel⟩

theorem witness_TwcWorkCompletes_4 : ∃ (s : State) (n : Nat) (rest : List Nat) (w : Word),
    auxDrives s = true ∧
    s.twc.work = .idle ∧
    s.twc.order = n :: rest ∧
    n < 16 ∧
    w = s.word (Reg.TWC.STEP (s.get (Fld.TWC.SCR_CFG.START n))) ∧
    fieldOf w 28 4 = 3 :=
  ⟨{ ((wFull.put Fld.TWC.CTRL.EN true).setWord (Reg.TWC.STEP 0) 0x30000000) with twc := { order := [3, 1] } }, 3, [1], 0x30000000, by decide +kernel⟩

theorem witness_TwcWorkCompletes_5 : ∃ (s : State) (n : Nat) (rest : List Nat) (w : Word),
    auxDrives s = true ∧
    s.twc.work = .idle ∧
    s.twc.order = n :: rest ∧
    n < 16 ∧
    w = s.word (Reg.TWC.STEP (s.get (Fld.TWC.SCR_CFG.START n))) ∧
    4 ≤ fieldOf w 28 4 :=
  ⟨{ ((wFull.put Fld.TWC.CTRL.EN true).setWord (Reg.TWC.STEP 0) 0x40000000) with twc := { order := [3, 1] } }, 3, [1], 0x40000000, by decide +kernel⟩

theorem witness_TwcWorkCompletes_6_1 : ∃ (obs : TwcDoneObs) (s : State) (x : Nat × List (BitVec 8) × Nat) (cause wr : Nat) (rd : List (BitVec 8)),
    s.twc.work = .host ∧
    s.twc.xfer = some x ∧
    ((cause = 0 ∧ obs.nackAddr = false ∧ obs.nackData = false ∧ wr = x.2.1.length ∧ rd = obs.rdBytes ∧ rd.length = x.2.2) ∨
      (cause = 1 ∧ obs.nackAddr = true ∧ wr = obs.wrDone ∧ wr ≤ x.2.1.length ∧ rd = []) ∨
      (cause = 2 ∧ obs.nackAddr = false ∧ obs.nackData = true ∧ wr = obs.wrDone ∧ wr < x.2.1.length ∧ rd = [])) :=
  ⟨⟨false, false, 0, [7, 8]⟩, { wFull with twc := { host := some (0x4A, 1, 2), work := .host, xfer := some (0x4A, [5], 2) } }, (0x4A, [5], 2), 0, 1, [7, 8], by decide +kernel⟩

theorem witness_TwcWorkCompletes_6_2 : ∃ (obs : TwcDoneObs) (s : State) (x : Nat × List (BitVec 8) × Nat) (cause wr : Nat) (rd : List (BitVec 8)),
    s.twc.work = .host ∧
    s.twc.xfer = some x ∧
    ((cause = 0 ∧ obs.nackAddr = false ∧ obs.nackData = false ∧ wr = x.2.1.length ∧ rd = obs.rdBytes ∧ rd.length = x.2.2) ∨
      (cause = 1 ∧ obs.nackAddr = true ∧ wr = obs.wrDone ∧ wr ≤ x.2.1.length ∧ rd = []) ∨
      (cause = 2 ∧ obs.nackAddr = false ∧ obs.nackData = true ∧ wr = obs.wrDone ∧ wr < x.2.1.length ∧ rd = [])) :=
  ⟨⟨true, false, 0, []⟩, { wFull with twc := { host := some (0x4A, 1, 2), work := .host, xfer := some (0x4A, [5], 2) } }, (0x4A, [5], 2), 1, 0, [], by decide +kernel⟩

theorem witness_TwcWorkCompletes_6_3 : ∃ (obs : TwcDoneObs) (s : State) (x : Nat × List (BitVec 8) × Nat) (cause wr : Nat) (rd : List (BitVec 8)),
    s.twc.work = .host ∧
    s.twc.xfer = some x ∧
    ((cause = 0 ∧ obs.nackAddr = false ∧ obs.nackData = false ∧ wr = x.2.1.length ∧ rd = obs.rdBytes ∧ rd.length = x.2.2) ∨
      (cause = 1 ∧ obs.nackAddr = true ∧ wr = obs.wrDone ∧ wr ≤ x.2.1.length ∧ rd = []) ∨
      (cause = 2 ∧ obs.nackAddr = false ∧ obs.nackData = true ∧ wr = obs.wrDone ∧ wr < x.2.1.length ∧ rd = [])) :=
  ⟨⟨false, true, 1, []⟩, { wFull with twc := { host := some (0x4A, 2, 0), work := .host, xfer := some (0x4A, [5, 6], 0) } }, (0x4A, [5, 6], 0), 2, 1, [], by decide +kernel⟩

theorem witness_TwcWorkCompletes_7 : ∃ (obs : TwcDoneObs) (s : State) (x : Nat × List (BitVec 8) × Nat) (n step : Nat),
    s.twc.work = .script n step ∧
    s.twc.xfer = some x ∧
    obs.nackAddr = true ∧
    (scriptStep s step).getLsbD 24 = false ∧
    obs.wrDone = 0 :=
  ⟨⟨true, false, 0, []⟩, { wFull with twc := { work := .script 3 8, steps := List.replicate 256 0x104A0005, xfer := some (0x4A, [5], 0) } }, (0x4A, [5], 0), 3, 8, by decide +kernel⟩

theorem witness_TwcWorkCompletes_8_1 : ∃ (obs : TwcDoneObs) (s : State) (x : Nat × List (BitVec 8) × Nat) (n step : Nat),
    s.twc.work = .script n step ∧
    s.twc.xfer = some x ∧
    ((obs.nackAddr = false ∧ obs.nackData = false) ∨ (scriptStep s step).getLsbD 24 = true) ∧
    step < 255 ∧
    (fieldOf (scriptStep s (step + 1)) 28 4 = 1 ∨ fieldOf (scriptStep s (step + 1)) 28 4 = 2) :=
  ⟨⟨false, false, 0, []⟩, { wFull with twc := { work := .script 3 8, steps := List.replicate 256 0x104A0005, xfer := some (0x4A, [5], 0) } }, (0x4A, [5], 0), 3, 8, by decide +kernel⟩

theorem witness_TwcWorkCompletes_8_2 : ∃ (obs : TwcDoneObs) (s : State) (x : Nat × List (BitVec 8) × Nat) (n step : Nat),
    s.twc.work = .script n step ∧
    s.twc.xfer = some x ∧
    ((obs.nackAddr = false ∧ obs.nackData = false) ∨ (scriptStep s step).getLsbD 24 = true) ∧
    step < 255 ∧
    (fieldOf (scriptStep s (step + 1)) 28 4 = 1 ∨ fieldOf (scriptStep s (step + 1)) 28 4 = 2) :=
  ⟨⟨true, false, 0, []⟩, { wFull with twc := { work := .script 3 8, steps := List.replicate 256 0x114A0005, xfer := some (0x4A, [5], 0) } }, (0x4A, [5], 0), 3, 8, by decide +kernel⟩

theorem witness_TwcWorkCompletes_9 : ∃ (s : State) (n step b : Nat),
    s.twc.work = .script n step ∧
    s.twc.waitTo = some b ∧
    b ≤ s.epoch ∧
    step < 255 ∧
    fieldOf (scriptStep s (step + 1)) 28 4 = 0 ∧
    s.twc.notify = true :=
  ⟨{ wFull with twc := { work := .script 3 8, steps := List.replicate 256 0, waitTo := some 0, notify := true } }, 3, 8, 0, by decide +kernel⟩

theorem witness_TwcWorkCompletes_10 : ∃ (s : State) (b : Nat),
    s.twc.waitTo = some b ∧
    s.epoch < b :=
  ⟨{ wFull with twc := { work := .script 3 8, waitTo := some 1 } }, 1, by decide +kernel⟩

theorem witness_TwcWorkCompletes_11 : ∃ (s : State),
    s.twc.xfer.isSome = true ∧
    s.twc.losses < s.get Fld.TWC.CTRL.ARB_RETRY :=
  ⟨{ (wFull.set Fld.TWC.CTRL.ARB_RETRY 2) with twc := { host := some (0x4A, 1, 0), work := .host, xfer := some (0x4A, [5], 0), losses := 1 } }, by decide +kernel⟩

theorem witness_TwcWorkCompletes_12 : ∃ (s : State),
    s.twc.xfer.isSome = true ∧
    s.get Fld.TWC.CTRL.ARB_RETRY ≤ s.twc.losses ∧
    s.twc.work = .host ∧
    s.flag (windowValid 22) = false :=
  ⟨{ (wFull.set Fld.TWC.CTRL.ARB_RETRY 2) with twc := { host := some (0x4A, 1, 0), work := .host, xfer := some (0x4A, [5], 0), losses := 2 } }, by decide +kernel⟩

theorem witness_TwcWorkCompletes_13 : ∃ (s : State) (h : Nat × Nat × Nat),
    auxDrives s = true ∧
    s.twc.work = .idle ∧
    s.twc.order = [] ∧
    s.twc.host = some h ∧
    s.twc.xfer = none ∧
    s.twc.waitTo = none :=
  ⟨{ (wFull.put Fld.TWC.CTRL.EN true) with twc := { host := some (0x4A, 2, 3) } }, (0x4A, 2, 3), by decide +kernel⟩

theorem witness_TwcWorkCompletes_14 : ∃ (rdDone : Nat) (s : State) (x : Nat × List (BitVec 8) × Nat),
    auxDrives s = true ∧
    s.twc.work = .host ∧
    s.twc.xfer = some x ∧
    s.flag (windowValid 22) = false ∧
    rdDone ≤ x.2.2 ∧
    x.2.2 ≤ 32 ∧
    x.2.1.length ≤ 32 :=
  ⟨1, { (wFull.put Fld.TWC.CTRL.EN true) with twc := { host := some (0x4A, 1, 2), work := .host, xfer := some (0x4A, [5], 2) } }, (0x4A, [5], 2), by decide +kernel⟩

theorem witness_RequestsComplete_1_1 : ∃ (s : State),
    lets s Reg.SYS.STATE_REQ = true ∧
    s.pwr.mode ≠ .safe ∧
    s.pwr.mode ≠ .recovery ∧
    s.pwr.held ≠ some 9 :=
  ⟨wFull, by decide +kernel⟩

theorem witness_RequestsComplete_1_2 : ∃ (s : State),
    lets s Reg.SYS.STATE_REQ = true ∧
    s.pwr.mode ≠ .safe ∧
    s.pwr.mode ≠ .recovery ∧
    s.pwr.held ≠ some 9 :=
  ⟨{ wFull with pwr := { mode := .hold } }, by decide +kernel⟩

theorem witness_RequestsComplete_2_1 : ∃ (s : State),
    lets s Reg.SYS.STATE_REQ = true ∧
    s.pwr.mode ≠ .safe ∧
    s.pwr.mode ≠ .recovery ∧
    s.pwr.held ≠ some 9 :=
  ⟨wQuiet, by decide +kernel⟩

theorem witness_RequestsComplete_2_2 : ∃ (s : State),
    lets s Reg.SYS.STATE_REQ = true ∧
    s.pwr.mode ≠ .safe ∧
    s.pwr.mode ≠ .recovery ∧
    s.pwr.held ≠ some 9 :=
  ⟨{ wFull with pwr := { mode := .watch, trans := some ⟨.full, 0, none, false⟩ } }, by decide +kernel⟩

theorem witness_RequestsComplete_3 : ∃ (s : State),
    lets s Reg.SYS.STATE_REQ = true ∧
    s.pwr.mode ≠ .safe ∧
    s.pwr.mode ≠ .recovery ∧
    s.pwr.held ≠ some 9 :=
  ⟨wQuiet, by decide +kernel⟩

theorem witness_RequestsComplete_4 : ∃ (s : State),
    lets s Reg.SYS.STATE_REQ = true ∧
    s.pwr.mode ≠ .safe ∧
    s.pwr.mode ≠ .recovery ∧
    s.pwr.held ≠ some 9 :=
  ⟨wFull, by decide +kernel⟩

theorem witness_RequestsComplete_5 : ∃ (s : State),
    lets s Reg.SYS.STATE_REQ = true ∧
    s.pwr.held ≠ some 9 :=
  ⟨{ wFull with pwr := { mode := .safe } }, by decide +kernel⟩

theorem witness_RequestsComplete_6 : ∃ (s : State),
    lets s Reg.SYS.STATE_REQ = true ∧
    s.pwr.held ≠ some 9 :=
  ⟨wFull, by decide +kernel⟩

theorem witness_RequestsComplete_7_1 : ∃ (v : Word) (s : State),
    lets s Reg.SYS.STATE_REQ = true ∧
    (([2, 3, 4, 5, 8, 9] : List Nat).contains (fieldOf v 0 8) = false ∨
      ((s.pwr.mode = .safe ∨ s.pwr.mode = .recovery) ∧ ([2, 3, 4, 5] : List Nat).contains (fieldOf v 0 8) = true)) :=
  ⟨0x0000000A, wFull, by decide +kernel⟩

theorem witness_RequestsComplete_7_2 : ∃ (v : Word) (s : State),
    lets s Reg.SYS.STATE_REQ = true ∧
    (([2, 3, 4, 5, 8, 9] : List Nat).contains (fieldOf v 0 8) = false ∨
      ((s.pwr.mode = .safe ∨ s.pwr.mode = .recovery) ∧ ([2, 3, 4, 5] : List Nat).contains (fieldOf v 0 8) = true)) :=
  ⟨0x00000004, { wFull with pwr := { mode := .safe } }, by decide +kernel⟩

theorem witness_RequestsComplete_8 : ∃ (v : Word) (s : State),
    lets s Reg.SYS.CFG_COMMIT = true ∧
    v.getLsbD 0 = true ∧
    s.pwr.mode = .hold ∧
    s.flag Fld.SYS.CFG_STATUS.CHECKING = false :=
  ⟨1, { wFull with pwr := { mode := .hold } }, by decide +kernel⟩

theorem witness_RequestsComplete_9_1 : ∃ (v : Word) (s : State) (reason detail : Nat),
    lets s Reg.SYS.CFG_COMMIT = true ∧
    v.getLsbD 0 = true ∧
    ((reason = 2 ∧ detail = stateCode s ∧ s.pwr.mode ≠ .hold) ∨ (reason = 3 ∧ detail = 0 ∧ s.pwr.mode = .hold ∧ s.flag Fld.SYS.CFG_STATUS.CHECKING = true)) :=
  ⟨1, wFull, 2, 4, by decide +kernel⟩

theorem witness_RequestsComplete_9_2 : ∃ (v : Word) (s : State) (reason detail : Nat),
    lets s Reg.SYS.CFG_COMMIT = true ∧
    v.getLsbD 0 = true ∧
    ((reason = 2 ∧ detail = stateCode s ∧ s.pwr.mode ≠ .hold) ∨ (reason = 3 ∧ detail = 0 ∧ s.pwr.mode = .hold ∧ s.flag Fld.SYS.CFG_STATUS.CHECKING = true)) :=
  ⟨1, ({ wFull with pwr := { mode := .hold } }.put Fld.SYS.CFG_STATUS.CHECKING true), 3, 0, by decide +kernel⟩

theorem witness_RequestsComplete_10 : ∃ (s : State) (m : Mode),
    s.flag Fld.SYS.CFG_STATUS.CHECKING = true ∧
    s.pwr.mode = .hold ∧
    s.pwr.trans = none ∧
    requestMode (s.get Fld.SYS.STATE_REQ.CODE) = some m ∧
    (m = .quiet ∨ m = .watch ∨ m = .full) ∧
    (∀ (p : Nat), p < 5 → formatLegal (s.word (Reg.AOP.CTRL p)) = true) ∧
    (∀ (i : Nat), i < 2 → podDiffers s i = false) ∧
    (podMembers s 1).all (fun p => !((podMembers s 0).contains p)) = true ∧
    s.get Fld.RGL.BAND_PLAN.BANDS ≠ 0 :=
  ⟨(({ wFull with pwr := { mode := .hold } }.put Fld.SYS.CFG_STATUS.CHECKING true).set Fld.SYS.STATE_REQ.CODE 4), .full, by decide +kernel⟩

theorem witness_RequestsComplete_11_1 : ∃ (s : State) (reason detail : Nat),
    s.flag Fld.SYS.CFG_STATUS.CHECKING = true ∧
    s.pwr.bootShown = false ∧
    ((reason = 4 ∧ detail = s.get Fld.SYS.STATE_REQ.CODE ∧ (detail < 2 ∨ 4 < detail)) ∨
      (reason = 5 ∧ 2 ≤ s.get Fld.SYS.STATE_REQ.CODE ∧ s.get Fld.SYS.STATE_REQ.CODE ≤ 4 ∧ detail < 5 ∧ formatLegal (s.word (Reg.AOP.CTRL detail)) = false ∧
        (List.range detail).all (fun p => formatLegal (s.word (Reg.AOP.CTRL p))) = true) ∨
      (reason = 6 ∧ detail = 1 ∧ 2 ≤ s.get Fld.SYS.STATE_REQ.CODE ∧ s.get Fld.SYS.STATE_REQ.CODE ≤ 4 ∧
        (List.range 5).all (fun p => formatLegal (s.word (Reg.AOP.CTRL p))) = true ∧ podDiffers s 0 = false ∧
        (podMembers s 1).any (fun p => (podMembers s 0).contains p) = true) ∨
      (reason = 7 ∧ detail = 0 ∧ 2 ≤ s.get Fld.SYS.STATE_REQ.CODE ∧ s.get Fld.SYS.STATE_REQ.CODE ≤ 4 ∧
        (List.range 5).all (fun p => formatLegal (s.word (Reg.AOP.CTRL p))) = true ∧ (List.range 2).all (fun m => !(podDiffers s m)) = true ∧
        (podMembers s 1).all (fun p => !((podMembers s 0).contains p)) = true ∧ s.get Fld.RGL.BAND_PLAN.BANDS = 0)) :=
  ⟨({ wFull with pwr := { mode := .hold } }.put Fld.SYS.CFG_STATUS.CHECKING true), 4, 5, by decide +kernel⟩

theorem witness_RequestsComplete_11_2 : ∃ (s : State) (reason detail : Nat),
    s.flag Fld.SYS.CFG_STATUS.CHECKING = true ∧
    s.pwr.bootShown = false ∧
    ((reason = 4 ∧ detail = s.get Fld.SYS.STATE_REQ.CODE ∧ (detail < 2 ∨ 4 < detail)) ∨
      (reason = 5 ∧ 2 ≤ s.get Fld.SYS.STATE_REQ.CODE ∧ s.get Fld.SYS.STATE_REQ.CODE ≤ 4 ∧ detail < 5 ∧ formatLegal (s.word (Reg.AOP.CTRL detail)) = false ∧
        (List.range detail).all (fun p => formatLegal (s.word (Reg.AOP.CTRL p))) = true) ∨
      (reason = 6 ∧ detail = 1 ∧ 2 ≤ s.get Fld.SYS.STATE_REQ.CODE ∧ s.get Fld.SYS.STATE_REQ.CODE ≤ 4 ∧
        (List.range 5).all (fun p => formatLegal (s.word (Reg.AOP.CTRL p))) = true ∧ podDiffers s 0 = false ∧
        (podMembers s 1).any (fun p => (podMembers s 0).contains p) = true) ∨
      (reason = 7 ∧ detail = 0 ∧ 2 ≤ s.get Fld.SYS.STATE_REQ.CODE ∧ s.get Fld.SYS.STATE_REQ.CODE ≤ 4 ∧
        (List.range 5).all (fun p => formatLegal (s.word (Reg.AOP.CTRL p))) = true ∧ (List.range 2).all (fun m => !(podDiffers s m)) = true ∧
        (podMembers s 1).all (fun p => !((podMembers s 0).contains p)) = true ∧ s.get Fld.RGL.BAND_PLAN.BANDS = 0)) :=
  ⟨((({ wFull with pwr := { mode := .hold } }.put Fld.SYS.CFG_STATUS.CHECKING true).set Fld.SYS.STATE_REQ.CODE 4).setWord (Reg.AOP.CTRL 3) 0x00001E46), 5, 3, by decide +kernel⟩

theorem witness_RequestsComplete_11_3 : ∃ (s : State) (reason detail : Nat),
    s.flag Fld.SYS.CFG_STATUS.CHECKING = true ∧
    s.pwr.bootShown = false ∧
    ((reason = 4 ∧ detail = s.get Fld.SYS.STATE_REQ.CODE ∧ (detail < 2 ∨ 4 < detail)) ∨
      (reason = 5 ∧ 2 ≤ s.get Fld.SYS.STATE_REQ.CODE ∧ s.get Fld.SYS.STATE_REQ.CODE ≤ 4 ∧ detail < 5 ∧ formatLegal (s.word (Reg.AOP.CTRL detail)) = false ∧
        (List.range detail).all (fun p => formatLegal (s.word (Reg.AOP.CTRL p))) = true) ∨
      (reason = 6 ∧ detail = 1 ∧ 2 ≤ s.get Fld.SYS.STATE_REQ.CODE ∧ s.get Fld.SYS.STATE_REQ.CODE ≤ 4 ∧
        (List.range 5).all (fun p => formatLegal (s.word (Reg.AOP.CTRL p))) = true ∧ podDiffers s 0 = false ∧
        (podMembers s 1).any (fun p => (podMembers s 0).contains p) = true) ∨
      (reason = 7 ∧ detail = 0 ∧ 2 ≤ s.get Fld.SYS.STATE_REQ.CODE ∧ s.get Fld.SYS.STATE_REQ.CODE ≤ 4 ∧
        (List.range 5).all (fun p => formatLegal (s.word (Reg.AOP.CTRL p))) = true ∧ (List.range 2).all (fun m => !(podDiffers s m)) = true ∧
        (podMembers s 1).all (fun p => !((podMembers s 0).contains p)) = true ∧ s.get Fld.RGL.BAND_PLAN.BANDS = 0)) :=
  ⟨((({ wFull with pwr := { mode := .hold } }.put Fld.SYS.CFG_STATUS.CHECKING true).set Fld.SYS.STATE_REQ.CODE 4).set (Fld.POD.POD_CFG.MEMBERS 0) 3 |>.set (Fld.POD.POD_CFG.MEMBERS 1) 2), 6, 1, by decide +kernel⟩

theorem witness_RequestsComplete_11_4 : ∃ (s : State) (reason detail : Nat),
    s.flag Fld.SYS.CFG_STATUS.CHECKING = true ∧
    s.pwr.bootShown = false ∧
    ((reason = 4 ∧ detail = s.get Fld.SYS.STATE_REQ.CODE ∧ (detail < 2 ∨ 4 < detail)) ∨
      (reason = 5 ∧ 2 ≤ s.get Fld.SYS.STATE_REQ.CODE ∧ s.get Fld.SYS.STATE_REQ.CODE ≤ 4 ∧ detail < 5 ∧ formatLegal (s.word (Reg.AOP.CTRL detail)) = false ∧
        (List.range detail).all (fun p => formatLegal (s.word (Reg.AOP.CTRL p))) = true) ∨
      (reason = 6 ∧ detail = 1 ∧ 2 ≤ s.get Fld.SYS.STATE_REQ.CODE ∧ s.get Fld.SYS.STATE_REQ.CODE ≤ 4 ∧
        (List.range 5).all (fun p => formatLegal (s.word (Reg.AOP.CTRL p))) = true ∧ podDiffers s 0 = false ∧
        (podMembers s 1).any (fun p => (podMembers s 0).contains p) = true) ∨
      (reason = 7 ∧ detail = 0 ∧ 2 ≤ s.get Fld.SYS.STATE_REQ.CODE ∧ s.get Fld.SYS.STATE_REQ.CODE ≤ 4 ∧
        (List.range 5).all (fun p => formatLegal (s.word (Reg.AOP.CTRL p))) = true ∧ (List.range 2).all (fun m => !(podDiffers s m)) = true ∧
        (podMembers s 1).all (fun p => !((podMembers s 0).contains p)) = true ∧ s.get Fld.RGL.BAND_PLAN.BANDS = 0)) :=
  ⟨((({ wFull with pwr := { mode := .hold } }.put Fld.SYS.CFG_STATUS.CHECKING true).set Fld.SYS.STATE_REQ.CODE 4).set Fld.RGL.BAND_PLAN.BANDS 0), 7, 0, by decide +kernel⟩

theorem witness_StatesComplete_1_1 : ∃ (s : State) (x : Transition),
    s.pwr.trans = some x ∧
    x.target ≠ .off ∧
    x.target ≠ .sleep ∧
    onBoundary s = true ∧
    x.since < s.epoch ∧
    x.leaveAt = none ∧
    s.pwr.held = none ∧
    s.pwr.bootShown = false ∧
    x.target.code ≠ s.pwr.mode.code :=
  ⟨{ wQuiet with pwr := { mode := .quiet, trans := some ⟨.watch, 5, none, false⟩ }, time := 1146880 }, ⟨.watch, 5, none, false⟩, by decide +kernel⟩

theorem witness_StatesComplete_1_2 : ∃ (s : State) (x : Transition),
    s.pwr.trans = some x ∧
    x.target ≠ .off ∧
    x.target ≠ .sleep ∧
    onBoundary s = true ∧
    x.since < s.epoch ∧
    x.leaveAt = none ∧
    s.pwr.held = none ∧
    s.pwr.bootShown = false ∧
    x.target.code ≠ s.pwr.mode.code :=
  ⟨{ wQuiet with pwr := { mode := .watch, trans := some ⟨.full, 5, none, false⟩ }, time := 1146880 }, ⟨.full, 5, none, false⟩, by decide +kernel⟩

theorem witness_StatesComplete_1_3 : ∃ (s : State) (x : Transition),
    s.pwr.trans = some x ∧
    x.target ≠ .off ∧
    x.target ≠ .sleep ∧
    onBoundary s = true ∧
    x.since < s.epoch ∧
    x.leaveAt = none ∧
    s.pwr.held = none ∧
    s.pwr.bootShown = false ∧
    x.target.code ≠ s.pwr.mode.code :=
  ⟨{ wQuiet with pwr := { mode := .quiet, trans := some ⟨.hold, 5, none, false⟩ }, time := 1146880 }, ⟨.hold, 5, none, false⟩, by decide +kernel⟩

theorem witness_StatesComplete_2 : ∃ (s : State) (x : Transition),
    s.pwr.trans = some x ∧
    x.target = .off ∧
    x.released = true ∧
    s.nvJob.storing = false ∧
    s.pwr.risen = false :=
  ⟨{ wFull with pwr := { mode := .hold, trans := some ⟨.off, 5, none, true⟩ } }, ⟨.off, 5, none, true⟩, by decide +kernel⟩

theorem witness_StatesComplete_3 : ∃ (s : State) (x : Transition),
    s.pwr.trans = some x ∧
    x.target = .sleep ∧
    x.released = true :=
  ⟨{ wFull with pwr := { mode := .hold, trans := some ⟨.sleep, 5, none, true⟩ } }, ⟨.sleep, 5, none, true⟩, by decide +kernel⟩

theorem witness_StatesComplete_4_1 : ∃ (s : State) (x : Transition),
    s.pwr.mode = .full ∧
    s.pwr.trans = some x ∧
    (x.target = .quiet ∨ x.target = .watch ∨ x.target = .hold) ∧
    (∃ b, x.leaveAt = some b ∧ b ≤ s.epoch) ∧
    onBoundary s = true ∧
    s.pwr.held = none ∧
    s.pwr.bootShown = false :=
  ⟨{ wFull with pwr := { mode := .full, trans := some ⟨.watch, 5, some 7, false⟩ }, time := 1146880 }, ⟨.watch, 5, some 7, false⟩, by decide +kernel⟩

theorem witness_StatesComplete_4_2 : ∃ (s : State) (x : Transition),
    s.pwr.mode = .full ∧
    s.pwr.trans = some x ∧
    (x.target = .quiet ∨ x.target = .watch ∨ x.target = .hold) ∧
    (∃ b, x.leaveAt = some b ∧ b ≤ s.epoch) ∧
    onBoundary s = true ∧
    s.pwr.held = none ∧
    s.pwr.bootShown = false :=
  ⟨{ wFull with pwr := { mode := .full, trans := some ⟨.hold, 5, some 7, false⟩ }, time := 1146880 }, ⟨.hold, 5, some 7, false⟩, by decide +kernel⟩

theorem witness_StatesComplete_5 : ∃ (s : State) (x : Transition),
    s.pwr.mode = .full ∧
    s.pwr.trans = some x ∧
    (x.target = .off ∨ x.target = .sleep) ∧
    (∃ b, x.leaveAt = some b ∧ b ≤ s.epoch) ∧
    onBoundary s = true ∧
    s.pwr.bootShown = false :=
  ⟨{ wFull with pwr := { mode := .full, trans := some ⟨.sleep, 5, some 7, false⟩ }, time := 1146880 }, ⟨.sleep, 5, some 7, false⟩, by decide +kernel⟩

theorem witness_StatesComplete_6_1 : ∃ (obs : BootObs) (s : State) (cause : Nat),
    s.pwr.pwrEn = false ∧
    s.pwr.vsysOk = true ∧
    ((cause = 0 ∧ s.pwr.mode = .off ∧ (s.pwr.down = some .trip → coolEnough obs = true)) ∨ (cause = 1 ∧ s.pwr.mode = .sleep)) :=
  ⟨{}, { wBoot with pwr := { mode := .off, pwrEn := false, lastStop := 0 } }, 0, by decide +kernel⟩

theorem witness_StatesComplete_6_2 : ∃ (obs : BootObs) (s : State) (cause : Nat),
    s.pwr.pwrEn = false ∧
    s.pwr.vsysOk = true ∧
    ((cause = 0 ∧ s.pwr.mode = .off ∧ (s.pwr.down = some .trip → coolEnough obs = true)) ∨ (cause = 1 ∧ s.pwr.mode = .sleep)) :=
  ⟨{ refHz := none }, { wBoot with pwr := { mode := .sleep, pwrEn := false, lastStop := 1 } }, 1, by decide +kernel⟩

theorem witness_StatesComplete_6_3 : ∃ (obs : BootObs) (s : State) (cause : Nat),
    s.pwr.pwrEn = false ∧
    s.pwr.vsysOk = true ∧
    ((cause = 0 ∧ s.pwr.mode = .off ∧ (s.pwr.down = some .trip → coolEnough obs = true)) ∨ (cause = 1 ∧ s.pwr.mode = .sleep)) :=
  ⟨{ vddio := false }, { wBoot with pwr := { mode := .off, down := some .rail, pwrEn := false, lastStop := 5 } }, 0, by decide +kernel⟩

theorem witness_StatesComplete_6_4 : ∃ (obs : BootObs) (s : State) (cause : Nat),
    s.pwr.pwrEn = false ∧
    s.pwr.vsysOk = true ∧
    ((cause = 0 ∧ s.pwr.mode = .off ∧ (s.pwr.down = some .trip → coolEnough obs = true)) ∨ (cause = 1 ∧ s.pwr.mode = .sleep)) :=
  ⟨{ recoveryLow := true }, { wBoot with pwr := { mode := .off, down := some .trip, pwrEn := false, lastStop := 6 } }, 0, by decide +kernel⟩

theorem witness_StatesComplete_7 : ∃ (s : State),
    s.pwr.pwrEn = false ∧
    s.pwr.mode ≠ .off ∧
    s.pwr.mode ≠ .sleep :=
  ⟨{ wFull with pwr := { mode := .full, pwrEn := false, trans := some ⟨.off, 0, some 22, false⟩ } }, by decide +kernel⟩

theorem witness_StatesComplete_8_1 : ∃ (s : State),
    s.pwr.mode = .boot ∧
    s.pwr.stage = .reference :=
  ⟨{ wBoot with pwr := { stage := .reference } }, by decide +kernel⟩

theorem witness_StatesComplete_9_1 : ∃ (s : State),
    s.pwr.mode = .boot ∧
    s.pwr.stage = .ready ∧
    s.pwr.trans = none ∧
    4 ≤ effectiveCores s ∧
    s.fab.pause = none ∧
    (s.pwr.nvEmpty = true ∨ s.flag Fld.SYS.BOOT_CFG.AUTO_COMMIT = false) :=
  ⟨(wCores { wBoot with pwr := { stage := .ready, nvEmpty := true, cause := 3, lastStop := 3 } }), by decide +kernel⟩

theorem witness_StatesComplete_9_2 : ∃ (s : State),
    s.pwr.mode = .boot ∧
    s.pwr.stage = .ready ∧
    s.pwr.trans = none ∧
    4 ≤ effectiveCores s ∧
    s.fab.pause = none ∧
    (s.pwr.nvEmpty = true ∨ s.flag Fld.SYS.BOOT_CFG.AUTO_COMMIT = false) :=
  ⟨((wCores { wBoot with pwr := { stage := .ready, cause := 3, lastStop := 3 } }).put Fld.SYS.BOOT_CFG.AUTO_COMMIT false), by decide +kernel⟩

theorem witness_StatesComplete_10 : ∃ (s : State),
    s.pwr.mode = .boot ∧
    s.pwr.stage = .ready ∧
    s.pwr.trans = none ∧
    4 ≤ effectiveCores s ∧
    s.fab.pause = none ∧
    s.pwr.nvEmpty = false ∧
    s.flag Fld.SYS.BOOT_CFG.AUTO_COMMIT = true :=
  ⟨((wCores { wBoot with pwr := { stage := .ready } }).set Fld.SYS.BOOT_CFG.TARGET 4), by decide +kernel⟩

theorem witness_StatesComplete_11_1 : ∃ (s : State),
    s.pwr.mode = .boot ∧
    s.pwr.stage = .vddio :=
  ⟨{ wBoot with pwr := { stage := .vddio, vddio := false } }, by decide +kernel⟩

theorem witness_StatesComplete_12_1 : ∃ (s : State),
    s.pwr.mode ≠ .boot :=
  ⟨{ wFull with pwr := { mode := .full, vddio := false } }, by decide +kernel⟩

theorem witness_StatesComplete_12_2 : ∃ (s : State),
    s.pwr.mode ≠ .boot :=
  ⟨{ wFull with pwr := { mode := .full, vddio := false, gntHigh := true, actHigh := true }, aux := { waits := [{ use := .window, by_ := 3 }] } }, by decide +kernel⟩

theorem witness_StatesComplete_14_1 : ∃ (s : State),
    s.pwr.mode ≠ .off ∧
    s.pwr.mode ≠ .sleep ∧
    s.pwr.trans = none :=
  ⟨wFull, by decide +kernel⟩

theorem witness_StatesComplete_14_2 : ∃ (s : State),
    s.pwr.mode ≠ .off ∧
    s.pwr.mode ≠ .sleep ∧
    s.pwr.trans = none :=
  ⟨{ wFull with pwr := { mode := .safe } }, by decide +kernel⟩

theorem witness_StatesComplete_15 : ∃ (s : State),
    (s.pwr.mode = .off ∨ s.pwr.mode = .sleep) :=
  ⟨{ wFull with pwr := { mode := .sleep } }, by decide +kernel⟩

theorem witness_StatesComplete_16 : ∃ (s : State),
    s.pwr.mode ≠ .off ∧
    s.pwr.mode ≠ .sleep :=
  ⟨wFull, by decide +kernel⟩

theorem witness_StatesComplete_17 : ∃ (s : State),
    (s.pwr.mode = .off ∨ s.pwr.mode = .sleep) :=
  ⟨{ wFull with pwr := { mode := .sleep } }, by decide +kernel⟩

theorem witness_StatesComplete_18 : ∃ (obs : BootObs) (s : State),
    s.pwr.mode = .boot ∧
    s.pwr.stage = .reset ∧
    obs.vddio = s.pwr.vddio :=
  ⟨{}, { wBoot with pwr := { stage := .reset } }, by decide +kernel⟩

theorem witness_StatesComplete_19 : ∃ (s : State),
    railsUp s = true :=
  ⟨wFull, by decide +kernel⟩

theorem witness_StatesComplete_20 : ∃ (s : State),
    railsUp s = true :=
  ⟨wFull, by decide +kernel⟩

theorem witness_StatesComplete_21 : ∃ (s : State),
    railsUp s = true :=
  ⟨wQuiet, by decide +kernel⟩

theorem witness_StatesComplete_22 : ∃ (s : State),
    railsUp s = true :=
  ⟨wFull, by decide +kernel⟩

theorem witness_StatesComplete_23_1 : ∃ (s : State) (cause : Nat),
    s.pwr.vsysOk = false ∧
    s.pwr.pwrEn = true ∧
    ((cause = 4 ∧ s.pwr.down = some .uvlo) ∨ (cause = 0 ∧ s.pwr.down = some .lost)) :=
  ⟨{ wBoot with pwr := { mode := .off, down := some .uvlo, vsysOk := false, lastStop := 4 } }, 4, by decide +kernel⟩

theorem witness_StatesComplete_23_2 : ∃ (s : State) (cause : Nat),
    s.pwr.vsysOk = false ∧
    s.pwr.pwrEn = true ∧
    ((cause = 4 ∧ s.pwr.down = some .uvlo) ∨ (cause = 0 ∧ s.pwr.down = some .lost)) :=
  ⟨{ wBoot with pwr := { mode := .off, down := some .lost, vsysOk := false, lastStop := 2 } }, 0, by decide +kernel⟩

theorem witness_StatesComplete_24 : ∃ (s : State),
    s.pwr.down = some .rail ∧
    s.pwr.pwrEn = true ∧
    s.pwr.vsysOk = true :=
  ⟨{ wBoot with pwr := { mode := .off, down := some .rail, lastStop := 5 } }, by decide +kernel⟩

theorem witness_TelemetryCompletes_1 : ∃ (s : State),
    railsUp s = true ∧
    s.flag Fld.PMU.STAT.VSYS_LOW = false :=
  ⟨wFull, by decide +kernel⟩

theorem witness_TelemetryCompletes_3 : ∃ (s : State),
    railsUp s = true ∧
    s.flag Fld.PMU.STAT.TJ_WARN = false :=
  ⟨wFull, by decide +kernel⟩

theorem witness_TelemetryCompletes_5_1 : ∃ (obs : TelObs) (s : State) (hot : Int),
    controlRuns s = true ∧
    onBoundary s = true ∧
    s.epoch % 100 = 0 ∧
    hot = max (max obs.rf obs.fabric) (max obs.cores obs.pmu) :=
  ⟨{ rf := 1500, fabric := 1710, power := 1420 }, (wFull.put Fld.TEL.CTRL.EN true |>.put Fld.PMU.STAT.GRADE_E true), 1710, by decide +kernel⟩

theorem witness_TelemetryCompletes_5_2 : ∃ (obs : TelObs) (s : State) (hot : Int),
    controlRuns s = true ∧
    onBoundary s = true ∧
    s.epoch % 100 = 0 ∧
    hot = max (max obs.rf obs.fabric) (max obs.cores obs.pmu) :=
  ⟨{ rf := 2000, fabric := 1710, power := 1420 }, wFull, 2000, by decide +kernel⟩

theorem witness_TelemetryCompletes_6 : ∃ (s : State) (l b : Nat),
    s.pwr.govNext = some (l, b) ∧
    l < 4 ∧
    onBoundary s = true ∧
    b ≤ s.epoch :=
  ⟨{ wFull with pwr := { mode := .full, govNext := some (2, 0) } }, 2, 0, by decide +kernel⟩

theorem witness_TelemetryCompletes_7 : ∃ (s : State) (b : Nat),
    s.pwr.govNext = some (0, b) ∧
    onBoundary s = true ∧
    b ≤ s.epoch ∧
    s.pwr.mode ≠ .full :=
  ⟨{ wQuiet with pwr := { mode := .quiet, govNext := some (0, 0) } }, 0, by decide +kernel⟩

theorem witness_TelemetryCompletes_8 : ∃ (s : State),
    s.flag Fld.SYS.WAKE_CFG.ASSERTED = true ∧
    0 < s.get Fld.SYS.WAKE_CFG.PULSE_MS ∧
    s.pwr.wakeSince + s.get Fld.SYS.WAKE_CFG.PULSE_MS * 163840 ≤ s.time :=
  ⟨{ (wFull.put Fld.SYS.WAKE_CFG.ASSERTED true).set Fld.SYS.WAKE_CFG.PULSE_MS 3 with time := 700000, pwr := { mode := .full, wakeSince := 200000 } }, by decide +kernel⟩

theorem witness_TelemetryCompletes_9_1 : ∃ (n : Fin 8) (s : State),
    lets s (Reg.SYS.GPIO_CFG n.val) = true :=
  ⟨7, wFull, by decide +kernel⟩

theorem witness_TelemetryCompletes_9_2 : ∃ (n : Fin 8) (s : State),
    lets s (Reg.SYS.GPIO_CFG n.val) = true :=
  ⟨0, (wFull.put Fld.SYS.WAKE_CFG.ASSERTED true), by decide +kernel⟩

theorem witness_TelemetryCompletes_10 : ∃ (s : State),
    s.pwr.mode ≠ .off ∧
    s.pwr.aonCrystal = true :=
  ⟨wFull, by decide +kernel⟩

theorem witness_UpdateCommandsComplete_1_1 : ∃ (port : Port) (s : State),
    lets s Reg.FWU.CMD = true ∧
    keyOpen s 0x06A port = true ∧
    s.fw.job = none ∧
    beginStage (fwStage s) = true :=
  ⟨.spi, (wKey 0x06A wFull), by decide +kernel⟩

theorem witness_UpdateCommandsComplete_1_2 : ∃ (port : Port) (s : State),
    lets s Reg.FWU.CMD = true ∧
    keyOpen s 0x06A port = true ∧
    s.fw.job = none ∧
    beginStage (fwStage s) = true :=
  ⟨.spi, (wKey 0x06A (wStage 5 wFull)), by decide +kernel⟩

theorem witness_UpdateCommandsComplete_2 : ∃ (port : Port) (s : State),
    lets s Reg.FWU.CMD = true ∧
    keyOpen s 0x06A port = true ∧
    s.fw.job = none ∧
    fwStage s = 1 :=
  ⟨.spi, (wKey 0x06A (wStage 1 wFull)), by decide +kernel⟩

theorem witness_UpdateCommandsComplete_3 : ∃ (port : Port) (s : State),
    lets s Reg.FWU.CMD = true ∧
    keyOpen s 0x06A port = true ∧
    s.fw.job = none ∧
    fwStage s = 2 ∧
    s.pwr.mode ≠ .recovery ∧
    headerWord (imageHeader s.nv) 8 / 65536 ≤ s.fw.running.stateFmt ∧
    headerWord (imageHeader s.nv) 7 / 65536 ≤ s.fw.running.settingsFmt ∧
    (∀ (c : Nat), c < 6 → s.flag (Fld.LNM.CORE_STAT.IN_TEST c) = false) :=
  ⟨.spi, (wKey 0x06A (wStage 2 wFull)), by decide +kernel⟩

theorem witness_UpdateCommandsComplete_4_1 : ∃ (port : Port) (s : State) (err : Nat),
    lets s Reg.FWU.CMD = true ∧
    keyOpen s 0x06A port = true ∧
    s.fw.job = none ∧
    fwStage s = 2 ∧
    s.pwr.mode ≠ .recovery ∧
    ((err = 8 ∧ (s.fw.running.stateFmt < headerWord (imageHeader s.nv) 8 / 65536 ∨ s.fw.running.settingsFmt < headerWord (imageHeader s.nv) 7 / 65536)) ∨
      (err = 10 ∧ headerWord (imageHeader s.nv) 8 / 65536 ≤ s.fw.running.stateFmt ∧ headerWord (imageHeader s.nv) 7 / 65536 ≤ s.fw.running.settingsFmt ∧
        (List.range 6).any (fun c => s.flag (Fld.LNM.CORE_STAT.IN_TEST c)) = true)) :=
  ⟨.spi, (wKey 0x06A (wStage 2 { wFull with nv := { image := [(0, wHeader.set 8 0x00030001)] } })), 8, by decide +kernel⟩

theorem witness_UpdateCommandsComplete_4_2 : ∃ (port : Port) (s : State) (err : Nat),
    lets s Reg.FWU.CMD = true ∧
    keyOpen s 0x06A port = true ∧
    s.fw.job = none ∧
    fwStage s = 2 ∧
    s.pwr.mode ≠ .recovery ∧
    ((err = 8 ∧ (s.fw.running.stateFmt < headerWord (imageHeader s.nv) 8 / 65536 ∨ s.fw.running.settingsFmt < headerWord (imageHeader s.nv) 7 / 65536)) ∨
      (err = 10 ∧ headerWord (imageHeader s.nv) 8 / 65536 ≤ s.fw.running.stateFmt ∧ headerWord (imageHeader s.nv) 7 / 65536 ≤ s.fw.running.settingsFmt ∧
        (List.range 6).any (fun c => s.flag (Fld.LNM.CORE_STAT.IN_TEST c)) = true)) :=
  ⟨.spi, (wKey 0x06A (wStage 2 (wFull.put (Fld.LNM.CORE_STAT.IN_TEST 5) true))), 10, by decide +kernel⟩

theorem witness_UpdateCommandsComplete_5 : ∃ (port : Port) (obs : BootObs) (s : State),
    lets s Reg.FWU.CMD = true ∧
    keyOpen s 0x06A port = true ∧
    s.fw.job = none ∧
    s.pwr.mode = .recovery ∧
    nvState s = 0 ∧
    obs.vddio = true :=
  ⟨.spi, {}, (wKey 0x06A (wStage 6 { wBoot with pwr := { mode := .recovery } })), by decide +kernel⟩

theorem witness_UpdateCommandsComplete_6 : ∃ (port : Port) (s : State),
    lets s Reg.FWU.CMD = true ∧
    keyOpen s 0x06A port = true ∧
    s.fw.job = none ∧
    fwStage s = 4 ∧
    s.pwr.mode ≠ .recovery ∧
    s.fw.swap = none ∧
    s.fw.handOver = none :=
  ⟨.spi, { wKey 0x06A (wStage 4 { wFull with nv := { gens := [{ fmt := 1, num := 2 }, { fmt := 2, num := 1 }] } }) with fw := { old := some {} } }, by decide +kernel⟩

theorem witness_UpdateCommandsComplete_7 : ∃ (port : Port) (s : State),
    lets s Reg.FWU.CMD = true ∧
    keyOpen s 0x06A port = true ∧
    s.fw.job = none ∧
    fwStage s = 4 ∧
    s.fw.swap.isSome = true :=
  ⟨.spi, { wKey 0x06A (wStage 4 wFull) with fw := { swap := some (3, .forward) } }, by decide +kernel⟩

theorem witness_UpdateCommandsComplete_8 : ∃ (port : Port) (s : State),
    lets s Reg.FWU.CMD = true ∧
    keyOpen s 0x06A port = true ∧
    s.fw.job = none ∧
    fwStage s = 4 ∧
    s.fw.handOver = none :=
  ⟨.spi, { wKey 0x06A (wStage 4 wFull) with fw := { swap := some (3, .forward) } }, by decide +kernel⟩

theorem witness_UpdateCommandsComplete_9_1 : ∃ (port : Port) (v : Word) (s : State) (err : Nat),
    lets s Reg.FWU.CMD = true ∧
    keyOpen s 0x06A port = true ∧
    ((err = 10 ∧ s.fw.job.isSome = true) ∨
      (err = 1 ∧ s.fw.job = none ∧ s.pwr.mode ≠ .recovery ∧ ([1, 2, 3, 4, 5] : List Nat).contains (fieldOf v 0 4) = false) ∨
      (err = 1 ∧ s.fw.job = none ∧ s.pwr.mode ≠ .recovery ∧ fwStage s = 5 ∧ fieldOf v 0 4 ≠ 5)) :=
  ⟨.spi, 7, (wKey 0x06A wFull), 1, by decide +kernel⟩

theorem witness_UpdateCommandsComplete_9_2 : ∃ (port : Port) (v : Word) (s : State) (err : Nat),
    lets s Reg.FWU.CMD = true ∧
    keyOpen s 0x06A port = true ∧
    ((err = 10 ∧ s.fw.job.isSome = true) ∨
      (err = 1 ∧ s.fw.job = none ∧ s.pwr.mode ≠ .recovery ∧ ([1, 2, 3, 4, 5] : List Nat).contains (fieldOf v 0 4) = false) ∨
      (err = 1 ∧ s.fw.job = none ∧ s.pwr.mode ≠ .recovery ∧ fwStage s = 5 ∧ fieldOf v 0 4 ≠ 5)) :=
  ⟨.spi, 4, (wKey 0x06A (wStage 5 wFull)), 1, by decide +kernel⟩

theorem witness_UpdateCommandsComplete_9_3 : ∃ (port : Port) (v : Word) (s : State) (err : Nat),
    lets s Reg.FWU.CMD = true ∧
    keyOpen s 0x06A port = true ∧
    ((err = 10 ∧ s.fw.job.isSome = true) ∨
      (err = 1 ∧ s.fw.job = none ∧ s.pwr.mode ≠ .recovery ∧ ([1, 2, 3, 4, 5] : List Nat).contains (fieldOf v 0 4) = false) ∨
      (err = 1 ∧ s.fw.job = none ∧ s.pwr.mode ≠ .recovery ∧ fwStage s = 5 ∧ fieldOf v 0 4 ≠ 5)) :=
  ⟨.spi, 1, { wKey 0x06A (wStage 1 wFull) with fw := { job := some .verify } }, 10, by decide +kernel⟩

theorem witness_UpdateCommandsComplete_10 : ∃ (port : Port) (s : State),
    lets s Reg.FWU.CMD = true ∧
    keyOpen s 0x06A port = false :=
  ⟨.twoWire, (wKey 0x06A wFull), by decide +kernel⟩

theorem witness_UpdateCommandsComplete_11 : ∃ (slot : Fin 16) (s : State),
    s.served = true ∧
    (s.get Fld.FWU.SLOT_BUSY.BUSY).testBit slot.val = false :=
  ⟨15, (wFull.set Fld.FWU.DL_BASE.BASE 16), by decide +kernel⟩

theorem witness_UpdateCommandsComplete_12 : ∃ (port : Port) (slot : Fin 16) (s : State),
    port = .spi ∧
    s.served = true ∧
    (s.get Fld.FWU.SLOT_BUSY.BUSY).testBit slot.val = true :=
  ⟨.spi, 3, (wFull.set Fld.FWU.SLOT_BUSY.BUSY 8), by decide +kernel⟩

theorem witness_UpdateWorkCompletes_2_1 : ∃ (s : State) (k blk : Nat) (rest : List (Nat × Nat)) (cause : Nat),
    s.fw.handed = (k, blk) :: rest ∧
    ((cause = 6 ∧ fwStage s ≠ 1) ∨ (cause = 1 ∧ fwStage s = 1 ∧ blockPasses (slotBlock s k) = false) ∨
      (cause = 2 ∧ fwStage s = 1 ∧ blockPasses (slotBlock s k) = true ∧
        (384 ≤ blk ∨ (0 < blk ∧ 0 < s.get Fld.FWU.RX_COUNT.EXPECTED ∧ s.get Fld.FWU.RX_COUNT.EXPECTED ≤ blk))) ∨
      (cause = 3 ∧ fwStage s = 1 ∧ blockPasses (slotBlock s k) = true ∧ 0 < blk ∧ blk < 384 ∧ s.get Fld.FWU.RX_COUNT.EXPECTED = 0)) :=
  ⟨{ (wFull.set Fld.FWU.SLOT_BUSY.BUSY 4) with fw := { handed := [(2, 5)] } }, 2, 5, [], 6, by decide +kernel⟩

theorem witness_UpdateWorkCompletes_3 : ∃ (obs : VerifyObs) (s : State),
    s.fw.job = some .verify ∧
    0 < s.get Fld.FWU.RX_COUNT.EXPECTED ∧
    (List.range (s.get Fld.FWU.RX_COUNT.EXPECTED)).all (fun b => s.fw.received.contains b) = true ∧
    imageError s obs.badBlocks obs.keyOk obs.sigOk = 0 ∧
    ¬(s.fw.armed = true ∧ obs.digest = s.fw.running.digest) ∧
    s.pwr.mode ≠ .recovery :=
  ⟨{ digest := 7 }, { wStage 1 ({ wFull with nv := wImage }.set Fld.FWU.RX_COUNT.EXPECTED 6) with fw := { job := some .verify, received := [0, 1, 2, 3, 4, 5] } }, by decide +kernel⟩

theorem witness_UpdateWorkCompletes_4 : ∃ (obs : VerifyObs) (s : State),
    s.fw.job = some .verify ∧
    0 < s.get Fld.FWU.RX_COUNT.EXPECTED ∧
    (List.range (s.get Fld.FWU.RX_COUNT.EXPECTED)).all (fun b => s.fw.received.contains b) = true ∧
    imageError s obs.badBlocks obs.keyOk obs.sigOk = 0 ∧
    s.fw.armed = true ∧
    obs.digest = s.fw.running.digest :=
  ⟨{ digest := 7 }, { wStage 1 ({ wFull with nv := wImage }.set Fld.FWU.RX_COUNT.EXPECTED 6) with fw := { job := some .verify, received := [0, 1, 2, 3, 4, 5], armed := true, running := { digest := 7 } } }, by decide +kernel⟩

theorem witness_UpdateWorkCompletes_5_1 : ∃ (obs : VerifyObs) (s : State) (err : Nat),
    s.fw.job = some .verify ∧
    ((err = 2 ∧ (s.get Fld.FWU.RX_COUNT.EXPECTED = 0 ∨ (List.range (s.get Fld.FWU.RX_COUNT.EXPECTED)).any (fun b => !(s.fw.received.contains b)) = true)) ∨
      (0 < s.get Fld.FWU.RX_COUNT.EXPECTED ∧ (List.range (s.get Fld.FWU.RX_COUNT.EXPECTED)).all (fun b => s.fw.received.contains b) = true ∧
        err ≠ 0 ∧ err = imageError s obs.badBlocks obs.keyOk obs.sigOk)) :=
  ⟨{}, { wStage 1 (wFull.set Fld.FWU.RX_COUNT.EXPECTED 6) with fw := { job := some .verify, received := [0, 1] } }, 2, by decide +kernel⟩

theorem witness_UpdateWorkCompletes_5_2 : ∃ (obs : VerifyObs) (s : State) (err : Nat),
    s.fw.job = some .verify ∧
    ((err = 2 ∧ (s.get Fld.FWU.RX_COUNT.EXPECTED = 0 ∨ (List.range (s.get Fld.FWU.RX_COUNT.EXPECTED)).any (fun b => !(s.fw.received.contains b)) = true)) ∨
      (0 < s.get Fld.FWU.RX_COUNT.EXPECTED ∧ (List.range (s.get Fld.FWU.RX_COUNT.EXPECTED)).all (fun b => s.fw.received.contains b) = true ∧
        err ≠ 0 ∧ err = imageError s obs.badBlocks obs.keyOk obs.sigOk)) :=
  ⟨{ sigOk := false }, { wStage 1 ({ wFull with nv := wImage }.set Fld.FWU.RX_COUNT.EXPECTED 6) with fw := { job := some .verify, received := [0, 1, 2, 3, 4, 5] } }, 4, by decide +kernel⟩

theorem witness_UpdateWorkCompletes_6 : ∃ (badBlock : Option Nat) (s : State),
    s.fw.job = some .activate ∧
    fwStage s = 3 ∧
    s.fw.handOver = none ∧
    badBlock = none :=
  ⟨none, { wStage 3 wFull with fw := { job := some .activate } }, by decide +kernel⟩

theorem witness_UpdateWorkCompletes_7 : ∃ (badBlock : Option Nat) (s : State) (b : Nat),
    s.fw.job = some .activate ∧
    fwStage s = 3 ∧
    s.fw.handOver = none ∧
    badBlock = some b :=
  ⟨some 5, { wStage 3 wFull with fw := { job := some .activate, received := [0, 5] } }, 5, by decide +kernel⟩

theorem witness_UpdateWorkCompletes_8 : ∃ (accepted : Bool) (s : State),
    s.fab.pause = some .handover ∧
    s.fw.handOver = some .forward ∧
    accepted = true :=
  ⟨true, { wStage 3 { wFull with nv := wImage } with fw := { job := some .activate, handOver := some .forward }, fab := { pause := some .handover } }, by decide +kernel⟩

theorem witness_UpdateWorkCompletes_9 : ∃ (accepted : Bool) (s : State),
    s.fab.pause = some .handover ∧
    s.fw.handOver = some .forward ∧
    accepted = false :=
  ⟨false, { wStage 3 { wFull with nv := wImage } with fw := { job := some .activate, handOver := some .forward }, fab := { pause := some .handover } }, by decide +kernel⟩

theorem witness_UpdateWorkCompletes_10 : ∃ (s : State) (old : ImageHeader),
    s.fab.pause = some .handover ∧
    s.fw.handOver = some .back ∧
    s.fw.old = some old ∧
    s.fw.oldLost = false :=
  ⟨{ wStage 4 { wFull with nv := wImage } with fw := { job := some .revert, handOver := some .back, old := some { version := 9 } }, fab := { pause := some .handover } }, { version := 9 }, by decide +kernel⟩

theorem witness_UpdateWorkCompletes_11 : ∃ (s : State) (c k : Nat) (d : HandOver),
    s.fw.swap = some (c, d) ∧
    s.fab.pause = none ∧
    coreEmpty s c = true ∧
    (List.range 6).find? (fun i => decide (c < i) && s.flag (Fld.LNM.CORE_STAT.HEALTHY i)) = some k :=
  ⟨{ wCores wFull with fw := { swap := some (2, .forward) } }, 2, 3, .forward, by decide +kernel⟩

theorem witness_UpdateWorkCompletes_12 : ∃ (s : State) (c : Nat) (d : HandOver),
    s.fw.swap = some (c, d) ∧
    s.fab.pause = none ∧
    coreEmpty s c = true ∧
    (List.range 6).all (fun i => !(decide (c < i) && s.flag (Fld.LNM.CORE_STAT.HEALTHY i))) = true :=
  ⟨{ wCores wFull with fw := { swap := some (5, .forward) } }, 5, .forward, by decide +kernel⟩

theorem witness_UpdateWorkCompletes_13 : ∃ (s : State),
    fwStage s = 4 ∧
    s.fw.handOver = none :=
  ⟨(wStage 4 wFull), by decide +kernel⟩

theorem witness_UpdateWorkCompletes_14 : ∃ (s : State),
    fwStage s = 4 ∧
    s.fw.handOver = none ∧
    s.fw.trialEnd ≤ s.epoch :=
  ⟨(wStage 4 wFull), by decide +kernel⟩

theorem witness_SettingsComplete_1_1 : ∃ (s : State),
    lets s Reg.NVS.CMD = true ∧
    s.nvJob.storing = false ∧
    (s.running = true ∨ s.pwr.mode = .hold ∨ s.pwr.mode = .safe) :=
  ⟨wFull, by decide +kernel⟩

theorem witness_SettingsComplete_1_2 : ∃ (s : State),
    lets s Reg.NVS.CMD = true ∧
    s.nvJob.storing = false ∧
    (s.running = true ∨ s.pwr.mode = .hold ∨ s.pwr.mode = .safe) :=
  ⟨{ wFull with pwr := { mode := .safe } }, by decide +kernel⟩

theorem witness_SettingsComplete_2 : ∃ (obs : NvObs) (s : State) (g : Generation) (l : List Nat),
    s.nvJob.snap = some g ∧
    obs.failed = [] ∧
    obs.failedTwice = false ∧
    1 + clampNat 1 63 obs.body ≤ (freeSectors s.nv).length ∧
    l = (freeSectors s.nv).take (1 + clampNat 1 63 obs.body) :=
  ⟨{ body := 2 }, { wFull with nvJob := { storing := true, snap := some { fmt := 1, num := 3 } }, nv := { gens := [{ fmt := 1, num := 2, sectors := [0, 1] }, { fmt := 2, num := 1 }], erases := [(2, 5)] } }, { fmt := 1, num := 3 }, [3, 4, 5], by decide +kernel⟩

theorem witness_SettingsComplete_3 : ∃ (obs : NvObs) (s : State) (g : Generation),
    s.nvJob.snap = some g ∧
    (freeSectors s.nv).length < 1 + clampNat 1 63 obs.body :=
  ⟨{ body := 63 }, { wFull with nvJob := { storing := true, snap := some { fmt := 1, num := 3 } }, nv := { lostSettings := List.range 200 } }, { fmt := 1, num := 3 }, by decide +kernel⟩

theorem witness_SettingsComplete_4 : ∃ (obs : NvObs) (s : State) (g : Generation),
    s.nvJob.snap = some g ∧
    1 + clampNat 1 63 obs.body ≤ (freeSectors s.nv).length ∧
    obs.failedTwice = true :=
  ⟨{ failed := [0], failedTwice := true }, { wFull with nvJob := { storing := true, snap := some { fmt := 1, num := 3 } } }, { fmt := 1, num := 3 }, by decide +kernel⟩

theorem witness_SettingsComplete_5 : ∃ (s : State) (g : Generation),
    lets s Reg.NVS.CMD = true ∧
    s.nvJob.storing = false ∧
    s.pwr.mode = .hold ∧
    pickGen s.nv (settingsFormat s) s.fw.running.settingsFrom = some g :=
  ⟨{ (wFull.setWord 0x018064 9) with pwr := { mode := .hold }, nv := { gens := [{ fmt := 1, num := 7, words := [(0x02C1 * 4096 + 0x64, 5), (0x018064, 2000)] }] } }, { fmt := 1, num := 7, words := [(0x02C1 * 4096 + 0x64, 5), (0x018064, 2000)] }, by decide +kernel⟩

theorem witness_SettingsComplete_6 : ∃ (s : State),
    lets s Reg.NVS.CMD = true ∧
    s.nvJob.storing = false ∧
    s.pwr.mode = .hold ∧
    pickGen s.nv (settingsFormat s) s.fw.running.settingsFrom = none :=
  ⟨{ wFull with pwr := { mode := .hold } }, by decide +kernel⟩

theorem witness_SettingsComplete_7 : ∃ (s : State),
    lets s Reg.NVS.CMD = true ∧
    s.nvJob.storing = false ∧
    s.pwr.mode = .hold :=
  ⟨{ (wFull.setWord 0x018064 9) with pwr := { mode := .hold } }, by decide +kernel⟩

theorem witness_SettingsComplete_8_1 : ∃ (v : Word) (s : State) (err : Nat),
    lets s Reg.NVS.CMD = true ∧
    ((err = 1 ∧ (fieldOf v 0 4 = 0 ∨ 3 < fieldOf v 0 4)) ∨ (err = 2 ∧ 0 < fieldOf v 0 4 ∧ fieldOf v 0 4 ≤ 3 ∧ s.nvJob.storing = true) ∨
      (err = 1 ∧ 2 ≤ fieldOf v 0 4 ∧ s.nvJob.storing = false ∧ s.pwr.mode ≠ .hold)) :=
  ⟨0, wFull, 1, by decide +kernel⟩

theorem witness_SettingsComplete_8_2 : ∃ (v : Word) (s : State) (err : Nat),
    lets s Reg.NVS.CMD = true ∧
    ((err = 1 ∧ (fieldOf v 0 4 = 0 ∨ 3 < fieldOf v 0 4)) ∨ (err = 2 ∧ 0 < fieldOf v 0 4 ∧ fieldOf v 0 4 ≤ 3 ∧ s.nvJob.storing = true) ∨
      (err = 1 ∧ 2 ≤ fieldOf v 0 4 ∧ s.nvJob.storing = false ∧ s.pwr.mode ≠ .hold)) :=
  ⟨3, wFull, 1, by decide +kernel⟩

theorem witness_SettingsComplete_8_3 : ∃ (v : Word) (s : State) (err : Nat),
    lets s Reg.NVS.CMD = true ∧
    ((err = 1 ∧ (fieldOf v 0 4 = 0 ∨ 3 < fieldOf v 0 4)) ∨ (err = 2 ∧ 0 < fieldOf v 0 4 ∧ fieldOf v 0 4 ≤ 3 ∧ s.nvJob.storing = true) ∨
      (err = 1 ∧ 2 ≤ fieldOf v 0 4 ∧ s.nvJob.storing = false ∧ s.pwr.mode ≠ .hold)) :=
  ⟨1, { wFull with nvJob := { storing := true } }, 2, by decide +kernel⟩

theorem witness_SettingsComplete_9_1 : ∃ (sector : Nat) (failing : Bool) (s : State),
    s.nvJob.storing = false ∧
    s.fw.handed = [] ∧
    sector < sectorCount ∧
    s.nv.lostSettings.contains sector = false ∧
    (failing = true ∨ 100000 ≤ eraseCount s.nv sector) ∧
    0 < s.nv.spares :=
  ⟨255, true, wFull, by decide +kernel⟩

theorem witness_SettingsComplete_9_2 : ∃ (sector : Nat) (failing : Bool) (s : State),
    s.nvJob.storing = false ∧
    s.fw.handed = [] ∧
    sector < sectorCount ∧
    s.nv.lostSettings.contains sector = false ∧
    (failing = true ∨ 100000 ≤ eraseCount s.nv sector) ∧
    0 < s.nv.spares :=
  ⟨7, false, { wFull with nv := { erases := [(7, 100000)] } }, by decide +kernel⟩

theorem witness_SealCompletes_1_1 : ∃ (port : Port) (r : Fin 4) (s : State) (a : Nat),
    a = rglRegs.getD r.val 0 ∧
    lets s a = true ∧
    keyOpen s 0x069 port = true ∧
    s.pwr.mode = .hold ∧
    s.flag Fld.RGL.SEAL.SEALED = false :=
  ⟨.spi, 0, (wKey 0x069 { wFull with pwr := { mode := .hold } }), 0x069044, by decide +kernel⟩

theorem witness_SealCompletes_1_2 : ∃ (port : Port) (r : Fin 4) (s : State) (a : Nat),
    a = rglRegs.getD r.val 0 ∧
    lets s a = true ∧
    keyOpen s 0x069 port = true ∧
    s.pwr.mode = .hold ∧
    s.flag Fld.RGL.SEAL.SEALED = false :=
  ⟨.spi, 1, (wKey 0x069 { wFull with pwr := { mode := .hold } }), 0x069048, by decide +kernel⟩

theorem witness_SealCompletes_2 : ∃ (port : Port) (r : Fin 4) (s : State) (a : Nat),
    a = rglRegs.getD r.val 0 ∧
    lets s a = true ∧
    keyOpen s 0x069 port = true ∧
    s.pwr.mode ≠ .hold ∧
    s.flag Fld.RGL.SEAL.SEALED = false :=
  ⟨.spi, 0, (wKey 0x069 wFull), 0x069044, by decide +kernel⟩

theorem witness_SealCompletes_3 : ∃ (port : Port) (r : Fin 4) (s : State) (a : Nat),
    a = rglRegs.getD r.val 0 ∧
    lets s a = true ∧
    keyOpen s 0x069 port = true ∧
    s.flag Fld.RGL.SEAL.SEALED = true ∧
    treat a (s.word a) = s.word a :=
  ⟨.spi, 3, (wKey 0x069 wFull |>.put Fld.RGL.SEAL.SEALED true), 0x069050, by decide +kernel⟩

theorem witness_SealCompletes_4 : ∃ (port : Port) (s : State),
    lets s Reg.RGL.SEAL = true ∧
    keyOpen s 0x069 port = true ∧
    s.pwr.mode = .hold ∧
    s.flag Fld.RGL.SEAL.SEALED = false :=
  ⟨.spi, (wKey 0x069 { wFull with pwr := { mode := .hold } }), by decide +kernel⟩

theorem witness_SealCompletes_5_1 : ∃ (port : Port) (s : State),
    lets s Reg.RGL.SEAL = true ∧
    keyOpen s 0x069 port = true ∧
    (s.pwr.mode ≠ .hold ∨ s.flag Fld.RGL.SEAL.SEALED = true) :=
  ⟨.spi, (wKey 0x069 wFull), by decide +kernel⟩

theorem witness_SealCompletes_5_2 : ∃ (port : Port) (s : State),
    lets s Reg.RGL.SEAL = true ∧
    keyOpen s 0x069 port = true ∧
    (s.pwr.mode ≠ .hold ∨ s.flag Fld.RGL.SEAL.SEALED = true) :=
  ⟨.spi, (wKey 0x069 { wFull with pwr := { mode := .hold } } |>.put Fld.RGL.SEAL.SEALED true), by decide +kernel⟩

theorem witness_SealCompletes_6 : ∃ (s : State),
    s.nvJob.sealing = true :=
  ⟨{ (wFull.setWord Reg.RGL.SEAL_COUNT 5) with nvJob := { sealing := true } }, by decide +kernel⟩

theorem witness_SealCompletes_7 : ∃ (port : Port) (s : State),
    lets s Reg.RGL.UNSEAL = true ∧
    keyOpen s 0x069 port = true ∧
    s.pwr.mode = .hold :=
  ⟨.spi, (wKey 0x069 { wFull with pwr := { mode := .hold } }), by decide +kernel⟩

theorem witness_SealCompletes_8 : ∃ (valid : Bool) (s : State),
    s.nvJob.unsealing = true ∧
    valid = true ∧
    s.flag Fld.RGL.SEAL.SEALED = true :=
  ⟨true, { (wFull.setWord Reg.RGL.SEAL_COUNT 5 |>.put Fld.RGL.SEAL.SEALED true |>.put Fld.RGL.UNSEAL.BUSY true) with nvJob := { unsealing := true } }, by decide +kernel⟩

theorem witness_SealCompletes_9 : ∃ (valid : Bool) (s : State),
    s.nvJob.unsealing = true ∧
    valid = false :=
  ⟨false, { (wFull.put Fld.RGL.SEAL.SEALED true |>.put Fld.RGL.UNSEAL.BUSY true) with nvJob := { unsealing := true } }, by decide +kernel⟩

theorem witness_SelfTestCompletes_1_1 : ∃ (s : State),
    controlRuns s = true ∧
    s.fab.pause = none ∧
    (∀ e, s.flt.watchdogAt = some e → e + 60000 ≤ s.epoch) :=
  ⟨wFull, by decide +kernel⟩

theorem witness_SelfTestCompletes_1_2 : ∃ (s : State),
    controlRuns s = true ∧
    s.fab.pause = none ∧
    (∀ e, s.flt.watchdogAt = some e → e + 60000 ≤ s.epoch) :=
  ⟨{ wStage 4 wFull with flt := { watchdogAt := some 0 }, time := 163840 * 60000 }, by decide +kernel⟩

theorem witness_SelfTestCompletes_2 : ∃ (s : State) (e : Nat),
    controlRuns s = true ∧
    s.flt.watchdogAt = some e ∧
    s.epoch < e + 60000 ∧
    s.pwr.mode ≠ .safe ∧
    s.flt.safeAt = none ∧
    (s.flt.counted.filter (fun x => decide (s.epoch < x + 10000))).length < 8 :=
  ⟨{ wFull with flt := { watchdogAt := some 0 }, time := 163840 * 59999 }, 0, by decide +kernel⟩

theorem witness_SelfTestCompletes_3_1 : ∃ (v : Word) (s : State) (u inst : Nat),
    lets s Reg.BST.CMD = true ∧
    u = fieldOf v 0 8 ∧
    inst = fieldOf v 8 8 ∧
    s.receiving = true ∧
    s.flt.bist = none ∧
    s.fw.swap = none ∧
    s.flt.recovery = none ∧
    inst < unitInstances u ∧
    unitRetired s u inst = false ∧
    (servedLanes s u inst = [] ∨ (u = 1 ∧ v.getLsbD 17 = true)) :=
  ⟨0x00000201, wFull, 1, 2, by decide +kernel⟩

theorem witness_SelfTestCompletes_3_2 : ∃ (v : Word) (s : State) (u inst : Nat),
    lets s Reg.BST.CMD = true ∧
    u = fieldOf v 0 8 ∧
    inst = fieldOf v 8 8 ∧
    s.receiving = true ∧
    s.flt.bist = none ∧
    s.fw.swap = none ∧
    s.flt.recovery = none ∧
    inst < unitInstances u ∧
    unitRetired s u inst = false ∧
    (servedLanes s u inst = [] ∨ (u = 1 ∧ v.getLsbD 17 = true)) :=
  ⟨0x00030001, (wLive 3 wFull), 1, 0, by decide +kernel⟩

theorem witness_SelfTestCompletes_4_1 : ∃ (v : Word) (s : State) (u inst err : Nat),
    lets s Reg.BST.CMD = true ∧
    u = fieldOf v 0 8 ∧
    inst = fieldOf v 8 8 ∧
    ((err = 1 ∧ s.receiving = false) ∨
      (err = 2 ∧ s.receiving = true ∧ (s.flt.bist.isSome = true ∨ s.fw.swap.isSome = true ∨ s.flt.recovery.isSome = true ∨
        (hasReset u = true ∧ servedLanes s u inst ≠ [] ∧ ¬(u = 1 ∧ v.getLsbD 17 = true)))) ∨
      (err = 3 ∧ s.receiving = true ∧ s.flt.bist = none ∧ s.fw.swap = none ∧ s.flt.recovery = none ∧
        (servedLanes s u inst = [] ∨ hasReset u = false) ∧ (unitInstances u ≤ inst ∨ unitRetired s u inst = true))) :=
  ⟨0x00000201, wQuiet, 1, 2, 1, by decide +kernel⟩

theorem witness_SelfTestCompletes_4_2 : ∃ (v : Word) (s : State) (u inst err : Nat),
    lets s Reg.BST.CMD = true ∧
    u = fieldOf v 0 8 ∧
    inst = fieldOf v 8 8 ∧
    ((err = 1 ∧ s.receiving = false) ∨
      (err = 2 ∧ s.receiving = true ∧ (s.flt.bist.isSome = true ∨ s.fw.swap.isSome = true ∨ s.flt.recovery.isSome = true ∨
        (hasReset u = true ∧ servedLanes s u inst ≠ [] ∧ ¬(u = 1 ∧ v.getLsbD 17 = true)))) ∨
      (err = 3 ∧ s.receiving = true ∧ s.flt.bist = none ∧ s.fw.swap = none ∧ s.flt.recovery = none ∧
        (servedLanes s u inst = [] ∨ hasReset u = false) ∧ (unitInstances u ≤ inst ∨ unitRetired s u inst = true))) :=
  ⟨0x00000201, { wFull with flt := { bist := some { unit := 2, inst := 0, migrate := false } } }, 1, 2, 2, by decide +kernel⟩

theorem witness_SelfTestCompletes_4_3 : ∃ (v : Word) (s : State) (u inst err : Nat),
    lets s Reg.BST.CMD = true ∧
    u = fieldOf v 0 8 ∧
    inst = fieldOf v 8 8 ∧
    ((err = 1 ∧ s.receiving = false) ∨
      (err = 2 ∧ s.receiving = true ∧ (s.flt.bist.isSome = true ∨ s.fw.swap.isSome = true ∨ s.flt.recovery.isSome = true ∨
        (hasReset u = true ∧ servedLanes s u inst ≠ [] ∧ ¬(u = 1 ∧ v.getLsbD 17 = true)))) ∨
      (err = 3 ∧ s.receiving = true ∧ s.flt.bist = none ∧ s.fw.swap = none ∧ s.flt.recovery = none ∧
        (servedLanes s u inst = [] ∨ hasReset u = false) ∧ (unitInstances u ≤ inst ∨ unitRetired s u inst = true))) :=
  ⟨0x00000001, (wLive 3 wFull), 1, 0, 2, by decide +kernel⟩

theorem witness_SelfTestCompletes_4_4 : ∃ (v : Word) (s : State) (u inst err : Nat),
    lets s Reg.BST.CMD = true ∧
    u = fieldOf v 0 8 ∧
    inst = fieldOf v 8 8 ∧
    ((err = 1 ∧ s.receiving = false) ∨
      (err = 2 ∧ s.receiving = true ∧ (s.flt.bist.isSome = true ∨ s.fw.swap.isSome = true ∨ s.flt.recovery.isSome = true ∨
        (hasReset u = true ∧ servedLanes s u inst ≠ [] ∧ ¬(u = 1 ∧ v.getLsbD 17 = true)))) ∨
      (err = 3 ∧ s.receiving = true ∧ s.flt.bist = none ∧ s.fw.swap = none ∧ s.flt.recovery = none ∧
        (servedLanes s u inst = [] ∨ hasReset u = false) ∧ (unitInstances u ≤ inst ∨ unitRetired s u inst = true))) :=
  ⟨0x00000202, { wFull with flt := { retired := [(2, 2)] } }, 2, 2, 3, by decide +kernel⟩

theorem witness_SelfTestCompletes_4_5 : ∃ (v : Word) (s : State) (u inst err : Nat),
    lets s Reg.BST.CMD = true ∧
    u = fieldOf v 0 8 ∧
    inst = fieldOf v 8 8 ∧
    ((err = 1 ∧ s.receiving = false) ∨
      (err = 2 ∧ s.receiving = true ∧ (s.flt.bist.isSome = true ∨ s.fw.swap.isSome = true ∨ s.flt.recovery.isSome = true ∨
        (hasReset u = true ∧ servedLanes s u inst ≠ [] ∧ ¬(u = 1 ∧ v.getLsbD 17 = true)))) ∨
      (err = 3 ∧ s.receiving = true ∧ s.flt.bist = none ∧ s.fw.swap = none ∧ s.flt.recovery = none ∧
        (servedLanes s u inst = [] ∨ hasReset u = false) ∧ (unitInstances u ≤ inst ∨ unitRetired s u inst = true))) :=
  ⟨0x00000601, wFull, 1, 6, 3, by decide +kernel⟩

theorem witness_SelfTestCompletes_5 : ∃ (s : State) (j : BistJob),
    s.flt.bist = some j ∧
    j.running = false ∧
    j.unit = 1 ∧
    j.inst < 6 ∧
    coreEmpty s j.inst = true :=
  ⟨{ wFull with flt := { bist := some { unit := 1, inst := 3, migrate := true } } }, { unit := 1, inst := 3, migrate := true }, by decide +kernel⟩

theorem witness_SelfTestCompletes_6 : ∃ (s : State) (j : BistJob),
    s.flt.bist = some j ∧
    j.running = false ∧
    j.unit ≠ 1 :=
  ⟨{ wFull with flt := { bist := some { unit := 5, inst := 1, migrate := false } } }, { unit := 5, inst := 1, migrate := false }, by decide +kernel⟩

theorem witness_SelfTestCompletes_7 : ∃ (pass : Bool) (s : State) (j : BistJob),
    s.flt.bist = some j ∧
    j.running = true ∧
    pass = true :=
  ⟨true, { wFull with flt := { bist := some { unit := 5, inst := 1, migrate := false, running := true } } }, { unit := 5, inst := 1, migrate := false, running := true }, by decide +kernel⟩

theorem witness_SelfTestCompletes_8_1 : ∃ (pass : Bool) (s : State) (j : BistJob),
    s.flt.bist = some j ∧
    j.running = true ∧
    pass = false ∧
    j.inst < unitInstances j.unit :=
  ⟨false, { wCores wFull with flt := { bist := some { unit := 1, inst := 2, migrate := false, running := true } } }, { unit := 1, inst := 2, migrate := false, running := true }, by decide +kernel⟩

theorem witness_SelfTestCompletes_8_2 : ∃ (pass : Bool) (s : State) (j : BistJob),
    s.flt.bist = some j ∧
    j.running = true ∧
    pass = false ∧
    j.inst < unitInstances j.unit :=
  ⟨false, { wCores wFull with flt := { bist := some { unit := 2, inst := 6, migrate := false, running := true } } }, { unit := 2, inst := 6, migrate := false, running := true }, by decide +kernel⟩

theorem witness_MemoryErrorsComplete_1 : ∃ (s : State),
    controlRuns s = true :=
  ⟨wFull, by decide +kernel⟩

theorem witness_MemoryErrorsComplete_2_1 : ∃ (word : Nat) (s : State),
    controlRuns s = true ∧
    (∀ c ∈ s.flt.corrected, c.1 = word → c.2 + 3600000 ≤ s.epoch) :=
  ⟨131072, wFull, by decide +kernel⟩

theorem witness_MemoryErrorsComplete_2_2 : ∃ (word : Nat) (s : State),
    controlRuns s = true ∧
    (∀ c ∈ s.flt.corrected, c.1 = word → c.2 + 3600000 ≤ s.epoch) :=
  ⟨7, { wFull with flt := { corrected := [(7, 0)] }, time := 163840 * 3600000 }, by decide +kernel⟩

theorem witness_MemoryErrorsComplete_3 : ∃ (word : Nat) (s : State) (e : Nat),
    controlRuns s = true ∧
    (word, e) ∈ s.flt.corrected ∧
    s.epoch < e + 3600000 :=
  ⟨7, { wFull with flt := { corrected := [(7, 0)] }, time := 163840 * 3599999 }, 0, by decide +kernel⟩

theorem witness_MemoryErrorsComplete_4_1 : ∃ (word : Nat) (r : Region) (s : State),
    controlRuns s = true ∧
    s.flt.uncorrected.contains word = false ∧
    (match r with | .buffers => true | .oldCode => true | .survey _ _ => true | _ => false) = true :=
  ⟨9, .survey .fm [1, 2], wFull, by decide +kernel⟩

theorem witness_MemoryErrorsComplete_4_2 : ∃ (word : Nat) (r : Region) (s : State),
    controlRuns s = true ∧
    s.flt.uncorrected.contains word = false ∧
    (match r with | .buffers => true | .oldCode => true | .survey _ _ => true | _ => false) = true :=
  ⟨9, .buffers, wFull, by decide +kernel⟩

theorem witness_MemoryErrorsComplete_4_3 : ∃ (word : Nat) (r : Region) (s : State),
    controlRuns s = true ∧
    s.flt.uncorrected.contains word = false ∧
    (match r with | .buffers => true | .oldCode => true | .survey _ _ => true | _ => false) = true :=
  ⟨9, .oldCode, wFull, by decide +kernel⟩

theorem witness_MemoryErrorsComplete_5 : ∃ (word n k : Nat) (s : State),
    controlRuns s = true ∧
    s.flt.uncorrected.contains word = false ∧
    n < 4 ∧
    k < 4 :=
  ⟨9, 1, 2, wFull, by decide +kernel⟩

theorem witness_MemoryErrorsComplete_6 : ∃ (word : Nat) (s : State),
    controlRuns s = true ∧
    s.flt.uncorrected.contains word = false :=
  ⟨9, wFull, by decide +kernel⟩

theorem witness_MemoryErrorsComplete_7_1 : ∃ (word : Nat) (r : Region) (s : State) (why : PauseCause),
    controlRuns s = true ∧
    s.flt.uncorrected.contains word = false ∧
    s.fab.pause = none ∧
    ((r = .code ∧ why = .reload ∧ nvState s ≠ nvWriting ∧ nvState s ≠ nvVerified ∧ nvState s ≠ nvReverted) ∨
      (r = .control ∧ why = .watchdog ∧ s.flt.watchdogAt = none)) :=
  ⟨9, .code, wFull, .reload, by decide +kernel⟩

theorem witness_MemoryErrorsComplete_7_2 : ∃ (word : Nat) (r : Region) (s : State) (why : PauseCause),
    controlRuns s = true ∧
    s.flt.uncorrected.contains word = false ∧
    s.fab.pause = none ∧
    ((r = .code ∧ why = .reload ∧ nvState s ≠ nvWriting ∧ nvState s ≠ nvVerified ∧ nvState s ≠ nvReverted) ∨
      (r = .control ∧ why = .watchdog ∧ s.flt.watchdogAt = none)) :=
  ⟨9, .control, wFull, .watchdog, by decide +kernel⟩

theorem witness_MemoryErrorsComplete_8_1 : ∃ (word : Nat) (r : Region) (s : State),
    controlRuns s = true ∧
    s.flt.uncorrected.contains word = false ∧
    s.flt.safeAt = none ∧
    s.pwr.mode ≠ .safe ∧
    (s.flt.counted.filter (fun x => decide (s.epoch < x + 10000))).length < 8 ∧
    (r = .husk ∨ (r = .code ∧ (nvState s = nvWriting ∨ nvState s = nvVerified ∨ nvState s = nvReverted))) :=
  ⟨9, .husk, wFull, by decide +kernel⟩

theorem witness_MemoryErrorsComplete_8_2 : ∃ (word : Nat) (r : Region) (s : State),
    controlRuns s = true ∧
    s.flt.uncorrected.contains word = false ∧
    s.flt.safeAt = none ∧
    s.pwr.mode ≠ .safe ∧
    (s.flt.counted.filter (fun x => decide (s.epoch < x + 10000))).length < 8 ∧
    (r = .husk ∨ (r = .code ∧ (nvState s = nvWriting ∨ nvState s = nvVerified ∨ nvState s = nvReverted))) :=
  ⟨9, .code, (setNvState 2 wFull), by decide +kernel⟩

theorem witness_MemoryErrorsComplete_9 : ∃ (word : Nat) (s : State) (l : Nat),
    controlRuns s = true ∧
    s.flt.uncorrected.contains word = false ∧
    l < 156 ∧
    s.laneInUse l = true :=
  ⟨9, (wLive 3 wFull), 3, by decide +kernel⟩

theorem witness_MemoryErrorsComplete_10 : ∃ (word : Nat) (s : State) (q i : Nat),
    controlRuns s = true ∧
    s.flt.uncorrected.contains word = false ∧
    q < 16 ∧
    i < (at' s.queues q {}).recs.length :=
  ⟨9, { wFull with queues := upd wFull.queues 2 (fun x => { x with recs := [⟨0, 0, 0, 0, 0, [1]⟩, ⟨1, 0, 0, 0, 0, [2]⟩] }) }, 2, 1, by decide +kernel⟩

theorem witness_MemoryErrorsComplete_11_1 : ∃ (word : Nat) (s : State),
    controlRuns s = true ∧
    s.flt.uncorrected.contains word = true :=
  ⟨9, { wFull with flt := { uncorrected := [3, 9] } }, by decide +kernel⟩

theorem witness_MemoryErrorsComplete_12 : ∃ (word : Nat) (r : Region) (s : State),
    controlRuns s = true ∧
    s.flt.uncorrected.contains word = false ∧
    s.flt.recovery = none ∧
    recoveringUnits s ≠ [] ∧
    (match r with | .buffers => true | .survey _ _ => true | _ => false) = true :=
  ⟨9, .buffers, { wFull with flt := { recovering := [((1, 2), 40)] } }, by decide +kernel⟩

theorem witness_FaultsComplete_1_1 : ∃ (core : Fin 6) (exception : Bool) (s : State) (cause : Nat),
    s.receiving = true ∧
    s.flt.retired.contains (1, core.val) = false ∧
    isRecovering s (1, core.val) = false ∧
    recentResets s (1, core.val) < 3 ∧
    s.flt.recovery = none ∧
    cause = (if exception then 5 else 4) :=
  ⟨2, true, (wCores (wLive 3 wFull)), 5, by decide +kernel⟩

theorem witness_FaultsComplete_1_2 : ∃ (core : Fin 6) (exception : Bool) (s : State) (cause : Nat),
    s.receiving = true ∧
    s.flt.retired.contains (1, core.val) = false ∧
    isRecovering s (1, core.val) = false ∧
    recentResets s (1, core.val) < 3 ∧
    s.flt.recovery = none ∧
    cause = (if exception then 5 else 4) :=
  ⟨2, true, ((wPlanted 7 .migrate 0 (wPlanted 5 .rds 3 (wCores (wLive 3 wFull)))).setSprout 7 (fun x => { x with toCore := 2 })), 5, by decide +kernel⟩

theorem witness_FaultsComplete_1_3 : ∃ (core : Fin 6) (exception : Bool) (s : State) (cause : Nat),
    s.receiving = true ∧
    s.flt.retired.contains (1, core.val) = false ∧
    isRecovering s (1, core.val) = false ∧
    recentResets s (1, core.val) < 3 ∧
    s.flt.recovery = none ∧
    cause = (if exception then 5 else 4) :=
  ⟨0, false, (wCores (wLive 3 wFull)), 4, by decide +kernel⟩

theorem witness_FaultsComplete_2_1 : ∃ (core : Fin 6) (s : State),
    s.receiving = true ∧
    s.flt.retired.contains (1, core.val) = false ∧
    (isRecovering s (1, core.val) = true ∨ 3 ≤ recentResets s (1, core.val)) :=
  ⟨4, { wCores wFull with flt := { recovering := [((1, 4), 40)] } }, by decide +kernel⟩

theorem witness_FaultsComplete_2_2 : ∃ (core : Fin 6) (s : State),
    s.receiving = true ∧
    s.flt.retired.contains (1, core.val) = false ∧
    (isRecovering s (1, core.val) = true ∨ 3 ≤ recentResets s (1, core.val)) :=
  ⟨4, { wCores wFull with flt := { resets := [((1, 4), 0), ((1, 4), 0), ((1, 4), 0)] } }, by decide +kernel⟩

theorem witness_FaultsComplete_3_1 : ∃ (unit inst : Nat) (s : State),
    s.receiving = true ∧
    2 ≤ unit ∧
    unit ≤ 6 ∧
    inst < unitInstances unit ∧
    s.flt.retired.contains (unit, inst) = false ∧
    recoveringUnits s = [] ∧
    isRecovering s (unit, inst) = false ∧
    recentResets s (unit, inst) < 3 ∧
    s.flt.recovery = none :=
  ⟨2, 3, (wCores (wLive 3 wFull)), by decide +kernel⟩

theorem witness_FaultsComplete_3_2 : ∃ (unit inst : Nat) (s : State),
    s.receiving = true ∧
    2 ≤ unit ∧
    unit ≤ 6 ∧
    inst < unitInstances unit ∧
    s.flt.retired.contains (unit, inst) = false ∧
    recoveringUnits s = [] ∧
    isRecovering s (unit, inst) = false ∧
    recentResets s (unit, inst) < 3 ∧
    s.flt.recovery = none :=
  ⟨5, 1, (wCores wFull), by decide +kernel⟩

theorem witness_FaultsComplete_3_3 : ∃ (unit inst : Nat) (s : State),
    s.receiving = true ∧
    2 ≤ unit ∧
    unit ≤ 6 ∧
    inst < unitInstances unit ∧
    s.flt.retired.contains (unit, inst) = false ∧
    recoveringUnits s = [] ∧
    isRecovering s (unit, inst) = false ∧
    recentResets s (unit, inst) < 3 ∧
    s.flt.recovery = none :=
  ⟨2, 3, (wPlanted 5 .rds 3 (wCores (wLive 3 wFull))), by decide +kernel⟩

theorem witness_FaultsComplete_4 : ∃ (unit inst : Nat) (s : State),
    s.receiving = true ∧
    3 ≤ unit ∧
    unit ≤ 5 ∧
    inst < unitInstances unit ∧
    s.flt.retired.contains (unit, inst) = false ∧
    recoveringUnits s ≠ [] ∧
    isRecovering s (unit, inst) = false ∧
    recentResets s (unit, inst) < 3 ∧
    s.flt.recovery = none :=
  ⟨5, 0, { wCores wFull with flt := { recovering := [((1, 2), 105)] } }, by decide +kernel⟩

theorem witness_FaultsComplete_5 : ∃ (unit inst : Nat) (s : State),
    (unit, inst) ∈ s.flt.inReset :=
  ⟨1, 2, { wFull with flt := { inReset := [(5, 0), (1, 2)] } }, by decide +kernel⟩

theorem witness_FaultsComplete_6 : ∃ (unit inst : Nat) (s : State) (e : Nat),
    ((unit, inst), e) ∈ s.flt.recovering ∧
    e ≤ s.epoch :=
  ⟨1, 2, { wFull with flt := { recovering := [((5, 0), 0), ((1, 2), 0)] } }, 0, by decide +kernel⟩

theorem witness_FaultsComplete_7 : ∃ (s : State) (b : Nat) (us : List UnitId),
    s.flt.recovery = some (.ramping b, us) ∧
    onBoundary s = true ∧
    b + 20 ≤ s.epoch :=
  ⟨{ wCores (wLive 3 wFull) with flt := { recovery := some (.ramping 5, [(5, 0), (1, 2)]), recovering := [((1, 2), 40)] }, time := 163840 * 25 }, 5, [(5, 0), (1, 2)], by decide +kernel⟩

theorem witness_FaultsComplete_8 : ∃ (s : State) (us : List UnitId),
    s.flt.recovery = some (.resetting, us) ∧
    onBoundary s = true ∧
    us.all (fun u => !(s.flt.inReset.contains u)) = true :=
  ⟨{ wFull with flt := { recovery := some (.resetting, [(5, 0)]) }, time := 163840 * 26 }, [(5, 0)], by decide +kernel⟩

theorem witness_FaultsComplete_9 : ∃ (s : State) (b why : Nat),
    s.flt.safeAt = some (b, why) ∧
    onBoundary s = true ∧
    b ≤ s.epoch ∧
    controlRuns s = true ∧
    stopping s = false :=
  ⟨{ wFull with flt := { safeAt := some (3, 2) }, time := 163840 * 3 }, 3, 2, by decide +kernel⟩

theorem witness_FaultsComplete_10 : ∃ (s : State) (b why : Nat),
    s.flt.safeAt = some (b, why) ∧
    onBoundary s = true ∧
    b ≤ s.epoch ∧
    controlRuns s = true ∧
    stopping s = true :=
  ⟨{ wFull with pwr := { mode := .full, trans := some ⟨.off, 0, some 22, false⟩ }, flt := { safeAt := some (3, 2) }, time := 163840 * 3 }, 3, 2, by decide +kernel⟩

theorem witness_FaultsComplete_11 : ∃ (s : State),
    lets s Reg.FLT.LOG_CLR = true :=
  ⟨{ wFull with flt := { log := [{ unit := 1, inst := 0, cause := 4, epoch := 3 }] } }, by decide +kernel⟩

theorem witness_BoundaryCompletes_1_1 : ∃ (s : State),
    clockRuns s = true :=
  ⟨{ wQuiet with time := 5, fab := { keys := [⟨0x060, .spi, 2⟩] } }, by decide +kernel⟩

theorem witness_BoundaryCompletes_1_2 : ∃ (s : State),
    clockRuns s = true :=
  ⟨{ State.reset with pwr := { mode := .hold }, time := 163840 }, by decide +kernel⟩

theorem witness_BoundaryCompletes_1_3 : ∃ (s : State),
    clockRuns s = true :=
  ⟨wFull, by decide +kernel⟩

theorem witness_BoundaryCompletes_2_1 : ∃ (s : State),
    clockRuns s = false :=
  ⟨State.reset, by decide +kernel⟩

theorem witness_BoundaryCompletes_2_2 : ∃ (s : State),
    clockRuns s = false :=
  ⟨{ wFull with pwr := { mode := .sleep } }, by decide +kernel⟩

theorem witness_IdleStepTicks_1 : ∃ (s : State),
    s.pending = [] ∧
    clockRuns s = true ∧
    (s.time + 1) % 163840 ≠ 0 :=
  ⟨wFull, by decide +kernel⟩

theorem witness_IdleStepTicks_2_1 : ∃ (s : State),
    s.pending = [] ∧
    (clockRuns s = false ∨ (s.time + 1) % 163840 = 0) :=
  ⟨State.reset, by decide +kernel⟩

theorem witness_IdleStepTicks_2_2 : ∃ (s : State),
    s.pending = [] ∧
    (clockRuns s = false ∨ (s.time + 1) % 163840 = 0) :=
  ⟨{ wFull with time := 163839 }, by decide +kernel⟩

theorem witness_WindowsHoldOneResult_2 : ∃ (i : Nat) (words : List (Nat × Word)) (s : State),
    i < 27 ∧
    s.flag (windowValid i) = false ∧
    (words.map (fun c => c.1)).Nodup ∧
    (at' s.fab.windows i {}).last < 256 :=
  ⟨22, [(Reg.TWC.RES0, 0x3000), (Reg.TWC.RES1, 7)], { wFull with fab := { windows := upd (Vector.replicate 27 {}) 22 (fun _ => ⟨255, none, false⟩) } }, by decide +kernel⟩

theorem witness_WindowsHoldOneResult_3 : ∃ (i : Nat) (s : State),
    i < 27 ∧
    s.flag (windowValid i) = true :=
  ⟨26, (wFull.put (windowValid 26) true), by decide +kernel⟩

theorem witness_BandPlanHolds_2_1 : ∃ (n : Fin 8) (v : Word) (s : State),
    lets s (Reg.FMF.TUNE n.val) = true ∧
    fieldOf v 0 17 ≠ 0 ∧
    ((s.lane n.val).state = .retired ∨ fmAllowed s (fieldOf v 0 17) = false) :=
  ⟨2, 64050, wFull, by decide +kernel⟩

theorem witness_BandPlanHolds_2_2 : ∃ (n : Fin 8) (v : Word) (s : State),
    lets s (Reg.FMF.TUNE n.val) = true ∧
    fieldOf v 0 17 ≠ 0 ∧
    ((s.lane n.val).state = .retired ∨ fmAllowed s (fieldOf v 0 17) = false) :=
  ⟨2, 95000, (wFull.set Fld.RGL.BAND_PLAN.BANDS 2), by decide +kernel⟩

theorem witness_BandPlanHolds_2_3 : ∃ (n : Fin 8) (v : Word) (s : State),
    lets s (Reg.FMF.TUNE n.val) = true ∧
    fieldOf v 0 17 ≠ 0 ∧
    ((s.lane n.val).state = .retired ∨ fmAllowed s (fieldOf v 0 17) = false) :=
  ⟨2, 98000, (wFull.setLane 2 (fun x => { x with state := .retired })), by decide +kernel⟩

end Sys2Proof.Tests
end

namespace Sys2Proof.Machine.Capture

variable {ps : List Part} {as : List Nat} {s t u : State}

/-! ## Fields that do not overlap -/

/-- Two fields share no bit: they stand in different registers, or apart in one. -/
abbrev Apart (f g : Field) : Prop :=
  g.addr ≠ f.addr ∨ (f.lo + f.width ≤ 32 ∧ (g.lo + g.width ≤ f.lo ∨ f.lo + f.width ≤ g.lo))

theorem get_set_apart {f g : Field} (h : Apart f g) (s : State) (v : Nat) : (s.set f v).get g = s.get g := by
  rcases h with ha | ⟨hw, hd⟩
  · exact State.get_set_addr s f g v ha
  · exact State.get_set_bits s f g v hw hd

theorem get_put_apart {f g : Field} (h : Apart f g) (s : State) (b : Bool) : (s.put f b).get g = s.get g := get_set_apart h s _

theorem flag_set_apart {f g : Field} (h : Apart f g) (s : State) (v : Nat) : (s.set f v).flag g = s.flag g := by
  simp only [State.flag, get_set_apart h]

theorem flag_put_apart {f g : Field} (h : Apart f g) (s : State) (b : Bool) : (s.put f b).flag g = s.flag g := flag_set_apart h s _

theorem get_of_regs (h : t.regs = s.regs) (f : Field) : t.get f = s.get f := by
  simp only [State.get, State.word, h]

theorem flag_of_regs (h : t.regs = s.regs) (f : Field) : t.flag f = s.flag f := by
  simp only [State.flag, get_of_regs h]

/-- A counter that saturates reads one more, or its greatest value. -/
theorem get_bumpSat {f : Field} (h : f.lo + f.width ≤ 32) (s : State) :
    (s.bumpSat f).get f = min (2 ^ f.width - 1) (s.get f + 1) := by
  have hp : 0 < 2 ^ f.width := Nat.two_pow_pos _
  rw [State.bumpSat, State.get_set_same s f _ h, satAdd]
  exact Nat.mod_eq_of_lt (by omega)

/-! ## What a frame leaves -/

theorem frame_word {a : Nat} (h : frame ps as s t) (ha : a ∉ as) : t.word a = s.word a := h.2 a ha

theorem frame_get {f : Field} (h : frame ps as s t) (ha : f.addr ∉ as) : t.get f = s.get f := by
  simp only [State.get, h.2 _ ha]

theorem frame_flag {f : Field} (h : frame ps as s t) (ha : f.addr ∉ as) : t.flag f = s.flag f := by
  simp only [State.flag, frame_get h ha]

theorem frame_mode (h : frame ps as s t) (hp : Part.pwr ∉ ps) : t.pwr.mode = s.pwr.mode := by
  have e : { t.pwr with pins := {} } = { s.pwr with pins := {} } := h.1 .pwr hp
  have m := congrArg Power.mode e
  exact m

theorem frame_epoch (h : frame ps as s t) (hp : Part.time ∉ ps) : t.epoch = s.epoch := by
  have e : t.time = s.time := h.1 .time hp
  simp only [State.epoch, e]

theorem frame_heldOff (h : frame ps as s t) (ha : Reg.RGL.BAND_PLAN ∉ as) (p : Path) : heldOff t p = heldOff s p := by
  have e : t.get Fld.RGL.BAND_PLAN.BANDS = s.get Fld.RGL.BAND_PLAN.BANDS := frame_get h ha
  simp only [heldOff, enabledBands, e]

theorem frame_receiving (h : frame ps as s t) (hp : Part.pwr ∉ ps) : t.receiving = s.receiving := by
  simp only [State.receiving, frame_mode h hp]

/-- A path stays powered or not while neither the power state nor the band plan changes (R39). -/
theorem frame_pathOn (h : frame ps as s t) (hp : Part.pwr ∉ ps) (ha : Reg.RGL.BAND_PLAN ∉ as) (p : Path) : pathOn t p = pathOn s p := by
  simp only [pathOn, frame_receiving h hp, frame_heldOff h ha]

theorem frame_modeNow (h : frame ps as s t) {p : Path} (ha : Reg.FE.STAT p.idx ∉ as) : modeNow t p = modeNow s p := frame_get h ha

theorem tileNow_congr {p : Path} (hm : modeNow t p = modeNow s p)
    (ht : t.get (Fld.FE.TILE_NOW.KHZ p.idx) = s.get (Fld.FE.TILE_NOW.KHZ p.idx)) : tileNow t p = tileNow s p := by
  simp only [tileNow, hm, ht]

theorem path_setPath (s : State) (p : Path) (f : PathState → PathState) : (s.setPath p f).path p = f (s.path p) := by
  cases p <;> simp [State.setPath, State.path, upd, at', Path.idx]

theorem frame_setPath {p : Path} {f : PathState → PathState} (hp : Part.paths ∈ ps) (h : frame ps as s t) :
    frame ps as s (t.setPath p f) := frame_paths hp h

end Sys2Proof.Machine.Capture

namespace Sys2Proof.Machine.Capture

variable {ps : List Part} {as : List Nat} {s t u : State}

/-! ## Events -/

theorem eventBit_lt (g : Nat) : eventBit g < 16 := by
  unfold eventBit
  cases h : eventPages.find? (fun e => Nat.ble e.2.1 g && Nat.blt g (e.2.1 + e.2.2)) with
  | none => simp
  | some e =>
    have hs : ∀ x ∈ eventPages, x.2.2 ≤ 16 := by decide
    have h1 := hs e (List.mem_of_find?_eq_some h)
    have h2 := List.find?_some h
    simp only [Bool.and_eq_true, Nat.blt_eq, Nat.ble_eq] at h2
    simp only [Option.map_some, Option.getD_some]
    omega

theorem evRawAddr_offset (p : Nat) : evRawAddr p % 4096 = 16 := by
  unfold evRawAddr
  omega

/-- An EV_RAW bit that is set stays set while another is (R287). -/
theorem flag_put_evRaw (g k : Nat) (h : s.flag (evRaw k) = true ∨ k = g) : (s.put (evRaw g) true).flag (evRaw k) = true := by
  have hg := eventBit_lt g
  have hk := eventBit_lt k
  have same : (s.put (evRaw g) true).flag (evRaw g) = true :=
    State.flag_put_same s (evRaw g) true (show eventBit g + 1 ≤ 32 by omega) Nat.one_pos
  by_cases e : evRaw k = evRaw g
  · rw [e]
    exact same
  · have hs : s.flag (evRaw k) = true := h.resolve_right (fun x => e (by rw [x]))
    have ap : Apart (evRaw g) (evRaw k) := by
      by_cases ha : (evRaw k).addr = (evRaw g).addr
      · have hb : eventBit k ≠ eventBit g := fun x => e (by
          have ha' : evRawAddr (eventPage k) = evRawAddr (eventPage g) := ha
          simp only [evRaw, ha', x])
        exact .inr (show eventBit g + 1 ≤ 32 ∧ (eventBit k + 1 ≤ eventBit g ∨ eventBit g + 1 ≤ eventBit k) by omega)
      · exact .inl ha
    rw [flag_put_apart ap, hs]

/-- From `s` to `t` no raised event is lost: what is pending stays, and what waits for the end of a pause goes on waiting (R287, R290). -/
def keepsEvents (s t : State) : Prop :=
  t.fab.pause = s.fab.pause ∧ s.fab.lateEvents ⊆ t.fab.lateEvents ∧ ∀ g, s.flag (evRaw g) = true → t.flag (evRaw g) = true

theorem keepsEvents_refl (s : State) : keepsEvents s s := ⟨rfl, fun _ h => h, fun _ h => h⟩

theorem keepsEvents_trans (h : keepsEvents s t) (k : keepsEvents t u) : keepsEvents s u :=
  ⟨k.1.trans h.1, fun _ m => k.2.1 (h.2.1 m), fun g m => k.2.2 g (h.2.2 g m)⟩

/-- A change that leaves the fabric and the EV_RAW registers loses no event. -/
theorem keepsEvents_of_frame (hp : Part.fab ∉ ps) (ha : ∀ a ∈ as, a % 4096 ≠ 16) (h : frame ps as s t) : keepsEvents s t := by
  have hf : t.fab = s.fab := h.1 .fab hp
  refine ⟨by rw [hf], by rw [hf]; exact fun _ m => m, fun g hg => ?_⟩
  rw [frame_flag h (fun m => ha _ m (evRawAddr_offset _)), hg]

theorem raised_of_keepsEvents {g : Nat} (k : keepsEvents s t) (h : raised s g) : raised t g := by
  unfold raised at h ⊢
  rw [k.1]
  split
  case isTrue c => exact k.2.1 (by rwa [if_pos c] at h)
  case isFalse c => exact k.2.2 g (by rwa [if_neg c] at h)

theorem frame_triggered (g : Nat) (s : State) : frame [.twc] [Reg.TWC.SKIP_CNT] s (triggerScripts g s) :=
  frame_triggerScripts (by simp) (by simp) (frame_refl _ _ _)

theorem keepsEvents_occur (g : Nat) (s : State) : keepsEvents s (occur g s) ∧ (occur g s).flag (evRaw g) = true := by
  have k : keepsEvents (s.put (evRaw g) true) (occur g s) :=
    keepsEvents_of_frame (by simp) (by decide) (frame_triggered g _)
  have j : keepsEvents s (s.put (evRaw g) true) := ⟨rfl, fun _ h => h, fun _ h => flag_put_evRaw _ _ (.inl h)⟩
  exact ⟨keepsEvents_trans j k, k.2.2 g (flag_put_evRaw g g (.inr rfl))⟩

theorem keepsEvents_raise (g : Nat) (s : State) : keepsEvents s (raise g s) := by
  unfold raise
  split
  · exact ⟨rfl, fun _ h => List.mem_append_left _ h, fun _ h => h⟩
  · exact (keepsEvents_occur g s).1

theorem raised_raise (g : Nat) (s : State) : raised (raise g s) g := by
  unfold raised
  rw [(keepsEvents_raise g s).1]
  unfold raise
  split
  · exact List.mem_append_right _ (by simp)
  · exact (keepsEvents_occur g s).2

theorem keepsEvents_raiseIf (c : Bool) (g : Nat) (s : State) : keepsEvents s (raiseIf c g s) := by
  unfold raiseIf
  split
  · exact keepsEvents_raise g s
  · exact keepsEvents_refl s

theorem raised_finish {g : Nat} (h : raised t g) : raised (finish s t) g := h

/-- Raising an event as a change of its own: what else stands. -/
theorem frame_raised (g : Nat) (s : State) : frame evParts (evWords g) s (raise g s) :=
  frame_raise (fun _ h => h) (fun _ h => h) (frame_refl _ _ _)

theorem raise_aux (g : Nat) (s : State) : (raise g s).aux = s.aux := (frame_raised g s).1 .aux (by decide)

theorem raise_paths (g : Nat) (s : State) : (raise g s).paths = s.paths := (frame_raised g s).1 .paths (by decide)

/-- Raising an event leaves the result windows. -/
theorem raise_windows (g : Nat) (s : State) : (raise g s).fab.windows = s.fab.windows := by
  unfold raise
  split
  · rfl
  · have h : (occur g s).fab = (s.put (evRaw g) true).fab := (frame_triggered g _).1 .fab (by simp)
    rw [h, State.put_fab]

/-- A register outside the page headers and the auxiliary controller's page reads the same after an event. -/
theorem word_raise {a : Nat} (g : Nat) (s : State) (ho : a % 4096 ≠ 16) (hs : a ≠ Reg.TWC.SKIP_CNT) : (raise g s).word a = s.word a := by
  refine frame_word (frame_raised g s) (fun m => ?_)
  rcases List.mem_cons.mp m with rfl | m
  · exact ho (evRawAddr_offset _)
  · exact hs (List.mem_singleton.mp m)

theorem get_raise {f : Field} (g : Nat) (s : State) (ho : f.addr % 4096 ≠ 16) (hs : f.addr ≠ Reg.TWC.SKIP_CNT) :
    (raise g s).get f = s.get f := by
  simp only [State.get, word_raise g s ho hs]

theorem flag_raise {f : Field} (g : Nat) (s : State) (ho : f.addr % 4096 ≠ 16) (hs : f.addr ≠ Reg.TWC.SKIP_CNT) :
    (raise g s).flag f = s.flag f := by
  simp only [State.flag, get_raise g s ho hs]

theorem raiseIf_windows (c : Bool) (g : Nat) (s : State) : (raiseIf c g s).fab.windows = s.fab.windows := by
  unfold raiseIf
  split
  · exact raise_windows g s
  · rfl

theorem word_raiseIf {a : Nat} (c : Bool) (g : Nat) (s : State) (ho : a % 4096 ≠ 16) (hs : a ≠ Reg.TWC.SKIP_CNT) :
    (raiseIf c g s).word a = s.word a := by
  unfold raiseIf
  split
  · exact word_raise g s ho hs
  · rfl

theorem flag_raiseIf {f : Field} (c : Bool) (g : Nat) (s : State) (ho : f.addr % 4096 ≠ 16) (hs : f.addr ≠ Reg.TWC.SKIP_CNT) :
    (raiseIf c g s).flag f = s.flag f := by
  simp only [State.flag, State.get, word_raiseIf c g s ho hs]

end Sys2Proof.Machine.Capture

namespace Sys2Proof.Machine.Capture

variable {ps : List Part} {as : List Nat} {s t u : State} {c : Change} {g : Nat × List Change} {lo : Nat}

/-! ## A change on its way into the epoch plan (R18, R20, R22) -/

theorem mem_insertEntry {x y : Entry} {l : List Entry} : y ∈ insertEntry x l ↔ y = x ∨ y ∈ l := by
  induction l with
  | nil => simp [insertEntry]
  | cons e l ih =>
    simp only [insertEntry]
    split
    · simp only [List.mem_cons, ih]
      tauto
    · simp only [List.mem_cons]

theorem mem_placeAt_self (l : List Entry) (c : Change) (b : Nat) : ⟨b, false, c⟩ ∈ placeAt l c b :=
  mem_insertEntry.mpr (.inl rfl)

/-- Placing a change replaces entries of its own kind and target only (R20.1). -/
theorem mem_placeAt {l : List Entry} {e : Entry} {d : Change} {b : Nat} (h : e ∈ l) (hd : sameKindTarget e.change d = false) :
    e ∈ placeAt l d b :=
  mem_insertEntry.mpr (.inr (List.mem_filter.mpr ⟨h, by simp [hd]⟩))

theorem sameKindTarget_of_isFreq {a b : Change} (ha : isFreq a = false) (hb : isFreq b = true) : sameKindTarget a b = false := by
  have h : a.kind ≠ b.kind := by
    simp only [isFreq, beq_eq_false_iff_ne, beq_iff_eq] at ha hb
    omega
  simp [sameKindTarget, h]

/-- Moving frequency epochs leaves every other entry (R20.2). -/
theorem mem_moveFreq {l : List Entry} {e : Entry} {b : Nat} (h : e ∈ l) (hf : isFreq e.change = false) : e ∈ moveFreq l b := by
  unfold moveFreq
  split
  · split
    case h_1 x hx =>
      have hx' := List.find?_some hx
      simp only [Bool.and_eq_true] at hx'
      exact mem_placeAt (List.mem_filter.mpr ⟨h, by simp [hf]⟩) (sameKindTarget_of_isFreq hf hx'.1.2)
    case h_2 => exact h
  · exact h

theorem mem_foldl_placeAt {l : List Entry} {e : Entry} {cs : List Change} {b : Nat} (h : e ∈ l)
    (hd : ∀ d ∈ cs, sameKindTarget e.change d = false) : e ∈ cs.foldl (fun p d => placeAt p d b) l := by
  induction cs generalizing l with
  | nil => exact h
  | cons d cs ih => exact ih (mem_placeAt h (hd d (by simp))) (fun x hx => hd x (by simp [hx]))

theorem mem_foldl_placeAt_self {l : List Entry} {cs : List Change} {b : Nat} (h : c ∈ cs)
    (hp : cs.Pairwise (fun x y => sameKindTarget x y = false)) : ⟨b, false, c⟩ ∈ cs.foldl (fun p d => placeAt p d b) l := by
  induction cs generalizing l with
  | nil => simp at h
  | cons d cs ih =>
    obtain ⟨hd, hp⟩ := List.pairwise_cons.mp hp
    rcases List.mem_cons.mp h with rfl | h
    · exact mem_foldl_placeAt (l := placeAt l c b) (mem_placeAt_self l c b) hd
    · exact ih h hp

/-- `c` stands in a plan, not announced, on boundary `lo` or later. -/
def stands (c : Change) (lo : Nat) (l : List Entry) : Prop := ∃ e ∈ l, e.change = c ∧ e.announced = false ∧ lo ≤ e.at_

/-- A request holds no change that would replace `c` (R20.1). -/
def spares (c : Change) (g : Nat × List Change) : Prop := ∀ d ∈ g.2, sameKindTarget c d = false

/-- Request `g` asks for `c`, a change of the first class and no frequency epoch; its changes do not replace one another. -/
structure AsksFor (g : Nat × List Change) (c : Change) : Prop where
  mem : c ∈ g.2
  first : firstClass c = true
  nofreq : g.2.any isFreq = false
  pairwise : g.2.Pairwise (fun x y => sameKindTarget x y = false)

theorem AsksFor.isFreq_eq (h : AsksFor g c) : isFreq c = false := by
  have := h.nofreq
  rw [List.any_eq_false] at this
  simpa using this c h.mem

theorem AsksFor.any_first (h : AsksFor g c) : g.2.any firstClass = true := List.any_eq_true.mpr ⟨c, h.mem, h.first⟩

/-- A request of the second class replaces no change of the first (R22). -/
theorem spares_of_second {x : Nat × List Change} (hc : firstClass c = true) (h : x.2.any firstClass = false) : spares c x := by
  intro d hd
  have hd' : firstClass d = false := by
    rw [List.any_eq_false] at h
    simpa using h d hd
  have : c.kind ≠ d.kind := by
    intro e
    have same : firstClass d = firstClass c := by simp only [firstClass, e]
    rw [same, hc] at hd'
    cases hd'
  simp [sameKindTarget, this]

theorem stands_place_new {cs : List Change} {want : Nat} (h : AsksFor (want, cs) c) (s : State) :
    stands c (max want (s.epoch + 2)) (place cs want s).plan :=
  ⟨_, mem_moveFreq (mem_foldl_placeAt_self h.mem h.pairwise) h.isFreq_eq, rfl, rfl, Nat.le_add_right _ _⟩

theorem stands_place_old {cs : List Change} {want : Nat} (h : stands c lo s.plan) (hf : isFreq c = false) (hs : spares c (want, cs)) :
    stands c lo (place cs want s).plan := by
  obtain ⟨e, he, rfl, ha, hl⟩ := h
  exact ⟨e, mem_moveFreq (mem_foldl_placeAt he hs) hf, rfl, ha, hl⟩

theorem showFreqPlan_plan (s : State) : (showFreqPlan s).plan = s.plan := by
  unfold showFreqPlan
  split <;> rfl

theorem showFreqPlan_planWait (s : State) : (showFreqPlan s).planWait = s.planWait := by
  unfold showFreqPlan
  split <;> rfl

theorem servePlan_epoch (s : State) : (servePlan s).epoch = s.epoch :=
  frame_epoch (frame_servePlan (List.mem_singleton.mpr rfl) (fun _ h => h) (frame_refl [.plan] planRegs s)) (by simp)

/-- Change `c` of request `g` is under way: it stands in the plan and no waiting request would replace it, or `g` waits with none such
behind it. -/
def underWay (c : Change) (g : Nat × List Change) (lo : Nat) (t : State) : Prop :=
  (stands c lo t.plan ∧ ∀ x ∈ t.planWait, spares c x) ∨ ∃ l m, t.planWait = l ++ g :: m ∧ ∀ x ∈ m, spares c x

theorem mem_of_nextWaiting {x : Nat × List Change} (h : nextWaiting s = some x) : x ∈ s.planWait := by
  unfold nextWaiting at h
  cases hf : s.planWait.find? (fun x => x.2.any firstClass) with
  | some y =>
    simp only [hf, Option.orElse_some, Option.some.injEq] at h
    exact h ▸ List.mem_of_find?_eq_some hf
  | none =>
    simp only [hf, Option.orElse_none] at h
    exact List.mem_of_mem_head? (by rw [h]; rfl)

/-- Of a list with request `g`, which has a change of the first class, the request served next stands before it or is `g`, and then
only requests of the second class stand before it (R22). -/
theorem nextWaiting_before {l m : List (Nat × List Change)} {x : Nat × List Change} (h : AsksFor g c) (hw : s.planWait = l ++ g :: m)
    (hx : nextWaiting s = some x) : x ∈ l ∨ (x = g ∧ ∀ y ∈ l, y.2.any firstClass = false) := by
  unfold nextWaiting at hx
  rw [hw, List.find?_append] at hx
  cases hf : l.find? (fun x => x.2.any firstClass) with
  | some y =>
    simp only [hf, Option.some_or, Option.orElse_some, Option.some.injEq] at hx
    exact .inl (hx ▸ List.mem_of_find?_eq_some hf)
  | none =>
    rw [hf, List.find?_cons_of_pos (by exact h.any_first)] at hx
    simp only [Option.none_or, Option.orElse_some, Option.some.injEq] at hx
    refine .inr ⟨hx.symm, fun y hy => ?_⟩
    simpa using List.find?_eq_none.mp hf y hy

theorem underWay_servePlan (h : AsksFor g c) (hl : lo ≤ max g.1 (t.epoch + 2)) (k : underWay c g lo t) : underWay c g lo (servePlan t) := by
  unfold servePlan
  cases hx : nextWaiting t with
  | none => exact k
  | some x =>
    dsimp only
    split
    case isFalse => exact k
    unfold underWay
    rw [showFreqPlan_plan, showFreqPlan_planWait]
    rcases k with ⟨hs, hw⟩ | ⟨l, m, hw, hm⟩
    · exact .inl ⟨stands_place_old (s := { t with planWait := _ }) hs h.isFreq_eq (hw x (mem_of_nextWaiting hx)),
        fun y hy => hw y (List.mem_of_mem_erase hy)⟩
    · by_cases hxl : x ∈ l
      · exact .inr ⟨l.erase x, m, by simp [place, hw, List.erase_append_left _ hxl], hm⟩
      obtain ⟨rfl, hsec⟩ := (nextWaiting_before h hw hx).resolve_left hxl
      obtain ⟨e, he, h1, h2, h3⟩ := stands_place_new (cs := x.2) (want := x.1) h { t with planWait := t.planWait.erase x }
      refine .inl ⟨⟨e, he, h1, h2, Nat.le_trans hl h3⟩, fun y hy => ?_⟩
      have hy' : y ∈ l ++ m := by
        simpa [place, hw, List.erase_append_right _ hxl] using hy
      rcases List.mem_append.mp hy' with hy' | hy'
      · exact spares_of_second h.first (hsec y hy')
      · exact hm y hy'

theorem underWay_serveWaiting {n : Nat} (h : AsksFor g c) (hl : lo ≤ max g.1 (t.epoch + 2)) (k : underWay c g lo t) :
    underWay c g lo (serveWaiting n t) := by
  induction n generalizing t with
  | zero => exact k
  | succ n ih => exact ih (by rwa [servePlan_epoch]) (underWay_servePlan h hl k)

/-- What `postAll` posts is under way. -/
theorem underWay_postAll {cs : List Change} {want : Nat} (h : AsksFor (want, cs) c) (s : State) :
    underWay c (want, cs) (max want (s.epoch + 2)) (postAll cs want s) := by
  unfold postAll
  rw [h.nofreq, Bool.and_false, if_neg (by simp)]
  split
  case isTrue hc =>
    have hw : s.planWait = [] := by simpa using (Bool.and_eq_true_iff.mp hc).1
    refine .inl ⟨by rw [showFreqPlan_plan]; exact stands_place_new h s, ?_⟩
    rw [showFreqPlan_planWait]
    simp [place, hw]
  case isFalse =>
    have k : underWay c (want, cs) (max want (s.epoch + 2)) (serveWaiting (s.planWait.length + 1) { s with planWait := s.planWait ++ [(want, cs)] }) :=
      underWay_serveWaiting h (Nat.le_refl _) (.inr ⟨s.planWait, [], rfl, by simp⟩)
    dsimp only
    split <;> exact k

/-- A change under way stays so while others are posted that would not replace it. -/
theorem underWay_postAll_other {cs : List Change} {want : Nat} (h : AsksFor g c) (hl : lo ≤ max g.1 (s.epoch + 2))
    (hs : spares c (want, cs)) (hf : cs.any isFreq = false) (k : underWay c g lo s) : underWay c g lo (postAll cs want s) := by
  unfold postAll
  rw [hf, Bool.and_false, if_neg (by simp)]
  split
  case isTrue hc =>
    have hw : s.planWait = [] := by simpa using (Bool.and_eq_true_iff.mp hc).1
    rcases k with ⟨k, _⟩ | ⟨l, m, hm, _⟩
    · refine .inl ⟨by rw [showFreqPlan_plan]; exact stands_place_old k h.isFreq_eq hs, ?_⟩
      rw [showFreqPlan_planWait]
      simp [place, hw]
    · simp [hw] at hm
  case isFalse =>
    have k' : underWay c g lo { s with planWait := s.planWait ++ [(want, cs)] } := by
      rcases k with ⟨k, hw⟩ | ⟨l, m, hw, hm⟩
      · refine .inl ⟨k, fun x hx => ?_⟩
        rcases List.mem_append.mp hx with hx | hx
        · exact hw x hx
        · rw [List.mem_singleton.mp hx]
          exact hs
      · refine .inr ⟨l, m ++ [(want, cs)], by simp [hw], fun x hx => ?_⟩
        rcases List.mem_append.mp hx with hx | hx
        · exact hm x hx
        · rw [List.mem_singleton.mp hx]
          exact hs
    have k'' := underWay_serveWaiting (t := { s with planWait := s.planWait ++ [(want, cs)] }) (n := s.planWait.length + 1) h hl k'
    dsimp only
    split <;> exact k''

theorem asked_of_underWay {want : Nat} {cs : List Change} (h : c ∈ cs) (hl : lo = max want (s.epoch + 2))
    (k : underWay c (want, cs) lo t) : asked s t c want := by
  rcases k with ⟨⟨e, he, hc, ha, hb⟩, _⟩ | ⟨l, m, hw, _⟩
  · exact .inl ⟨e, he, hc, ha, by omega, by omega⟩
  · exact .inr ⟨(want, cs), by simp [hw], rfl, h⟩

/-- What is posted is asked for. -/
theorem asked_postAll {cs : List Change} {want : Nat} (h : AsksFor (want, cs) c) (he : s.epoch = t.epoch) :
    asked s (postAll cs want t) c want :=
  asked_of_underWay h.mem (by rw [he]) (underWay_postAll h t)

theorem asked_finish {want : Nat} (h : asked s t c want) : asked s (finish s t) c want := h

theorem asksFor_gain (p : Path) (k : Nat) (w : GainWhy) (want : Nat) : AsksFor (want, [.gain p k w]) (.gain p k w) where
  mem := by simp
  first := rfl
  nofreq := rfl
  pairwise := by simp

theorem planRegs_subset : planRegs ⊆ planWords := by
  decide

theorem frame_posted {c : Change} {want : Nat} (hp : Part.plan ∈ ps) (ha : planWords ⊆ as) (h : frame ps as s t) :
    frame ps as s (post c want t) :=
  frame_postAll hp (fun _ hx => ha (planRegs_subset hx)) h

end Sys2Proof.Machine.Capture

namespace Sys2Proof.Machine.Capture

variable {ps : List Part} {as : List Nat} {s t u : State} {l : Lo} {v : Vhf} {r : LoReq}

/-! ## LO requests (R37, R60, R68) -/

/-- The parts that an LO request may change. -/
def loParts : List Part := [.loops, .plan, .twc, .fab]

theorem evParts_subset_loParts : evParts ⊆ loParts := by
  decide

theorem lo_setLo (s : State) (l : Lo) (f : LoState → LoState) : (s.setLo l f).lo l = f (s.lo l) := by
  cases l <;> simp [State.setLo, State.lo, upd, at', Lo.idx]

theorem loOn_lo (s : State) (v : Vhf) : loOn s v.lo = pathOn s v.path := by
  cases v <;> rfl

theorem resolveCal_of_not_inForce (s : State) (l : Lo) (h : r.inForce = false) : resolveCal s l r = r := by
  simp [resolveCal, h]

theorem lo_mem_loAskWords (l : Lo) : Reg.LO.STAT l.idx ∈ loAskWords l ∧ Reg.LO.SUPERSEDED_CNT l.idx ∈ loAskWords l := by
  simp [loAskWords]

theorem planWords_subset_loAskWords (l : Lo) : planWords ⊆ loAskWords l := fun _ h => by
  simp only [loAskWords, List.mem_append]
  exact .inl (.inr h)

theorem evWords_subset_loAskWords (l : Lo) : evWords (Ev.LO.SUPERSEDED l.idx) ⊆ loAskWords l := fun _ h => by
  simp only [loAskWords, List.mem_append]
  exact .inr h

theorem frame_setLo {f : LoState → LoState} (hp : Part.loops ∈ ps) (h : frame ps as s t) : frame ps as s (t.setLo l f) :=
  frame_loops hp h

theorem frame_postLo (hp : [.loops, .plan] ⊆ ps) (ha : planWords ⊆ as) (h : frame ps as s t) : frame ps as s (postLo l r t) := by
  have k := frame_setLo (l := l) (f := fun x => { x with busy := some (resolveCal t l r), settling := false }) (hp (by simp)) h
  have hr : planRegs ⊆ as := fun _ hx => ha (planRegs_subset hx)
  unfold postLo
  dsimp only
  split <;> exact frame_postAll (hp (by simp)) hr k

theorem frame_requestLo (hp : loParts ⊆ ps) (ha : loAskWords l ⊆ as) (h : frame ps as s t) : frame ps as s (requestLo l r t) := by
  have hl : Part.loops ∈ ps := hp (by simp [loParts])
  have hs : Reg.LO.STAT l.idx ∈ as := ha (lo_mem_loAskWords l).1
  have hc : Reg.LO.SUPERSEDED_CNT l.idx ∈ as := ha (lo_mem_loAskWords l).2
  have he : evParts ⊆ ps := List.Subset.trans evParts_subset_loParts hp
  unfold requestLo
  dsimp only
  split
  · exact h
  split
  · exact frame_postLo (fun _ hx => hp (by revert hx; simp [loParts]; tauto)) (fun _ hx => ha (planWords_subset_loAskWords l hx)) h
  refine frame_put hs (frame_setLo hl ?_)
  split
  · exact frame_raise he (fun _ hx => ha (evWords_subset_loAskWords l hx)) (frame_bumpSat hc h)
  · exact h

/-- The registers of an LO request that are no event registers. -/
theorem loWords_offset (l : Lo) : ∀ a ∈ [Reg.LO.STAT l.idx, Reg.LO.SUPERSEDED_CNT l.idx] ++ planWords, a % 4096 ≠ 16 := by
  cases l <;> decide

theorem keepsEvents_of_loFrame (h : frame [.loops, .plan] ([Reg.LO.STAT l.idx, Reg.LO.SUPERSEDED_CNT l.idx] ++ planWords) s t) :
    keepsEvents s t :=
  keepsEvents_of_frame (by simp) (loWords_offset l) h

theorem keepsEvents_requestLo (l : Lo) (r : LoReq) (s : State) : keepsEvents s (requestLo l r s) := by
  have hs : Reg.LO.STAT l.idx ∈ [Reg.LO.STAT l.idx, Reg.LO.SUPERSEDED_CNT l.idx] ++ planWords := by simp
  have hc : Reg.LO.SUPERSEDED_CNT l.idx ∈ [Reg.LO.STAT l.idx, Reg.LO.SUPERSEDED_CNT l.idx] ++ planWords := by simp
  have held (t : State) : keepsEvents t ((t.setLo l (fun y => { y with queued := some r })).put (Fld.LO.STAT.QUEUED l.idx) true) :=
    keepsEvents_of_loFrame (l := l) (frame_put hs (frame_setLo (by simp) (frame_refl _ _ _)))
  unfold requestLo
  dsimp only
  split
  · exact keepsEvents_refl s
  split
  · exact keepsEvents_of_loFrame (l := l) (frame_postLo (fun _ h => h) (List.subset_append_right _ _) (frame_refl _ _ _))
  refine keepsEvents_trans ?_ (held _)
  split
  · exact keepsEvents_trans (keepsEvents_of_loFrame (l := l) (frame_bumpSat hc (frame_refl _ _ _))) (keepsEvents_raise _ _)
  · exact keepsEvents_refl s

/-- An LO change and the switch or gain step that goes with it are of different kinds (R19). -/
theorem asksFor_lo {cs : List Change} (want : Nat) (h : cs = [] ∨ (∃ w b, cs = [.band w b]) ∨ ∃ p k w, cs = [.gain p k w]) :
    AsksFor (want, .lo l r :: cs) (.lo l r) := by
  have hk : (Change.lo l r).kind = 3 ∨ (Change.lo l r).kind = 4 ∨ (Change.lo l r).kind = 10 := by
    cases hr : r.kind <;> simp [Change.kind, hr]
  have h1 : firstClass (.lo l r) = true := by
    rcases hk with e | e | e <;> simp [firstClass, e]
  have h2 : isFreq (.lo l r) = false := by
    rcases hk with e | e | e <;> simp [isFreq, e]
  refine ⟨by simp, h1, ?_, ?_⟩
  · rcases h with rfl | ⟨w, b, rfl⟩ | ⟨p, k, w, rfl⟩ <;> simp [h2] <;> rfl
  · rcases h with rfl | ⟨w, b, rfl⟩ | ⟨p, k, w, rfl⟩
    · simp
    · rcases hk with e | e | e <;> simp [sameKindTarget, e] <;> simp [Change.kind]
    · rcases hk with e | e | e <;> simp [sameKindTarget, e] <;> simp [Change.kind]

theorem loops_postAll {cs : List Change} {want : Nat} (s : State) : (postAll cs want s).loops = s.loops :=
  (frame_postAll (List.mem_singleton.mpr rfl) (fun _ h => h) (frame_refl [.plan] planRegs s)).1 .loops (by simp)

theorem lo_of_loops (h : t.loops = s.loops) (l : Lo) : t.lo l = s.lo l := by
  simp only [State.lo, h]

theorem requestLo_free (hon : loOn s l = true) (hb : (s.lo l).busy = none) : requestLo l r s = postLo l r s := by
  simp [requestLo, hon, hb]

theorem hopGain_shape (s : State) (l : Lo) (hz : Nat) : hopGain s l hz = [] ∨ ∃ p k w, hopGain s l hz = [.gain p k w] := by
  unfold hopGain
  split
  · exact .inr ⟨_, _, _, rfl⟩
  · exact .inl rfl

theorem postLo_busy (hr : r.inForce = false) (s : State) : ((postLo l r s).lo l).busy = some r := by
  unfold postLo
  rw [resolveCal_of_not_inForce s l hr]
  dsimp only
  split <;> rw [lo_of_loops (loops_postAll _), lo_setLo]

theorem postLo_asked (hr : r.inForce = false) (he : s.epoch = t.epoch) :
    asked s (postLo l r t) (.lo l r) (if r.glimpse then nextHopBoundary s else 0) := by
  have hh : nextHopBoundary t = nextHopBoundary s := by simp only [nextHopBoundary, he]
  unfold postLo
  rw [resolveCal_of_not_inForce t l hr, hh]
  dsimp only
  split
  case isTrue =>
    refine asked_postAll (asksFor_lo _ ?_) he
    rcases hopGain_shape (t.setLo l (fun x => { x with busy := some r, settling := false })) l r.hz with e | e
    · exact .inl e
    · exact .inr (.inr e)
  case isFalse =>
    refine asked_postAll (asksFor_lo _ ?_) he
    cases r.band with
    | none => exact .inl rfl
    | some b => exact .inr (.inl ⟨_, _, rfl⟩)

/-- A request on a powered synthesiser is posted, or held in its queue (R68). -/
theorem loAsked_requestLo (hon : loOn t l = true) (hr : r.inForce = false) (hl : s.lo l = t.lo l) (he : s.epoch = t.epoch) :
    loAsked s (requestLo l r t) l r := by
  unfold loAsked
  rw [hl]
  split
  case isTrue hb =>
    rw [requestLo_free hon hb]
    exact ⟨postLo_busy hr t, postLo_asked hr he⟩
  case isFalse hb =>
    have hb' : (t.lo l).busy.isNone = false := by
      rw [Option.isNone_eq_false_iff, Option.isSome_iff_ne_none]
      exact hb
    have hq (w : State) : ((w.setLo l (fun y => { y with queued := some r })).put (Fld.LO.STAT.QUEUED l.idx) true).lo l =
        { w.lo l with queued := some r } := lo_setLo w l _
    unfold requestLo
    simp only [hon, hb', Bool.not_true, Bool.false_eq_true, ↓reduceIte]
    exact ⟨by rw [hq], State.flag_put_same _ _ true (show 4 + 1 ≤ 32 by decide) (show 0 < 1 by decide)⟩

theorem loAsked_congr {s' t' : State} (h : loAsked s t l r) (hl : s'.lo l = s.lo l) (he : s'.epoch = s.epoch) (hl' : t'.lo l = t.lo l)
    (hp : Part.plan.same t t') (hw : t'.word (Reg.LO.STAT l.idx) = t.word (Reg.LO.STAT l.idx)) : loAsked s' t' l r := by
  have hf : t'.flag (Fld.LO.STAT.QUEUED l.idx) = t.flag (Fld.LO.STAT.QUEUED l.idx) := by
    simp only [State.flag, State.get]
    exact congrArg (fun w => fieldOf w 4 1 == 1) hw
  unfold loAsked asked nextHopBoundary at *
  rw [hl, he, hl', hp.1, hp.2.1, hp.2.2, hf]
  exact h

/-- What leaves the plan, the synthesisers and their registers leaves a request asked for. -/
theorem loAsked_of_frame (h : loAsked s t l r) (hp : Part.plan ∉ ps ∧ Part.loops ∉ ps) (ha : Reg.LO.STAT l.idx ∉ as) (k : frame ps as t u) :
    loAsked s u l r :=
  loAsked_congr h rfl rfl (lo_of_loops (k.1 .loops hp.2) l) (k.1 .plan hp.1) (frame_word k ha)

theorem loAsked_finish (h : loAsked s t l r) : loAsked s (finish s t) l r := h

/-! ## Span and tile (R32, R33, R36) -/

theorem frame_keepChosen {tile : Option Nat} (hp : Part.paths ∈ ps) (h : frame ps as s t) : frame ps as s (keepChosen v tile t) :=
  frame_setPath hp h

theorem testAt_keepChosen (v : Vhf) (tile : Option Nat) (s : State) (p : Path) : ((keepChosen v tile s).path p).testAt = (s.path p).testAt := by
  cases v <;> cases p <;> simp [keepChosen, State.setPath, State.path, upd, at', Path.idx, Vhf.path]

/-- The parts that an LO request of a path may change. -/
def pathParts : List Part := .paths :: loParts

/-- A retune changes nothing, or asks for an LO change. -/
theorem retuneTo_cases (v : Vhf) (tile : Option Nat) (s : State) :
    retuneTo v tile s = s ∨ ∃ r, retuneTo v tile s = requestLo v.lo r (s.setPath v.path (fun x => { x with rejected := none })) :=
  (ite_eq_or_eq _ _ _).imp id (fun h => ⟨_, h⟩)

theorem frame_retuneTo {tile : Option Nat} (hp : pathParts ⊆ ps) (ha : loAskWords v.lo ⊆ as) (h : frame ps as s t) :
    frame ps as s (retuneTo v tile t) := by
  rcases retuneTo_cases v tile t with e | ⟨r, e⟩ <;> rw [e]
  · exact h
  · exact frame_requestLo (fun _ hx => hp (List.mem_cons_of_mem _ hx)) ha (frame_setPath (hp (by simp [pathParts])) h)

theorem frame_retile (hp : pathParts ⊆ ps) (ha : loAskWords v.lo ⊆ as) (h : frame ps as s t) : frame ps as s (retile v t) := by
  have hq : Part.paths ∈ ps := hp (by simp [pathParts])
  have hr (tile : Option Nat) : frame ps as s (retuneTo v tile t) := frame_retuneTo hp ha h
  unfold retile
  dsimp only
  split
  · exact h
  split
  · split
    · exact hr none
    · split
      · refine frame_keepChosen hq ?_
        split
        · exact h
        · exact hr _
      · exact frame_keepChosen hq h
  · split
    · exact hr _
    · split
      · exact hr none
      · exact h

/-- A retune asks for its LO change, with the switch where the mode changes, unless that is under way or the guard has rejected the
tile (R33, R34, R435). -/
theorem retuneTo_eq {tile : Option Nat} {hz : Nat} {band : Option (Option Nat)} (hh : hz = (match tile with | some c => c * 1000 | none => spanHz v))
    (hb : band = if (tileNow s v.path).isSome == tile.isSome then none else some tile) (hf : headedFor s v band hz = false)
    (hr : tile = none ∨ (s.path v.path).rejected ≠ tile) :
    retuneTo v tile s = requestLo v.lo { kind := .retune, hz := hz, band := band } (s.setPath v.path (fun x => { x with rejected := none })) := by
  have hr' : (tile.isSome && (s.path v.path).rejected == tile) = false := by
    rcases hr with rfl | hr
    · rfl
    · simp [hr]
  subst hh hb
  unfold retuneTo
  cases tile <;> simp_all

theorem loAsked_retuneTo {tile : Option Nat} {hz : Nat} {band : Option (Option Nat)} (hon : pathOn t v.path = true)
    (hh : hz = (match tile with | some c => c * 1000 | none => spanHz v))
    (hb : band = if (tileNow t v.path).isSome == tile.isSome then none else some tile) (hf : headedFor t v band hz = false)
    (hr : tile = none ∨ (t.path v.path).rejected ≠ tile) (hl : s.lo v.lo = t.lo v.lo) (he : s.epoch = t.epoch) :
    loAsked s (retuneTo v tile t) v.lo { kind := .retune, hz := hz, band := band } := by
  rw [retuneTo_eq hh hb hf hr]
  exact loAsked_requestLo (by rw [loOn_lo]; exact hon) rfl hl he

theorem loAsked_keepChosen {tile : Option Nat} (h : loAsked s t l r) : loAsked s (keepChosen v tile t) l r :=
  loAsked_of_frame (ps := [.paths]) (as := []) h (by simp) (by simp) (frame_keepChosen (by simp) (frame_refl _ _ _))

end Sys2Proof.Machine.Capture

namespace Sys2Proof.Machine.Capture

variable {ps : List Part} {as : List Nat} {s t u : State}

/-! ## Host writes that are stored (R279 to R281) -/

/-- What a host write of `v` to the register at `a` leaves where its effect is that of its field types alone: the word, and the page's
key closed. -/
def stored (port : Port) (a : Nat) (v : Word) (s : State) : State := (closeKey (a / 4096) s).setWord a (afterWrite s port a v)

theorem frame_stored {port : Port} {a : Nat} {v : Word} (s : State) : frame [.fab] [a] s (stored port a v s) :=
  frame_setWord (by simp) (frame_closeKey (by simp) (frame_refl _ _ _))

theorem stored_word (port : Port) (a : Nat) (v : Word) (s : State) : (stored port a v s).word a = afterWrite s port a v := by
  simp [stored]

theorem plainWrite_stored (port : Port) {a : Nat} (v : Word) (s : State) (hk : keyedMask a = 0) (hr : hasRwl a = false) :
    plainWrite port a v (keyOpen s (a / 4096) port) (closeKey (a / 4096) s) = stored port a v s := by
  unfold plainWrite
  simp only [hk, ne_eq, not_true_eq_false, false_and, ↓reduceIte, hr, Bool.false_and, Bool.false_eq_true]
  rfl

theorem hostWrite_acts {port : Port} {a : Nat} {v : Word} {act : Bool → State → State} (h : lets s a = true) (ha : a % 4096 ≠ 0x20) :
    hostWrite port a v act s = act (keyOpen s (a / 4096) port) (closeKey (a / 4096) s) := by
  rw [hostWrite_lets h, if_neg ha]

/-! ## The registers of band capture -/

theorem feCtrl_plain (p : Path) : keyedMask (Reg.FE.CTRL p.idx) = 0 ∧ hasRwl (Reg.FE.CTRL p.idx) = false ∧ Reg.FE.CTRL p.idx % 4096 ≠ 0x20 := by
  cases p <;> decide

theorem tileCentre_plain (p : Vhf) :
    keyedMask (Reg.FE.TILE_CENTRE p.path.idx) = 0 ∧ hasRwl (Reg.FE.TILE_CENTRE p.path.idx) = false ∧
      Reg.FE.TILE_CENTRE p.path.idx % 4096 ≠ 0x20 := by
  cases p <;> decide

theorem manStep_plain : keyedMask Reg.AGC.MAN_STEP = 0 ∧ hasRwl Reg.AGC.MAN_STEP = false ∧ Reg.AGC.MAN_STEP % 4096 ≠ 0x20 := by
  decide

theorem injCtrl_plain : keyedMask Reg.INJ.CTRL = 0 ∧ hasRwl Reg.INJ.CTRL = false ∧ Reg.INJ.CTRL % 4096 ≠ 0x20 := by
  decide

theorem afterWrite_feCtrl_lf (s : State) (port : Port) (v : Word) :
    afterWrite s port (Reg.FE.CTRL Path.lf.idx) v =
      withField (withField (s.word (Reg.FE.CTRL Path.lf.idx)) 2 1 (fieldOf v 2 1)) 3 1 (fieldOf v 3 1) := rfl

/-- The front-end CTRL word of a VHF path before the treatment of its MODE (R36). -/
def feCtrlStored (w v : Word) : Word :=
  withField (withField (withField (withField w 0 2 (fieldOf v 0 2)) 2 1 (fieldOf v 2 1)) 3 1 (fieldOf v 3 1)) 4 1 (fieldOf v 4 1)

theorem afterWrite_feCtrl_vhf (s : State) (port : Port) (p : Vhf) (v : Word) :
    afterWrite s port (Reg.FE.CTRL p.path.idx) v =
      withField (feCtrlStored (s.word (Reg.FE.CTRL p.path.idx)) v) 0 2
        (replaceBy 3 0 (fieldOf (feCtrlStored (s.word (Reg.FE.CTRL p.path.idx)) v) 0 2)) := by
  cases p <;> rfl

theorem fieldOf_mod (w : Word) (lo width : Nat) : fieldOf w lo width % 2 ^ width = fieldOf w lo width :=
  Nat.mod_eq_of_lt (fieldOf_lt w lo width)

theorem fieldOf_one_mod (w : Word) (lo : Nat) : fieldOf w lo 1 % 2 = fieldOf w lo 1 := fieldOf_mod w lo 1

/-- A write of a front-end CTRL register stores TEST and FORCE as they are written. -/
theorem fieldOf_afterWrite_feCtrl (s : State) (port : Port) (p : Path) (v : Word) :
    fieldOf (afterWrite s port (Reg.FE.CTRL p.idx) v) 2 1 = fieldOf v 2 1 ∧
      fieldOf (afterWrite s port (Reg.FE.CTRL p.idx) v) 3 1 = fieldOf v 3 1 := by
  have vhf (q : Vhf) : fieldOf (afterWrite s port (Reg.FE.CTRL q.path.idx) v) 2 1 = fieldOf v 2 1 ∧
      fieldOf (afterWrite s port (Reg.FE.CTRL q.path.idx) v) 3 1 = fieldOf v 3 1 := by
    rw [afterWrite_feCtrl_vhf]
    simp [feCtrlStored, fieldOf_withField_same, fieldOf_withField_below, fieldOf_withField_above, fieldOf_one_mod]
  cases p with
  | lf =>
    rw [afterWrite_feCtrl_lf]
    simp [fieldOf_withField_same, fieldOf_withField_below, fieldOf_one_mod]
  | fm => exact vhf .fm
  | b3 => exact vhf .b3

/-- It stores MODE too, with 3 taken as AUTO (R36). -/
theorem mode_afterWrite_feCtrl (s : State) (port : Port) (p : Vhf) (v : Word) (h : fieldOf v 0 2 ≠ 3) :
    fieldOf (afterWrite s port (Reg.FE.CTRL p.path.idx) v) 0 2 = fieldOf v 0 2 := by
  have hs : fieldOf (feCtrlStored (s.word (Reg.FE.CTRL p.path.idx)) v) 0 2 = fieldOf v 0 2 := by
    have := fieldOf_mod v 0 2
    simp_all [feCtrlStored, fieldOf_withField_same, fieldOf_withField_below]
  rw [afterWrite_feCtrl_vhf, fieldOf_withField_same _ _ (by decide), hs, replaceBy, if_neg h, fieldOf_mod]

theorem fieldOf_feCtrlWord (v : Word) (b : Bool) :
    fieldOf (feCtrlWord v b) 0 2 = fieldOf v 0 2 ∧ fieldOf (feCtrlWord v b) 2 1 = b.toNat ∧ fieldOf (feCtrlWord v b) 3 1 = fieldOf v 3 1 := by
  refine ⟨fieldOf_withField_below _ _ (by decide) (by decide), ?_, fieldOf_withField_above _ _ (by decide) (by decide)⟩
  rw [feCtrlWord, fieldOf_withField_same _ _ (by decide)]
  cases b <;> rfl

/-- A write of INJ.CTRL stores ENABLE as it is written. -/
theorem enable_afterWrite_injCtrl (s : State) (port : Port) (v : Word) :
    fieldOf (afterWrite s port Reg.INJ.CTRL v) 0 1 = fieldOf v 0 1 := by
  have e : afterWrite s port Reg.INJ.CTRL v =
      let w := withField (withField (withField (withField (s.word Reg.INJ.CTRL) 0 1 (fieldOf v 0 1)) 1 2 (fieldOf v 1 2)) 8 5 (fieldOf v 8 5)) 16 1
        (fieldOf v 16 1)
      withField w 8 5 (min 30 (fieldOf w 8 5)) := rfl
  rw [e]
  simp [fieldOf_withField_same, fieldOf_withField_below, fieldOf_one_mod]

end Sys2Proof.Machine.Capture

namespace Sys2Proof.Machine.Capture

variable {ps : List Part} {as : List Nat} {s t u : State}

/-! ## Gain steps (R30) -/

theorem highest_succ (n : Nat) (p : Nat → Bool) : highest (n + 1) p = if p n then some n else highest n p := by
  unfold highest
  rw [List.range_succ, List.reverse_append, List.reverse_singleton, List.singleton_append, List.find?_cons]
  cases p n <;> rfl

/-- `highest` finds the greatest number below its bound that satisfies the condition, if there is one. -/
theorem highest_spec (n : Nat) (p : Nat → Bool) :
    (∀ k, highest n p = some k → k < n ∧ p k = true ∧ ∀ j < n, k < j → p j = false) ∧ (highest n p = none → ∀ j < n, p j = false) := by
  induction n with
  | zero => simp [highest]
  | succ n ih =>
    rw [highest_succ]
    by_cases hp : p n = true
    · simp only [hp, ↓reduceIte, Option.some.injEq, reduceCtorEq, false_implies, and_true]
      rintro k rfl
      exact ⟨Nat.lt_succ_self _, hp, fun j hj hk => absurd hk (by omega)⟩
    · have hp' : p n = false := by simpa using hp
      rw [if_neg hp]
      have last {j : Nat} (hj : j < n + 1) (hn : j ≠ n) : j < n := by omega
      refine ⟨fun k hk => ?_, fun hn j hj => ?_⟩
      · obtain ⟨h1, h2, h3⟩ := ih.1 k hk
        refine ⟨Nat.lt_succ_of_lt h1, h2, fun j hj hkj => ?_⟩
        by_cases e : j = n
        · exact e ▸ hp'
        · exact h3 j (last hj e) hkj
      · by_cases e : j = n
        · exact e ▸ hp'
        · exact ih.2 hn j (last hj e)

/-- An attack step is the nearest lower one that brings the peak to −9 dBFS or below, else step 0 (R30.1). -/
theorem attackStep_nearest (s : State) (p : Path) (peak : Int) (h : gainStep s p ≠ 0) :
    attackStep s p peak < gainStep s p ∧
    (attackStep s p peak = 0 ∨ peak - ((gainEntry s p (gainStep s p) : Int) - gainEntry s p (attackStep s p peak)) ≤ -900) ∧
    (∀ k < gainStep s p, attackStep s p peak < k → ¬ peak - ((gainEntry s p (gainStep s p) : Int) - gainEntry s p k) ≤ -900) := by
  obtain ⟨hsome, hnone⟩ := highest_spec (gainStep s p) (fun j => decide (peak - ((gainEntry s p (gainStep s p) : Int) - gainEntry s p j) ≤ -900))
  unfold attackStep
  dsimp only
  cases hh : highest (gainStep s p) (fun j => decide (peak - ((gainEntry s p (gainStep s p) : Int) - gainEntry s p j) ≤ -900)) with
  | none => exact ⟨Nat.pos_of_ne_zero h, .inl rfl, fun k hk _ => of_decide_eq_false (hnone hh k hk)⟩
  | some k =>
    obtain ⟨hk, hp, hmax⟩ := hsome k hh
    exact ⟨hk, .inr (of_decide_eq_true hp), fun j hj hkj => of_decide_eq_false (hmax j hj hkj)⟩

theorem frame_withdrawUnannounced {p : Change → Bool} (hp : Part.plan ∈ ps) (h : frame ps as s t) :
    frame ps as s (withdrawUnannounced p t) :=
  ⟨fun q hq => by cases q <;> first | exact absurd hp hq | exact h.1 _ hq, h.2⟩

/-- An AGC attack: the step is asked for, and the reading that called for it is used up (R30). -/
theorem attack_eq {p : Path} {peak : Int} (ha : (s.path p).attack = some peak) (hon : pathOn s p = true) (hm : agcMode s p = 0)
    (ht : modeNow s p ≠ 2) (hg : gainStep s p ≠ 0) :
    attack p s = post (.gain p (attackStep s p peak) .attack) (s.epoch + 2)
      (withdrawUnannounced (isRelease p) (s.setPath p (fun x => { x with attack := none }))) := by
  simp [attack, ha, hon, hm, ht, hg]

theorem release_eq {p : Path} (hon : pathOn s p = true) (hm : agcMode s p = 0) (ht : modeNow s p ≠ 2)
    (hq : 50 ≤ (s.path p).quietPeak) (hg : gainStep s p < 23) (hn : isPlanned (isAgcStep p) s = false) :
    release p s = postSoon (.gain p (gainStep s p + 1) .release) s := by
  simp [release, hon, hm, ht, hq, hg, hn]

theorem path_of_paths (h : t.paths = s.paths) (p : Path) : t.path p = s.path p := by
  simp only [State.path, h]

theorem finish_path (s t : State) (p : Path) : (finish s t).path p = t.path p := rfl

/-- A command that commits `u` completes with what `finish` makes of a state equal to it. -/
theorem completes_of_eq {c : Instr} {Q : State → Prop} (h : exec c s = commit s u) (e : u = t) (k : Q (finish s t)) : completes c s Q :=
  completes_of_commit h (e ▸ k)

theorem wrote_finish {f : Field} {v : Nat} (h : wrote s t f v) : wrote s (finish s t) f v := h

theorem wrote_set (s : State) (f : Field) (v : Nat) : wrote s (s.set f v) f v := (State.word_set s f v f.addr).trans (if_pos rfl)

/-- What leaves the register of a field leaves what was written to it. -/
theorem wrote_of_word {f : Field} {v : Nat} (h : wrote s t f v) (e : u.word f.addr = t.word f.addr) : wrote s u f v := e.trans h

/-! ## Tiles and hops (R32, R33, R37) -/

theorem tileNow_of_span {p : Path} (h : modeNow s p = 0) : tileNow s p = none := by
  simp [tileNow, h]

theorem modeNow_of_tile {p : Path} (h : (tileNow s p).isSome = true) : modeNow s p = 1 := by
  unfold tileNow at h
  split at h
  case isTrue c => exact beq_iff_eq.mp (Bool.and_eq_true_iff.mp c).2
  case isFalse => simp at h

theorem tileEnter_eq {v : Vhf} {c : Nat} (hon : pathOn s v.path = true) (hm : modeNow s v.path = 0)
    (ha : s.get (Fld.FE.CTRL.MODE v.path.idx) = 0) (ht : (s.path v.path).testAt = none) (hl : 3 ≤ (s.path v.path).loudRefreshes)
    (hw : wantedTile s v none = some c) : tileEnter v s = keepChosen v (some c) (retuneTo v (some c) s) := by
  simp [tileEnter, hon, hm, ha, ht, hl, hw]

theorem tileExit_eq {v : Vhf} (hon : pathOn s v.path = true) (ht : (tileNow s v.path).isSome = true)
    (ha : s.get (Fld.FE.CTRL.MODE v.path.idx) = 0) (hq : 2000 ≤ (s.path v.path).quietEpochs) : tileExit v s = retuneTo v none s := by
  simp [tileExit, hon, ht, ha, hq]

theorem glimpseHop_eq {v : Vhf} {c d : Nat} (ht : tileNow s v.path = some c) (hg : glimpsing s v.path = true)
    (hn : nextTile s v c = some d) (hd : d ≠ c) (hf : headedFor s v none (d * 1000) = false) :
    glimpseHop v s = requestLo v.lo { kind := .hop, hz := d * 1000, glimpse := true } s := by
  simp [glimpseHop, ht, hg, hn, hd, hf]

theorem pathOn_of_glimpsing {p : Path} (h : glimpsing s p = true) : pathOn s p = true := by
  simp only [glimpsing, Bool.and_eq_true] at h
  exact h.1.1.1.1

/-! ## Path tests (R40) -/

theorem testReady_eq {p : Path} {b : Nat} (ha : (s.path p).testAt = some b) (ht : s.time % epochTicks = 0) (hb : b ≤ s.epoch)
    (hm : modeNow s p = 0) (hf : s.flag (Fld.FE.CTRL.TEST p.idx) = true) :
    testReady p s = raise (Ev.FE.TEST_READY p.idx)
      ((s.set (Fld.FE.STAT.MODE_NOW p.idx) 2).setPath p (fun x => { x with testAt := none })) := by
  simp [testReady, ha, ht, hb, hm, hf]

theorem feStat_offset (p : Path) : Reg.FE.STAT p.idx % 4096 ≠ 16 ∧ Reg.FE.STAT p.idx ≠ Reg.TWC.SKIP_CNT := by
  cases p <;> decide

theorem pathTestReady_completes {p : Path} {b : Nat} (ha : (s.path p).testAt = some b) (ht : s.time % epochTicks = 0) (hb : b ≤ s.epoch)
    (hm : modeNow s p = 0) (hf : s.flag (Fld.FE.CTRL.TEST p.idx) = true) :
    completes (.pathTestReady p) s (fun t =>
      wrote s t (Fld.FE.STAT.MODE_NOW p.idx) 2 ∧ (t.path p).testAt = none ∧ raised t (Ev.FE.TEST_READY p.idx) ∧
      frame [.paths, .twc, .fab] (Reg.FE.STAT p.idx :: evWords (Ev.FE.TEST_READY p.idx)) s t) := by
  refine completes_of_eq rfl (testReady_eq ha ht hb hm hf) ?_
  refine ⟨wrote_finish ?_, ?_, raised_finish (raised_raise _ _), frame_finish (frame_raise (by simp [evParts]) (by simp) (frame_setPath (by simp)
    (frame_set (f := Fld.FE.STAT.MODE_NOW p.idx) (List.mem_cons_self) (frame_refl _ _ _))))⟩
  · exact wrote_of_word (wrote_set s _ 2) (word_raise _ _ (feStat_offset p).1 (feStat_offset p).2)
  · rw [finish_path, path_of_paths (raise_paths _ _), path_setPath]

/-- Settles O1: each command takes the branch that its conditions name; what it posts is asked for because a posted change stays under way
(`asked_postAll`, `loAsked_requestLo`). -/
theorem pathEventsComplete : Obligations.PathEventsComplete := by
  unfold Obligations.PathEventsComplete
  refine ⟨?overloadClear, ?agcAttack, ?agcRelease, ?tileEnter, ?tileExit, ?glimpseHop, ?testReady, ?attackStep⟩
  case overloadClear =>
    intro p s ho hc
    exact completes_of_eq rfl (if_pos (by simp [ho, hc]))
      ⟨wrote_finish (wrote_set s _ 0), frame_finish (frame_put (List.mem_singleton.mpr rfl) (frame_refl _ _ _))⟩
  case agcAttack =>
    intro p s peak ha hon hm ht hg
    refine completes_of_eq rfl (attack_eq ha hon hm ht hg) ?_
    refine ⟨asked_finish (asked_postAll (asksFor_gain _ _ _ _) rfl), ?_, frame_finish (frame_posted (by simp) (fun _ h => h)
      (frame_withdrawUnannounced (by simp) (frame_setPath (by simp) (frame_refl _ _ _))))⟩
    have k := frame_posted (c := .gain p (attackStep s p peak) .attack) (want := s.epoch + 2) (ps := [.plan]) (by simp) (fun _ h => h)
      (frame_withdrawUnannounced (p := isRelease p) (by simp) (frame_refl _ planWords (s.setPath p (fun x => { x with attack := none }))))
    rw [finish_path, path_of_paths (k.1 .paths (by simp)), path_setPath]
  case agcRelease =>
    intro p s hon hm ht hq hg hn
    refine completes_of_eq rfl (release_eq hon hm ht hq hg hn) ?_
    exact ⟨asked_finish (asked_postAll (asksFor_gain _ _ _ _) rfl), frame_finish (frame_posted (by simp) (fun _ h => h) (frame_refl _ _ _))⟩
  case tileEnter =>
    intro v s c hon hm ha ht hl hw hf hr
    refine completes_of_eq rfl (tileEnter_eq hon hm ha ht hl hw) ?_
    exact ⟨loAsked_finish (loAsked_keepChosen (loAsked_retuneTo hon rfl (by rw [tileNow_of_span hm]; rfl) hf (.inr hr) rfl rfl)),
      frame_finish (frame_keepChosen (by simp) (frame_retuneTo (by decide) (fun _ h => h) (frame_refl _ _ _)))⟩
  case tileExit =>
    intro v s hon ht ha hq hf
    refine completes_of_eq rfl (tileExit_eq hon ht ha hq) ?_
    exact ⟨loAsked_finish (loAsked_retuneTo hon rfl (by rw [ht]; rfl) hf (.inl rfl) rfl rfl),
      frame_finish (frame_retuneTo (by decide) (fun _ h => h) (frame_refl _ _ _))⟩
  case glimpseHop =>
    intro v s c d ht hg hn hd hf
    refine completes_of_eq rfl (glimpseHop_eq ht hg hn hd hf) ?_
    exact ⟨loAsked_finish (loAsked_requestLo (by rw [loOn_lo]; exact pathOn_of_glimpsing hg) rfl rfl rfl),
      frame_finish (frame_requestLo (by decide) (fun _ h => h) (frame_refl _ _ _))⟩
  case testReady => exact fun p s b ha ht hb hm hf => pathTestReady_completes ha ht hb hm hf
  case attackStep => exact fun s p peak h => attackStep_nearest s p peak h

end Sys2Proof.Machine.Capture

namespace Sys2Proof.Machine.Capture

variable {ps : List Part} {as : List Nat} {s t u : State}

/-! ## Result windows (R283, R286) -/

theorem raise_results (g : Nat) (s : State) : (raise g s).fab.lateResults = s.fab.lateResults := by
  unfold raise
  split
  · rfl
  · have h : (occur g s).fab = (s.put (evRaw g) true).fab := (frame_triggered g _).1 .fab (by simp)
    rw [h, State.put_fab]

theorem forEach_cons {α σ : Type} (x : α) (l : List α) (f : α → σ → σ) (s : σ) : forEach (x :: l) f s = forEach l f (f x s) := rfl

theorem word_writeWords_other {a : Nat} (l : List (Nat × Word)) (s : State) (h : a ∉ l.map (fun c => c.1)) :
    (forEach l (fun c t => t.setWord c.1 c.2) s).word a = s.word a := by
  induction l generalizing s with
  | nil => rfl
  | cons d l ih =>
    simp only [List.map_cons, List.mem_cons, not_or] at h
    rw [forEach_cons, ih _ h.2, State.word_setWord, if_neg h.1]

/-- Words written to different registers all stand. -/
theorem word_writeWords {c : Nat × Word} (l : List (Nat × Word)) (s : State) (hn : (l.map (fun c => c.1)).Nodup) (h : c ∈ l) :
    (forEach l (fun c t => t.setWord c.1 c.2) s).word c.1 = c.2 := by
  induction l generalizing s with
  | nil => simp at h
  | cons d l ih =>
    obtain ⟨hd, hn⟩ := List.nodup_cons.mp hn
    rw [forEach_cons]
    rcases List.mem_cons.mp h with rfl | h
    · rw [word_writeWords_other l _ hd, State.word_setWord, if_pos rfl]
    · exact ih _ hn h

theorem holdResult_word (i : Nat) (r : Result) (s : State) (hn : (r.words.map (fun c => c.1)).Nodup) :
    ∀ c ∈ r.words, (holdResult i r s).word c.1 = if c.1 = windowHeader i then withField (withField c.2 0 8 r.seq) 8 1 1 else c.2 := by
  intro c hc
  have h := word_writeWords r.words s hn hc
  show (((forEach r.words (fun c t => t.setWord c.1 c.2) s).set (windowSeq i) r.seq).put (windowValid i) true).word c.1 = _
  rw [State.word_put, State.word_set, h]
  by_cases hc : c.1 = windowHeader i
  · exact (if_pos hc).trans ((congrArg (fun w => withField w 8 1 1) (if_pos hc)).trans (if_pos hc).symm)
  · exact (if_neg hc).trans ((if_neg hc).trans (if_neg hc).symm)

theorem holdResult_seq (i : Nat) (r : Result) (s : State) (h : r.seq < 256) :
    (holdResult i r s).flag (windowValid i) = true ∧ (holdResult i r s).get (windowSeq i) = r.seq := by
  refine ⟨State.flag_put_same _ _ true (show 8 + 1 ≤ 32 by decide) (show 0 < 1 by decide), ?_⟩
  have ap : Apart (windowValid i) (windowSeq i) := .inr ⟨show 8 + 1 ≤ 32 by decide, .inl (show 0 + 8 ≤ 8 by decide)⟩
  exact (get_put_apart ap _ true).trans ((State.get_set_same _ _ _ (show 0 + 8 ≤ 32 by decide)).trans (Nat.mod_eq_of_lt h))

theorem nextSeq_lt (n : Nat) : nextSeq n < 256 := by
  unfold nextSeq
  split <;> omega

theorem at_upd {α : Type} {n i : Nat} (v : Vector α n) (f : α → α) (d : α) (h : i < n) : at' (upd v i f) i d = f (at' v i d) := by
  simp [at', upd, h]

theorem windowHeader_offset {i : Nat} (h : i < 27) : windowHeader i % 4096 ≠ 16 ∧ windowHeader i ≠ Reg.TWC.SKIP_CNT := by
  have all : ∀ i < 27, windowHeader i % 4096 ≠ 16 ∧ windowHeader i ≠ Reg.TWC.SKIP_CNT := by decide
  exact all i h

/-- `s` with the hidden part of window `i` changed. -/
def withWindow (i : Nat) (f : Window → Window) (s : State) : State := { s with fab := { s.fab with windows := upd s.fab.windows i f } }

theorem withWindow_window {i : Nat} (h : i < 27) (f : Window → Window) (s : State) :
    at' (withWindow i f s).fab.windows i {} = f (at' s.fab.windows i {}) := at_upd _ f _ h

theorem postNow_held {i : Nat} (words : List (Nat × Word)) (h : s.flag (windowValid i) = false) :
    postNow i words s = holdResult i ⟨nextSeq (at' s.fab.windows i {}).last, words⟩
      (withWindow i (fun v => { v with last := nextSeq (at' s.fab.windows i {}).last }) s) := by
  unfold postNow
  rw [h]
  rfl

theorem postNow_waits {i : Nat} (words : List (Nat × Word)) (h : s.flag (windowValid i) = true) :
    postNow i words s = raiseIf (i == 26) Ev.TEL.OVERFLOW
      ((withWindow i (fun v =>
        { last := nextSeq (at' s.fab.windows i {}).last, side := some ⟨nextSeq (at' s.fab.windows i {}).last, words⟩, lost := v.lost || v.side.isSome })
        s).put (windowOverflow i) true) := by
  unfold postNow withWindow
  simp only [h, ↓reduceIte]

/-- A result that is posted is held, or waits in the side slot or for the end of a pause (R283, R286, R290). -/
theorem posted_postResult {i : Nat} {words : List (Nat × Word)} (hi : i < 27) (hn : (words.map (fun c => c.1)).Nodup) (s : State) :
    posted s (postResult i words s) i words := by
  unfold posted postResult
  dsimp only
  split
  case isTrue => exact List.mem_append_right _ (by simp)
  split
  case isTrue hv =>
    rw [postNow_waits words hv, raiseIf_windows, State.put_fab, withWindow_window hi]
    exact ⟨rfl, (flag_raiseIf _ _ _ (windowHeader_offset hi).1 (windowHeader_offset hi).2).trans
      (State.flag_put_same _ _ true (show 9 + 1 ≤ 32 by decide) (show 0 < 1 by decide))⟩
  case isFalse hv =>
    rw [postNow_held words (by simpa using hv)]
    obtain ⟨hv, hq⟩ := holdResult_seq i ⟨nextSeq (at' s.fab.windows i {}).last, words⟩
      (withWindow i (fun v => { v with last := nextSeq (at' s.fab.windows i {}).last }) s) (nextSeq_lt _)
    exact ⟨hv, hq, holdResult_word i ⟨_, words⟩ _ hn⟩

/-- An event after it takes nothing from a posted result. -/
theorem posted_raise {i : Nat} {words : List (Nat × Word)} (hi : i < 27) (hw : ∀ c ∈ words, c.1 % 4096 ≠ 16 ∧ c.1 ≠ Reg.TWC.SKIP_CNT)
    (g : Nat) (h : posted s t i words) : posted s (raise g t) i words := by
  have header {f : Field} (e : f.addr = windowHeader i) : f.addr % 4096 ≠ 16 ∧ f.addr ≠ Reg.TWC.SKIP_CNT := e ▸ windowHeader_offset hi
  unfold posted at *
  dsimp only at *
  rw [raise_results, raise_windows, flag_raise (f := windowOverflow i) g t (header rfl).1 (header rfl).2,
    flag_raise (f := windowValid i) g t (header rfl).1 (header rfl).2, get_raise (f := windowSeq i) g t (header rfl).1 (header rfl).2]
  split
  case isTrue c => rwa [if_pos c] at h
  case isFalse c =>
    rw [if_neg c] at h
    split
    case isTrue d => rwa [if_pos d] at h
    case isFalse d =>
      rw [if_neg d] at h
      obtain ⟨hv, hq, hr⟩ := h
      exact ⟨hv, hq, fun c hc => (word_raise g t (hw c hc).1 (hw c hc).2).trans (hr c hc)⟩

theorem posted_raiseIf {i : Nat} {words : List (Nat × Word)} (hi : i < 27) (hw : ∀ c ∈ words, c.1 % 4096 ≠ 16 ∧ c.1 ≠ Reg.TWC.SKIP_CNT)
    (b : Bool) (g : Nat) (h : posted s t i words) : posted s (raiseIf b g t) i words := by
  unfold raiseIf
  split
  · exact posted_raise hi hw g h
  · exact h

theorem posted_finish {i : Nat} {words : List (Nat × Word)} (h : posted s t i words) : posted s (finish s t) i words := h

theorem posted_of_fab {s' : State} {i : Nat} {words : List (Nat × Word)} (hf : s'.fab = s.fab) (hr : s'.regs = s.regs)
    (h : posted s' t i words) : posted s t i words := by
  have e : s'.flag (windowValid i) = s.flag (windowValid i) := by
    simp only [State.flag, State.get, State.word, hr]
  unfold posted at *
  rwa [hf, e] at h

/-- What posting a result changes, but for the event of the telemetry window's overflow (R401). -/
theorem frame_postResult_quiet {i : Nat} {words : List (Nat × Word)} (hi : i ≠ 26) (hp : Part.fab ∈ ps) (ha : windowHeader i ∈ as)
    (hw : words.map (fun c => c.1) ⊆ as) (h : frame ps as s t) : frame ps as s (postResult i words t) := by
  unfold postResult
  split
  · exact frame_fab hp h
  cases hv : t.flag (windowValid i) with
  | true =>
    rw [postNow_waits words hv, beq_false_of_ne hi]
    exact frame_put (f := windowOverflow i) ha (frame_fab hp h)
  | false =>
    rw [postNow_held words hv]
    exact frame_holdResult ha hw (frame_fab hp h)

/-! ## The gain in force (R29, R31, R81) -/

theorem frame_showGain {p : Path} {k : Nat} (ha : [Reg.AGC.GAIN p.idx, Reg.FE.STAT p.idx, Reg.CH.NORM p.idx] ⊆ as) (h : frame ps as s t) :
    frame ps as s (showGain p k t) := by
  have hn : Reg.CH.NORM p.idx ∈ as := ha (by simp)
  have hs : Reg.FE.STAT p.idx ∈ as := ha (by simp)
  have hg : Reg.AGC.GAIN p.idx ∈ as := ha (by simp)
  unfold showGain
  exact frame_set (f := Fld.CH.NORM.S p.idx) hn (frame_set (f := Fld.CH.NORM.M p.idx) hn
    (frame_set (f := Fld.FE.STAT.GAIN_STEP p.idx) hs (frame_set (f := Fld.AGC.GAIN.GAIN p.idx) hg
      (frame_set (f := Fld.AGC.GAIN.STEP p.idx) hg h))))

theorem showGain_aux (p : Path) (k : Nat) (s : State) : (showGain p k s).aux = s.aux :=
  (frame_showGain (fun _ h => h) (frame_refl [] [Reg.AGC.GAIN p.idx, Reg.FE.STAT p.idx, Reg.CH.NORM p.idx] s)).1 .aux (by simp)

/-- The step in force is the one that is shown (R29). -/
theorem gainStep_showGain (p : Path) {k : Nat} (hk : k < 32) (s : State) : (showGain p k s).get (Fld.AGC.GAIN.STEP p.idx) = k := by
  have h1 : Apart (Fld.CH.NORM.S p.idx) (Fld.AGC.GAIN.STEP p.idx) := by cases p <;> decide
  have h2 : Apart (Fld.CH.NORM.M p.idx) (Fld.AGC.GAIN.STEP p.idx) := by cases p <;> decide
  have h3 : Apart (Fld.FE.STAT.GAIN_STEP p.idx) (Fld.AGC.GAIN.STEP p.idx) := by cases p <;> decide
  have h4 : Apart (Fld.AGC.GAIN.GAIN p.idx) (Fld.AGC.GAIN.STEP p.idx) := by cases p <;> decide
  unfold showGain
  rw [get_set_apart h1, get_set_apart h2, get_set_apart h3, get_set_apart h4, State.get_set_same _ _ _ (show 0 + 5 ≤ 32 by decide)]
  exact Nat.mod_eq_of_lt hk

/-! ## The gain-table check (R41) -/

theorem getLsbD_eq_fieldOf (w : Word) (i : Nat) : w.getLsbD i = (fieldOf w i 1 == 1) := by
  rw [BitVec.getLsbD, Nat.testBit_eq_decide_div_mod_eq]
  rfl

/-- The word of a START keeps the path and sets the command bit. -/
theorem checkWord_fields (v : Word) : fieldOf (withField v 8 1 1) 0 2 = fieldOf v 0 2 ∧ (withField v 8 1 1).getLsbD 8 = true := by
  refine ⟨fieldOf_withField_below _ _ (by decide) (by decide), ?_⟩
  rw [getLsbD_eq_fieldOf, fieldOf_withField_same _ _ (by decide)]
  rfl

theorem writeCheckCmd_arms {v : Word} (h3 : fieldOf v 0 2 ≠ 3) (hm : modeNow s (Path.ofIdx (fieldOf v 0 2)) = 2) (hc : s.aux.check = none)
    (hl : 15 ≤ s.get Fld.RGL.INJ_CEIL.LEVEL) :
    writeCheckCmd (withField v 8 1 1) s =
      { s with aux := { s.aux with check := some { path := Path.ofIdx (fieldOf v 0 2), nextAt := s.epoch + 1 } } } := by
  have h : ¬ (fieldOf v 0 2 = 3 ∨ modeNow s (Path.ofIdx (fieldOf v 0 2)) ≠ 2 ∨ s.aux.check.isSome = true ∨
      s.get Fld.RGL.INJ_CEIL.LEVEL < 15) := by
    simp only [h3, hm, hc, Option.isSome_none]
    simp [hl]
  unfold writeCheckCmd
  simp only [checkWord_fields, Bool.not_true, Bool.false_eq_true, ↓reduceIte, if_neg h]

theorem writeCheckCmd_refuses {v : Word} (h : fieldOf v 0 2 = 3 ∨ modeNow s (Path.ofIdx (fieldOf v 0 2)) ≠ 2 ∨ s.aux.check ≠ none ∨
    s.get Fld.RGL.INJ_CEIL.LEVEL < 15) : writeCheckCmd (withField v 8 1 1) s = raise Ev.AGC.CHECK_ABANDONED s := by
  rw [← Option.isSome_iff_ne_none] at h
  unfold writeCheckCmd
  simp only [checkWord_fields, Bool.not_true, Bool.false_eq_true, ↓reduceIte, if_pos h]

theorem checkWindow_starts {c : GainCheck} (hc : s.aux.check = some c) (ht : s.time % epochTicks = 0) (hs : c.start = none) (hw : c.windows < 3)
    (hn : c.nextAt ≤ s.epoch) (hu : s.aux.uses.contains .window = true) (hg : waitsForGrant s .window = false) :
    checkWindow s = showGain c.path (8 * c.windows) { s with aux := { s.aux with check := some { c with start := some s.epoch } } } := by
  have hw' : ¬ 3 ≤ c.windows := by omega
  have hn' : ¬ s.epoch < c.nextAt := by omega
  unfold checkWindow
  simp only [hc, ht, hs, hw', hn', hu, hg, ne_eq, not_true_eq_false, Option.isSome_none, Bool.false_eq_true, or_self, ↓reduceIte]

/-- The lowest table entry of the 24 with the greatest deviation. -/
def worstEntry (dev : Nat → Int) : Nat :=
  ((List.range 24).find? (fun k => (List.range 24).all (fun j => decide ((dev j).natAbs ≤ (dev k).natAbs)))).getD 0

theorem worstEntry_spec (dev : Nat → Int) :
    worstEntry dev < 24 ∧ ∀ j < 24, (dev j).natAbs ≤ (dev (worstEntry dev)).natAbs := by
  obtain ⟨m, hm, hmax⟩ := Finset.exists_max_image (Finset.range 24) (fun k => (dev k).natAbs) ⟨0, by simp⟩
  have hsome : ((List.range 24).find? (fun k => (List.range 24).all (fun j => decide ((dev j).natAbs ≤ (dev k).natAbs)))).isSome := by
    refine List.find?_isSome.mpr ⟨m, List.mem_range.mpr (Finset.mem_range.mp hm), ?_⟩
    exact List.all_eq_true.mpr (fun j hj => decide_eq_true (hmax j (Finset.mem_range.mpr (List.mem_range.mp hj))))
  obtain ⟨k, hk⟩ := Option.isSome_iff_exists.mp hsome
  have e : worstEntry dev = k := by
    unfold worstEntry
    rw [hk]
    rfl
  have hall := List.find?_some hk
  simp only [List.all_eq_true, List.mem_range, decide_eq_true_eq] at hall
  rw [e]
  exact ⟨List.mem_range.mp (List.mem_of_find?_eq_some hk), hall⟩

/-- The deviation of entry `k` from its stored gain, 0.01 dB (R41). -/
def deviation (measured : List Int) (s : State) (p : Path) (k : Nat) : Int := measured.getD k 0 - gainEntry s p k

/-- The words of a check's result. -/
def checkWords (measured : List Int) (s : State) (p : Path) (k : Nat) : List (Nat × Word) :=
  [(Reg.AGC.CHECK_RES0, wordOf [(10, 2, p.idx), (12, 1, (decide ((deviation measured s p k).natAbs ≤ 50)).toNat)]),
    (Reg.AGC.CHECK_RES1, wordOf [(0, 16, ofSigned 16 (deviation measured s p k)), (16, 5, k)])]

/-- A check's result goes to its window, with CHECK_DONE, and TABLE_DRIFT where an entry has drifted. -/
def reportCheck (words : List (Nat × Word)) (drift : Bool) (s : State) : State :=
  raiseIf drift Ev.AGC.TABLE_DRIFT (raise Ev.AGC.CHECK_DONE (postResult 0 words s))

theorem checkDone_eq {measured : List Int} {c : GainCheck} {k : Nat} (hc : s.aux.check = some c) (hw : 3 ≤ c.windows)
    (hk : worstEntry (deviation measured s c.path) = k) :
    checkDone measured s = reportCheck (checkWords measured s c.path k) (!(decide ((deviation measured s c.path k).natAbs ≤ 50)))
      { s with aux := { s.aux with check := none } } := by
  have hw' : ¬ c.windows < 3 := by omega
  subst hk
  unfold checkDone
  simp only [hc, hw', ↓reduceIte]
  rfl

/-- The registers of a check's result. -/
def checkRegs : List Nat := [Reg.AGC.CHECK_RES0, Reg.AGC.CHECK_RES1]

theorem checkWords_regs (measured : List Int) (s : State) (p : Path) (k : Nat) :
    (checkWords measured s p k).map (fun c => c.1) = checkRegs := rfl

theorem frame_reportCheck {words : List (Nat × Word)} {drift : Bool} (hp : [.fab, .twc] ⊆ ps)
    (ha : checkRegs ++ evsWords [Ev.AGC.CHECK_DONE, Ev.AGC.TABLE_DRIFT] ⊆ as) (hw : words.map (fun c => c.1) = checkRegs)
    (h : frame ps as s t) : frame ps as s (reportCheck words drift t) := by
  have hev : evParts ⊆ ps := fun _ hx => hp (by revert hx; simp [evParts]; tauto)
  refine frame_raiseIf hev (fun _ hx => ha (by simp [evsWords, hx])) (frame_raise hev (fun _ hx => ha (by simp [evsWords, hx])) ?_)
  refine frame_postResult_quiet (by decide) (hp (by simp)) (ha (List.mem_cons_self)) (fun _ hx => ha ?_) h
  exact List.mem_append_left _ (hw ▸ hx)

theorem posted_reportCheck {words : List (Nat × Word)} (hw : words.map (fun c => c.1) = checkRegs) (drift : Bool) (s : State) :
    posted s (reportCheck words drift s) 0 words := by
  have regs : ∀ c ∈ words, c.1 % 4096 ≠ 16 ∧ c.1 ≠ Reg.TWC.SKIP_CNT := by
    have all : ∀ a ∈ checkRegs, a % 4096 ≠ 16 ∧ a ≠ Reg.TWC.SKIP_CNT := by decide
    exact fun c hc => all c.1 (hw ▸ List.mem_map_of_mem hc)
  exact posted_raiseIf (by decide) regs _ _ (posted_raise (by decide) regs _ (posted_postResult (by decide) (by rw [hw]; decide) s))

theorem raised_reportCheck (words : List (Nat × Word)) (drift : Bool) (s : State) : raised (reportCheck words drift s) Ev.AGC.CHECK_DONE :=
  raised_of_keepsEvents (keepsEvents_raiseIf _ _ _) (raised_raise _ _)

theorem reportCheck_aux {words : List (Nat × Word)} (hw : words.map (fun c => c.1) = checkRegs) (drift : Bool) (s : State) :
    (reportCheck words drift s).aux = s.aux :=
  (frame_reportCheck (fun _ h => h) (fun _ h => h) hw (frame_refl _ _ s)).1 .aux (by simp)

/-- The end of a check (R41): its result is posted, and CHECK_DONE raised. -/
theorem gainCheckDone_completes {measured : List Int} {c : GainCheck} (hc : s.aux.check = some c) (hw : 3 ≤ c.windows) :
    completes (.gainCheckDone measured) s (fun t =>
      t.aux.check = none ∧ raised t Ev.AGC.CHECK_DONE ∧
      (∃ k < 24, (∀ j < 24, (deviation measured s c.path j).natAbs ≤ (deviation measured s c.path k).natAbs) ∧
        posted s t 0 (checkWords measured s c.path k)) ∧
      frame [.aux, .fab, .twc] (checkRegs ++ evsWords [Ev.AGC.CHECK_DONE, Ev.AGC.TABLE_DRIFT]) s t) := by
  obtain ⟨hk, hmax⟩ := worstEntry_spec (deviation measured s c.path)
  have regs := checkWords_regs measured s c.path (worstEntry (deviation measured s c.path))
  refine completes_of_eq rfl (checkDone_eq hc hw rfl) ⟨?_, raised_finish (raised_reportCheck _ _ _),
    ⟨_, hk, hmax, posted_finish ?_⟩, frame_finish ?_⟩
  · rw [finish_aux, reportCheck_aux regs]
  · exact posted_of_fab (s' := { s with aux := { s.aux with check := none } }) rfl rfl (posted_reportCheck regs _ _)
  · exact frame_reportCheck (by simp) (fun _ h => h) regs (frame_aux (by simp) (frame_refl _ _ _))

/-- Settles O3: START arms the check or is refused by the conditions of R41; a window shows entry 8w; the result is that of the entry with the
greatest deviation (`worstEntry_spec`), posted through the window (`posted_postResult`). -/
theorem gainCheckCompletes : Obligations.GainCheckCompletes := by
  unfold Obligations.GainCheckCompletes
  refine ⟨?start, ?refused, ?window, ?done⟩
  case start =>
    intro port v s hl h3 hm hc hv
    refine completes_of_eq rfl ((hostWrite_acts hl (by decide)).trans (writeCheckCmd_arms h3 hm hc hv)) ⟨rfl, frame_finish ?_⟩
    exact frame_aux (by simp) (frame_closeKey (by simp) (frame_refl _ _ _))
  case refused =>
    intro port v s hl h
    refine completes_of_eq rfl ((hostWrite_acts hl (by decide)).trans (writeCheckCmd_refuses h))
      ⟨raised_finish (raised_raise _ _), frame_finish ?_⟩
    exact frame_raise (by simp [evParts]) (fun _ hx => hx) (frame_closeKey (by simp) (frame_refl _ _ _))
  case window =>
    intro s c hc ht hs hw hn hu hg
    refine completes_of_eq rfl (checkWindow_starts hc ht hs hw hn hu hg) ⟨?_, ?_, frame_finish ?_⟩
    · rw [finish_aux, showGain_aux]
    · rw [finish_get, gainStep_showGain _ (by omega)]
    · exact frame_showGain (fun _ h => h) (frame_aux (by simp) (frame_refl _ _ _))
  case done => exact fun measured s c hc hw => gainCheckDone_completes hc hw

end Sys2Proof.Machine.Capture

namespace Sys2Proof.Machine.Capture

variable {ps : List Part} {as : List Nat} {s t u : State}

/-! ## The injector (R42 to R45) -/

theorem injReason_congr (h : t.regs = s.regs) : injReason t = injReason s := by
  have hg : t.get = s.get := funext (get_of_regs h)
  have hf : t.flag = s.flag := funext (flag_of_regs h)
  unfold injReason injPath injFreq modeNow
  rw [hg, hf]

theorem injReason_lt {why : Nat} (h : injReason s = some why) : why < 16 := by
  unfold injReason at h
  split at h
  · cases h
    decide
  · split at h
    · cases h
    · cases h
      decide

/-- The write of INJ.CTRL that a request makes, as `injReason` sees it. -/
theorem injReason_stored (port : Port) (v : Word) (s : State) :
    injReason (stored port Reg.INJ.CTRL v s) = injReason (s.setWord Reg.INJ.CTRL (afterWrite s port Reg.INJ.CTRL v)) :=
  injReason_congr rfl

theorem stored_enable (port : Port) (v : Word) (b : Nat) (s : State) :
    (stored port Reg.INJ.CTRL (withField v 0 1 b) s).get Fld.INJ.CTRL.ENABLE = b % 2 := by
  have e : (stored port Reg.INJ.CTRL (withField v 0 1 b) s).get Fld.INJ.CTRL.ENABLE =
      fieldOf (afterWrite s port Reg.INJ.CTRL (withField v 0 1 b)) 0 1 :=
    congrArg (fun w => fieldOf w 0 1) (stored_word port Reg.INJ.CTRL (withField v 0 1 b) s)
  rw [e, enable_afterWrite_injCtrl]
  exact fieldOf_withField_same _ _ (by decide)

theorem stored_active (port : Port) (v : Word) (s : State) :
    (stored port Reg.INJ.CTRL v s).flag Fld.INJ.STAT.ACTIVE = s.flag Fld.INJ.STAT.ACTIVE :=
  frame_flag (frame_stored s) (by decide)

/-- A request of the injector that is accepted (R42, R44): REASON is cleared, and a shaped signal's mask check begins. -/
def injAccepted (t : State) : State :=
  if t.flag Fld.INJ.CTRL.SHAPED then startMaskCheck (t.set Fld.INJ.STAT.REASON 0) else t.set Fld.INJ.STAT.REASON 0

/-- A request of the injector that is off is refused or accepted, by what R42 says of it. -/
theorem writeInjCtrl_asks {port : Port} {v : Word} (ha : s.flag Fld.INJ.STAT.ACTIVE = false) :
    (∀ r, injReason (stored port Reg.INJ.CTRL (withField v 0 1 1) s) = some r →
      writeInjCtrl port (withField v 0 1 1) (keyOpen s (Reg.INJ.CTRL / 4096) port) (closeKey (Reg.INJ.CTRL / 4096) s) =
        injRefuse r (stored port Reg.INJ.CTRL (withField v 0 1 1) s)) ∧
    (injReason (stored port Reg.INJ.CTRL (withField v 0 1 1) s) = none →
      writeInjCtrl port (withField v 0 1 1) (keyOpen s (Reg.INJ.CTRL / 4096) port) (closeKey (Reg.INJ.CTRL / 4096) s) =
        injAccepted (stored port Reg.INJ.CTRL (withField v 0 1 1) s)) := by
  have h1 : (stored port Reg.INJ.CTRL (withField v 0 1 1) s).flag Fld.INJ.CTRL.ENABLE = true := by
    rw [State.flag, stored_enable]
    rfl
  have h2 := stored_active port (withField v 0 1 1) s
  unfold writeInjCtrl
  rw [plainWrite_stored port _ s injCtrl_plain.1 injCtrl_plain.2.1]
  generalize stored port Reg.INJ.CTRL (withField v 0 1 1) s = t at *
  refine ⟨fun r hr => ?_, fun hr => ?_⟩
  · simp only [h2, ha, h1, hr, Bool.false_eq_true, ↓reduceIte]
  · simp only [h2, ha, h1, hr, injAccepted, Bool.false_eq_true, ↓reduceIte]

theorem frame_injRefuse {r : Nat} (hp : [.aux, .fab, .twc] ⊆ ps) (ha : [Reg.INJ.CTRL, Reg.INJ.STAT] ++ evWords Ev.INJ.REFUSED ⊆ as)
    (h : frame ps as s t) : frame ps as s (injRefuse r t) := by
  have hc : Reg.INJ.CTRL ∈ as := ha (by simp)
  have hs : Reg.INJ.STAT ∈ as := ha (by simp)
  exact frame_raise (fun _ hx => hp (by revert hx; simp [evParts]; tauto)) (fun _ hx => ha (List.mem_append_right _ hx))
    (frame_set (f := Fld.INJ.STAT.REASON) hs (frame_put (f := Fld.INJ.CTRL.ENABLE) hc (frame_aux (hp (by simp)) h)))

/-! A refusal clears ENABLE, shows its reason, and ends a mask check, whose verdict stands (R42, R44). -/

theorem injRefuse_enable (r : Nat) (s : State) : (injRefuse r s).flag Fld.INJ.CTRL.ENABLE = false := by
  have he : Apart Fld.INJ.STAT.REASON Fld.INJ.CTRL.ENABLE := by decide
  unfold injRefuse
  rw [flag_raise _ _ (by decide) (by decide), flag_set_apart he]
  exact State.flag_put_same _ _ false (by decide) (by decide)

theorem injRefuse_reason {r : Nat} (hr : r < 16) (s : State) : (injRefuse r s).get Fld.INJ.STAT.REASON = r := by
  unfold injRefuse
  rw [get_raise _ _ (by decide) (by decide), State.get_set_same _ _ _ (by decide)]
  exact Nat.mod_eq_of_lt hr

theorem injRefuse_maskPending (r : Nat) (s : State) : (injRefuse r s).aux.maskPending = false := by
  unfold injRefuse
  rw [raise_aux, State.set_aux, State.put_aux]

theorem injRefuse_maskOk (r : Nat) (s : State) : (injRefuse r s).flag Fld.INJ.STAT.MASK_OK = s.flag Fld.INJ.STAT.MASK_OK := by
  have hm : Apart Fld.INJ.STAT.REASON Fld.INJ.STAT.MASK_OK := by decide
  have hn : Apart Fld.INJ.CTRL.ENABLE Fld.INJ.STAT.MASK_OK := by decide
  unfold injRefuse
  rw [flag_raise _ _ (by decide) (by decide), flag_set_apart hm, flag_put_apart hn]
  exact flag_of_regs rfl _

theorem raised_injRefuse (r : Nat) (s : State) : raised (injRefuse r s) Ev.INJ.REFUSED := by
  unfold injRefuse
  exact raised_raise _ _

theorem startMaskCheck_shows (t : State) :
    (startMaskCheck t).get Fld.INJ.STAT.REASON = t.get Fld.INJ.STAT.REASON ∧ (startMaskCheck t).aux.maskPending = true ∧
      (startMaskCheck t).flag Fld.INJ.STAT.MASK_OK = false ∧ frame [.aux] [Reg.INJ.STAT] t (startMaskCheck t) := by
  have hm : Apart Fld.INJ.STAT.MASK_OK Fld.INJ.STAT.REASON := by decide
  unfold startMaskCheck
  refine ⟨(get_of_regs rfl _).trans (get_put_apart hm _ false), rfl,
    (flag_of_regs rfl _).trans (State.flag_put_same _ _ false (by decide) (by decide)),
    frame_aux (by simp) (frame_put (f := Fld.INJ.STAT.MASK_OK) (by decide) (frame_refl _ _ _))⟩

theorem injAccepted_shows (t : State) :
    (injAccepted t).get Fld.INJ.STAT.REASON = 0 ∧
      (t.flag Fld.INJ.CTRL.SHAPED = true → (injAccepted t).aux.maskPending = true ∧ (injAccepted t).flag Fld.INJ.STAT.MASK_OK = false) ∧
      frame [.aux] [Reg.INJ.STAT] t (injAccepted t) := by
  have hr : (t.set Fld.INJ.STAT.REASON 0).get Fld.INJ.STAT.REASON = 0 := State.get_set_same _ _ _ (by decide)
  have f : frame [.aux] [Reg.INJ.STAT] t (t.set Fld.INJ.STAT.REASON 0) := frame_set (by decide) (frame_refl _ _ _)
  obtain ⟨h1, h2, h3, h4⟩ := startMaskCheck_shows (t.set Fld.INJ.STAT.REASON 0)
  unfold injAccepted
  split
  case isTrue => exact ⟨h1.trans hr, fun _ => ⟨h2, h3⟩, frame_trans f h4⟩
  case isFalse h => exact ⟨hr, fun c => absurd c h, f⟩

/-- The end of a mask check stores its verdict (R44). -/
theorem injMaskDone_eq (h : s.aux.maskPending = true) :
    injMaskDone s =
      if maskPasses s then { s with aux := { s.aux with maskPending := false } }.put Fld.INJ.STAT.MASK_OK (maskPasses s)
      else injRefuse 1 ({ s with aux := { s.aux with maskPending := false } }.put Fld.INJ.STAT.MASK_OK (maskPasses s)) := by
  unfold injMaskDone
  simp only [h, Bool.not_true, Bool.false_eq_true, ↓reduceIte]

/-! ## The level in use (R43) -/

theorem frame_showInjLevel (hp : evParts ⊆ ps) (ha : Reg.INJ.STAT :: evWords Ev.INJ.CLAMPED ⊆ as) (h : frame ps as s t) :
    frame ps as s (showInjLevel t) := by
  have hs : Reg.INJ.STAT ∈ as := ha (by simp)
  exact frame_raiseIf hp (fun _ hx => ha (List.mem_cons_of_mem _ hx))
    (frame_put (f := Fld.INJ.STAT.CLAMPED) hs (frame_set (f := Fld.INJ.STAT.LEVEL_NOW) hs h))

/-- The level in use is the lowest of LEVEL, −40 dBm and the regulatory ceiling; whether the injector is active stands. -/
theorem showInjLevel_shows (s : State) :
    (showInjLevel s).get Fld.INJ.STAT.LEVEL_NOW = min (s.get Fld.INJ.CTRL.LEVEL) (min 30 (s.get Fld.RGL.INJ_CEIL.LEVEL)) ∧
      (showInjLevel s).flag Fld.INJ.STAT.ACTIVE = s.flag Fld.INJ.STAT.ACTIVE := by
  have h1 : Apart Fld.INJ.STAT.CLAMPED Fld.INJ.STAT.LEVEL_NOW := by decide
  have h2 : Apart Fld.INJ.STAT.CLAMPED Fld.INJ.STAT.ACTIVE := by decide
  have h3 : Apart Fld.INJ.STAT.LEVEL_NOW Fld.INJ.STAT.ACTIVE := by decide
  unfold showInjLevel
  refine ⟨?_, ?_⟩
  · rw [State.get, word_raiseIf _ _ _ (by decide) (by decide)]
    refine (get_put_apart h1 _ _).trans ((State.get_set_same _ _ _ (by decide)).trans (Nat.mod_eq_of_lt ?_))
    show _ < 32
    omega
  · rw [flag_raiseIf _ _ _ (by decide) (by decide), flag_put_apart h2, flag_set_apart h3]

theorem injStart_eq {p : Path} (ht : s.time % epochTicks = 0) (he : s.flag Fld.INJ.CTRL.ENABLE = true) (ha : s.flag Fld.INJ.STAT.ACTIVE = false)
    (hm : s.aux.maskPending = false) (hs : s.flag Fld.INJ.CTRL.SHAPED = true → s.flag Fld.INJ.STAT.MASK_OK = true) (hp : injPath s = some p)
    (hn : modeNow s p = 2) (hw : injWaits s p = false) :
    injStart s = raise Ev.INJ.STARTED
      (showInjLevel (({ s with aux := { s.aux with shapedNow := s.flag Fld.INJ.CTRL.SHAPED } }).put Fld.INJ.STAT.ACTIVE true)) := by
  have hk : (s.flag Fld.INJ.CTRL.SHAPED && !(s.flag Fld.INJ.STAT.MASK_OK)) = false := by
    cases hf : s.flag Fld.INJ.CTRL.SHAPED with
    | true => rw [hs hf]; rfl
    | false => rfl
  unfold injStart
  simp only [ht, he, ha, hm, hk, hp, hn, hw, ne_eq, not_true_eq_false, decide_false, Bool.not_true, Bool.or_self, Bool.false_eq_true,
    ↓reduceIte]

theorem injStart_shows {p : Path} (ht : s.time % epochTicks = 0) (he : s.flag Fld.INJ.CTRL.ENABLE = true) (ha : s.flag Fld.INJ.STAT.ACTIVE = false)
    (hm : s.aux.maskPending = false) (hs : s.flag Fld.INJ.CTRL.SHAPED = true → s.flag Fld.INJ.STAT.MASK_OK = true) (hp : injPath s = some p)
    (hn : modeNow s p = 2) (hw : injWaits s p = false) :
    completes .injStart s (fun t =>
      t.flag Fld.INJ.STAT.ACTIVE = true ∧ t.get Fld.INJ.STAT.LEVEL_NOW = min (s.get Fld.INJ.CTRL.LEVEL) (min 30 (s.get Fld.RGL.INJ_CEIL.LEVEL)) ∧
      raised t Ev.INJ.STARTED ∧ t.aux.shapedNow = s.flag Fld.INJ.CTRL.SHAPED ∧
      frame [.fab, .aux, .twc] (Reg.INJ.STAT :: evsWords [Ev.INJ.STARTED, Ev.INJ.CLAMPED]) s t) := by
  have h1 : Apart Fld.INJ.STAT.ACTIVE Fld.INJ.CTRL.LEVEL := by decide
  have h2 : Apart Fld.INJ.STAT.ACTIVE Fld.RGL.INJ_CEIL.LEVEL := by decide
  refine completes_of_eq rfl (injStart_eq ht he ha hm hs hp hn hw) ?_
  generalize hw : ({ s with aux := { s.aux with shapedNow := s.flag Fld.INJ.CTRL.SHAPED } } : State) = w
  have hr : w.regs = s.regs := hw ▸ rfl
  have hget (f : Field) : w.get f = s.get f := by simp only [State.get, State.word, hr]
  have hx : w.aux.shapedNow = s.flag Fld.INJ.CTRL.SHAPED := hw ▸ rfl
  have hf : frame [.fab, .aux, .twc] (Reg.INJ.STAT :: evsWords [Ev.INJ.STARTED, Ev.INJ.CLAMPED]) s w :=
    hw ▸ frame_aux (by simp) (frame_refl _ _ _)
  obtain ⟨hl, hact⟩ := showInjLevel_shows (w.put Fld.INJ.STAT.ACTIVE true)
  refine ⟨?_, ?_, raised_finish (raised_raise _ _), ?_, frame_finish ?_⟩
  · rw [finish_flag, flag_raise _ _ (by decide) (by decide), hact]
    exact State.flag_put_same _ _ true (by decide) (by decide)
  · rw [finish_get, get_raise _ _ (by decide) (by decide), hl, get_put_apart h1, get_put_apart h2, hget, hget]
  · have e2 := (frame_showInjLevel (fun _ h => h) (fun _ h => h) (frame_refl evParts _ (w.put Fld.INJ.STAT.ACTIVE true))).1 .aux (by decide)
    rw [finish_aux, raise_aux, e2, State.put_aux, hx]
  · exact frame_raise (by simp [evParts]) (by simp [evsWords]) (frame_showInjLevel (by simp [evParts]) (by simp [evsWords])
      (frame_put (f := Fld.INJ.STAT.ACTIVE) (List.mem_cons_self) hf))

/-- ENABLE = 0 is stored; the level in use follows the word (R42, R43). -/
theorem writeInjCtrl_disables {port : Port} {v : Word} (ha : s.flag Fld.INJ.STAT.ACTIVE = true) :
    writeInjCtrl port (withField v 0 1 0) (keyOpen s (Reg.INJ.CTRL / 4096) port) (closeKey (Reg.INJ.CTRL / 4096) s) =
      { showInjLevel (stored port Reg.INJ.CTRL (withField v 0 1 0) s) with
        aux := { (showInjLevel (stored port Reg.INJ.CTRL (withField v 0 1 0) s)).aux with maskPending := false } } := by
  have h1 : (stored port Reg.INJ.CTRL (withField v 0 1 0) s).flag Fld.INJ.CTRL.ENABLE = false := by
    rw [State.flag, stored_enable]
    rfl
  have h2 := stored_active port (withField v 0 1 0) s
  unfold writeInjCtrl
  rw [plainWrite_stored port _ s injCtrl_plain.1 injCtrl_plain.2.1]
  simp only [h2, ha, h1, Bool.false_and, Bool.false_eq_true, ↓reduceIte]

theorem frame_stored_le {port : Port} {a : Nat} {v : Word} (hp : Part.fab ∈ ps) (ha : a ∈ as) (s : State) : frame ps as s (stored port a v s) :=
  frame_setWord ha (frame_closeKey hp (frame_refl _ _ _))

theorem injDisable_completes {port : Port} {v : Word} (hl : lets s Reg.INJ.CTRL = true) (ha : s.flag Fld.INJ.STAT.ACTIVE = true) :
    completes (.injDisable port v) s (fun t =>
      t.word Reg.INJ.CTRL = afterWrite s port Reg.INJ.CTRL (withField v 0 1 0) ∧ t.flag Fld.INJ.CTRL.ENABLE = false ∧
      frame [.fab, .aux, .twc] ([Reg.INJ.CTRL, Reg.INJ.STAT] ++ evWords Ev.INJ.CLAMPED) s t) := by
  refine completes_of_eq rfl ((hostWrite_acts hl injCtrl_plain.2.2).trans (writeInjCtrl_disables ha)) ?_
  have he : (stored port Reg.INJ.CTRL (withField v 0 1 0) s).flag Fld.INJ.CTRL.ENABLE = false := by
    rw [State.flag, stored_enable]
    rfl
  have hw := stored_word port Reg.INJ.CTRL (withField v 0 1 0) s
  have hf : frame [.fab, .aux, .twc] ([Reg.INJ.CTRL, Reg.INJ.STAT] ++ evWords Ev.INJ.CLAMPED) s (stored port Reg.INJ.CTRL (withField v 0 1 0) s) :=
    frame_stored_le (by simp) (by simp) s
  generalize stored port Reg.INJ.CTRL (withField v 0 1 0) s = t at he hw hf ⊢
  have k : frame (.aux :: evParts) (Reg.INJ.STAT :: evWords Ev.INJ.CLAMPED) t
      { showInjLevel t with aux := { (showInjLevel t).aux with maskPending := false } } :=
    frame_aux (by simp) (frame_showInjLevel (by simp) (fun _ h => h) (frame_refl _ _ t))
  generalize ({ showInjLevel t with aux := { (showInjLevel t).aux with maskPending := false } } : State) = u at k ⊢
  exact ⟨(frame_word k (by decide)).trans hw, (finish_flag _ _ _).trans ((frame_flag k (by decide)).trans he),
    frame_finish (frame_trans hf (frame_mono k (by simp [evParts]) (by simp)))⟩

theorem injMaskCheckDone_completes {us : Nat} (hp : s.aux.maskPending = true) :
    completes (.injMaskCheckDone us) s (fun t =>
      t.aux.maskPending = false ∧ t.flag Fld.INJ.STAT.MASK_OK = maskPasses s ∧
      (maskPasses s = false → t.flag Fld.INJ.CTRL.ENABLE = false ∧ t.get Fld.INJ.STAT.REASON = 1 ∧ raised t Ev.INJ.REFUSED) ∧
      frame [.fab, .aux, .twc] ([Reg.INJ.CTRL, Reg.INJ.STAT] ++ evWords Ev.INJ.REFUSED) s t) := by
  refine completes_of_eq rfl (injMaskDone_eq hp) ?_
  generalize maskPasses s = pass
  have hm : (({ s with aux := { s.aux with maskPending := false } } : State).put Fld.INJ.STAT.MASK_OK pass).flag Fld.INJ.STAT.MASK_OK = pass :=
    State.flag_put_same _ _ pass (by decide) (by decide)
  have hx : (({ s with aux := { s.aux with maskPending := false } } : State).put Fld.INJ.STAT.MASK_OK pass).aux.maskPending = false := by
    rw [State.put_aux]
  have hf : frame [.fab, .aux, .twc] ([Reg.INJ.CTRL, Reg.INJ.STAT] ++ evWords Ev.INJ.REFUSED) s
      (({ s with aux := { s.aux with maskPending := false } } : State).put Fld.INJ.STAT.MASK_OK pass) :=
    frame_put (f := Fld.INJ.STAT.MASK_OK) (by decide) (frame_aux (by simp) (frame_refl _ _ _))
  generalize (({ s with aux := { s.aux with maskPending := false } } : State).put Fld.INJ.STAT.MASK_OK pass) = t at hm hx hf ⊢
  cases pass with
  | true =>
    simp only [↓reduceIte]
    exact ⟨(congrArg Aux.maskPending (finish_aux s t)).trans hx, (finish_flag _ _ _).trans hm, fun c => absurd c (by decide), frame_finish hf⟩
  | false =>
    have he := injRefuse_enable 1 t
    have hr := injRefuse_reason (r := 1) (by decide) t
    have hk := (injRefuse_maskOk 1 t).trans hm
    have hn := injRefuse_maskPending 1 t
    have hv := raised_injRefuse 1 t
    have hg := frame_injRefuse (r := 1) (by simp) (fun _ h => h) hf
    simp only [Bool.false_eq_true, ↓reduceIte]
    generalize injRefuse 1 t = u at he hr hk hn hv hg ⊢
    exact ⟨(congrArg Aux.maskPending (finish_aux s u)).trans hn, (finish_flag _ _ _).trans hk,
      fun _ => ⟨(finish_flag _ _ _).trans he, (finish_get _ _ _).trans hr, raised_finish hv⟩, frame_finish hg⟩

theorem injEnable_accepted {port : Port} {v : Word} (hl : lets s Reg.INJ.CTRL = true) (ha : s.flag Fld.INJ.STAT.ACTIVE = false)
    (hr : injReason (stored port Reg.INJ.CTRL (withField v 0 1 1) s) = none) :
    completes (.injEnable port v) s (fun t =>
      t.word Reg.INJ.CTRL = afterWrite s port Reg.INJ.CTRL (withField v 0 1 1) ∧ t.flag Fld.INJ.CTRL.ENABLE = true ∧
      t.get Fld.INJ.STAT.REASON = 0 ∧ (t.flag Fld.INJ.CTRL.SHAPED = true → t.aux.maskPending = true ∧ t.flag Fld.INJ.STAT.MASK_OK = false) ∧
      frame [.fab, .aux] [Reg.INJ.CTRL, Reg.INJ.STAT] s t) := by
  refine completes_of_eq rfl ((hostWrite_acts hl injCtrl_plain.2.2).trans ((writeInjCtrl_asks ha).2 hr)) ?_
  have he : (stored port Reg.INJ.CTRL (withField v 0 1 1) s).flag Fld.INJ.CTRL.ENABLE = true := by
    rw [State.flag, stored_enable]
    rfl
  have hw := stored_word port Reg.INJ.CTRL (withField v 0 1 1) s
  have hf : frame [.fab, .aux] [Reg.INJ.CTRL, Reg.INJ.STAT] s (stored port Reg.INJ.CTRL (withField v 0 1 1) s) :=
    frame_stored_le (by simp) (by simp) s
  generalize stored port Reg.INJ.CTRL (withField v 0 1 1) s = t at he hw hf ⊢
  obtain ⟨h1, h2, h3⟩ := injAccepted_shows t
  generalize injAccepted t = u at h1 h2 h3 ⊢
  refine ⟨(frame_word h3 (by decide)).trans hw, (finish_flag _ _ _).trans ((frame_flag h3 (by decide)).trans he),
    (finish_get _ _ _).trans h1, fun hs => ?_, frame_finish (frame_trans hf (frame_mono h3 (by simp) (by simp)))⟩
  rw [finish_flag, frame_flag h3 (by decide)] at hs
  exact h2 hs

theorem injEnable_refused {port : Port} {v : Word} {why : Nat} (hl : lets s Reg.INJ.CTRL = true) (ha : s.flag Fld.INJ.STAT.ACTIVE = false)
    (hr : injReason (stored port Reg.INJ.CTRL (withField v 0 1 1) s) = some why) :
    completes (.injEnable port v) s (fun t =>
      t.flag Fld.INJ.CTRL.ENABLE = false ∧ t.get Fld.INJ.STAT.REASON = why ∧ raised t Ev.INJ.REFUSED ∧
      frame [.fab, .aux, .twc] ([Reg.INJ.CTRL, Reg.INJ.STAT] ++ evWords Ev.INJ.REFUSED) s t) := by
  refine completes_of_eq rfl ((hostWrite_acts hl injCtrl_plain.2.2).trans ((writeInjCtrl_asks ha).1 why hr)) ?_
  have hf : frame [.fab, .aux, .twc] ([Reg.INJ.CTRL, Reg.INJ.STAT] ++ evWords Ev.INJ.REFUSED) s
      (stored port Reg.INJ.CTRL (withField v 0 1 1) s) := frame_stored_le (by simp) (by simp) s
  generalize stored port Reg.INJ.CTRL (withField v 0 1 1) s = t at hr hf ⊢
  have he := injRefuse_enable why t
  have hw := injRefuse_reason (injReason_lt hr) t
  have hv := raised_injRefuse why t
  have hg := frame_injRefuse (r := why) (by simp) (fun _ h => h) hf
  generalize injRefuse why t = u at he hw hv hg ⊢
  exact ⟨(finish_flag _ _ _).trans he, (finish_get _ _ _).trans hw, raised_finish hv, frame_finish hg⟩

/-- Settles O4: a request is stored, then refused or accepted as `injReason` has it of the stored word; the mask's verdict, the level in use and the
word of a disabling write are shown. -/
theorem injectorCompletes : Obligations.InjectorCompletes := by
  unfold Obligations.InjectorCompletes
  refine ⟨?accepted, ?refused, ?mask, ?start, ?disable⟩
  case accepted => exact fun port v s hl ha hr => injEnable_accepted hl ha ((injReason_stored port _ s).trans hr)
  case refused => exact fun port v s why hl ha hr => injEnable_refused hl ha ((injReason_stored port _ s).trans hr)
  case mask => exact fun us s hp => injMaskCheckDone_completes hp
  case start => exact fun s p ht he ha hm hs hp hn hw => injStart_shows ht he ha hm hs hp hn hw
  case disable => exact fun port v s hl ha => injDisable_completes hl ha

end Sys2Proof.Machine.Capture

namespace Sys2Proof.Machine.Capture

variable {ps : List Part} {as : List Nat} {s t u : State} {l : Lo} {r : LoReq}

/-! ## What a use of COEX_REQ that is cut short leaves (R46, R47) -/

/-- The parts and registers that an activity without its grant may change. -/
def cutParts : List Part := .aux :: loParts

def cutWords : List Nat :=
  Reg.COX.STAT :: loAskWords .lof ++ loAskWords .lob ++ evsWords [Ev.LO.CAL_DEFERRED 0, Ev.LO.CAL_DEFERRED 1, Ev.AGC.CHECK_ABANDONED]

/-- From `s` to `t` activities go on without a grant: no event is lost, no wait begins, and COEX_REQ, where nothing asserts it, stays so. -/
structure GoesOn (s t : State) : Prop where
  frame : frame cutParts cutWords s t
  events : keepsEvents s t
  waits : t.aux.waits ⊆ s.aux.waits
  quiet : s.aux.uses = [] → t.aux.uses = [] ∧ t.aux.reqSince = s.aux.reqSince ∧ t.flag Fld.COX.STAT.REQ = s.flag Fld.COX.STAT.REQ

theorem GoesOn.refl (s : State) : GoesOn s s := ⟨frame_refl _ _ _, keepsEvents_refl s, fun _ h => h, fun h => ⟨h, rfl, rfl⟩⟩

theorem GoesOn.trans (h : GoesOn s t) (k : GoesOn t u) : GoesOn s u where
  frame := frame_trans h.frame k.frame
  events := keepsEvents_trans h.events k.events
  waits := fun _ m => h.waits (k.waits m)
  quiet := fun e => by
    obtain ⟨h1, h2, h3⟩ := h.quiet e
    obtain ⟨k1, k2, k3⟩ := k.quiet h1
    exact ⟨k1, k2.trans h2, k3.trans h3⟩

/-- A change that leaves COEX_REQ alone lets the activities go on. -/
theorem GoesOn.of_frame (h : Machine.frame loParts as s t) (hs : Reg.COX.STAT ∉ as) (ha : as ⊆ cutWords) (k : keepsEvents s t) : GoesOn s t := by
  have hx : t.aux = s.aux := h.1 .aux (by decide)
  refine ⟨frame_mono h (List.subset_cons_self _ _) ha, k, by rw [hx]; exact fun _ m => m, fun e => ?_⟩
  rw [hx]
  exact ⟨e, rfl, frame_flag h hs⟩

theorem loAskWords_subset_cutWords (l : Lo) : loAskWords l ⊆ cutWords := by
  intro a h
  simp only [cutWords, List.mem_append, List.mem_cons]
  cases l <;> tauto

theorem deferWords_subset_cutWords (l : Lo) : evWords (Ev.LO.CAL_DEFERRED l.idx) ⊆ cutWords := by
  cases l <;> decide

theorem coxStat_not_mem (l : Lo) : Reg.COX.STAT ∉ loAskWords l ++ evWords (Ev.LO.CAL_DEFERRED l.idx) := by
  cases l <;> decide

theorem askDefer_subset_cutWords (l : Lo) : loAskWords l ++ evWords (Ev.LO.CAL_DEFERRED l.idx) ⊆ cutWords :=
  List.append_subset.mpr ⟨loAskWords_subset_cutWords l, deferWords_subset_cutWords l⟩

/-! A calibration that waits (R67) -/

theorem frame_holdCal (hp : Part.loops ∈ ps) (ha : Reg.LO.STAT l.idx ∈ as) (h : frame ps as s t) : frame ps as s (holdCal l r t) :=
  frame_put ha (frame_setLo hp h)

theorem keepsEvents_holdCal (l : Lo) (r : LoReq) (s : State) : keepsEvents s (holdCal l r s) :=
  keepsEvents_of_loFrame (l := l) (frame_holdCal (by simp) (by simp) (frame_refl _ _ _))

theorem keepsEvents_setLo (l : Lo) (f : LoState → LoState) (s : State) : keepsEvents s (s.setLo l f) :=
  keepsEvents_of_loFrame (l := l) (frame_setLo (by simp) (frame_refl _ _ _))

theorem frame_goCal (hp : loParts ⊆ ps) (ha : loAskWords l ⊆ as) (h : frame ps as s t) : frame ps as s (goCal l t) := by
  unfold goCal
  split
  · exact frame_requestLo hp ha (frame_put (f := Fld.LO.STAT.CAL_PENDING l.idx) (ha (lo_mem_loAskWords l).1)
      (frame_setLo (hp (by simp [loParts])) h))
  · exact h

theorem keepsEvents_goCal (l : Lo) (s : State) : keepsEvents s (goCal l s) := by
  unfold goCal
  split
  · refine keepsEvents_trans ?_ (keepsEvents_requestLo _ _ _)
    exact keepsEvents_of_loFrame (l := l) (frame_put (f := Fld.LO.STAT.CAL_PENDING l.idx) List.mem_cons_self
      (frame_setLo (by simp) (frame_refl _ _ _)))
  · exact keepsEvents_refl s

theorem goesOn_noGrantCal (l : Lo) (s : State) : GoesOn s (noGrantCal l s) := by
  have hs : Reg.LO.STAT l.idx ∈ loAskWords l ++ evWords (Ev.LO.CAL_DEFERRED l.idx) := List.mem_append_left _ (lo_mem_loAskWords l).1
  have held (r : LoReq) : frame loParts (loAskWords l ++ evWords (Ev.LO.CAL_DEFERRED l.idx)) s
      (holdCal l r (s.setLo l (fun x => { x with skipIdle := true }))) :=
    frame_holdCal (by simp [loParts]) hs (frame_setLo (by simp [loParts]) (frame_refl _ _ _))
  have heldEvents (r : LoReq) : keepsEvents s (holdCal l r (s.setLo l (fun x => { x with skipIdle := true }))) :=
    keepsEvents_trans (keepsEvents_setLo l _ s) (keepsEvents_holdCal l r _)
  unfold noGrantCal
  split
  · split
    · exact .of_frame (frame_goCal (fun _ h => h) (List.subset_append_left _ _) (frame_refl _ _ _)) (coxStat_not_mem l)
        (askDefer_subset_cutWords l) (keepsEvents_goCal l s)
    · split
      · exact .of_frame (held _) (coxStat_not_mem l) (askDefer_subset_cutWords l) (heldEvents _)
      · exact .of_frame (frame_raise (by decide) (List.subset_append_right _ _) (held _)) (coxStat_not_mem l)
          (askDefer_subset_cutWords l) (keepsEvents_trans (heldEvents _) (keepsEvents_raise _ _))
  · exact .refl s

/-! The release of COEX_REQ (R46, R47) -/

theorem dropReq_shows {since : Nat} (h : s.aux.reqSince = some since) :
    (dropReq s).aux.uses = [] ∧ (dropReq s).aux.reqSince = none ∧ (dropReq s).aux.waits = s.aux.waits ∧
      (dropReq s).flag Fld.COX.STAT.REQ = false := by
  unfold dropReq
  rw [h]
  exact ⟨rfl, rfl, rfl, State.flag_put_same _ _ false (by decide) (by decide)⟩

theorem frame_dropReq (s : State) : frame [.aux] [Reg.COX.STAT] s (dropReq s) := by
  unfold dropReq
  split
  · exact frame_refl _ _ _
  · exact frame_put (f := Fld.COX.STAT.REQ) (by decide) (frame_aux (by simp) (frame_refl _ _ _))

theorem dropReq_waits (s : State) : (dropReq s).aux.waits = s.aux.waits := by
  unfold dropReq
  split <;> rfl

theorem releaseReq_waits (use : CoexUse) (s : State) : (releaseReq use s).aux.waits = s.aux.waits.filter (fun w => w.use != use) := by
  unfold releaseReq
  dsimp only
  split
  · rfl
  · split
    · rw [dropReq_waits]
    · rfl

theorem goesOn_releaseReq (use : CoexUse) (s : State) : GoesOn s (releaseReq use s) where
  frame := frame_mono (ps := [.aux]) (as := [Reg.COX.STAT]) (frame_releaseReq (by simp) (by simp) (frame_refl _ _ _))
    (by simp [cutParts]) (by simp [cutWords])
  events := keepsEvents_of_frame (ps := [.aux]) (as := [Reg.COX.STAT]) (by simp) (by decide) (frame_releaseReq (by simp) (by simp) (frame_refl _ _ _))
  waits := by
    rw [releaseReq_waits]
    exact List.filter_sublist.subset
  quiet := fun e => by
    unfold releaseReq
    simp only [e, List.contains_nil, Bool.not_false, ↓reduceIte, true_and]
    exact flag_of_regs rfl _

theorem goesOn_abandonCheck (p : Path) (s : State) : GoesOn s (abandonCheck p s) := by
  unfold abandonCheck
  split
  · split
    case isTrue =>
      have h1 : GoesOn s { s with aux := { s.aux with check := none } } :=
        ⟨frame_aux (by simp [cutParts]) (frame_refl _ _ _), ⟨rfl, fun _ h => h, fun _ h => h⟩, fun _ h => h, fun e => ⟨e, rfl, rfl⟩⟩
      have h2 (t : State) : GoesOn t (raise Ev.AGC.CHECK_ABANDONED t) :=
        .of_frame (frame_mono (frame_raised _ _) (by decide) (fun _ h => h)) (by decide) (by decide) (keepsEvents_raise _ _)
      exact h1.trans ((goesOn_releaseReq _ _).trans (h2 _))
    case isFalse => exact .refl s
  · exact .refl s

theorem goesOn_noGrant (use : CoexUse) (s : State) : GoesOn s (noGrant use s) := by
  cases use with
  | calibration l => exact (goesOn_releaseReq _ s).trans (goesOn_noGrantCal l _)
  | window =>
    unfold noGrant windowFailed
    dsimp only
    split
    · exact goesOn_abandonCheck _ s
    · exact .refl s
  | sprout _ => exact .refl s
  | search _ => exact .refl s

theorem goesOn_forEach {α : Type} {xs : List α} {f : α → State → State} (h : ∀ x t, GoesOn t (f x t)) (s : State) :
    GoesOn s (forEach xs f s) := by
  induction xs generalizing s with
  | nil => exact .refl s
  | cons x xs ih => exact (h x s).trans (ih (f x s))

/-! ## The coexistence wires (R46 to R48) -/

theorem frame_coexGranted (h : frame ps as s t) (hp : Part.pwr ∉ ps) (ha : Reg.COX.CTRL ∉ as) : coexGranted t = coexGranted s := by
  have e : { t.pwr with pins := {} } = { s.pwr with pins := {} } := h.1 .pwr hp
  have hv : t.pwr.vddio = s.pwr.vddio := by
    have m := congrArg Power.vddio e
    exact m
  have hg : t.pwr.gntHigh = s.pwr.gntHigh := by
    have m := congrArg Power.gntHigh e
    exact m
  have hf : t.flag Fld.COX.CTRL.GNT_POL = s.flag Fld.COX.CTRL.GNT_POL := frame_flag h ha
  simp only [coexGranted, hv, hg, hf]

/-- The registers that the calibrations may change which go on with their grant. -/
def goWords : List Nat := loAskWords .lof ++ loAskWords .lob

theorem goCals_leave (us : List CoexUse) (s : State) :
    frame loParts goWords s (forEach us (fun u v => match u with | .calibration l => goCal l v | _ => v) s) := by
  refine frame_forEach (fun u t _ h => ?_) (frame_refl _ _ _)
  cases u with
  | calibration l =>
    refine frame_goCal (fun _ h => h) ?_ h
    cases l
    · exact List.subset_append_left _ _
    · exact List.subset_append_right _ _
  | window => exact h
  | sprout _ => exact h
  | search _ => exact h

theorem takeGrant_shows (s : State) :
    frame (.aux :: loParts) goWords s (takeGrant s) ∧ (coexGranted s = true → (takeGrant s).aux.waits = []) ∧
      (coexGranted s = false → takeGrant s = s) := by
  unfold takeGrant
  dsimp only
  split
  case isTrue h =>
    have hg : coexGranted s = false := by simpa using h
    exact ⟨frame_refl _ _ _, fun c => absurd (hg.symm.trans c) (by decide), fun _ => rfl⟩
  case isFalse h =>
    have hg : coexGranted s = true := by simpa using h
    have f := goCals_leave (s.aux.waits.map (fun w => w.use)) { s with aux := { s.aux with waits := [] } }
    refine ⟨frame_trans (frame_aux (by simp) (frame_refl _ _ _)) (frame_mono f (List.subset_cons_self _ _) (fun _ h => h)), fun _ => ?_,
      fun c => absurd (hg.symm.trans c) (by decide)⟩
    have e := f.1 .aux (by decide)
    exact congrArg Aux.waits e

theorem coexGranted_finish (s t : State) : coexGranted (finish s t) = coexGranted t := rfl

theorem coexActive_finish (s t : State) : coexActive (finish s t) = coexActive t := rfl

theorem finish_gntHigh (s t : State) : (finish s t).pwr.gntHigh = t.pwr.gntHigh := rfl

theorem finish_aerial (s t : State) : (finish s t).pwr.pins.aerial = aerialOn t := rfl

theorem coexGntEdge_completes (high : Bool) (s : State) :
    completes (.coexGntEdge high) s (fun t =>
      t.pwr.gntHigh = high ∧ (coexGranted t = true → t.aux.waits = []) ∧ (coexGranted t = false → frame [.pwr] [] s t) ∧
      { t.pwr with pins := {}, gntHigh := s.pwr.gntHigh } = { s.pwr with pins := {} } ∧
      frame [.pwr, .aux, .loops, .plan, .twc, .fab] (loAskWords .lof ++ loAskWords .lob) s t) := by
  have hu : frame [.pwr] [] s { s with pwr := { s.pwr with gntHigh := high } } := frame_pwr (by simp) (frame_refl _ _ _)
  refine completes_of_eq (t := gntEdge high s) rfl rfl ?_
  unfold gntEdge
  obtain ⟨f, hw, hk⟩ := takeGrant_shows { s with pwr := { s.pwr with gntHigh := high } }
  have hc := frame_coexGranted f (by decide) (by decide)
  have e : { (takeGrant { s with pwr := { s.pwr with gntHigh := high } }).pwr with pins := {} } = { s.pwr with gntHigh := high, pins := {} } :=
    f.1 .pwr (by decide)
  have hp := congrArg (fun (w : Power) => { w with gntHigh := s.pwr.gntHigh }) e
  have hh := congrArg (fun (w : Power) => w.gntHigh) e
  generalize takeGrant { s with pwr := { s.pwr with gntHigh := high } } = t at f hw hk hc hp hh ⊢
  refine ⟨(finish_gntHigh s t).trans hh, fun h => ?_, fun h => ?_, hp,
    frame_finish (frame_trans (frame_mono hu (by simp) (by simp)) (frame_mono f (by decide) (fun _ h => h)))⟩
  · rw [coexGranted_finish, hc] at h
    rw [finish_aux]
    exact hw h
  · rw [coexGranted_finish, hc] at h
    rw [hk h]
    exact frame_finish hu

theorem raised_forEach {α : Type} {xs : List α} {f : α → State → State} {g : Nat} {x : α} (hx : x ∈ xs) (hr : ∀ y t, raised (f y t) g)
    (s : State) : raised (forEach xs f s) g := by
  induction xs generalizing s x with
  | nil => simp at hx
  | cons y ys ih =>
    cases ys with
    | nil => exact hr y s
    | cons z zs => exact ih List.mem_cons_self (f y s)

theorem forEach_waits {α : Type} {xs : List α} {f : α → State → State} (h : ∀ x t, (f x t).aux.waits ⊆ t.aux.waits) (s : State) :
    (forEach xs f s).aux.waits ⊆ s.aux.waits := by
  induction xs generalizing s with
  | nil => exact fun _ m => m
  | cons x xs ih => exact fun _ m => h x s (ih (f x s) m)

/-- The registers that missed grants may change. -/
def missWords : List Nat :=
  Reg.COX.STAT :: loAskWords .lof ++ loAskWords .lob ++
    evsWords [Ev.COX.NO_GRANT, Ev.LO.CAL_DEFERRED 0, Ev.LO.CAL_DEFERRED 1, Ev.AGC.CHECK_ABANDONED]

theorem coexGrantTimeout_completes {w : GrantWait} (hw : w ∈ s.aux.waits) (hb : w.by_ ≤ s.epoch) :
    completes .coexGrantTimeout s (fun t =>
      raised t Ev.COX.NO_GRANT ∧ (∀ x ∈ t.aux.waits, x ∈ s.aux.waits ∧ s.epoch < x.by_) ∧
      frame [.aux, .loops, .plan, .twc, .fab] missWords s t) := by
  have hr (y : GrantWait) (t : State) : raised (noGrant y.use (raise Ev.COX.NO_GRANT t)) Ev.COX.NO_GRANT :=
    raised_of_keepsEvents (goesOn_noGrant _ _).events (raised_raise _ _)
  have hs (y : GrantWait) (t : State) : (noGrant y.use (raise Ev.COX.NO_GRANT t)).aux.waits ⊆ t.aux.waits := fun _ m => by
    have m' := (goesOn_noGrant _ _).waits m
    rwa [raise_aux] at m'
  have hf (y : GrantWait) (t : State) (h : frame [.aux, .loops, .plan, .twc, .fab] missWords s t) :
      frame [.aux, .loops, .plan, .twc, .fab] missWords s (noGrant y.use (raise Ev.COX.NO_GRANT t)) :=
    frame_trans (frame_raise (by decide) (by decide) h) (frame_mono (goesOn_noGrant _ _).frame (by decide) (by decide))
  have hm : w ∈ s.aux.waits.filter (fun w => decide (w.by_ ≤ s.epoch)) := List.mem_filter.mpr ⟨hw, by simpa using hb⟩
  refine completes_of_eq (t := grantTimeout s) rfl rfl ?_
  unfold grantTimeout
  dsimp only
  refine ⟨raised_finish (raised_forEach hm hr _), fun x hx => ?_,
    frame_finish (frame_forEach (fun y t _ h => hf y t h) (frame_aux (by simp) (frame_refl _ _ _)))⟩
  rw [finish_aux] at hx
  have hx' := forEach_waits hs _ hx
  exact (List.mem_filter.mp hx').imp id (fun h => by simpa using h)

/-- The registers that the limiter may change. -/
def limitWords : List Nat :=
  Reg.COX.STAT :: loAskWords .lof ++ loAskWords .lob ++
    evsWords [Ev.COX.LIMITED, Ev.LO.CAL_DEFERRED 0, Ev.LO.CAL_DEFERRED 1, Ev.AGC.CHECK_ABANDONED]

theorem limitCut_eq {since : Nat} (hs : s.aux.reqSince = some since) (hl : 20 * epochTicks ≤ s.time - since ∨ dutyTicks s ≤ usedTicks s) :
    limitCut s = forEach (s.aux.uses.filter (fun u => waitsForGrant s u || u == .window)) noGrant
      { raise Ev.COX.LIMITED (dropReq s) with aux := { (raise Ev.COX.LIMITED (dropReq s)).aux with waits := [] } } := by
  unfold limitCut
  simp only [hs]
  exact if_pos hl

theorem coexLimitCut_completes {since : Nat} (hs : s.aux.reqSince = some since)
    (hl : 20 * epochTicks ≤ s.time - since ∨ dutyTicks s ≤ usedTicks s) :
    completes .coexLimitCut s (fun t =>
      t.aux.reqSince = none ∧ t.aux.uses = [] ∧ t.flag Fld.COX.STAT.REQ = false ∧ raised t Ev.COX.LIMITED ∧
      frame [.aux, .loops, .plan, .twc, .fab] limitWords s t) := by
  refine completes_of_eq rfl (limitCut_eq hs hl) ?_
  obtain ⟨d1, d2, d3, d4⟩ := dropReq_shows hs
  have u1 : (raise Ev.COX.LIMITED (dropReq s)).aux = (dropReq s).aux := raise_aux _ _
  have u2 : (raise Ev.COX.LIMITED (dropReq s)).flag Fld.COX.STAT.REQ = false := (flag_raise _ _ (by decide) (by decide)).trans d4
  have u3 := raised_raise Ev.COX.LIMITED (dropReq s)
  have u4 : frame [.aux, .loops, .plan, .twc, .fab] limitWords s (raise Ev.COX.LIMITED (dropReq s)) :=
    frame_raise (by decide) (by decide) (frame_mono (frame_dropReq s) (by simp) (by simp [limitWords]))
  generalize raise Ev.COX.LIMITED (dropReq s) = u at u1 u2 u3 u4 ⊢
  have w1 : ({ u with aux := { u.aux with waits := [] } } : State).aux.uses = [] := (congrArg Aux.uses u1).trans d1
  have w2 : ({ u with aux := { u.aux with waits := [] } } : State).aux.reqSince = none := (congrArg Aux.reqSince u1).trans d2
  have w3 : ({ u with aux := { u.aux with waits := [] } } : State).flag Fld.COX.STAT.REQ = false := (flag_of_regs rfl _).trans u2
  have w4 : keepsEvents u { u with aux := { u.aux with waits := [] } } := ⟨rfl, fun _ h => h, fun _ h => h⟩
  have w5 : frame [.aux, .loops, .plan, .twc, .fab] limitWords s { u with aux := { u.aux with waits := [] } } := frame_aux (by simp) u4
  generalize ({ u with aux := { u.aux with waits := [] } } : State) = w at w1 w2 w3 w4 w5 ⊢
  have k := goesOn_forEach (xs := s.aux.uses.filter (fun u => waitsForGrant s u || u == .window)) goesOn_noGrant w
  generalize forEach (s.aux.uses.filter (fun u => waitsForGrant s u || u == .window)) noGrant w = t at k ⊢
  obtain ⟨q1, q2, q3⟩ := k.quiet w1
  exact ⟨(congrArg Aux.reqSince (finish_aux s t)).trans (q2.trans w2), (congrArg Aux.uses (finish_aux s t)).trans q1,
    (finish_flag _ _ _).trans (q3.trans w3), raised_finish (raised_of_keepsEvents (keepsEvents_trans w4 k.events) u3),
    frame_finish (frame_trans w5 (frame_mono k.frame (by decide) (by decide)))⟩

theorem actChanged_shows (s t : State) :
    coexActive (actChanged s t) = coexActive t ∧ frame [.aux] [] t (actChanged s t) ∧
      (coexActive t ≠ coexActive s → (actChanged s t).aux.actSince = if coexActive t then some t.time else none) ∧
      (coexActive t = coexActive s → actChanged s t = t) := by
  unfold actChanged
  dsimp only
  split
  case isTrue h =>
    have e : coexActive s = coexActive t := by simpa using h
    exact ⟨rfl, frame_refl _ _ _, fun c => absurd e.symm c, fun _ => rfl⟩
  case isFalse h =>
    have e : ¬ coexActive s = coexActive t := by simpa using h
    exact ⟨rfl, frame_aux (by simp) (frame_refl _ _ _), fun _ => rfl, fun c => absurd c.symm e⟩

theorem coexActEdge_completes (high : Bool) (s : State) :
    completes (.coexActEdge high) s (fun t =>
      t.pwr.actHigh = high ∧ { t.pwr with pins := {}, actHigh := s.pwr.actHigh } = { s.pwr with pins := {} } ∧
      (coexActive t ≠ coexActive s → t.aux.actSince = if coexActive t then some s.time else none) ∧
      (coexActive t = coexActive s → t.aux = s.aux) ∧ frame [.pwr, .aux] [] s t) := by
  have hu : frame [.pwr, .aux] [] s { s with pwr := { s.pwr with actHigh := high } } := frame_pwr (by simp) (frame_refl _ _ _)
  refine completes_of_eq (t := actEdge high s) rfl rfl ?_
  unfold actEdge
  obtain ⟨ha, f, h1, h2⟩ := actChanged_shows s { s with pwr := { s.pwr with actHigh := high } }
  have e : { (actChanged s { s with pwr := { s.pwr with actHigh := high } }).pwr with pins := {} } = { s.pwr with actHigh := high, pins := {} } :=
    f.1 .pwr (by decide)
  have hp := congrArg (fun (w : Power) => { w with actHigh := s.pwr.actHigh }) e
  have hh := congrArg (fun (w : Power) => w.actHigh) e
  generalize actChanged s { s with pwr := { s.pwr with actHigh := high } } = t at ha f h1 h2 hp hh ⊢
  rw [coexActive_finish, ha, finish_aux]
  refine ⟨hh, hp, h1, fun h => ?_, frame_finish (frame_trans hu (frame_mono f (by simp) (by simp)))⟩
  rw [h2 h]

theorem coexActLong_completes {since : Nat} (hs : s.aux.actSince = some since) (hl : since + 10 * epochTicks < s.time) :
    completes .coexActLong s (fun t =>
      raised t Ev.COX.ACT_LONG ∧ t.aux.actSince = none ∧ frame [.aux, .twc, .fab] (evWords Ev.COX.ACT_LONG) s t) := by
  refine completes_of_eq (t := raise Ev.COX.ACT_LONG { s with aux := { s.aux with actSince := none } }) rfl ?_ ?_
  · rw [hs]
    exact if_pos hl
  · refine ⟨raised_finish (raised_raise _ _), ?_, frame_finish (frame_raise (by simp [evParts]) (fun _ h => h)
      (frame_aux (by simp) (frame_refl _ _ _)))⟩
    rw [finish_aux, raise_aux]

/-! ## The aerial feed (R51) -/

theorem aerialOn_of_latched (h : s.flag Fld.PMU.AER_STAT.LATCHED_OFF = true) : aerialOn s = false := by
  simp [aerialOn, h]

theorem aerialOn_of_thermal (h : s.flag Fld.PMU.AER_STAT.THERMAL = true) : aerialOn s = false := by
  simp [aerialOn, h]

theorem aerialLatch_eq (hon : aerialOn s = true) (hl : 5 ≤ s.aux.limiting) :
    aerialLatch s =
      let t := raise Ev.PMU.AER_SHORT ((s.put Fld.PMU.AER_STAT.LATCHED_OFF true).bumpSat Fld.PMU.AER_SHORT_CNT.COUNT)
      { t with aux := { t.aux with limiting := 0, retryAt := some (s.epoch + 1000) } } := by
  unfold aerialLatch
  exact if_pos (by simp [hon, hl])

theorem aerLatchOff_completes (hon : aerialOn s = true) (hl : 5 ≤ s.aux.limiting) :
    completes .aerLatchOff s (fun t =>
      wrote s t Fld.PMU.AER_STAT.LATCHED_OFF 1 ∧ t.get Fld.PMU.AER_SHORT_CNT.COUNT = min 65535 (s.get Fld.PMU.AER_SHORT_CNT.COUNT + 1) ∧
      t.aux.retryAt = some (s.epoch + 1000) ∧ t.pwr.pins.aerial = false ∧ raised t Ev.PMU.AER_SHORT ∧
      frame [.aux, .twc, .fab] ([Reg.PMU.AER_STAT, Reg.PMU.AER_SHORT_CNT] ++ evWords Ev.PMU.AER_SHORT) s t) := by
  have h1 : Apart Fld.PMU.AER_STAT.LATCHED_OFF Fld.PMU.AER_SHORT_CNT.COUNT := by decide
  have h2 : Apart Fld.PMU.AER_SHORT_CNT.COUNT Fld.PMU.AER_STAT.LATCHED_OFF := by decide
  refine completes_of_eq rfl (aerialLatch_eq hon hl) ?_
  dsimp only
  have b1 : wrote s ((s.put Fld.PMU.AER_STAT.LATCHED_OFF true).bumpSat Fld.PMU.AER_SHORT_CNT.COUNT) Fld.PMU.AER_STAT.LATCHED_OFF 1 :=
    wrote_of_word (wrote_set s Fld.PMU.AER_STAT.LATCHED_OFF 1) ((State.word_set _ _ _ _).trans (if_neg (by decide)))
  have b2 : ((s.put Fld.PMU.AER_STAT.LATCHED_OFF true).bumpSat Fld.PMU.AER_SHORT_CNT.COUNT).get Fld.PMU.AER_SHORT_CNT.COUNT =
      min 65535 (s.get Fld.PMU.AER_SHORT_CNT.COUNT + 1) := by
    rw [get_bumpSat (by decide), get_put_apart h1]
    rfl
  have b3 : ((s.put Fld.PMU.AER_STAT.LATCHED_OFF true).bumpSat Fld.PMU.AER_SHORT_CNT.COUNT).flag Fld.PMU.AER_STAT.LATCHED_OFF = true :=
    (flag_set_apart h2 _ _).trans (State.flag_put_same _ _ true (by decide) (by decide))
  have b4 : frame [.aux, .twc, .fab] ([Reg.PMU.AER_STAT, Reg.PMU.AER_SHORT_CNT] ++ evWords Ev.PMU.AER_SHORT) s
      ((s.put Fld.PMU.AER_STAT.LATCHED_OFF true).bumpSat Fld.PMU.AER_SHORT_CNT.COUNT) :=
    frame_bumpSat (by decide) (frame_put (by decide) (frame_refl _ _ _))
  generalize (s.put Fld.PMU.AER_STAT.LATCHED_OFF true).bumpSat Fld.PMU.AER_SHORT_CNT.COUNT = b at b1 b2 b3 b4 ⊢
  have c1 := wrote_of_word b1 (word_raise Ev.PMU.AER_SHORT b (by decide) (by decide))
  have c2 := (get_raise Ev.PMU.AER_SHORT b (by decide) (by decide)).trans b2
  have c3 := (flag_raise Ev.PMU.AER_SHORT b (by decide) (by decide)).trans b3
  have c4 := frame_raise (g := Ev.PMU.AER_SHORT) (by simp [evParts]) (List.subset_append_right _ _) b4
  have c5 := raised_raise Ev.PMU.AER_SHORT b
  generalize raise Ev.PMU.AER_SHORT b = t at c1 c2 c3 c4 c5 ⊢
  refine ⟨wrote_finish c1, (finish_get _ _ _).trans ((get_of_regs rfl _).trans c2), rfl, ?_, raised_finish c5,
    frame_finish (frame_aux (by simp) c4)⟩
  rw [finish_aerial]
  exact aerialOn_of_latched ((flag_of_regs rfl _).trans c3)

theorem aerRetry_completes {b : Nat} (hr : s.aux.retryAt = some b) (hb : b ≤ s.epoch) :
    completes .aerRetry s (fun t =>
      wrote s t Fld.PMU.AER_STAT.LATCHED_OFF 0 ∧ t.aux.retryAt = none ∧ frame [.aux] [Reg.PMU.AER_STAT] s t) := by
  refine completes_of_eq (t := { s.put Fld.PMU.AER_STAT.LATCHED_OFF false with aux := { s.aux with retryAt := none } }) rfl ?_ ?_
  · rw [hr]
    exact if_pos hb
  · exact ⟨wrote_finish (wrote_set s _ 0), rfl,
      frame_finish (frame_aux (by simp) (frame_put (List.mem_singleton.mpr rfl) (frame_refl _ _ _)))⟩

theorem aerThermalCut_completes (hon : aerialOn s = true) :
    completes .aerThermalCut s (fun t =>
      wrote s t Fld.PMU.AER_STAT.THERMAL 1 ∧ t.pwr.pins.aerial = false ∧ raised t Ev.PMU.AER_THERM ∧
      frame [.twc, .fab] (Reg.PMU.AER_STAT :: evWords Ev.PMU.AER_THERM) s t) := by
  refine completes_of_eq rfl (if_pos hon) ?_
  refine ⟨wrote_finish (wrote_of_word (wrote_set s _ 1) (word_raise _ _ (by decide) (by decide))), ?_, raised_finish (raised_raise _ _),
    frame_finish (frame_raise (by simp [evParts]) (List.subset_cons_self _ _) (frame_put List.mem_cons_self (frame_refl _ _ _)))⟩
  rw [finish_aerial]
  exact aerialOn_of_thermal ((flag_raise _ _ (by decide) (by decide)).trans (State.flag_put_same _ _ true (by decide) (by decide)))

/-- Settles O5: an activity without its grant loses no event and begins no wait (`goesOn_noGrant`), which carries the grant's timeout and the
limiter; the aerial feed follows its two status bits. -/
theorem coexAndAerialComplete : Obligations.CoexAndAerialComplete := by
  unfold Obligations.CoexAndAerialComplete
  refine ⟨?gntEdge, ?timeout, ?limit, ?actEdge, ?actLong, ?latch, ?retry, ?cut, ?restore⟩
  case gntEdge => exact fun high s => coexGntEdge_completes high s
  case timeout => exact fun s w hw hb => coexGrantTimeout_completes hw hb
  case limit => exact fun s since hs hl => coexLimitCut_completes hs hl
  case actEdge => exact fun high s => coexActEdge_completes high s
  case actLong => exact fun s since hs hl => coexActLong_completes hs hl
  case latch => exact fun s hon hl => aerLatchOff_completes hon hl
  case retry => exact fun s b hr hb => aerRetry_completes hr hb
  case cut => exact fun s hon => aerThermalCut_completes hon
  case restore =>
    exact fun s => completes_of_eq rfl rfl
      ⟨wrote_finish (wrote_set s _ 0), frame_finish (frame_put (List.mem_singleton.mpr rfl) (frame_refl _ _ _))⟩

end Sys2Proof.Machine.Capture

namespace Sys2Proof.Machine.Capture

variable {ps : List Part} {as : List Nat} {s t u : State} {p : Path} {v : Vhf} {port : Port} {w : Word}

/-! ## A path is brought to its span or tile (R33, R36, R40) -/

/-- A VHF path is brought to its span or tile; the LF path has neither. -/
def retilePath : Path → State → State
  | .lf, s => s
  | .fm, s => retile .fm s
  | .b3, s => retile .b3 s

theorem retilePath_vhf (v : Vhf) (s : State) : retilePath v.path s = retile v s := by
  cases v <;> rfl

theorem pathAskWords_vhf (v : Vhf) : pathAskWords v.path = loAskWords v.lo := by
  cases v <;> rfl

theorem frame_retilePath (hp : pathParts ⊆ ps) (ha : pathAskWords p ⊆ as) (h : frame ps as s t) : frame ps as s (retilePath p t) := by
  cases p with
  | lf => exact h
  | fm => exact frame_retile hp ha h
  | b3 => exact frame_retile hp ha h

theorem retile_off (h : pathOn s v.path = false ∨ modeNow s v.path = 2) : retile v s = s := by
  unfold retile
  exact if_pos (by rcases h with h | h <;> simp [h])

theorem retilePath_off (h : (pathOn s p = false ∨ p = .lf) ∨ modeNow s p = 2) : retilePath p s = s := by
  cases p with
  | lf => rfl
  | fm => exact retile_off (v := .fm) (h.imp (fun k => k.resolve_right (by decide)) id)
  | b3 => exact retile_off (v := .b3) (h.imp (fun k => k.resolve_right (by decide)) id)

theorem requestLo_paths (l : Lo) (r : LoReq) (s : State) : (requestLo l r s).paths = s.paths :=
  (frame_requestLo (fun _ h => h) (fun _ h => h) (frame_refl loParts (loAskWords l) s)).1 .paths (by decide)

theorem testAt_retuneTo (v : Vhf) (tile : Option Nat) (s : State) (p : Path) : ((retuneTo v tile s).path p).testAt = (s.path p).testAt := by
  rcases retuneTo_cases v tile s with e | ⟨r, e⟩ <;> rw [e]
  rw [path_of_paths (requestLo_paths _ _ _)]
  cases v <;> cases p <;> simp [State.setPath, State.path, upd, at', Path.idx, Vhf.path]

/-- Neither a retune nor the memory of the tile chosen moves the boundary on which a test begins. -/
theorem testAt_retile (v : Vhf) (s : State) (p : Path) : ((retile v s).path p).testAt = (s.path p).testAt := by
  unfold retile
  dsimp only
  split
  · rfl
  split
  · split
    · exact testAt_retuneTo v none s p
    · split
      · rw [testAt_keepChosen]
        split
        · rfl
        · exact testAt_retuneTo v _ s p
      · exact testAt_keepChosen v none s p
  · split
    · exact testAt_retuneTo v _ s p
    · split
      · exact testAt_retuneTo v none s p
      · rfl

theorem testAt_retilePath (q : Path) (s : State) (p : Path) : ((retilePath q s).path p).testAt = (s.path p).testAt := by
  cases q with
  | lf => rfl
  | fm => exact testAt_retile .fm s p
  | b3 => exact testAt_retile .b3 s p

theorem keepsEvents_setPath (p : Path) (f : PathState → PathState) (s : State) : keepsEvents s (s.setPath p f) :=
  keepsEvents_of_frame (ps := [.paths]) (as := []) (by simp) (by simp) (frame_setPath (by simp) (frame_refl _ _ _))

theorem keepsEvents_retuneTo (v : Vhf) (tile : Option Nat) (s : State) : keepsEvents s (retuneTo v tile s) := by
  rcases retuneTo_cases v tile s with e | ⟨r, e⟩ <;> rw [e]
  · exact keepsEvents_refl s
  · exact keepsEvents_trans (keepsEvents_setPath _ _ s) (keepsEvents_requestLo _ _ _)

theorem keepsEvents_keepChosen (v : Vhf) (tile : Option Nat) (s : State) : keepsEvents s (keepChosen v tile s) :=
  keepsEvents_setPath _ _ s

theorem keepsEvents_retile (v : Vhf) (s : State) : keepsEvents s (retile v s) := by
  unfold retile
  dsimp only
  split
  · exact keepsEvents_refl s
  split
  · split
    · exact keepsEvents_retuneTo v none s
    · split
      · refine keepsEvents_trans ?_ (keepsEvents_keepChosen _ _ _)
        split
        · exact keepsEvents_refl s
        · exact keepsEvents_retuneTo v _ s
      · exact keepsEvents_keepChosen v none s
  · split
    · exact keepsEvents_retuneTo v _ s
    · split
      · exact keepsEvents_retuneTo v none s
      · exact keepsEvents_refl s

theorem keepsEvents_retilePath (p : Path) (s : State) : keepsEvents s (retilePath p s) := by
  cases p with
  | lf => exact keepsEvents_refl s
  | fm => exact keepsEvents_retile .fm s
  | b3 => exact keepsEvents_retile .b3 s

theorem headedFor_congr {band : Option (Option Nat)} {hz : Nat} (h : t.lo v.lo = s.lo v.lo) : headedFor t v band hz = headedFor s v band hz := by
  simp only [headedFor, h]

/-! ## A front-end register is written (R36) -/

/-- The state after a write to a front-end register, before it acts: the word is stored, and the path asks anew for a rejected tile. -/
def written (port : Port) (p : Path) (a : Nat) (w : Word) (s : State) : State := askAnew p (stored port a w s)

theorem frame_written {a : Nat} : frame [.fab, .paths] [a] s (written port p a w s) :=
  frame_setPath (by simp) (frame_mono (frame_stored s) (by simp) (fun _ h => h))

theorem written_word (port : Port) (p : Path) (a : Nat) (w : Word) (s : State) : (written port p a w s).word a = afterWrite s port a w :=
  stored_word port a w s

theorem written_path (port : Port) (p : Path) (a : Nat) (w : Word) (s : State) :
    (written port p a w s).path p = { s.path p with rejected := none } :=
  path_setPath (stored port a w s) p (fun x => { x with rejected := none })

theorem written_lo (port : Port) (p : Path) (a : Nat) (w : Word) (s : State) (l : Lo) : (written port p a w s).lo l = s.lo l := rfl

theorem written_epoch (port : Port) (p : Path) (a : Nat) (w : Word) (s : State) : (written port p a w s).epoch = s.epoch := rfl

theorem written_get {a : Nat} {f : Field} (h : f.addr = a) (port : Port) (p : Path) (w : Word) (s : State) :
    (written port p a w s).get f = fieldOf (afterWrite s port a w) f.lo f.width := by
  rw [State.get, h, written_word]

/-- The registers of the front ends that a host writes. -/
def frontEndRegs : List Nat := [Path.lf, Path.fm, Path.b3].flatMap (fun p => [Reg.FE.CTRL p.idx, Reg.FE.TILE_CENTRE p.idx])

theorem feCtrl_mem (p : Path) : Reg.FE.CTRL p.idx ∈ frontEndRegs := by
  cases p <;> decide

theorem tileCentre_mem (p : Path) : Reg.FE.TILE_CENTRE p.idx ∈ frontEndRegs := by
  cases p <;> decide

theorem written_pathOn {a : Nat} (h : a ∈ frontEndRegs) (port : Port) (q : Path) (w : Word) (s : State) (p : Path) :
    pathOn (written port q a w s) p = pathOn s p := by
  have hb : ∀ a ∈ frontEndRegs, Reg.RGL.BAND_PLAN ∉ [a] := by decide
  exact frame_pathOn frame_written (by decide) (hb a h) p

theorem written_modeNow {a : Nat} (h : a ∈ frontEndRegs) (port : Port) (q : Path) (w : Word) (s : State) (p : Path) :
    modeNow (written port q a w s) p = modeNow s p := by
  have hb : ∀ a ∈ frontEndRegs, ∀ p ∈ [Path.lf, .fm, .b3], Reg.FE.STAT p.idx ∉ [a] := by decide
  exact frame_modeNow frame_written (hb a h p (by cases p <;> simp))

theorem written_tileNow {a : Nat} (h : a ∈ frontEndRegs) (port : Port) (q : Path) (w : Word) (s : State) (p : Path) :
    tileNow (written port q a w s) p = tileNow s p := by
  have hb : ∀ a ∈ frontEndRegs, ∀ p ∈ [Path.lf, .fm, .b3], (Fld.FE.TILE_NOW.KHZ p.idx).addr ∉ [a] := by decide
  exact tileNow_congr (written_modeNow h port q w s p) (frame_get frame_written (hb a h p (by cases p <;> simp)))

theorem written_test (port : Port) (p : Path) (w : Word) (b : Bool) (s : State) :
    (written port p (Reg.FE.CTRL p.idx) (feCtrlWord w b) s).flag (Fld.FE.CTRL.TEST p.idx) = b := by
  have e := written_get (a := Reg.FE.CTRL p.idx) (f := Fld.FE.CTRL.TEST p.idx) rfl port p (feCtrlWord w b) s
  have h : fieldOf (afterWrite s port (Reg.FE.CTRL p.idx) (feCtrlWord w b)) 2 1 = b.toNat :=
    ((fieldOf_afterWrite_feCtrl s port p _).1).trans (fieldOf_feCtrlWord w b).2.1
  rw [State.flag, e.trans h]
  cases b <;> rfl

theorem written_force (port : Port) (p : Path) (w : Word) (b : Bool) (s : State) :
    (written port p (Reg.FE.CTRL p.idx) (feCtrlWord w b) s).flag (Fld.FE.CTRL.FORCE p.idx) = w.getLsbD 3 := by
  have e := written_get (a := Reg.FE.CTRL p.idx) (f := Fld.FE.CTRL.FORCE p.idx) rfl port p (feCtrlWord w b) s
  have h : fieldOf (afterWrite s port (Reg.FE.CTRL p.idx) (feCtrlWord w b)) 3 1 = fieldOf w 3 1 :=
    ((fieldOf_afterWrite_feCtrl s port p _).2).trans (fieldOf_feCtrlWord w b).2.2
  rw [State.flag, e.trans h, getLsbD_eq_fieldOf]

theorem written_mode {m : Nat} (h : fieldOf w 0 2 = m) (hm : m ≠ 3) (b : Bool) :
    (written port v.path (Reg.FE.CTRL v.path.idx) (feCtrlWord w b) s).get (Fld.FE.CTRL.MODE v.path.idx) = m := by
  have e := written_get (f := Fld.FE.CTRL.MODE v.path.idx) rfl port v.path (feCtrlWord w b) s
  have hw : fieldOf (feCtrlWord w b) 0 2 = m := (fieldOf_feCtrlWord w b).1.trans h
  exact e.trans ((mode_afterWrite_feCtrl s port v _ (by rw [hw]; exact hm)).trans hw)

/-- What a write of a front-end CTRL register does: where TEST rises a test is asked for, where it falls the test ends; then the path
is brought to its span or tile. -/
theorem writeFeCtrl_eq (port : Port) (p : Path) (w : Word) (s : State) :
    writeFeCtrl port p w (keyOpen s (Reg.FE.CTRL p.idx / 4096) port) (closeKey (Reg.FE.CTRL p.idx / 4096) s) =
      retilePath p (if (written port p (Reg.FE.CTRL p.idx) w s).flag (Fld.FE.CTRL.TEST p.idx) && !(s.flag (Fld.FE.CTRL.TEST p.idx)) then
          testRequested p (written port p (Reg.FE.CTRL p.idx) w s)
        else if s.flag (Fld.FE.CTRL.TEST p.idx) && !((written port p (Reg.FE.CTRL p.idx) w s).flag (Fld.FE.CTRL.TEST p.idx)) then
          testEnded p (written port p (Reg.FE.CTRL p.idx) w s)
        else written port p (Reg.FE.CTRL p.idx) w s) := by
  have hk : (closeKey (Reg.FE.CTRL p.idx / 4096) s).flag (Fld.FE.CTRL.TEST p.idx) = s.flag (Fld.FE.CTRL.TEST p.idx) := flag_of_regs rfl _
  unfold writeFeCtrl
  rw [plainWrite_stored port w s (feCtrl_plain p).1 (feCtrl_plain p).2.1, hk]
  unfold written
  dsimp only
  cases p <;> rfl

/-- A write that leaves TEST as it stands only brings its path to its span or tile. -/
theorem pathModeWrite_completes {Q : State → Prop} (hl : lets s (Reg.FE.CTRL p.idx) = true)
    (k : Q (finish s (retilePath p (written port p (Reg.FE.CTRL p.idx) (feCtrlWord w (s.flag (Fld.FE.CTRL.TEST p.idx))) s)))) :
    completes (.pathModeWrite port p w) s Q := by
  refine completes_of_eq rfl ((hostWrite_acts hl (feCtrl_plain p).2.2).trans ?_) k
  rw [writeFeCtrl_eq, written_test]
  congr 1
  cases s.flag (Fld.FE.CTRL.TEST p.idx) <;> rfl

theorem pathTestEnter_completes {Q : State → Prop} (hl : lets s (Reg.FE.CTRL p.idx) = true) (ht : s.flag (Fld.FE.CTRL.TEST p.idx) = false)
    (k : Q (finish s (retilePath p (testRequested p (written port p (Reg.FE.CTRL p.idx) (feCtrlWord w true) s))))) :
    completes (.pathTestEnter port p w) s Q := by
  refine completes_of_eq rfl ((hostWrite_acts hl (feCtrl_plain p).2.2).trans ?_) k
  rw [writeFeCtrl_eq, written_test, ht]
  rfl

theorem pathTestExit_completes {Q : State → Prop} (hl : lets s (Reg.FE.CTRL p.idx) = true) (ht : s.flag (Fld.FE.CTRL.TEST p.idx) = true)
    (k : Q (finish s (retilePath p (testEnded p (written port p (Reg.FE.CTRL p.idx) (feCtrlWord w false) s))))) :
    completes (.pathTestExit port p w) s Q := by
  refine completes_of_eq rfl ((hostWrite_acts hl (feCtrl_plain p).2.2).trans ?_) k
  rw [writeFeCtrl_eq, written_test, ht]
  rfl

theorem tileCentreWrite_completes {Q : State → Prop} (hl : lets s (Reg.FE.TILE_CENTRE v.path.idx) = true)
    (k : Q (finish s (retilePath v.path (written port v.path (Reg.FE.TILE_CENTRE v.path.idx) w s)))) :
    completes (.tileCentreWrite port v w) s Q := by
  refine completes_of_eq rfl ((hostWrite_acts hl (tileCentre_plain v).2.2).trans ?_) k
  rw [writeTileCentre, plainWrite_stored port w s (tileCentre_plain v).1 (tileCentre_plain v).2.1, retilePath_vhf]
  rfl

/-! ## Span and tile asked for by the host (R33, R36) -/

/-- An LO request of a path leaves the front-end registers. -/
theorem frontEnd_not_asked {a : Nat} (h : a ∈ frontEndRegs) (p : Path) : a ∉ pathAskWords p := by
  have hb : ∀ a ∈ frontEndRegs, ∀ p ∈ [Path.lf, .fm, .b3], a ∉ pathAskWords p := by decide
  exact hb a h p (by cases p <;> simp)

theorem word_retilePath {a : Nat} (h : a ∈ frontEndRegs) (p : Path) (s : State) : (retilePath p s).word a = s.word a :=
  frame_word (frame_retilePath (fun _ h => h) (fun _ h => h) (frame_refl pathParts _ s)) (frontEnd_not_asked h p)

/-- What a front-end write leaves that only brings its path to its span or tile. -/
theorem frame_written_retile {a : Nat} :
    frame [.fab, .plan, .loops, .paths, .twc] (a :: pathAskWords p) s (retilePath p (written port p a w s)) :=
  frame_retilePath (by decide) (List.subset_cons_self _ _) (frame_mono frame_written (by simp) (by simp))

theorem frame_written_retile_off {a : Nat} (ha : a ∈ frontEndRegs) (h : pathOn s p = false ∨ p = .lf) :
    frame [.fab, .paths] [a] s (retilePath p (written port p a w s)) := by
  rw [retilePath_off (.inl (h.imp_left (fun k => (written_pathOn ha port p w s p).trans k)))]
  exact frame_written

/-- A path in span that is set to tile asks for the tile. -/
theorem retile_toTile (hon : pathOn s v.path = true) (hm : modeNow s v.path = 0) (ha : s.get (Fld.FE.CTRL.MODE v.path.idx) = 2)
    (ht : (s.path v.path).testAt = none) : retile v s = retuneTo v (some (s.get (Fld.FE.TILE_CENTRE.KHZ v.path.idx))) s := by
  simp [retile, hon, hm, ha, ht, tileNow_of_span hm]

/-- A path in tile that is set to span, or on which a test is to begin, asks for span. -/
theorem retile_toSpan (hon : pathOn s v.path = true) (ht : (tileNow s v.path).isSome = true)
    (h : s.get (Fld.FE.CTRL.MODE v.path.idx) = 1 ∨ (s.path v.path).testAt.isSome = true) : retile v s = retuneTo v none s := by
  obtain ⟨c, hc⟩ := Option.isSome_iff_exists.mp ht
  have hm := modeNow_of_tile ht
  unfold retile
  simp only [hon, hm, hc, h, Bool.not_true, Bool.false_or, Nat.reduceBEq, Bool.false_eq_true, ↓reduceIte]

/-- A path in a forced tile moves to the tile centre set. -/
theorem retile_moves {c : Nat} (hon : pathOn s v.path = true) (hc : tileNow s v.path = some c) (ha : s.get (Fld.FE.CTRL.MODE v.path.idx) = 2)
    (ht : (s.path v.path).testAt = none) (hp : (s.lo v.lo).pass = none) (hd : s.get (Fld.FE.TILE_CENTRE.KHZ v.path.idx) ≠ c) :
    retile v s = keepChosen v (some (s.get (Fld.FE.TILE_CENTRE.KHZ v.path.idx)))
      (retuneTo v (some (s.get (Fld.FE.TILE_CENTRE.KHZ v.path.idx))) s) := by
  have hm : modeNow s v.path = 1 := modeNow_of_tile (by rw [hc]; rfl)
  simp [retile, hon, hm, hc, ha, ht, wantedTile, passRuns, hp, hd]

theorem loAsked_retuneTo_of_written {a : Nat} {tile : Option Nat} {hz : Nat} {band : Option (Option Nat)} (ha : a ∈ frontEndRegs)
    (hon : pathOn s v.path = true) (hh : hz = (match tile with | some c => c * 1000 | none => spanHz v))
    (hb : band = if (tileNow s v.path).isSome == tile.isSome then none else some tile) (hf : headedFor s v band hz = false) :
    loAsked s (retuneTo v tile (written port v.path a w s)) v.lo { kind := .retune, hz := hz, band := band } := by
  refine loAsked_retuneTo ((written_pathOn ha _ _ _ _ _).trans hon) hh (by rw [written_tileNow ha]; exact hb)
    ((headedFor_congr (written_lo _ _ _ _ _ _)).trans hf) ?_ (written_lo _ _ _ _ _ _).symm (written_epoch _ _ _ _ _).symm
  rw [written_path]
  cases tile
  · exact .inl rfl
  · exact .inr (by simp)

theorem pathModeWrite_toTile {c : Nat} (hl : lets s (Reg.FE.CTRL v.path.idx) = true) (hon : pathOn s v.path = true)
    (hm : modeNow s v.path = 0) (ht : s.flag (Fld.FE.CTRL.TEST v.path.idx) = false) (ha : (s.path v.path).testAt = none)
    (hw : fieldOf w 0 2 = 2) (hc : s.get (Fld.FE.TILE_CENTRE.KHZ v.path.idx) = c) (hf : headedFor s v (some (some c)) (c * 1000) = false) :
    completes (.pathModeWrite port v.path w) s (fun t =>
      t.word (Reg.FE.CTRL v.path.idx) = afterWrite s port (Reg.FE.CTRL v.path.idx) (feCtrlWord w false) ∧
      t.get (Fld.FE.CTRL.MODE v.path.idx) = 2 ∧ loAsked s t v.lo { kind := .retune, hz := c * 1000, band := some (some c) } ∧
      frame [.fab, .plan, .loops, .paths, .twc] (Reg.FE.CTRL v.path.idx :: loAskWords v.lo) s t) := by
  refine pathModeWrite_completes hl ?_
  rw [ht]
  have k : frame _ _ s (retilePath v.path (written port v.path (Reg.FE.CTRL v.path.idx) (feCtrlWord w false) s)) := frame_written_retile
  have hk := (word_retilePath (feCtrl_mem v.path) v.path (written port v.path (Reg.FE.CTRL v.path.idx) (feCtrlWord w false) s))
  have hmode := written_mode (port := port) (s := s) (v := v) hw (by decide) false
  have htc : (written port v.path (Reg.FE.CTRL v.path.idx) (feCtrlWord w false) s).get (Fld.FE.TILE_CENTRE.KHZ v.path.idx) = c :=
    (frame_get frame_written (by cases v <;> decide)).trans hc
  have e := retile_toTile (v := v) ((written_pathOn (feCtrl_mem v.path) port v.path (feCtrlWord w false) s _).trans hon)
    ((written_modeNow (feCtrl_mem v.path) port v.path (feCtrlWord w false) s _).trans hm) hmode (by rw [written_path]; exact ha)
  have hask := loAsked_retuneTo_of_written (port := port) (w := feCtrlWord w false) (tile := some c) (feCtrl_mem v.path) hon rfl
    (by rw [tileNow_of_span hm]; rfl) hf
  rw [htc, ← retilePath_vhf] at e
  rw [← e] at hask
  rw [pathAskWords_vhf] at k
  refine ⟨(finish_word _ _ _).trans (hk.trans (written_word _ _ _ _ _)), (finish_get _ _ _).trans ?_, loAsked_finish hask, frame_finish k⟩
  exact (congrArg (fun x => fieldOf x 0 2) hk).trans hmode

theorem pathModeWrite_toSpan (hl : lets s (Reg.FE.CTRL v.path.idx) = true) (hon : pathOn s v.path = true)
    (ht : (tileNow s v.path).isSome = true) (hw : fieldOf w 0 2 = 1) (hf : headedFor s v (some none) (spanHz v) = false) :
    completes (.pathModeWrite port v.path w) s (fun t =>
      t.word (Reg.FE.CTRL v.path.idx) =
        afterWrite s port (Reg.FE.CTRL v.path.idx) (feCtrlWord w (s.flag (Fld.FE.CTRL.TEST v.path.idx))) ∧
      t.get (Fld.FE.CTRL.MODE v.path.idx) = 1 ∧ loAsked s t v.lo { kind := .retune, hz := spanHz v, band := some none } ∧
      frame [.fab, .plan, .loops, .paths, .twc] (Reg.FE.CTRL v.path.idx :: loAskWords v.lo) s t) := by
  refine pathModeWrite_completes hl ?_
  generalize s.flag (Fld.FE.CTRL.TEST v.path.idx) = b
  have k : frame _ _ s (retilePath v.path (written port v.path (Reg.FE.CTRL v.path.idx) (feCtrlWord w b) s)) := frame_written_retile
  have hk := (word_retilePath (feCtrl_mem v.path) v.path (written port v.path (Reg.FE.CTRL v.path.idx) (feCtrlWord w b) s))
  have hmode := written_mode (port := port) (s := s) (v := v) hw (by decide) b
  have e := retile_toSpan (v := v) ((written_pathOn (feCtrl_mem v.path) port v.path (feCtrlWord w b) s _).trans hon)
    (by rw [written_tileNow (feCtrl_mem v.path)]; exact ht) (.inl hmode)
  have hask := loAsked_retuneTo_of_written (port := port) (w := feCtrlWord w b) (tile := none) (feCtrl_mem v.path) hon rfl
    (by rw [ht]; rfl) hf
  rw [← retilePath_vhf] at e
  rw [← e] at hask
  rw [pathAskWords_vhf] at k
  refine ⟨(finish_word _ _ _).trans (hk.trans (written_word _ _ _ _ _)), (finish_get _ _ _).trans ?_, loAsked_finish hask, frame_finish k⟩
  exact (congrArg (fun x => fieldOf x 0 2) hk).trans hmode

theorem pathModeWrite_frames (hl : lets s (Reg.FE.CTRL p.idx) = true) :
    completes (.pathModeWrite port p w) s (fun t =>
      t.word (Reg.FE.CTRL p.idx) = afterWrite s port (Reg.FE.CTRL p.idx) (feCtrlWord w (s.flag (Fld.FE.CTRL.TEST p.idx))) ∧
      t.flag (Fld.FE.CTRL.TEST p.idx) = s.flag (Fld.FE.CTRL.TEST p.idx) ∧
      (pathOn s p = false ∨ p = .lf → frame [.fab, .paths] [Reg.FE.CTRL p.idx] s t) ∧
      frame [.fab, .plan, .loops, .paths, .twc] (Reg.FE.CTRL p.idx :: pathAskWords p) s t) := by
  refine pathModeWrite_completes hl ?_
  have htest := written_test port p w (s.flag (Fld.FE.CTRL.TEST p.idx)) s
  generalize s.flag (Fld.FE.CTRL.TEST p.idx) = b at htest ⊢
  have hk := (word_retilePath (feCtrl_mem p) p (written port p (Reg.FE.CTRL p.idx) (feCtrlWord w b) s))
  refine ⟨(finish_word _ _ _).trans (hk.trans (written_word _ _ _ _ _)), (finish_flag _ _ _).trans ?_,
    fun h => frame_finish (frame_written_retile_off (feCtrl_mem p) h), frame_finish frame_written_retile⟩
  exact (congrArg (fun x => fieldOf x 2 1 == 1) hk).trans htest

theorem tileCentreWrite_moves {c d : Nat} (hl : lets s (Reg.FE.TILE_CENTRE v.path.idx) = true) (hon : pathOn s v.path = true)
    (hc : tileNow s v.path = some c) (ha : s.get (Fld.FE.CTRL.MODE v.path.idx) = 2) (ht : (s.path v.path).testAt = none)
    (hp : (s.lo v.lo).pass = none) (hw : fieldOf (afterWrite s port (Reg.FE.TILE_CENTRE v.path.idx) w) 0 18 = d) (hd : d ≠ c)
    (hf : headedFor s v none (d * 1000) = false) :
    completes (.tileCentreWrite port v w) s (fun t =>
      t.word (Reg.FE.TILE_CENTRE v.path.idx) = afterWrite s port (Reg.FE.TILE_CENTRE v.path.idx) w ∧
      loAsked s t v.lo { kind := .retune, hz := d * 1000 } ∧
      frame [.fab, .plan, .loops, .paths, .twc] (Reg.FE.TILE_CENTRE v.path.idx :: loAskWords v.lo) s t) := by
  refine tileCentreWrite_completes hl ?_
  have k : frame _ _ s (retilePath v.path (written port v.path (Reg.FE.TILE_CENTRE v.path.idx) w s)) := frame_written_retile
  have hk := word_retilePath (tileCentre_mem v.path) v.path (written port v.path (Reg.FE.TILE_CENTRE v.path.idx) w s)
  have htc : (written port v.path (Reg.FE.TILE_CENTRE v.path.idx) w s).get (Fld.FE.TILE_CENTRE.KHZ v.path.idx) = d :=
    (written_get (f := Fld.FE.TILE_CENTRE.KHZ v.path.idx) rfl port v.path w s).trans hw
  have hmode : (written port v.path (Reg.FE.TILE_CENTRE v.path.idx) w s).get (Fld.FE.CTRL.MODE v.path.idx) = 2 :=
    (frame_get frame_written (by cases v <;> decide)).trans ha
  have e := retile_moves (v := v) ((written_pathOn (tileCentre_mem v.path) port v.path w s _).trans hon)
    ((written_tileNow (tileCentre_mem v.path) port v.path w s _).trans hc) hmode (by rw [written_path]; exact ht)
    ((congrArg LoState.pass (written_lo port v.path _ w s v.lo)).trans hp) (by rw [htc]; exact hd)
  have hask := loAsked_retuneTo_of_written (port := port) (w := w) (tile := some d) (tileCentre_mem v.path) hon rfl (by rw [hc]; rfl) hf
  rw [htc, ← retilePath_vhf] at e
  rw [pathAskWords_vhf] at k
  refine ⟨(finish_word _ _ _).trans (hk.trans (written_word _ _ _ _ _)), loAsked_finish ?_, frame_finish k⟩
  rw [e]
  exact loAsked_keepChosen hask

theorem tileCentreWrite_frames (hl : lets s (Reg.FE.TILE_CENTRE v.path.idx) = true) :
    completes (.tileCentreWrite port v w) s (fun t =>
      t.word (Reg.FE.TILE_CENTRE v.path.idx) = afterWrite s port (Reg.FE.TILE_CENTRE v.path.idx) w ∧
      (pathOn s v.path = false → frame [.fab, .paths] [Reg.FE.TILE_CENTRE v.path.idx] s t) ∧
      frame [.fab, .plan, .loops, .paths, .twc] (Reg.FE.TILE_CENTRE v.path.idx :: loAskWords v.lo) s t) := by
  refine tileCentreWrite_completes hl ?_
  have k : frame _ _ s (retilePath v.path (written port v.path (Reg.FE.TILE_CENTRE v.path.idx) w s)) := frame_written_retile
  have hk := word_retilePath (tileCentre_mem v.path) v.path (written port v.path (Reg.FE.TILE_CENTRE v.path.idx) w s)
  rw [pathAskWords_vhf] at k
  exact ⟨(finish_word _ _ _).trans (hk.trans (written_word _ _ _ _ _)),
    fun h => frame_finish (frame_written_retile_off (tileCentre_mem v.path) (.inl h)), frame_finish k⟩

end Sys2Proof.Machine.Capture

namespace Sys2Proof.Machine.Capture

variable {ps : List Part} {as : List Nat} {s t u : State} {p : Path} {v : Vhf} {port : Port} {w : Word}

/-! ## Manual gain (R30, R31) -/

/-- A posted gain step stands aside for one of another path (R20.1). -/
theorem spares_gain {p q : Path} (h : p ≠ q) (k j want : Nat) (x y : GainWhy) : spares (.gain p k x) (want, [.gain q j y]) := by
  intro d hd
  rw [List.mem_singleton.mp hd]
  cases p <;> cases q <;> first | exact absurd rfl h | rfl

/-- A path in MANUAL posts its step. -/
def postManual (p : Path) (s : State) : State :=
  if pathOn s p && agcMode s p == 2 then postSoon (.gain p (manStep s p) .manual) s else s

theorem postManual_cases (p : Path) (s : State) :
    (pathOn s p = true ∧ agcMode s p = 2 ∧ postManual p s = postAll [.gain p (manStep s p) .manual] 0 s) ∨
      (¬ (pathOn s p = true ∧ agcMode s p = 2) ∧ postManual p s = s) := by
  unfold postManual
  split
  case isTrue h =>
    obtain ⟨h1, h2⟩ := Bool.and_eq_true_iff.mp h
    exact .inl ⟨h1, beq_iff_eq.mp h2, rfl⟩
  case isFalse h => exact .inr ⟨fun ⟨h1, h2⟩ => h (by simp [h1, h2]), rfl⟩

theorem frame_postManual (hp : Part.plan ∈ ps) (ha : planWords ⊆ as) (h : frame ps as s t) : frame ps as s (postManual p t) := by
  rcases postManual_cases p t with ⟨_, _, e⟩ | ⟨_, e⟩ <;> rw [e]
  · exact frame_posted hp ha h
  · exact h

/-- Posting changes neither which paths are powered and in MANUAL, nor their steps. -/
theorem manual_of_frame (h : frame [.plan] planWords s t) (p : Path) :
    pathOn t p = pathOn s p ∧ agcMode t p = agcMode s p ∧ manStep t p = manStep s p :=
  ⟨frame_pathOn h (by decide) (by decide) p, frame_get h (show Reg.AGC.CTRL ∉ planWords by decide),
    frame_get h (show Reg.AGC.MAN_STEP ∉ planWords by decide)⟩

/-- The manual step of a path is under way in `t`, where `s` has the path powered and in MANUAL. -/
def manualUnderWay (s t : State) (p : Path) : Prop :=
  pathOn s p = true → agcMode s p = 2 → underWay (.gain p (manStep s p) .manual) (0, [.gain p (manStep s p) .manual]) (max 0 (s.epoch + 2)) t

theorem manualUnderWay_self (h : frame [.plan] planWords s t) (p : Path) : manualUnderWay s (postManual p t) p := by
  obtain ⟨h1, h2, h3⟩ := manual_of_frame h p
  intro hon hm
  rcases postManual_cases p t with ⟨_, _, e⟩ | ⟨hn, _⟩
  · rw [e, h3, ← frame_epoch h (by decide)]
    exact underWay_postAll (asksFor_gain _ _ _ _) t
  · exact absurd ⟨h1.trans hon, h2.trans hm⟩ hn

theorem manualUnderWay_other {q : Path} (hpq : p ≠ q) (h : frame [.plan] planWords s t) (k : manualUnderWay s t p) :
    manualUnderWay s (postManual q t) p := by
  intro hon hm
  rcases postManual_cases q t with ⟨_, _, e⟩ | ⟨_, e⟩ <;> rw [e]
  · refine underWay_postAll_other (asksFor_gain _ _ _ _) ?_ (spares_gain hpq _ _ _ _ _) rfl (k hon hm)
    rw [frame_epoch h (by decide)]
  · exact k hon hm

/-- The steps of the paths in MANUAL are posted, each for itself. -/
def postManuals (s : State) : State := postManual .b3 (postManual .fm (postManual .lf s))

theorem frame_postManuals (hp : Part.plan ∈ ps) (ha : planWords ⊆ as) (h : frame ps as s t) : frame ps as s (postManuals t) :=
  frame_postManual hp ha (frame_postManual hp ha (frame_postManual hp ha h))

theorem postManuals_underWay (s : State) (p : Path) : manualUnderWay s (postManuals s) p := by
  have f0 : frame [.plan] planWords s s := frame_refl _ _ _
  have f1 : frame [.plan] planWords s (postManual .lf s) := frame_postManual (by simp) (fun _ h => h) f0
  have f2 : frame [.plan] planWords s (postManual .fm (postManual .lf s)) := frame_postManual (by simp) (fun _ h => h) f1
  cases p with
  | lf => exact manualUnderWay_other (by decide) f2 (manualUnderWay_other (by decide) f1 (manualUnderWay_self f0 .lf))
  | fm => exact manualUnderWay_other (by decide) f2 (manualUnderWay_self f1 .fm)
  | b3 => exact manualUnderWay_self f2 .b3

theorem postManuals_none (h : ∀ p : Path, ¬ (pathOn s p = true ∧ agcMode s p = 2)) : postManuals s = s := by
  have e (p : Path) : postManual p s = s := by
    rcases postManual_cases p s with ⟨h1, h2, _⟩ | ⟨_, e⟩
    · exact absurd ⟨h1, h2⟩ (h p)
    · exact e
  rw [postManuals, e, e, e]

theorem writeManStep_eq (port : Port) (w : Word) (s : State) :
    writeManStep port w (keyOpen s (Reg.AGC.MAN_STEP / 4096) port) (closeKey (Reg.AGC.MAN_STEP / 4096) s) =
      postManuals (stored port Reg.AGC.MAN_STEP w s) := by
  unfold writeManStep
  rw [plainWrite_stored port w s manStep_plain.1 manStep_plain.2.1]
  rfl

theorem agcManStepWrite_completes (hl : lets s Reg.AGC.MAN_STEP = true) :
    completes (.agcManStepWrite port w) s (fun t =>
      t.word Reg.AGC.MAN_STEP = afterWrite s port Reg.AGC.MAN_STEP w ∧
      (∀ p : Path, pathOn s p = true → agcMode s p = 2 → asked s t (.gain p (manStep t p) .manual) 0) ∧
      ((∀ p : Path, ¬ (pathOn s p = true ∧ agcMode s p = 2)) → t.plan = s.plan ∧ t.planWait = s.planWait) ∧
      frame [.fab, .plan] (Reg.AGC.MAN_STEP :: planWords) s t) := by
  refine completes_of_eq rfl ((hostWrite_acts hl manStep_plain.2.2).trans (writeManStep_eq port w s)) ?_
  have hw := stored_word port Reg.AGC.MAN_STEP w s
  have hf : frame [.fab] [Reg.AGC.MAN_STEP] s (stored port Reg.AGC.MAN_STEP w s) := frame_stored s
  generalize stored port Reg.AGC.MAN_STEP w s = a at hw hf ⊢
  have hon (p : Path) : pathOn a p = pathOn s p := frame_pathOn hf (by decide) (by decide) p
  have hm (p : Path) : agcMode a p = agcMode s p := frame_get hf (show Reg.AGC.CTRL ∉ [Reg.AGC.MAN_STEP] by decide)
  have he : a.epoch = s.epoch := frame_epoch hf (by decide)
  have k : frame [.plan] planWords a (postManuals a) := frame_postManuals (by simp) (fun _ h => h) (frame_refl _ _ _)
  have hu := postManuals_underWay a
  have hn := fun h => postManuals_none (s := a) h
  have hpl : Part.plan.same s a := hf.1 .plan (by decide)
  generalize postManuals a = t at k hu hn ⊢
  refine ⟨(finish_word _ _ _).trans ((frame_word k (by decide)).trans hw), fun p h1 h2 => asked_finish ?_, fun h => ?_,
    frame_finish (frame_trans (frame_mono hf (by simp) (by simp)) (frame_mono k (by simp) (List.subset_cons_self _ _)))⟩
  · have hs : manStep (finish s t) p = manStep a p := (finish_get _ _ _).trans (manual_of_frame k p).2.2
    rw [hs]
    exact asked_of_underWay (List.mem_singleton.mpr rfl) (by rw [he]) (hu p ((hon p).trans h1) ((hm p).trans h2))
  · have e := hn (fun p ⟨h1, h2⟩ => h p ⟨(hon p).symm.trans h1, (hm p).symm.trans h2⟩)
    rw [finish_plan, finish_planWait, e]
    exact ⟨hpl.1, hpl.2.1⟩

/-! ## The end of a path test (R40) -/

theorem pathTestExit_frames (hl : lets s (Reg.FE.CTRL p.idx) = true) (ht : s.flag (Fld.FE.CTRL.TEST p.idx) = true)
    (hm : modeNow s p ≠ 2) :
    completes (.pathTestExit port p w) s (fun t =>
      t.word (Reg.FE.CTRL p.idx) = afterWrite s port (Reg.FE.CTRL p.idx) (feCtrlWord w false) ∧
      t.flag (Fld.FE.CTRL.TEST p.idx) = false ∧ (t.path p).testAt = (s.path p).testAt ∧
      frame [.fab, .plan, .loops, .paths, .twc] (Reg.FE.CTRL p.idx :: pathAskWords p) s t) := by
  refine pathTestExit_completes hl ht ?_
  have e : testEnded p (written port p (Reg.FE.CTRL p.idx) (feCtrlWord w false) s) = written port p (Reg.FE.CTRL p.idx) (feCtrlWord w false) s :=
    if_neg (by rwa [written_modeNow (feCtrl_mem p)])
  have htest := written_test port p w false s
  have hk := word_retilePath (feCtrl_mem p) p (written port p (Reg.FE.CTRL p.idx) (feCtrlWord w false) s)
  have ha := testAt_retilePath p (written port p (Reg.FE.CTRL p.idx) (feCtrlWord w false) s) p
  rw [e]
  refine ⟨(finish_word _ _ _).trans (hk.trans (written_word _ _ _ _ _)), (finish_flag _ _ _).trans ?_, ?_, frame_finish frame_written_retile⟩
  · exact (congrArg (fun x => fieldOf x 2 1 == 1) hk).trans htest
  · rw [finish_path, ha, written_path]

theorem releaseReq_check (use : CoexUse) (s : State) : (releaseReq use s).aux.check = s.aux.check := by
  have hd (t : State) : (dropReq t).aux.check = t.aux.check := by
    unfold dropReq
    split <;> rfl
  unfold releaseReq
  dsimp only
  split
  · rfl
  · split
    · rw [hd]
    · rfl

theorem frame_abandonCheck (s : State) : frame [.aux, .twc, .fab] (Reg.COX.STAT :: evWords Ev.AGC.CHECK_ABANDONED) s (abandonCheck p s) := by
  unfold abandonCheck
  split
  · split
    · exact frame_raise (by simp [evParts]) (List.subset_cons_self _ _)
        (frame_releaseReq (by simp) List.mem_cons_self (frame_aux (by simp) (frame_refl _ _ _)))
    · exact frame_refl _ _ _
  · exact frame_refl _ _ _

/-- The check in progress on a path ends, and its end is raised. -/
theorem abandonCheck_shows {c : GainCheck} (hc : s.aux.check = some c) (hp : c.path = p) :
    (abandonCheck p s).aux.check = none ∧ raised (abandonCheck p s) Ev.AGC.CHECK_ABANDONED := by
  unfold abandonCheck
  rw [hc]
  simp only [hp, beq_self_eq_true, ↓reduceIte]
  exact ⟨by rw [raise_aux, releaseReq_check], raised_raise _ _⟩

theorem pathTestExit_ends (hl : lets s (Reg.FE.CTRL p.idx) = true) (ht : s.flag (Fld.FE.CTRL.TEST p.idx) = true)
    (hm : modeNow s p = 2) :
    completes (.pathTestExit port p w) s (fun t =>
      t.word (Reg.FE.CTRL p.idx) = afterWrite s port (Reg.FE.CTRL p.idx) (feCtrlWord w false) ∧
      t.flag (Fld.FE.CTRL.TEST p.idx) = false ∧ wrote s t Fld.INJ.CTRL.ENABLE 0 ∧
      (∀ c, s.aux.check = some c → c.path = p → t.aux.check = none ∧ raised t Ev.AGC.CHECK_ABANDONED) ∧
      frame [.fab, .aux, .paths, .twc] ([Reg.FE.CTRL p.idx, Reg.INJ.CTRL, Reg.COX.STAT] ++ evWords Ev.AGC.CHECK_ABANDONED) s t) := by
  refine pathTestExit_completes hl ht ?_
  have hword := written_word port p (Reg.FE.CTRL p.idx) (feCtrlWord w false) s
  have htest := written_test port p w false s
  have hmode := (written_modeNow (feCtrl_mem p) port p (feCtrlWord w false) s p).trans hm
  have hf : frame [.fab, .paths] [Reg.FE.CTRL p.idx] s (written port p (Reg.FE.CTRL p.idx) (feCtrlWord w false) s) := frame_written
  generalize written port p (Reg.FE.CTRL p.idx) (feCtrlWord w false) s = a at hword htest hmode hf ⊢
  have hne : Reg.INJ.CTRL ∉ [Reg.FE.CTRL p.idx] := by cases p <;> decide
  have hni : Reg.FE.CTRL p.idx ∉ [Reg.INJ.CTRL] := by cases p <;> decide
  have hnc : Reg.FE.CTRL p.idx ∉ Reg.COX.STAT :: evWords Ev.AGC.CHECK_ABANDONED := by cases p <;> decide
  have hns : Reg.FE.STAT p.idx ∉ Reg.INJ.CTRL :: Reg.COX.STAT :: evWords Ev.AGC.CHECK_ABANDONED := by cases p <;> decide
  have b1 : frame [] [Reg.INJ.CTRL] a (a.put Fld.INJ.CTRL.ENABLE false) := frame_put (by decide) (frame_refl _ _ _)
  have b2 : wrote s (a.put Fld.INJ.CTRL.ENABLE false) Fld.INJ.CTRL.ENABLE 0 :=
    (wrote_set a Fld.INJ.CTRL.ENABLE 0).trans (congrArg (fun x => withField x 0 1 0) (frame_word hf hne))
  have b3 : ∀ c, s.aux.check = some c → (a.put Fld.INJ.CTRL.ENABLE false).aux.check = some c := fun c hc => by
    rw [State.put_aux, ← hc]
    exact congrArg Aux.check (hf.1 .aux (by decide))
  have e : testEnded p a = abandonCheck p (a.put Fld.INJ.CTRL.ENABLE false) := if_pos hmode
  rw [e]
  generalize a.put Fld.INJ.CTRL.ENABLE false = b at b1 b2 b3 ⊢
  have c1 : frame [.aux, .twc, .fab] (Reg.COX.STAT :: evWords Ev.AGC.CHECK_ABANDONED) b (abandonCheck p b) := frame_abandonCheck b
  have c2 : frame [.aux, .twc, .fab] (Reg.INJ.CTRL :: Reg.COX.STAT :: evWords Ev.AGC.CHECK_ABANDONED) a (abandonCheck p b) :=
    frame_trans (frame_mono b1 (by simp) (by simp)) (frame_mono c1 (fun _ h => h) (List.subset_cons_self _ _))
  have c3 := fun c (hc : s.aux.check = some c) (hp : c.path = p) => abandonCheck_shows (b3 c hc) hp
  generalize abandonCheck p b = d at c1 c2 c3 ⊢
  rw [retilePath_off (.inr ((frame_modeNow c2 hns).trans hmode))]
  refine ⟨(finish_word _ _ _).trans ((frame_word c1 hnc).trans ((frame_word b1 hni).trans hword)),
    (finish_flag _ _ _).trans ((frame_flag c1 hnc).trans ((frame_flag b1 hni).trans htest)),
    wrote_finish (wrote_of_word b2 (frame_word c1 (by decide))), fun c hc hp => ?_, frame_finish (frame_trans (frame_mono hf (by simp) (by simp))
      (frame_mono c2 (by simp) (by simp)))⟩
  obtain ⟨k1, k2⟩ := c3 c hc hp
  exact ⟨(congrArg Aux.check (finish_aux s d)).trans k1, raised_finish k2⟩

/-! ## A path test that is refused (R40) -/

/-- The programmes' source registers. -/
theorem sourceRegs_apart (p : Path) : ∀ e ∈ allEntries, (Fld.PGM.CTRL.EN e.1).addr ∉ [Reg.FE.CTRL p.idx] ∧
    (Fld.PGM.SRC.KIND e.1 e.2).addr ∉ [Reg.FE.CTRL p.idx] ∧ (Fld.PGM.SRC.INST e.1 e.2).addr ∉ [Reg.FE.CTRL p.idx] := by
  cases p <;> decide

theorem written_feedingLanes (port : Port) (p : Path) (w : Word) (s : State) :
    feedingLanes (written port p (Reg.FE.CTRL p.idx) w s) = feedingLanes s := by
  have f : frame [.fab, .paths] [Reg.FE.CTRL p.idx] s (written port p (Reg.FE.CTRL p.idx) w s) := frame_written
  unfold feedingLanes
  congr 1
  refine List.filterMap_congr (fun e he => ?_)
  obtain ⟨h1, h2, h3⟩ := sourceRegs_apart p e he
  rw [frame_flag f h1, entryLane, entryLane, frame_get f h2, frame_get f h3]

theorem written_fed (port : Port) (p : Path) (w : Word) (s : State) :
    (feedingLanes (written port p (Reg.FE.CTRL p.idx) w s)).any (fun l => (written port p (Reg.FE.CTRL p.idx) w s).laneInUse l &&
      ((written port p (Reg.FE.CTRL p.idx) w s).lane l).path == p) = (feedingLanes s).any (fun l => s.laneInUse l && (s.lane l).path == p) := by
  rw [written_feedingLanes]
  rfl

theorem pathTestEnter_refused (hl : lets s (Reg.FE.CTRL p.idx) = true) (ht : s.flag (Fld.FE.CTRL.TEST p.idx) = false)
    (hr : pathOn s p = false ∨ (((feedingLanes s).any (fun l => s.laneInUse l && (s.lane l).path == p)) = true ∧ w.getLsbD 3 = false)) :
    completes (.pathTestEnter port p w) s (fun t =>
      t.flag (Fld.FE.CTRL.TEST p.idx) = false ∧ (t.path p).testAt = (s.path p).testAt ∧ raised t (Ev.FE.TEST_REFUSED p.idx) ∧
      frame [.fab, .twc, .plan, .loops, .paths] (Reg.FE.CTRL p.idx :: evWords (Ev.FE.TEST_REFUSED p.idx) ++ pathAskWords p) s t) := by
  refine pathTestEnter_completes hl ht ?_
  have e : testRequested p (written port p (Reg.FE.CTRL p.idx) (feCtrlWord w true) s) =
      raise (Ev.FE.TEST_REFUSED p.idx) ((written port p (Reg.FE.CTRL p.idx) (feCtrlWord w true) s).put (Fld.FE.CTRL.TEST p.idx) false) := by
    unfold testRequested
    dsimp only
    rw [written_fed, written_pathOn (feCtrl_mem p), written_force]
    exact if_pos (by rcases hr with h | ⟨h1, h2⟩ <;> simp_all)
  rw [e]
  have hpath := written_path port p (Reg.FE.CTRL p.idx) (feCtrlWord w true) s
  have hf : frame [.fab, .paths] [Reg.FE.CTRL p.idx] s (written port p (Reg.FE.CTRL p.idx) (feCtrlWord w true) s) := frame_written
  generalize written port p (Reg.FE.CTRL p.idx) (feCtrlWord w true) s = a at hpath hf ⊢
  have hoff : (Fld.FE.CTRL.TEST p.idx).addr % 4096 ≠ 16 ∧ (Fld.FE.CTRL.TEST p.idx).addr ≠ Reg.TWC.SKIP_CNT := by cases p <;> decide
  have b1 : (raise (Ev.FE.TEST_REFUSED p.idx) (a.put (Fld.FE.CTRL.TEST p.idx) false)).flag (Fld.FE.CTRL.TEST p.idx) = false :=
    (flag_raise _ _ hoff.1 hoff.2).trans (State.flag_put_same _ _ false (show 2 + 1 ≤ 32 by decide) (show 0 < 1 by decide))
  have b2 : ((raise (Ev.FE.TEST_REFUSED p.idx) (a.put (Fld.FE.CTRL.TEST p.idx) false)).path p).testAt = (s.path p).testAt := by
    rw [path_of_paths (raise_paths _ _), path_of_paths (State.put_paths _ _ _), hpath]
  have b3 := raised_raise (Ev.FE.TEST_REFUSED p.idx) (a.put (Fld.FE.CTRL.TEST p.idx) false)
  have b4 : frame [.fab, .twc, .plan, .loops, .paths] (Reg.FE.CTRL p.idx :: evWords (Ev.FE.TEST_REFUSED p.idx) ++ pathAskWords p) s
      (raise (Ev.FE.TEST_REFUSED p.idx) (a.put (Fld.FE.CTRL.TEST p.idx) false)) :=
    frame_raise (by decide) (fun _ h => List.mem_append_left _ (List.mem_cons_of_mem _ h))
      (frame_put (f := Fld.FE.CTRL.TEST p.idx) List.mem_cons_self (frame_mono hf (by simp) (by simp)))
  generalize raise (Ev.FE.TEST_REFUSED p.idx) (a.put (Fld.FE.CTRL.TEST p.idx) false) = b at b1 b2 b3 b4 ⊢
  refine ⟨(finish_flag _ _ _).trans ?_, ?_, raised_finish (raised_of_keepsEvents (keepsEvents_retilePath p b) b3),
    frame_finish (frame_retilePath (by decide) (List.subset_append_right _ _) b4)⟩
  · exact (congrArg (fun x => fieldOf x 2 1 == 1) (word_retilePath (feCtrl_mem p) p b)).trans b1
  · rw [finish_path, testAt_retilePath, b2]

end Sys2Proof.Machine.Capture

namespace Sys2Proof.Machine.Capture

variable {ps : List Part} {as : List Nat} {s t u : State} {p : Path} {v : Vhf} {port : Port} {w : Word}

/-! ## Lanes that are parked (R34, R40, R119) -/

/-- The parts and registers that parking lanes may change. -/
def parkParts : List Part := [.aux, .plan, .mgr, .rds, .dab, .twc, .fab]

def parkRegs : List Nat := pullRegs ++ (List.range 8).flatMap (fun l => Reg.FMF.CHG l :: evWords (Ev.FMF.CHANGE l))

/-- Every lane stays in use or not, and a parked one stays parked. -/
def keepsLanes (s t : State) : Prop :=
  ∀ k, t.laneInUse k = s.laneInUse k ∧ ((s.lane k).state = .parked → (t.lane k).state = .parked)

/-- From `s` to `t` lanes are parked, and what goes with it happens. -/
structure Parks (s t : State) : Prop where
  frame : frame parkParts parkRegs s t
  lanes : keepsLanes s t

theorem Parks.refl (s : State) : Parks s s := ⟨frame_refl _ _ _, fun _ => ⟨rfl, id⟩⟩

theorem Parks.trans (h : Parks s t) (k : Parks t u) : Parks s u :=
  ⟨frame_trans h.frame k.frame, fun i => ⟨(k.lanes i).1.trans (h.lanes i).1, fun e => (k.lanes i).2 ((h.lanes i).2 e)⟩⟩

theorem keepsLanes_of_lanes (h : t.mgr.lanes = s.mgr.lanes) : keepsLanes s t := fun k => by
  have e : t.lane k = s.lane k := by simp only [State.lane, h]
  exact ⟨by simp only [State.laneInUse, e], fun h => e ▸ h⟩

/-- A change that leaves the lanes themselves parks none. -/
theorem Parks.of_frame (h : Machine.frame ps as s t) (hp : ps ⊆ parkParts) (ha : as ⊆ parkRegs) (hm : Part.mgr ∉ ps) : Parks s t :=
  ⟨frame_mono h hp ha, keepsLanes_of_lanes (congrArg Manager.lanes (h.1 .mgr hm))⟩

theorem lane_setLane_cases (s : State) (l k : Nat) (f : Lane → Lane) :
    (s.setLane l f).lane k = s.lane k ∨ (k = l ∧ (s.setLane l f).lane k = f (s.lane l)) := by
  by_cases hl : l < 156
  · by_cases e : k = l
    · subst e
      exact .inr ⟨rfl, at_upd _ f _ hl⟩
    · have e' : l ≠ k := fun x => e x.symm
      refine .inl ?_
      simp [State.setLane, State.lane, at', upd, hl, e']
  · exact .inl (by simp [State.setLane, State.lane, upd, hl])

theorem keepsLanes_setLane {l : Nat} {f : Lane → Lane} (h1 : (f (s.lane l)).inUse = (s.lane l).inUse)
    (h2 : (s.lane l).state = .parked → (f (s.lane l)).state = .parked) : keepsLanes s (s.setLane l f) := by
  intro k
  rcases lane_setLane_cases s l k f with e | ⟨rfl, e⟩
  · exact ⟨by simp only [State.laneInUse, e], fun h => e ▸ h⟩
  · simp only [State.laneInUse, e]
    exact ⟨h1, h2⟩

theorem Parks.setLane {l : Nat} {f : Lane → Lane} (h1 : (f (s.lane l)).inUse = (s.lane l).inUse)
    (h2 : (s.lane l).state = .parked → (f (s.lane l)).state = .parked) : Parks s (s.setLane l f) :=
  ⟨frame_mgr (by simp [parkParts]) (frame_refl _ _ _), keepsLanes_setLane h1 h2⟩

/-- Ending a sprout's migration returns its lane to ACTIVE. -/
theorem parks_endMigration (l : Nat) (s : State) :
    Parks s (s.setLane l (fun y => if y.state == .migrating then { y with state := .active } else y)) := by
  refine .setLane ?_ ?_
  · split
    case isTrue h =>
      have e : (s.lane l).state = .migrating := by simpa using h
      simp only [Lane.inUse, e]
      rfl
    case isFalse => rfl
  · intro e
    simp [e]

theorem pullRegs_subset : pullRegs ⊆ parkRegs := List.subset_append_left _ _

theorem changeRegs_subset {l : Nat} (h : l < 8) : Reg.FMF.CHG l :: evWords (Ev.FMF.CHANGE l) ⊆ parkRegs := fun _ hx =>
  List.mem_append_right _ (List.mem_flatMap.mpr ⟨l, List.mem_range.mpr h, hx⟩)

theorem parks_endSprout (i : Nat) (st : SproutState) (why : PullReason) (s : State) : Parks s (endSprout i st why s) := by
  have h1 : Parks s (s.setSprout i (fun y => { y with state := st, reason := why, endedAt := s.epoch })) :=
    ⟨frame_mgr (by simp [parkParts]) (frame_refl _ _ _), keepsLanes_of_lanes rfl⟩
  have h2 : frame [.aux] (ddcRegs ++ [Reg.COX.STAT]) (s.setSprout i (fun y => { y with state := st, reason := why, endedAt := s.epoch }))
      (endSprout i st why s) := by
    refine frame_releaseReq (by simp) (by simp) (frame_forEach (fun k u hk hu => ?_) (frame_refl _ _ _))
    split
    · exact frame_clearDdc (List.subset_append_left _ _) (List.mem_range.mp hk) hu
    · exact hu
  exact h1.trans (.of_frame h2 (by simp [parkParts]) (fun _ hx => pullRegs_subset (by
    rcases List.mem_append.mp hx with k | k
    · simp [pullRegs, k]
    · simp [pullRegs, List.mem_singleton.mp k])) (by simp))

theorem parks_cancelEntries (q : Change → Bool) (s : State) : Parks s (cancelEntries q s) := by
  refine .of_frame (ps := [.plan]) (as := planRegs ++ (nextRegs .lof ++ nextRegs .lob)) (frame_cancelEntries (by simp)
    (List.subset_append_left _ _) (List.subset_append_right _ _) (frame_refl _ _ _)) (by simp [parkParts]) (fun _ hx => pullRegs_subset ?_) (by simp)
  rcases List.mem_append.mp hx with k | k
  · simp [pullRegs, k]
  · rcases List.mem_append.mp k with k | k <;> simp [pullRegs, k]

theorem parks_discardShadow (l : Nat) (s : State) : Parks s (discardShadow l s) :=
  .of_frame (ps := [.rds, .dab]) (as := []) (frame_discardShadow (by simp) (by simp) (frame_refl _ _ _)) (by simp [parkParts]) (by simp) (by simp)

theorem parks_raisePulled (s : State) : Parks s (raise Ev.LNM.SPROUT_PULLED s) :=
  .of_frame (frame_raised _ _) (by simp [parkParts, evParts]) (fun _ hx => pullRegs_subset (List.mem_append_right _ hx)) (by simp [evParts])

theorem parks_pull (i : Nat) (why : PullReason) (s : State) : Parks s (pull i why s) := by
  unfold pull
  dsimp only
  split
  · exact .refl s
  have h := (parks_endSprout i .pulled why s).trans (parks_cancelEntries (fun c => c == .root i) _)
  refine h.trans (Parks.trans ?_ (parks_raisePulled _))
  split
  · exact parks_endMigration _ _
  split
  · exact .refl _
  · exact parks_discardShadow _ _

theorem parks_forEach {α : Type} {xs : List α} {f : α → State → State} (h : ∀ x t, Parks t (f x t)) (s : State) :
    Parks s (forEach xs f s) := by
  induction xs generalizing s with
  | nil => exact .refl s
  | cons x xs ih => exact (h x s).trans (ih (f x s))

theorem parks_pullLane (l : Nat) (why : PullReason) (s : State) : Parks s (pullLane l why s) := by
  unfold pullLane
  refine Parks.trans ?_ (parks_forEach (fun i u => parks_pull i why u) _)
  exact ⟨frame_mgr (by simp [parkParts]) (frame_refl _ _ _), keepsLanes_of_lanes rfl⟩

theorem laneClass_fm {l : Nat} (h : laneClass l = .fm) : l < 8 := by
  unfold laneClass at h
  by_contra hn
  rw [if_neg hn] at h
  split_ifs at h

theorem parks_rdsOff (l : Nat) (s : State) : Parks s (rdsOff l s) := by
  unfold rdsOff
  split
  case isTrue h =>
    have hl : l < 8 := laneClass_fm (by simpa using (Bool.and_eq_true_iff.mp h).1)
    have h1 : Parks s (s.setLane l (fun x => { x with sync := false })) := .setLane rfl id
    refine h1.trans (.of_frame (ps := .rds :: evParts) (as := Reg.FMF.CHG l :: evWords (Ev.FMF.CHANGE l)) ?_
      (by simp [parkParts, evParts]) (changeRegs_subset hl) (by simp [evParts]))
    exact frame_raiseIf (List.subset_cons_self _ _) (List.subset_cons_self _ _)
      (frame_put (f := Fld.FMF.CHG.RDS_LOST l) List.mem_cons_self (frame_rds (by simp) (frame_refl _ _ _)))
  case isFalse => exact .refl s

/-- A lane in use that is to be parked is parked. -/
theorem parks_park {l : Nat} (hl : l < 156) (hu : s.laneInUse l = true) : Parks s (park l s) ∧ ((park l s).lane l).state = .parked := by
  unfold park
  split
  case isTrue =>
    have h := (parks_rdsOff l s).trans (parks_pullLane l .parked (rdsOff l s))
    have hu' : ((pullLane l .parked (rdsOff l s)).lane l).inUse = true := (h.lanes l).1.trans hu
    generalize pullLane l .parked (rdsOff l s) = t at h hu' ⊢
    refine ⟨h.trans (.setLane ?_ (fun _ => rfl)), ?_⟩
    · exact (show true = _ from hu'.symm)
    · exact congrArg Lane.state (at_upd t.mgr.lanes (fun x => { x with state := .parked, sync := false, lost := false, replantAt := none }) {} hl)
  case isFalse h =>
    refine ⟨.refl s, ?_⟩
    simpa [hu] using h

theorem parks_all {ls : List Nat} (h : ∀ l ∈ ls, l < 156 ∧ s.laneInUse l = true) :
    Parks s (forEach ls park s) ∧ ∀ l ∈ ls, ((forEach ls park s).lane l).state = .parked := by
  induction ls generalizing s with
  | nil => exact ⟨.refl s, by simp⟩
  | cons x xs ih =>
    obtain ⟨hx, hu⟩ := h x List.mem_cons_self
    obtain ⟨k1, k2⟩ := parks_park hx hu
    obtain ⟨j1, j2⟩ := ih (s := park x s) (fun l hl => ⟨(h l (List.mem_cons_of_mem _ hl)).1,
      ((k1.lanes l).1).trans (h l (List.mem_cons_of_mem _ hl)).2⟩)
    refine ⟨k1.trans j1, fun l hl => ?_⟩
    rcases List.mem_cons.mp hl with rfl | hl
    · exact (j1.lanes l).2 k2
    · exact j2 l hl

/-- On a path whose test is to begin every lane is parked, one after the other. -/
theorem forEach_mustPark {ls : List Nat} (ht : (s.path p).testAt.isSome = true) (h : ∀ l ∈ ls, l < 156 ∧ s.laneInUse l = true) :
    forEach ls (fun l u => if mustPark u p l then park l u else unpark l u) s = forEach ls park s := by
  induction ls generalizing s with
  | nil => rfl
  | cons x xs ih =>
    obtain ⟨hx, hu⟩ := h x List.mem_cons_self
    obtain ⟨k1, _⟩ := parks_park hx hu
    have hm : mustPark s p x = true := by simp [mustPark, ht]
    have e : (if mustPark s p x then park x s else unpark x s) = park x s := if_pos hm
    rw [forEach_cons, forEach_cons, e]
    refine ih ?_ (fun l hl => ⟨(h l (List.mem_cons_of_mem _ hl)).1, ((k1.lanes l).1).trans (h l (List.mem_cons_of_mem _ hl)).2⟩)
    rw [path_of_paths (k1.frame.1 .paths (by decide))]
    exact ht

theorem mem_lanesOn {l : Nat} (h : l ∈ lanesOn s p 156) : l < 156 ∧ s.laneInUse l = true := by
  obtain ⟨h1, h2⟩ := List.mem_filter.mp h
  exact ⟨List.mem_range.mp h1, (Bool.and_eq_true_iff.mp h2).1⟩

/-- What parking the lanes of a path leaves, its tile conflict shown. -/
def syncRegs (p : Path) : List Nat := parkRegs ++ Reg.FE.STAT p.idx :: evWords (Ev.FE.TILE_CONFLICT p.idx)

/-- The pages of those registers. -/
def parkPages : List Nat :=
  [0x000, 0x003, 0x004, 0x00D, 0x010, 0x011, 0x012, 0x018, 0x020, 0x021, 0x022, 0x023, 0x024, 0x025, 0x026, 0x027, 0x040, 0x062]

theorem pages_of_parkRegs : ∀ a ∈ parkRegs, a / 4096 ∈ parkPages := by
  decide +kernel

theorem not_mem_parkRegs {a : Nat} (h : a / 4096 ∉ parkPages) : a ∉ parkRegs := fun m => h (pages_of_parkRegs a m)

theorem not_mem_syncRegs {a : Nat} (h : a / 4096 ∉ parkPages) (k : a ∉ Reg.FE.STAT p.idx :: evWords (Ev.FE.TILE_CONFLICT p.idx)) :
    a ∉ syncRegs p := fun m => (List.mem_append.mp m).elim (not_mem_parkRegs h) k

/-- The tile conflict of a VHF path is shown beside its mode. -/
def showConflict (p : Path) (conflict fresh : Bool) (s : State) : State :=
  raiseIf fresh (Ev.FE.TILE_CONFLICT p.idx) (s.put (Fld.FE.STAT.TILE_CONFLICT p.idx) conflict)

theorem modeNow_showConflict (p : Path) (conflict fresh : Bool) (s : State) : modeNow (showConflict p conflict fresh s) p = modeNow s p := by
  have ha : Apart (Fld.FE.STAT.TILE_CONFLICT p.idx) (Fld.FE.STAT.MODE_NOW p.idx) := by cases p <;> decide
  have h := word_raiseIf fresh (Ev.FE.TILE_CONFLICT p.idx) (s.put (Fld.FE.STAT.TILE_CONFLICT p.idx) conflict) (feStat_offset p).1 (feStat_offset p).2
  exact (congrArg (fun x => fieldOf x _ _) h).trans (get_put_apart ha s conflict)

theorem frame_showConflict {conflict fresh : Bool} (hp : evParts ⊆ ps) (ha : Reg.FE.STAT p.idx :: evWords (Ev.FE.TILE_CONFLICT p.idx) ⊆ as)
    (h : frame ps as s t) : frame ps as s (showConflict p conflict fresh t) :=
  frame_raiseIf hp (fun _ hx => ha (List.mem_cons_of_mem _ hx))
    (frame_put (f := Fld.FE.STAT.TILE_CONFLICT p.idx) (ha List.mem_cons_self) h)

/-- Where a test is to begin, the lanes of the path are parked, and a conflict with a tile is shown. -/
theorem syncLanes_parks (ht : (s.path p).testAt.isSome = true) :
    syncLanes p s = forEach (lanesOn s p 156) park s ∨
      ∃ conflict fresh, syncLanes p s = showConflict p conflict fresh (forEach (lanesOn s p 156) park s) := by
  unfold syncLanes
  dsimp only
  rw [forEach_mustPark ht (fun l hl => mem_lanesOn hl)]
  split
  · exact .inl rfl
  · exact .inr ⟨_, _, rfl⟩

/-- What the parking of a path's lanes for a test leaves. -/
structure ParkedFor (p : Path) (s t : State) : Prop where
  frame : frame parkParts (syncRegs p) s t
  parked : ∀ l ∈ lanesOn s p 156, (t.lane l).state = .parked
  mode : modeNow t p = modeNow s p
  tile : tileNow t p = tileNow s p

theorem syncLanes_parkedFor (ht : (s.path p).testAt.isSome = true) : ParkedFor p s (syncLanes p s) := by
  have hs : Reg.FE.STAT p.idx ∉ parkRegs := not_mem_parkRegs (by cases p <;> decide)
  have hn : (Fld.FE.TILE_NOW.KHZ p.idx).addr ∉ syncRegs p := not_mem_syncRegs (by cases p <;> decide) (by cases p <;> decide)
  obtain ⟨h, hp⟩ := parks_all (s := s) (ls := lanesOn s p 156) (fun l hl => mem_lanesOn hl)
  have hf : Machine.frame parkParts (syncRegs p) s (forEach (lanesOn s p 156) park s) :=
    frame_mono h.frame (fun _ h => h) (List.subset_append_left _ _)
  have hm := frame_modeNow h.frame hs
  rcases syncLanes_parks ht with e | ⟨conflict, fresh, e⟩ <;> rw [e]
  · exact ⟨hf, hp, hm, tileNow_congr hm (frame_get hf hn)⟩
  · generalize forEach (lanesOn s p 156) park s = t at hf hp hm ⊢
    have k : Machine.frame parkParts (syncRegs p) s (showConflict p conflict fresh t) :=
      frame_showConflict (by simp [parkParts, evParts]) (List.subset_append_right _ _) hf
    have hl : (showConflict p conflict fresh t).mgr = t.mgr :=
      (frame_showConflict (conflict := conflict) (fresh := fresh) (fun _ h => h) (fun _ h => h) (frame_refl evParts _ t)).1 .mgr (by decide)
    have hmode := (modeNow_showConflict p conflict fresh t).trans hm
    refine ⟨k, fun l m => ?_, hmode, tileNow_congr hmode (frame_get k hn)⟩
    rw [State.lane, hl]
    exact hp l m

/-! ## The LO is made free for a test (R40) -/

theorem frame_dropLoQueue {l : Lo} (hp : Part.loops ∈ ps) (ha : Reg.LO.STAT l.idx ∈ as) (h : frame ps as s t) : frame ps as s (dropLoQueue l t) :=
  frame_put (f := Fld.LO.STAT.QUEUED l.idx) ha (frame_setLo hp h)

/-- A hop or retune is held for the LO. -/
def holdsHop (v : Vhf) (s : State) : Bool := match (s.lo v.lo).queued with | some q => q.kind != .cal | none => false

/-- The held hop or retune is superseded. -/
def superseded (v : Vhf) (s : State) : State :=
  if holdsHop v s then dropLoQueue v.lo (raise (Ev.LO.SUPERSEDED v.lo.idx) (s.bumpSat (Fld.LO.SUPERSEDED_CNT.COUNT v.lo.idx))) else s

/-- The changes that are withdrawn with an LO change of the path. -/
def goesWithLo (v : Vhf) : Change → Bool
  | .lo k _ => k == v.lo
  | .band w _ => w == v
  | .gain p _ .hop => p == v.path
  | _ => false

/-- The LO made free: what is held is superseded, and what is posted and can be withdrawn is. -/
def freed (v : Vhf) (s : State) : State :=
  if (testWithdraws v s).isNone then superseded v s
  else withdrawUnannounced (goesWithLo v) ((superseded v s).setLo v.lo (fun y => { y with busy := none }))

theorem frame_superseded (hp : loParts ⊆ ps) (ha : loAskWords v.lo ⊆ as) (h : frame ps as s t) : frame ps as s (superseded v t) := by
  unfold superseded
  split
  · exact frame_dropLoQueue (hp (by simp [loParts])) (ha (lo_mem_loAskWords _).1)
      (frame_raise (List.Subset.trans evParts_subset_loParts hp) (fun _ hx => ha (evWords_subset_loAskWords _ hx))
        (frame_bumpSat (f := Fld.LO.SUPERSEDED_CNT.COUNT v.lo.idx) (ha (lo_mem_loAskWords _).2) h))
  · exact h

theorem frame_freed (v : Vhf) (s : State) : frame loParts (loAskWords v.lo) s (freed v s) := by
  have h : frame loParts (loAskWords v.lo) s (superseded v s) := frame_superseded (fun _ h => h) (fun _ h => h) (frame_refl _ _ _)
  unfold freed
  split
  · exact h
  · exact frame_withdrawUnannounced (by simp [loParts]) (frame_setLo (by simp [loParts]) h)

/-- With the LO free the path is brought to span, and a calibration withdrawn for it is asked for anew. -/
theorem freeForTest_cases (v : Vhf) (s : State) :
    freeForTest v s = retile v (freed v s) ∨ ∃ r, freeForTest v s = requestLo v.lo r (retile v (freed v s)) := by
  unfold freeForTest
  dsimp only
  split
  · split
    · exact .inr ⟨_, rfl⟩
    · exact .inl rfl
  · exact .inl rfl

theorem frame_freeForTest (hp : pathParts ⊆ ps) (ha : loAskWords v.lo ⊆ as) (h : frame ps as s t) : frame ps as s (freeForTest v t) := by
  have k : frame ps as s (retile v (freed v t)) :=
    frame_retile hp ha (frame_trans h (frame_mono (frame_freed v t) (fun _ hx => hp (List.mem_cons_of_mem _ hx)) ha))
  rcases freeForTest_cases v t with e | ⟨r, e⟩ <;> rw [e]
  · exact k
  · exact frame_requestLo (fun _ hx => hp (List.mem_cons_of_mem _ hx)) ha k

theorem testAt_freeForTest (v : Vhf) (s : State) (p : Path) : ((freeForTest v s).path p).testAt = (s.path p).testAt := by
  have k : ((retile v (freed v s)).path p).testAt = (s.path p).testAt := by
    rw [testAt_retile, path_of_paths ((frame_freed v s).1 .paths (by decide))]
  rcases freeForTest_cases v s with e | ⟨r, e⟩ <;> rw [e]
  · exact k
  · rw [path_of_paths (requestLo_paths _ _ _)]
    exact k

/-- Where nothing is posted or held, making the LO free only brings the path to span. -/
theorem freeForTest_free (hb : (s.lo v.lo).busy = none) (hq : (s.lo v.lo).queued = none) : freeForTest v s = retile v s := by
  simp [freeForTest, testWithdraws, hb, hq]

/-- A VHF path's LO is made free for its test; the LF path has none. -/
def freePath : Path → State → State
  | .lf, s => s
  | .fm, s => freeForTest .fm s
  | .b3, s => freeForTest .b3 s

theorem freePath_vhf (v : Vhf) (s : State) : freePath v.path s = freeForTest v s := by
  cases v <;> rfl

theorem frame_freePath (hp : pathParts ⊆ ps) (ha : pathAskWords p ⊆ as) (h : frame ps as s t) : frame ps as s (freePath p t) := by
  cases p with
  | lf => exact h
  | fm => exact frame_freeForTest hp ha h
  | b3 => exact frame_freeForTest hp ha h

theorem testAt_freePath (q : Path) (s : State) (p : Path) : ((freePath q s).path p).testAt = (s.path p).testAt := by
  cases q with
  | lf => rfl
  | fm => exact testAt_freeForTest .fm s p
  | b3 => exact testAt_freeForTest .b3 s p

/-! ## A path test that is accepted (R40) -/

/-- The path test asked for begins no earlier than the next boundary. -/
def testAsked (p : Path) (s : State) : State := s.setPath p (fun x => { x with testAt := some (s.epoch + 1) })

theorem testRequested_accepted (hon : pathOn s p = true)
    (hf : ((feedingLanes s).any (fun l => s.laneInUse l && (s.lane l).path == p)) = false ∨ s.flag (Fld.FE.CTRL.FORCE p.idx) = true) :
    testRequested p s = freePath p (syncLanes p (testAsked p s)) := by
  have hc : (!(pathOn s p) ||
      ((feedingLanes s).any (fun l => s.laneInUse l && (s.lane l).path == p) && !(s.flag (Fld.FE.CTRL.FORCE p.idx)))) = false := by
    rcases hf with h | h <;> simp [hon, h]
  unfold testRequested
  dsimp only
  rw [hc]
  cases p <;> rfl

/-- The retune to span is under way. -/
theorem headedFor_of_loAsked {hz : Nat} {band : Option (Option Nat)} (hb : (s.lo v.lo).busy = none)
    (h : loAsked s t v.lo { kind := .retune, hz := hz, band := band }) : headedFor t v band hz = true := by
  unfold loAsked at h
  rw [if_pos hb] at h
  simp [headedFor, h.1]

theorem headedFor_free {hz : Nat} {band : Option (Option Nat)} (hb : (s.lo v.lo).busy = none) (hq : (s.lo v.lo).queued = none) :
    headedFor s v band hz = false := by
  simp [headedFor, hb, hq]

/-- A path in tile on which a test is to begin, and whose LO is free, asks for span once. -/
theorem retile_twice (hon : pathOn s v.path = true) (ht : (tileNow s v.path).isSome = true) (ha : (s.path v.path).testAt.isSome = true)
    (hb : (s.lo v.lo).busy = none) (hq : (s.lo v.lo).queued = none) :
    loAsked s (retile v (retile v s)) v.lo { kind := .retune, hz := spanHz v, band := some none } := by
  have e := retile_toSpan hon ht (.inr ha)
  have k : loAsked s (retile v s) v.lo { kind := .retune, hz := spanHz v, band := some none } := by
    rw [e]
    exact loAsked_retuneTo hon rfl (by rw [ht]; rfl) (headedFor_free hb hq) (.inl rfl) rfl rfl
  have f : frame pathParts (loAskWords v.lo) s (retile v s) := frame_retile (fun _ h => h) (fun _ h => h) (frame_refl _ _ _)
  have hon' : pathOn (retile v s) v.path = true := (frame_pathOn f (by decide) (by cases v <;> decide) _).trans hon
  have ht' : (tileNow (retile v s) v.path).isSome = true := by
    rw [tileNow_congr (frame_modeNow f (by cases v <;> decide)) (frame_get f (by cases v <;> decide))]
    exact ht
  have ha' : ((retile v s).path v.path).testAt.isSome = true := by rw [testAt_retile]; exact ha
  have hh := headedFor_of_loAsked hb k
  have e' : retile v (retile v s) = retile v s := by
    rw [retile_toSpan hon' ht' (.inr ha')]
    unfold retuneTo
    simp [ht', hh]
  rw [e']
  exact k

/-- The registers that entering a path test may change. -/
def testRegs (p : Path) : List Nat := Reg.FE.CTRL p.idx :: (syncRegs p ++ pathAskWords p)

/-- The pages that entering a path test may change. -/
def testPages : List Nat :=
  [0x000, 0x003, 0x004, 0x008, 0x009, 0x00A, 0x00D, 0x010, 0x011, 0x012, 0x018, 0x020, 0x021, 0x022, 0x023, 0x024, 0x025, 0x026, 0x027, 0x040,
    0x062]

theorem pages_of_testRegs (p : Path) : ∀ a ∈ testRegs p, a / 4096 ∈ testPages := by
  have hsub : parkPages ⊆ testPages := by decide
  have hown : ∀ a ∈ Reg.FE.CTRL p.idx :: ((Reg.FE.STAT p.idx :: evWords (Ev.FE.TILE_CONFLICT p.idx)) ++ pathAskWords p), a / 4096 ∈ testPages := by
    cases p <;> decide
  intro a m
  rcases List.mem_cons.mp m with rfl | m
  · exact hown _ List.mem_cons_self
  rcases List.mem_append.mp m with m | m
  · rcases List.mem_append.mp m with m | m
    · exact hsub (pages_of_parkRegs a m)
    · exact hown a (List.mem_cons_of_mem _ (List.mem_append_left _ m))
  · exact hown a (List.mem_cons_of_mem _ (List.mem_append_right _ m))

theorem lanesOn_congr (h : t.mgr = s.mgr) (p : Path) (n : Nat) : lanesOn t p n = lanesOn s p n := by
  simp only [lanesOn, State.laneInUse, State.lane, h]

theorem pathTestEnter_accepted (hl : lets s (Reg.FE.CTRL p.idx) = true) (ht : s.flag (Fld.FE.CTRL.TEST p.idx) = false)
    (hon : pathOn s p = true)
    (hr : ((feedingLanes s).any (fun l => s.laneInUse l && (s.lane l).path == p)) = false ∨ w.getLsbD 3 = true) :
    completes (.pathTestEnter port p w) s (fun t =>
      t.flag (Fld.FE.CTRL.TEST p.idx) = true ∧ (t.path p).testAt = some (s.epoch + 1) ∧
      (∀ l ∈ lanesOn s p 156, (t.lane l).state = .parked) ∧
      (∀ w : Vhf, w.path = p → (tileNow s p).isSome = true → (s.lo w.lo).busy = none → (s.lo w.lo).queued = none →
        loAsked s t w.lo { kind := .retune, hz := spanHz w, band := some none }) ∧
      pageFrame [.fab, .plan, .paths, .loops, .aux, .mgr, .rds, .dab, .twc]
        testPages s t) := by
  refine pathTestEnter_completes hl ht ?_
  -- the write
  have a1 := written_test port p w true s
  have a2 : frame [.fab, .paths] [Reg.FE.CTRL p.idx] s (written port p (Reg.FE.CTRL p.idx) (feCtrlWord w true) s) := frame_written
  have a3 := (written_pathOn (feCtrl_mem p) port p (feCtrlWord w true) s p).trans hon
  have a4 := written_tileNow (feCtrl_mem p) port p (feCtrlWord w true) s p
  have e := testRequested_accepted a3 (by rw [written_fed, written_force]; exact hr)
  rw [e]
  generalize written port p (Reg.FE.CTRL p.idx) (feCtrlWord w true) s = a at a1 a2 a3 a4 ⊢
  -- the boundary of the test
  have b1 : ((testAsked p a).path p).testAt = some (s.epoch + 1) := by
    rw [testAsked, path_setPath, ← frame_epoch a2 (by decide)]
  have b2 : frame [.paths] [] a (testAsked p a) := frame_setPath (by simp) (frame_refl _ _ _)
  generalize testAsked p a = b at b1 b2 ⊢
  -- the lanes
  have c := syncLanes_parkedFor (p := p) (s := b) (by rw [b1]; rfl)
  generalize syncLanes p b = c at c ⊢
  obtain ⟨c1, c2, c3, c4⟩ := c
  have hbp : Reg.RGL.BAND_PLAN ∉ syncRegs p := not_mem_syncRegs (by decide) (by cases p <;> decide)
  have hfe : Reg.FE.CTRL p.idx ∉ syncRegs p := not_mem_syncRegs (by cases p <;> decide) (by cases p <;> decide)
  have con : pathOn c p = true :=
    (frame_pathOn c1 (by decide) hbp p).trans ((frame_pathOn b2 (by decide) (by simp) p).trans a3)
  have ctest : (c.path p).testAt = some (s.epoch + 1) := by
    rw [path_of_paths (c1.1 .paths (by decide)), b1]
  have cflag : c.flag (Fld.FE.CTRL.TEST p.idx) = true :=
    (frame_flag c1 hfe).trans ((frame_flag b2 (by simp)).trans a1)
  have ctile : tileNow c p = tileNow s p :=
    c4.trans ((tileNow_congr (frame_modeNow b2 (by simp)) (frame_get b2 (by simp))).trans a4)
  have csc : frame [.fab, .plan, .paths, .loops, .aux, .mgr, .rds, .dab, .twc] (testRegs p) s c :=
    frame_trans (frame_mono a2 (by simp) (by simp [testRegs])) (frame_trans (frame_mono b2 (by simp) (by simp))
      (frame_mono c1 (by simp [parkParts]) (fun _ h => List.mem_cons_of_mem _ (List.mem_append_left _ h))))
  have cmgr : b.mgr = s.mgr := (b2.1 .mgr (by decide)).trans (a2.1 .mgr (by decide))
  have cloops : c.loops = s.loops := (c1.1 .loops (by decide)).trans ((b2.1 .loops (by decide)).trans (a2.1 .loops (by decide)))
  have cepoch : c.epoch = s.epoch := frame_epoch csc (by decide)
  rw [lanesOn_congr cmgr] at c2
  -- the path brought to span
  have d : frame pathParts (pathAskWords p) c (retilePath p (freePath p c)) :=
    frame_retilePath (fun _ h => h) (fun _ h => h) (frame_freePath (fun _ h => h) (fun _ h => h) (frame_refl _ _ _))
  refine ⟨(finish_flag _ _ _).trans ((frame_flag d (frontEnd_not_asked (feCtrl_mem p) p)).trans cflag), ?_, fun l hl => ?_,
    fun x hx hti hbu hqu => loAsked_finish ?_, frame_of_pages (frame_finish (frame_trans csc (frame_mono d (by decide) (fun _ h =>
      List.mem_cons_of_mem _ (List.mem_append_right _ h))))) (pages_of_testRegs p)⟩
  · rw [finish_path, testAt_retilePath, testAt_freePath, ctest]
  · have hm : (retilePath p (freePath p c)).mgr = c.mgr := d.1 .mgr (by decide)
    rw [State.lane, finish_mgr, hm]
    exact c2 l hl
  · subst hx
    have hlo := lo_of_loops cloops x.lo
    have hbu' : (c.lo x.lo).busy = none := by rw [hlo, hbu]
    have hqu' : (c.lo x.lo).queued = none := by rw [hlo, hqu]
    rw [freePath_vhf, retilePath_vhf, freeForTest_free hbu' hqu']
    exact loAsked_congr (retile_twice con (by rw [ctile]; exact hti) (by rw [ctest]; rfl) hbu' hqu') hlo.symm cepoch.symm rfl ⟨rfl, rfl, rfl⟩ rfl

/-- Settles O2: a write is stored (`written`, `stored`), and its path is then brought to its span or tile; a test parks every lane of the path
first (`syncLanes_parkedFor`). -/
theorem captureWritesComplete : Obligations.CaptureWritesComplete := by
  unfold Obligations.CaptureWritesComplete
  refine ⟨?manStep, ?toTile, ?toSpan, ?mode, ?moves, ?centre, ?enter, ?refused, ?exit, ?ends⟩
  case manStep => exact fun port v s hl => agcManStepWrite_completes hl
  case toTile => exact fun port p v s c hl hon hm ht ha hw hc hf => pathModeWrite_toTile hl hon hm ht ha hw hc hf
  case toSpan => exact fun port p v s hl hon ht hw hf => pathModeWrite_toSpan hl hon ht hw hf
  case mode => exact fun port p v s hl => pathModeWrite_frames hl
  case moves => exact fun port p v s c d hl hon hc ha ht hp hw hd hf => tileCentreWrite_moves hl hon hc ha ht hp hw hd hf
  case centre => exact fun port p v s hl => tileCentreWrite_frames hl
  case enter => exact fun port p v s hl ht hon hr => pathTestEnter_accepted hl ht hon hr
  case refused => exact fun port p v s hl ht hr => pathTestEnter_refused hl ht hr
  case exit => exact fun port p v s hl ht hm => pathTestExit_frames hl ht hm
  case ends => exact fun port p v s hl ht hm => pathTestExit_ends hl ht hm

end Sys2Proof.Machine.Capture

namespace Sys2Proof.Machine.Clocking

open Capture

variable {ps : List Part} {as : List Nat} {s t u : State} {l : Lo}

/-! ## What the loops' operations leave -/

theorem raise_loops (g : Nat) (s : State) : (raise g s).loops = s.loops := (frame_raised g s).1 .loops (by decide)

theorem raise_flt (g : Nat) (s : State) : (raise g s).flt = s.flt := (frame_raised g s).1 .flt (by decide)

theorem frame_loOn (h : frame ps as s t) (hp : Part.pwr ∉ ps) (ha : Reg.RGL.BAND_PLAN ∉ as) (l : Lo) : loOn t l = loOn s l := by
  simp only [loOn, frame_receiving h hp, frame_heldOff h ha]

theorem frame_served (h : frame ps as s t) (hp : Part.pwr ∉ ps) : t.served = s.served := by
  have e : { t.pwr with pins := {} } = { s.pwr with pins := {} } := h.1 .pwr hp
  have m := congrArg (fun (w : Power) => !(w.mode == .off || w.mode == .sleep || w.mode == .boot) && w.vddio) e
  exact m

theorem frame_setLoop {f : LoopState → LoopState} (hp : Part.loops ∈ ps) (h : frame ps as s t) : frame ps as s (t.setLoop l f) :=
  frame_loops hp h

theorem wrote_put (s : State) (f : Field) (b : Bool) : wrote s (s.put f b) f b.toNat := wrote_set s f _

/-- What was written to a field stands once an event is raised. -/
theorem wrote_raise {f : Field} {v : Nat} (g : Nat) (h : wrote s t f v) (ho : f.addr % 4096 ≠ 16) (hs : f.addr ≠ Reg.TWC.SKIP_CNT) :
    wrote s (raise g t) f v := wrote_of_word h (word_raise g t ho hs)

theorem loStat_offset (l : Lo) : Reg.LO.STAT l.idx % 4096 ≠ 16 ∧ Reg.LO.STAT l.idx ≠ Reg.TWC.SKIP_CNT := by
  cases l <;> decide

/-! ## LOCK_A (R70) -/

theorem finish_lockA (s t : State) : (finish s t).pwr.pins.lockA = if t.pwr.vddio then lockPin t else .hiZ := rfl

/-- While the fabric is served, LOCK_A sinks where the reference is absent or PLL-S coasts. -/
theorem lockA_low (s : State) (hs : t.served = true) (h : t.flag Fld.CLK.STAT.REF_VALID = false ∨ t.flag Fld.CLK.STAT.COAST = true) :
    (finish s t).pwr.pins.lockA = .low := by
  simp only [State.served, Bool.and_eq_true, Bool.not_eq_true', Bool.or_eq_false_iff] at hs
  obtain ⟨⟨⟨h1, h2⟩, h3⟩, h4⟩ := hs
  rw [finish_lockA, if_pos h4]
  unfold lockPin
  rcases h with h | h <;> simp [h, h1, h2, h3]

/-! ## Sample blocks that coast (R71) -/

theorem frame_flagCoast (hp : Part.blocks ∈ ps) (h : frame ps as s t) : frame ps as s (flagCoast t) := by
  refine frame_forEach (fun p u _ hu => ?_) h
  split
  · exact frame_blocks hp hu
  · exact hu

/-- Marking the blocks leaves everything else. -/
theorem flagCoast_leaves (s : State) : frame [.blocks] [] s (flagCoast s) := frame_flagCoast (by simp) (frame_refl _ _ _)

theorem flagCoast_loops (s : State) : (flagCoast s).loops = s.loops := (flagCoast_leaves s).1 .loops (by decide)

theorem flagCoast_flag (s : State) (f : Field) : (flagCoast s).flag f = s.flag f := frame_flag (flagCoast_leaves s) (by simp)

theorem keepsEvents_flagCoast (s : State) : keepsEvents s (flagCoast s) := keepsEvents_of_frame (by simp) (by simp) (flagCoast_leaves s)

/-! ## PLL-S coasts (R71) -/

/-- The status and counters of a coast of PLL-S that begins. -/
def coastShown (s : State) : State :=
  (((s.put Fld.CLK.STAT.LOCKED false).put Fld.CLK.STAT.COAST true).set Fld.CLK.COAST_EPOCHS.COUNT 0).set Fld.CLK.COAST_DTJ.DTJ 0

theorem coastShown_flags (s : State) : (coastShown s).flag Fld.CLK.STAT.COAST = true ∧ (coastShown s).flag Fld.CLK.STAT.LOCKED = false ∧
    (coastShown s).flag Fld.CLK.STAT.REF_VALID = s.flag Fld.CLK.STAT.REF_VALID := by
  unfold coastShown
  simp (disch := decide) only [flag_set_apart, flag_put_apart, State.flag_put_same, and_self]

/-- The registers that the start of a coast of PLL-S may change. -/
def coastWords : List Nat := [Reg.CLK.STAT, Reg.CLK.COAST_EPOCHS, Reg.CLK.COAST_DTJ] ++ evWords Ev.CLK.COAST

theorem frame_coastShown (s : State) : frame [] [Reg.CLK.STAT, Reg.CLK.COAST_EPOCHS, Reg.CLK.COAST_DTJ] s (coastShown s) :=
  frame_set (by decide) (frame_set (by decide) (frame_put (by decide) (frame_put (by decide) (frame_refl _ _ _))))

/-- From `s` to `t` PLL-S starts to coast, or goes on to. -/
structure PllCoasts (s t : State) : Prop where
  frame : frame [.loops, .blocks, .twc, .fab] coastWords s t
  events : keepsEvents s t
  coasts : t.flag Fld.CLK.STAT.COAST = true
  valid : t.flag Fld.CLK.STAT.REF_VALID = s.flag Fld.CLK.STAT.REF_VALID
  begins : s.flag Fld.CLK.STAT.COAST = false → t.flag Fld.CLK.STAT.LOCKED = false ∧ t.loops.sys.coastFrom = s.epoch

theorem pllCoasts_again (byRef : Bool) (h : s.flag Fld.CLK.STAT.COAST = true) : PllCoasts s (coastPll byRef s) := by
  unfold coastPll
  rw [if_pos h]
  exact ⟨frame_loops (by simp) (frame_refl _ _ _), ⟨rfl, fun _ m => m, fun _ m => m⟩, h, rfl, fun e => by simp [e] at h⟩

theorem pllCoasts_new (byRef : Bool) (h : s.flag Fld.CLK.STAT.COAST = false) : PllCoasts s (coastPll byRef s) := by
  have e : coastPll byRef s = flagCoast (raise Ev.CLK.COAST { coastShown s with
      loops := { s.loops with sys := { s.loops.sys with
        coastFrom := s.epoch, coastTj := s.pwr.tj, byRef := byRef, valid := 0, phaseOut := true } } }) :=
    if_neg (by simp [h])
  rw [e]
  obtain ⟨c1, c2, c3⟩ := coastShown_flags s
  have cf := frame_coastShown s
  generalize coastShown s = c at c1 c2 c3 cf ⊢
  generalize hd : ({ c with loops := _ } : State) = d
  have hr : d.regs = c.regs := by rw [← hd]
  have hf : d.loops.sys.coastFrom = s.epoch := by rw [← hd]
  have df : Machine.frame [.loops] [Reg.CLK.STAT, Reg.CLK.COAST_EPOCHS, Reg.CLK.COAST_DTJ] s d := by
    rw [← hd]
    exact frame_loops (by simp) (frame_mono cf (by simp) (fun _ h => h))
  have fl (f : Field) (ho : f.addr % 4096 ≠ 16) (hs : f.addr ≠ Reg.TWC.SKIP_CNT) :
      (flagCoast (raise Ev.CLK.COAST d)).flag f = c.flag f := by
    rw [flagCoast_flag, flag_raise _ _ ho hs, flag_of_regs hr]
  refine ⟨frame_flagCoast (by simp) (frame_raise (by decide) (by decide) (frame_mono df (by simp) (by decide))),
    keepsEvents_trans (keepsEvents_of_frame (by decide) (by decide) df)
      (keepsEvents_trans (keepsEvents_raise _ _) (keepsEvents_flagCoast _)),
    (fl _ (by decide) (by decide)).trans c1, (fl _ (by decide) (by decide)).trans c3,
    fun _ => ⟨(fl _ (by decide) (by decide)).trans c2, ?_⟩⟩
  rw [flagCoast_loops, raise_loops, hf]

theorem pllCoasts_coastPll (byRef : Bool) (s : State) : PllCoasts s (coastPll byRef s) := by
  cases h : s.flag Fld.CLK.STAT.COAST with
  | true => exact pllCoasts_again byRef h
  | false => exact pllCoasts_new byRef h

/-! ## An LO coasts (R71) -/

theorem frame_coastLo {byRef : Bool} (hl : Part.loops ∈ ps) (hb : Part.blocks ∈ ps) (ha : Reg.LO.STAT l.idx ∈ as) (h : frame ps as s t) :
    frame ps as s (coastLo l byRef t) :=
  frame_flagCoast hb (frame_setLoop hl (frame_put (f := Fld.LO.STAT.COAST l.idx) ha (frame_put (f := Fld.LO.STAT.LOCKED l.idx) ha h)))

theorem coastLo_leaves (l : Lo) (byRef : Bool) (s : State) : frame [.loops, .blocks] [Reg.LO.STAT l.idx] s (coastLo l byRef s) :=
  frame_coastLo (by simp) (by simp) (by simp) (frame_refl _ _ _)

theorem coastLo_flags (l : Lo) (byRef : Bool) (s : State) :
    (coastLo l byRef s).flag (Fld.LO.STAT.COAST l.idx) = true ∧ (coastLo l byRef s).flag (Fld.LO.STAT.LOCKED l.idx) = false := by
  have e (f : Field) : (coastLo l byRef s).flag f = ((s.put (Fld.LO.STAT.LOCKED l.idx) false).put (Fld.LO.STAT.COAST l.idx) true).flag f :=
    flagCoast_flag _ f
  rw [e, e]
  cases l <;> simp (disch := decide) only [flag_put_apart, State.flag_put_same, and_self]

theorem lo_coastLo (l : Lo) (byRef : Bool) (s : State) (k : Lo) : (coastLo l byRef s).lo k = s.lo k := by
  have e : (coastLo l byRef s).loops.los = s.loops.los := by
    rw [coastLo, flagCoast_loops]
    rfl
  simp only [State.lo, e]

theorem keepsEvents_coastLo (l : Lo) (byRef : Bool) (s : State) : keepsEvents s (coastLo l byRef s) :=
  keepsEvents_of_frame (by simp) (by simpa using (loStat_offset l).1) (coastLo_leaves l byRef s)

/-- An LO in use coasts with the reference (R71). -/
def coastOn (l : Lo) (s : State) : State := if loOn s l then coastLo l true s else s

theorem frame_coastOn (hl : Part.loops ∈ ps) (hb : Part.blocks ∈ ps) (ha : Reg.LO.STAT l.idx ∈ as) (h : frame ps as s t) :
    frame ps as s (coastOn l t) := by
  unfold coastOn
  split
  · exact frame_coastLo hl hb ha h
  · exact h

theorem coastOn_leaves (l : Lo) (s : State) : frame [.loops, .blocks] [Reg.LO.STAT l.idx] s (coastOn l s) :=
  frame_coastOn (by simp) (by simp) (by simp) (frame_refl _ _ _)

theorem keepsEvents_coastOn (l : Lo) (s : State) : keepsEvents s (coastOn l s) :=
  keepsEvents_of_frame (by simp) (by simpa using (loStat_offset l).1) (coastOn_leaves l s)

theorem coastOn_flags (h : loOn s l = true) :
    (coastOn l s).flag (Fld.LO.STAT.COAST l.idx) = true ∧ (coastOn l s).flag (Fld.LO.STAT.LOCKED l.idx) = false := by
  unfold coastOn
  rw [if_pos h]
  exact coastLo_flags l true s

/-- Both LOs in use coast with the reference. -/
theorem coastOn_both (s : State) :
    frame [.loops, .blocks] [Reg.LO.STAT 0, Reg.LO.STAT 1] s (coastOn .lob (coastOn .lof s)) ∧ keepsEvents s (coastOn .lob (coastOn .lof s)) ∧
      ∀ l : Lo, loOn s l = true → (coastOn .lob (coastOn .lof s)).flag (Fld.LO.STAT.COAST l.idx) = true ∧
        (coastOn .lob (coastOn .lof s)).flag (Fld.LO.STAT.LOCKED l.idx) = false := by
  have hf := coastOn_leaves .lof s
  have hb := coastOn_leaves .lob (coastOn .lof s)
  refine ⟨frame_coastOn (by simp) (by simp) (by simp [Lo.idx]) (frame_mono hf (by simp) (by simp [Lo.idx])),
    keepsEvents_trans (keepsEvents_coastOn _ _) (keepsEvents_coastOn _ _), fun l hon => ?_⟩
  cases l with
  | lof =>
    obtain ⟨h1, h2⟩ := coastOn_flags hon
    exact ⟨(frame_flag hb (by decide)).trans h1, (frame_flag hb (by decide)).trans h2⟩
  | lob => exact coastOn_flags ((frame_loOn hf (by decide) (by decide) .lob).trans hon)

/-! ## Loss and return of the reference (R56, R71) -/

theorem referenceLost_eq (h : s.flag Fld.CLK.STAT.REF_VALID = true) : referenceLost s =
    coastOn .lob (coastOn .lof (coastPll true (raise Ev.CLK.REF_LOST (s.put Fld.CLK.STAT.REF_VALID false)))) :=
  if_neg (by simp [h])

theorem refLost_completes (h : s.flag Fld.CLK.STAT.REF_VALID = true) :
    completes .refLost s (fun t =>
      t.flag Fld.CLK.STAT.REF_VALID = false ∧ t.flag Fld.CLK.STAT.COAST = true ∧ raised t Ev.CLK.REF_LOST ∧
      (∀ l : Lo, loOn s l = true → t.flag (Fld.LO.STAT.COAST l.idx) = true ∧ t.flag (Fld.LO.STAT.LOCKED l.idx) = false) ∧
      (s.served = true → t.pwr.pins.lockA = .low) ∧
      frame [.loops, .blocks, .twc, .fab] ([Reg.CLK.STAT, Reg.CLK.COAST_EPOCHS, Reg.CLK.COAST_DTJ, Reg.LO.STAT 0, Reg.LO.STAT 1] ++
        evsWords [Ev.CLK.REF_LOST, Ev.CLK.COAST]) s t) := by
  refine completes_of_eq rfl (referenceLost_eq h) ?_
  -- the reference is shown lost
  have a1 : (raise Ev.CLK.REF_LOST (s.put Fld.CLK.STAT.REF_VALID false)).flag Fld.CLK.STAT.REF_VALID = false :=
    (flag_raise _ _ (by decide) (by decide)).trans (State.flag_put_same _ _ _ (by decide) (by decide))
  have a2 : frame [.twc, .fab] (Reg.CLK.STAT :: evWords Ev.CLK.REF_LOST) s (raise Ev.CLK.REF_LOST (s.put Fld.CLK.STAT.REF_VALID false)) :=
    frame_raise (by decide) (by decide) (frame_put (by decide) (frame_refl _ _ _))
  have a3 := raised_raise Ev.CLK.REF_LOST (s.put Fld.CLK.STAT.REF_VALID false)
  generalize raise Ev.CLK.REF_LOST (s.put Fld.CLK.STAT.REF_VALID false) = a at a1 a2 a3 ⊢
  -- PLL-S coasts
  have hb := pllCoasts_coastPll true a
  generalize coastPll true a = b at hb ⊢
  have hab : frame [.loops, .blocks, .twc, .fab] (Reg.CLK.STAT :: evWords Ev.CLK.REF_LOST ++ coastWords) s b :=
    frame_trans (frame_mono a2 (by decide) (by decide)) (frame_mono hb.frame (fun _ h => h) (by decide))
  -- the LOs coast
  obtain ⟨c1, c2, c3⟩ := coastOn_both b
  generalize coastOn .lob (coastOn .lof b) = c at c1 c2 c3 ⊢
  have hc : frame [.loops, .blocks, .twc, .fab] ([Reg.CLK.STAT, Reg.CLK.COAST_EPOCHS, Reg.CLK.COAST_DTJ, Reg.LO.STAT 0, Reg.LO.STAT 1] ++
      evsWords [Ev.CLK.REF_LOST, Ev.CLK.COAST]) s c :=
    frame_trans (frame_mono hab (by decide) (by decide)) (frame_mono c1 (by decide) (by decide))
  have hv : c.flag Fld.CLK.STAT.REF_VALID = false := (frame_flag c1 (by decide)).trans (hb.valid.trans a1)
  exact ⟨(finish_flag _ _ _).trans hv, (finish_flag _ _ _).trans ((frame_flag c1 (by decide)).trans hb.coasts),
    raised_finish (raised_of_keepsEvents (keepsEvents_trans hb.events c2) a3),
    fun l hon => c3 l ((frame_loOn hab (by decide) (by decide) l).trans hon),
    fun hs => lockA_low s ((frame_served hc (by decide)).trans hs) (.inl hv), frame_finish hc⟩

theorem refValid_completes (h : s.flag Fld.CLK.STAT.REF_VALID = false) (hv : 2 ≤ s.loops.sys.valid) :
    completes .refValid s (fun t =>
      wrote s t Fld.CLK.STAT.REF_VALID 1 ∧ raised t Ev.CLK.REF_BACK ∧
      frame [.twc, .fab] (Reg.CLK.STAT :: evWords Ev.CLK.REF_BACK) s t) :=
  completes_of_eq rfl (if_pos (by simp [h, hv]))
    ⟨wrote_finish (wrote_raise _ (wrote_put s _ true) (by decide) (by decide)), raised_finish (raised_raise _ _),
      frame_finish (frame_raise (by decide) (by decide) (frame_put (by decide) (frame_refl _ _ _)))⟩

theorem holdoverDegraded_completes (h : holdoverDue s = true) (hd : s.flag Fld.CLK.STAT.HOLDOVER_DEGRADED = false) :
    completes .holdoverDegraded s (fun t =>
      wrote s t Fld.CLK.STAT.HOLDOVER_DEGRADED 1 ∧ raised t Ev.CLK.HOLDOVER_DEGRADED ∧
      frame [.twc, .fab] (Reg.CLK.STAT :: evWords Ev.CLK.HOLDOVER_DEGRADED) s t) :=
  completes_of_eq rfl (if_pos (by simp [h, hd]))
    ⟨wrote_finish (wrote_raise _ (wrote_put s _ true) (by decide) (by decide)), raised_finish (raised_raise _ _),
      frame_finish (frame_raise (by decide) (by decide) (frame_put (by decide) (frame_refl _ _ _)))⟩

/-! ## Lock acquired (R69) -/

theorem pllLocked_completes (hc : s.flag Fld.CLK.STAT.COAST = false) (hv : s.flag Fld.CLK.STAT.REF_VALID = true) :
    completes (.lockAcquired .plls) s (fun t => wrote s t Fld.CLK.STAT.LOCKED 1 ∧ t.loops.sys.phaseOut = false ∧
      frame [.loops] [Reg.CLK.STAT] s t) :=
  completes_of_eq rfl (if_neg (by simp [hc, hv]))
    ⟨wrote_finish (wrote_set s _ 1), rfl,
      frame_finish (frame_put (f := Fld.CLK.STAT.LOCKED) (by decide) (frame_loops (by simp) (frame_refl _ _ _)))⟩

theorem loopLocked_lo (hon : loOn s l = true) (hc : s.flag (Fld.LO.STAT.COAST l.idx) = false) :
    loopLocked (loopOf l) s = s.put (Fld.LO.STAT.LOCKED l.idx) true := by
  cases l with
  | lof => exact if_pos (by rw [hon, show s.flag (Fld.LO.STAT.COAST 0) = false from hc]; rfl)
  | lob => exact if_pos (by rw [hon, show s.flag (Fld.LO.STAT.COAST 1) = false from hc]; rfl)

theorem loLocked_completes (hon : loOn s l = true) (hc : s.flag (Fld.LO.STAT.COAST l.idx) = false) :
    completes (.lockAcquired (loopOf l)) s (fun t => wrote s t (Fld.LO.STAT.LOCKED l.idx) 1 ∧ frame [] [Reg.LO.STAT l.idx] s t) :=
  completes_of_eq rfl (loopLocked_lo hon hc)
    ⟨wrote_finish (wrote_put s _ true), frame_finish (frame_put (List.mem_singleton.mpr rfl) (frame_refl _ _ _))⟩

end Sys2Proof.Machine.Clocking

namespace Sys2Proof.Machine.Clocking

open Capture

variable {ps : List Part} {as : List Nat} {s t u : State} {l : Lo}

/-! ## A fault of a loop (R397, R398) -/

theorem safeUnit_iff {n : Nat} : safeUnit n = true ↔ 8 ≤ n ∧ n ≤ 11 := by
  simp [safeUnit]

theorem hasReset_loop {n : Nat} (h : safeUnit n = true) : hasReset n = false := by
  have := safeUnit_iff.mp h
  simp [hasReset]
  omega

/-- No lane is served by a loop or control core (R104). -/
theorem servedLanes_loop {n : Nat} (h : safeUnit n = true) (s : State) (i : Nat) : servedLanes s n i = [] := by
  obtain ⟨h1, h2⟩ := safeUnit_iff.mp h
  unfold servedLanes
  rw [if_neg (by omega), List.filter_eq_nil_iff]
  intro l _
  have hs : serves n i l = false := by
    unfold serves
    cases laneClass l <;> simp <;> omega
  simp [hs]

theorem aimsAt_loop {n : Nat} (h : safeUnit n = true) (i : Nat) (k : Option SproutKind) (c : Nat) : aimsAt n i k c = false := by
  have := safeUnit_iff.mp h
  simp [aimsAt]
  omega

theorem markRestart_loop {n : Nat} (h : safeUnit n = true) (i : Nat) (s : State) : markRestart n i s = s := by
  unfold markRestart
  rw [servedLanes_loop h]
  rfl

theorem pullUsers_loop {n : Nat} (h : safeUnit n = true) (i : Nat) (s : State) : pullUsers n i s = s := by
  have hu (t : State) : usersOf t n i = [] := by
    simp only [usersOf, servedLanes_loop h, aimsAt_loop h, List.contains_nil, Bool.or_false, Bool.and_false, plantedSlots, indices]
    rw [List.filter_eq_nil_iff.mpr (by simp), List.map_nil]
  unfold pullUsers
  simp only [aimsAt_loop h, Bool.not_false, List.filter_true, hu]
  rfl

/-- The registers that a fault of a loop may change. -/
def faultWords : List Nat :=
  [Reg.FLT.STAT, Reg.FLT.TRANSIENT_CNT, Reg.FLT.PERMANENT_CNT, Reg.FLT.ESCALATE_CNT] ++
    evsWords [Ev.FLT.FAULT, Ev.FLT.PERMANENT, Ev.FLT.ESCALATE]

/-- From `s` to `t` fault handling goes on: no event is lost. -/
structure Handles (s t : State) : Prop where
  frame : frame [.flt, .twc, .fab] faultWords s t
  events : keepsEvents s t

theorem Handles.refl (s : State) : Handles s s := ⟨frame_refl _ _ _, keepsEvents_refl s⟩

theorem Handles.flt (h : Handles s t) (x : Faults) : Handles s { t with flt := x } :=
  ⟨frame_flt (by simp) h.frame, keepsEvents_trans h.events ⟨rfl, fun _ h => h, fun _ h => h⟩⟩

theorem Handles.raise {g : Nat} (h : Handles s t) (hg : evWords g ⊆ faultWords) : Handles s (raise g t) :=
  ⟨frame_raise (by decide) hg h.frame, keepsEvents_trans h.events (keepsEvents_raise g t)⟩

theorem Handles.set {f : Field} (h : Handles s t) (hf : f.addr ∈ faultWords) (ho : f.addr % 4096 ≠ 16) (v : Nat) : Handles s (t.set f v) := by
  have k : Machine.frame [] [f.addr] t (t.set f v) := frame_set (by simp) (frame_refl _ _ _)
  exact ⟨frame_set hf h.frame, keepsEvents_trans h.events (keepsEvents_of_frame (by simp) (by simpa using ho) k)⟩

theorem Handles.causeSafe (h : Handles s t) (why : Nat) : Handles s (causeSafe why t) := by
  unfold Machine.causeSafe
  split
  · exact h
  · exact h.flt _

theorem Handles.countFault (h : Handles s t) : Handles s (countFault t) := by
  unfold Machine.countFault
  dsimp only
  split
  · exact (h.flt _).causeSafe _
  · exact h.flt _

theorem Handles.logRecord (h : Handles s t) (r : FaultRec) : Handles s (logRecord r t) := by
  have hf : (if r.cls = 1 then Fld.FLT.PERMANENT_CNT.COUNT else Fld.FLT.TRANSIENT_CNT.COUNT).addr ∈ faultWords := by split <;> decide
  have ho : (if r.cls = 1 then Fld.FLT.PERMANENT_CNT.COUNT else Fld.FLT.TRANSIENT_CNT.COUNT).addr % 4096 ≠ 16 := by split <;> decide
  exact ((h.flt _).set hf ho _).raise (by decide)

/-- Unit, instance, cause and epoch of the record at the front of the log. -/
def lastFault (s : State) : Option (Nat × Nat × Nat × Nat) := s.flt.log.head?.map (fun r => (r.unit, r.inst, r.cause, r.epoch))

theorem lastFault_congr (h : t.flt.log = s.flt.log) : lastFault t = lastFault s := by
  simp only [lastFault, h]

theorem lastFault_raise (g : Nat) (s : State) : lastFault (raise g s) = lastFault s := lastFault_congr (congrArg Faults.log (raise_flt g s))

theorem lastFault_causeSafe (why : Nat) (s : State) : lastFault (causeSafe why s) = lastFault s := by
  unfold causeSafe
  split <;> rfl

theorem lastFault_logRecord (r : FaultRec) (s : State) : lastFault (logRecord r s) = some (r.unit, r.inst, r.cause, r.epoch) := by
  unfold logRecord
  dsimp only
  rw [lastFault_raise]
  rfl

/-- From `s` to `t` a fault is recorded: its unit, instance, cause and epoch stand at the front of the log. -/
structure Records (k : Nat × Nat × Nat × Nat) (s t : State) : Prop extends Handles s t where
  last : lastFault t = some k

theorem records_logRecord {r : FaultRec} {k : Nat × Nat × Nat × Nat} (h : Handles s t) (hk : (r.unit, r.inst, r.cause, r.epoch) = k) :
    Records k s (logRecord r t) :=
  ⟨h.logRecord r, by rw [lastFault_logRecord, hk]⟩

theorem Records.flt {k : Nat × Nat × Nat × Nat} (h : Records k s t) (x : Faults) (hx : x.log = t.flt.log) : Records k s { t with flt := x } :=
  ⟨h.toHandles.flt x, (lastFault_congr hx).trans h.last⟩

theorem records_startReset {k : Nat × Nat × Nat × Nat} (h : Records k s t) (n i : Nat) : Records k s (startReset n i t) := h.flt _ rfl

theorem records_startRecovery {k : Nat × Nat × Nat × Nat} (h : Records k s t) (n i : Nat) : Records k s (startRecovery n i t) := by
  unfold startRecovery
  exact ⟨(((h.toHandles.flt _).set (by decide) (by decide) _).set (by decide) (by decide) _).raise (by decide), (lastFault_raise _ _).trans h.last⟩

/-- A permanent fault of a loop is recorded, and leads to SAFE (R398). -/
theorem records_permanentFault {n : Nat} (hn : safeUnit n = true) (i cause retry : Nat) (h : Handles s t) :
    Records (n, i, cause, t.epoch) s (permanentFault n i cause retry t) := by
  unfold permanentFault
  dsimp only
  rw [if_pos hn, if_pos hn]
  generalize hr : ({ unit := n, inst := i, cause := cause, cls := 1, action := 5, retry := min 4 retry, epoch := t.epoch } : FaultRec) = r
  have k : Records (n, i, cause, t.epoch) s (logRecord r t) := records_logRecord h (by rw [← hr])
  generalize logRecord r t = a at k ⊢
  exact ⟨((k.toHandles.raise (by decide)).flt _).causeSafe _, (lastFault_causeSafe _ _).trans ((lastFault_raise _ _).trans k.last)⟩

/-- A fault of a loop that is not retired is counted and recorded, whatever its class (R397 to R400). -/
theorem records_unitFault {n : Nat} (hn : safeUnit n = true) (i cause : Nat) (hr : (n, i) ∉ s.flt.retired) :
    Records (n, i, cause, s.epoch) s (unitFault n i cause s) := by
  have hc : Handles s (countFault s) := (Handles.refl s).countFault
  have he : (countFault s).epoch = s.epoch := frame_epoch hc.frame (by decide)
  unfold unitFault
  dsimp only
  rw [pullUsers_loop hn, if_neg (by simpa using hr)]
  simp only [hasReset_loop hn, Bool.false_eq_true, if_false]
  generalize countFault s = c at hc he ⊢
  split
  · exact he ▸ records_permanentFault hn i cause _ hc
  split
  · rw [markRestart_loop hn]
    refine Records.flt ?_ _ rfl
    exact records_startReset (records_logRecord hc (by rfl)) n i
  split
  · exact records_startRecovery (records_logRecord hc (by rfl)) n i
  · rw [markRestart_loop hn]
    exact records_startReset (records_logRecord hc (by rfl)) n i

theorem unitFault_retired (n i cause : Nat) (hr : (n, i) ∈ s.flt.retired) : unitFault n i cause s = s :=
  if_pos (by simpa using hr)

theorem handles_unitFault {n : Nat} (hn : safeUnit n = true) (i cause : Nat) (s : State) : Handles s (unitFault n i cause s) := by
  by_cases hr : (n, i) ∈ s.flt.retired
  · rw [unitFault_retired n i cause hr]
    exact .refl s
  · exact (records_unitFault hn i cause hr).toHandles

theorem logged_unitFault {n : Nat} (hn : safeUnit n = true) (i cause : Nat) (hr : (n, i) ∉ t.flt.retired) (he : t.epoch = s.epoch) :
    logged s (unitFault n i cause t) n i cause := by
  have h := (records_unitFault hn i cause hr).last
  rwa [he] at h

/-! ## Loss of lock (R69, R71, R73) -/

theorem loopLost_plls (hc : s.flag Fld.CLK.STAT.COAST = false) (hl : s.flag Fld.CLK.STAT.LOCKED = true) (hv : s.flag Fld.CLK.STAT.REF_VALID = true) :
    loopLost .plls s = unitFault 0x09 0 6 (coastPll false (raise Ev.CLK.UNLOCK s)) :=
  if_neg (by simp [hc, hl, hv])

theorem pllLost_completes (hc : s.flag Fld.CLK.STAT.COAST = false) (hl : s.flag Fld.CLK.STAT.LOCKED = true)
    (hv : s.flag Fld.CLK.STAT.REF_VALID = true) :
    completes (.lockLost .plls) s (fun t =>
      t.flag Fld.CLK.STAT.COAST = true ∧ t.flag Fld.CLK.STAT.LOCKED = false ∧ t.loops.sys.coastFrom = s.epoch ∧ raised t Ev.CLK.UNLOCK ∧
      ((0x09, 0) ∉ s.flt.retired → logged s t 0x09 0 6) ∧ (s.served = true → t.pwr.pins.lockA = .low) ∧
      pageFrame [.loops, .blocks, .flt, .twc, .fab] [0x002, 0x062, 0x071] s t) := by
  refine completes_of_eq rfl (loopLost_plls hc hl hv) ?_
  -- the loss is raised
  have a1 := raised_raise Ev.CLK.UNLOCK s
  have a2 := frame_raised Ev.CLK.UNLOCK s
  generalize raise Ev.CLK.UNLOCK s = a at a1 a2 ⊢
  -- PLL-S coasts
  have hb := pllCoasts_coastPll false a
  generalize coastPll false a = b at hb ⊢
  have hab : frame [.loops, .blocks, .twc, .fab] (evWords Ev.CLK.UNLOCK ++ coastWords) s b :=
    frame_trans (frame_mono a2 (by decide) (by decide)) (frame_mono hb.frame (fun _ h => h) (by decide))
  obtain ⟨b1, b2⟩ := hb.begins ((frame_flag a2 (by decide)).trans hc)
  -- the fault is recorded
  have hk := handles_unitFault (show safeUnit 0x09 = true by decide) 0 6 b
  have hlog (hr : (0x09, 0) ∉ s.flt.retired) : logged s (unitFault 0x09 0 6 b) 0x09 0 6 :=
    logged_unitFault (by decide) 0 6 (by rwa [show b.flt = s.flt from hab.1 .flt (by decide)]) (frame_epoch hab (by decide))
  generalize unitFault 0x09 0 6 b = c at hk hlog ⊢
  have hf : frame [.loops, .blocks, .flt, .twc, .fab] (evWords Ev.CLK.UNLOCK ++ coastWords ++ faultWords) s c :=
    frame_trans (frame_mono hab (by decide) (by decide)) (frame_mono hk.frame (by decide) (by decide))
  have hcoast : c.flag Fld.CLK.STAT.COAST = true := (frame_flag hk.frame (by decide)).trans hb.coasts
  refine ⟨hcoast, (frame_flag hk.frame (by decide)).trans b1, ?_, raised_finish (raised_of_keepsEvents (keepsEvents_trans hb.events hk.events) a1),
    hlog, fun hs => lockA_low s ((frame_served hf (by decide)).trans hs) (.inr hcoast), frame_of_pages (frame_finish hf) (by decide)⟩
  rw [finish_loops, show c.loops = b.loops from hk.frame.1 .loops (by decide), b2, frame_epoch a2 (by decide)]

end Sys2Proof.Machine.Clocking

namespace Sys2Proof.Machine.Clocking

open Capture

variable {ps : List Part} {as : List Nat} {s t u : State} {l : Lo} {r : LoReq}

/-! ## The status of a synthesiser while requests come and go (R68, R79) -/

/-- From `s` to `t` the status fields of a synthesiser stand, but for QUEUED and CAL_PENDING. -/
def keepsStat (l : Lo) (s t : State) : Prop :=
  ∀ f : Field, f.addr = Reg.LO.STAT l.idx → Apart (Fld.LO.STAT.QUEUED l.idx) f → Apart (Fld.LO.STAT.CAL_PENDING l.idx) f → t.get f = s.get f

theorem keepsStat_refl (l : Lo) (s : State) : keepsStat l s s := fun _ _ _ _ => rfl

theorem keepsStat_trans (h : keepsStat l s t) (k : keepsStat l t u) : keepsStat l s u := fun f ha hq hc => (k f ha hq hc).trans (h f ha hq hc)

theorem keepsStat_of_frame (h : frame ps as s t) (ha : Reg.LO.STAT l.idx ∉ as) : keepsStat l s t := fun f hf _ _ =>
  frame_get h (by rwa [hf])

theorem keepsStat_queued (l : Lo) (b : Bool) (s : State) : keepsStat l s (s.put (Fld.LO.STAT.QUEUED l.idx) b) := fun _ _ hq _ =>
  get_put_apart hq s b

theorem keepsStat_pending (l : Lo) (b : Bool) (s : State) : keepsStat l s (s.put (Fld.LO.STAT.CAL_PENDING l.idx) b) := fun _ _ _ hc =>
  get_put_apart hc s b

theorem keepsStat_setLo (l k : Lo) (f : LoState → LoState) (s : State) : keepsStat l s (s.setLo k f) := fun _ _ _ _ => rfl

/-- The fields of the status that stand. -/
theorem stat_apart (l : Lo) : ∀ f ∈ [Fld.LO.STAT.COAST l.idx, Fld.LO.STAT.LOCKED l.idx, Fld.LO.STAT.SETTLING l.idx, Fld.LO.STAT.CALIBRATING l.idx,
    Fld.LO.STAT.SUBBAND l.idx, Fld.LO.STAT.ENTRY l.idx], f.addr = Reg.LO.STAT l.idx ∧ Apart (Fld.LO.STAT.QUEUED l.idx) f ∧
    Apart (Fld.LO.STAT.CAL_PENDING l.idx) f := by
  cases l <;> decide

theorem keepsStat.get {f : Field} (h : keepsStat l s t) (hf : f ∈ [Fld.LO.STAT.COAST l.idx, Fld.LO.STAT.LOCKED l.idx, Fld.LO.STAT.SETTLING l.idx,
    Fld.LO.STAT.CALIBRATING l.idx, Fld.LO.STAT.SUBBAND l.idx, Fld.LO.STAT.ENTRY l.idx]) : t.get f = s.get f := by
  obtain ⟨h1, h2, h3⟩ := stat_apart l f hf
  exact h f h1 h2 h3

theorem keepsStat.coast (h : keepsStat l s t) : t.flag (Fld.LO.STAT.COAST l.idx) = s.flag (Fld.LO.STAT.COAST l.idx) := by
  rw [State.flag, h.get (by simp), State.flag]

theorem keepsStat.locked (h : keepsStat l s t) : t.flag (Fld.LO.STAT.LOCKED l.idx) = s.flag (Fld.LO.STAT.LOCKED l.idx) := by
  rw [State.flag, h.get (by simp), State.flag]

theorem stat_not_plan (l : Lo) : Reg.LO.STAT l.idx ∉ planWords := by
  cases l <;> decide

theorem stat_not_event (l : Lo) (g : Nat) : Reg.LO.STAT l.idx ∉ evWords g := by
  intro m
  rcases List.mem_cons.mp m with e | m
  · exact (loStat_offset l).1 (e ▸ evRawAddr_offset _)
  · exact (loStat_offset l).2 (List.mem_singleton.mp m)

theorem keepsStat_raise (l : Lo) (g : Nat) (s : State) : keepsStat l s (raise g s) := keepsStat_of_frame (frame_raised g s) (stat_not_event l g)

theorem keepsStat_postLo (l : Lo) (r : LoReq) (s : State) : keepsStat l s (postLo l r s) :=
  keepsStat_of_frame (frame_postLo (fun _ h => h) (fun _ h => h) (frame_refl _ _ _)) (stat_not_plan l)

theorem keepsStat_bumpSuperseded (l : Lo) (s : State) : keepsStat l s (s.bumpSat (Fld.LO.SUPERSEDED_CNT.COUNT l.idx)) :=
  keepsStat_of_frame (as := [Reg.LO.SUPERSEDED_CNT l.idx]) (frame_bumpSat (f := Fld.LO.SUPERSEDED_CNT.COUNT l.idx) (by simp; rfl) (frame_refl [] _ s))
    (by cases l <;> decide)

theorem keepsStat_requestLo (l : Lo) (r : LoReq) (s : State) : keepsStat l s (requestLo l r s) := by
  have held (t : State) : keepsStat l t ((t.setLo l (fun y => { y with queued := some r })).put (Fld.LO.STAT.QUEUED l.idx) true) :=
    keepsStat_trans (keepsStat_setLo l l _ t) (keepsStat_queued l true _)
  unfold requestLo
  dsimp only
  split
  · exact keepsStat_refl l s
  split
  · exact keepsStat_postLo l r s
  refine keepsStat_trans ?_ (held _)
  split
  · exact keepsStat_trans (keepsStat_bumpSuperseded l s) (keepsStat_raise l _ _)
  · exact keepsStat_refl l s

/-! ## An LO loses lock (R73) -/

theorem loopLost_lo (hon : loOn s l = true) (hc : s.flag (Fld.LO.STAT.COAST l.idx) = false) (hl : s.flag (Fld.LO.STAT.LOCKED l.idx) = true)
    (hv : s.flag Fld.CLK.STAT.REF_VALID = true) :
    loopLost (loopOf l) s = requestLo l { kind := .retune, hz := s.get (Fld.LO.FREQ_HZ.HZ l.idx), fresh := true }
      (unitFault (0x0A + l.idx) 0 6 (coastLo l false (raise (Ev.LO.UNLOCK l.idx) s))) := by
  have e : loopLost (loopOf l) s = loopLost.lost l s := by cases l <;> rfl
  rw [e]
  exact if_neg (by simp [hon, hc, hl, hv])

/-- The registers that an LO's loss of lock may change. -/
def unlockWords (l : Lo) : List Nat := evWords (Ev.LO.UNLOCK l.idx) ++ [Reg.LO.STAT l.idx] ++ faultWords ++ loAskWords l

theorem loLost_completes (hon : loOn s l = true) (hc : s.flag (Fld.LO.STAT.COAST l.idx) = false)
    (hl : s.flag (Fld.LO.STAT.LOCKED l.idx) = true) (hv : s.flag Fld.CLK.STAT.REF_VALID = true) :
    completes (.lockLost (loopOf l)) s (fun t =>
      t.flag (Fld.LO.STAT.COAST l.idx) = true ∧ t.flag (Fld.LO.STAT.LOCKED l.idx) = false ∧ raised t (Ev.LO.UNLOCK l.idx) ∧
      loAsked s t l { kind := .retune, hz := s.get (Fld.LO.FREQ_HZ.HZ l.idx), fresh := true } ∧
      pageFrame [.loops, .blocks, .plan, .flt, .twc, .fab] [0x000, 0x003 + l.idx, 0x040, 0x062, 0x071] s t) := by
  refine completes_of_eq rfl (loopLost_lo hon hc hl hv) ?_
  -- the loss is raised, and the LO coasts
  have a1 : raised (coastLo l false (raise (Ev.LO.UNLOCK l.idx) s)) (Ev.LO.UNLOCK l.idx) :=
    raised_of_keepsEvents (keepsEvents_coastLo _ _ _) (raised_raise _ _)
  have a2 : frame [.loops, .blocks, .twc, .fab] (evWords (Ev.LO.UNLOCK l.idx) ++ [Reg.LO.STAT l.idx]) s
      (coastLo l false (raise (Ev.LO.UNLOCK l.idx) s)) :=
    frame_coastLo (by simp) (by simp) (by simp) (frame_raise (by decide) (List.subset_append_left _ _) (frame_refl _ _ _))
  have a3 : (coastLo l false (raise (Ev.LO.UNLOCK l.idx) s)).lo l = s.lo l := by
    rw [lo_coastLo, lo_of_loops (raise_loops _ _)]
  obtain ⟨a4, a5⟩ := coastLo_flags l false (raise (Ev.LO.UNLOCK l.idx) s)
  generalize coastLo l false (raise (Ev.LO.UNLOCK l.idx) s) = a at a1 a2 a3 a4 a5 ⊢
  -- the fault is recorded
  have hk := handles_unitFault (show safeUnit (0x0A + l.idx) = true by cases l <;> decide) 0 6 a
  generalize unitFault (0x0A + l.idx) 0 6 a = b at hk ⊢
  have hb : frame [.loops, .blocks, .plan, .flt, .twc, .fab] (unlockWords l) s b :=
    frame_trans (frame_mono a2 (by decide) (fun _ h => by simp only [unlockWords, List.mem_append] at h ⊢; tauto))
      (frame_mono hk.frame (by decide) (fun _ h => by simp only [unlockWords, List.mem_append]; tauto))
  have hbs : keepsStat l a b := keepsStat_of_frame hk.frame (by cases l <;> decide)
  -- the retune is asked for
  have hlo : s.lo l = b.lo l := by rw [lo_of_loops (hk.frame.1 .loops (by decide)), a3]
  have hon' : loOn b l = true := (frame_loOn hb (by decide) (by cases l <;> decide) l).trans hon
  have hask := loAsked_requestLo (r := { kind := .retune, hz := s.get (Fld.LO.FREQ_HZ.HZ l.idx), fresh := true }) hon' rfl hlo
    (frame_epoch hb (by decide)).symm
  have hq := keepsStat_trans hbs (keepsStat_requestLo l { kind := .retune, hz := s.get (Fld.LO.FREQ_HZ.HZ l.idx), fresh := true } b)
  exact ⟨hq.coast.trans a4, hq.locked.trans a5,
    raised_finish (raised_of_keepsEvents (keepsEvents_trans hk.events (keepsEvents_requestLo _ _ _)) a1), loAsked_finish hask,
    frame_of_pages (frame_finish (frame_requestLo (by decide) (List.subset_append_right _ _) hb)) (by cases l <;> decide)⟩

/-- Settles O6: a coast is `PllCoasts` for PLL-S and `coastLo` for an LO; the fault that a loss of lock counts as touches fault handling only
(`handles_unitFault`), and the retune it asks for leaves the status but for QUEUED (`keepsStat_requestLo`). -/
theorem loopEventsComplete : Obligations.LoopEventsComplete := by
  unfold Obligations.LoopEventsComplete
  refine ⟨?refLost, ?refValid, ?pllLocked, ?loLocked, ?pllLost, ?loLost, ?holdover⟩
  case refLost => exact fun s h => refLost_completes h
  case refValid => exact fun s h hv => refValid_completes h hv
  case pllLocked => exact fun s hc hv => pllLocked_completes hc hv
  case loLocked => exact fun l s hon hc => loLocked_completes hon hc
  case pllLost => exact fun s hc hl hv => pllLost_completes hc hl hv
  case loLost => exact fun l s hon hc hl hv => loLost_completes hon hc hl hv
  case holdover => exact fun s h hd => holdoverDegraded_completes h hd

end Sys2Proof.Machine.Clocking

namespace Sys2Proof.Machine.Clocking

open Capture

variable {ps : List Part} {as : List Nat} {s t u : State} {l : Lo}

/-! ## The parts of an offset (R74.4) -/

theorem rebasePart_abs (off : Int) (i : Nat) : (rebasePart off i).natAbs ≤ 500 := by
  unfold rebasePart rebaseStep clampInt
  omega

theorem rebasePart_of_nonneg {off : Int} (h : 0 ≤ off) (i : Nat) : rebasePart off i = min off (500 * (i + 1)) - min off (500 * i) := by
  unfold rebasePart rebaseStep clampInt
  rw [if_pos h]
  omega

theorem rebasePart_of_neg {off : Int} (h : off < 0) (i : Nat) : rebasePart off i = max off (-500 * (i + 1)) - max off (-500 * i) := by
  unfold rebasePart rebaseStep clampInt
  rw [if_neg (by omega)]
  omega

/-- A sum of differences of neighbours is the difference of the ends. -/
theorem sum_range_of_steps {f : Nat → Int} {g : Nat → Int} (h : ∀ i, f i = g (i + 1) - g i) (n : Nat) :
    ((List.range n).map f).sum = g n - g 0 := by
  induction n with
  | zero => simp
  | succ n ih =>
    rw [List.range_succ, List.map_append, List.sum_append, ih, List.map_singleton, List.sum_singleton, h]
    omega

/-- The parts that the steps remove add up to the offset. -/
theorem rebaseParts_sum (off : Int) : ((List.range (rebaseSteps off)).map (rebasePart off)).sum = off := by
  rcases Int.lt_or_le off 0 with h | h
  · rw [sum_range_of_steps (g := fun i => max off (-500 * (i : Int))) (fun i => by rw [rebasePart_of_neg h]; push_cast; rfl)]
    unfold rebaseSteps
    omega
  · rw [sum_range_of_steps (g := fun i => min off (500 * (i : Int))) (fun i => by rw [rebasePart_of_nonneg h]; push_cast; rfl)]
    unfold rebaseSteps
    omega

/-! ## The loops close (R74) -/

/-- The loop of an LO. -/
def loopAt (s : State) (l : Lo) : LoopState := at' s.loops.loops l.idx {}

theorem loopAt_setLoop (s : State) (l : Lo) (f : LoopState → LoopState) : loopAt (s.setLoop l f) l = f (loopAt s l) := by
  cases l <;> simp [loopAt, State.setLoop, upd, at', Lo.idx]

theorem loopAt_setLoop_ne {k : Lo} (h : k ≠ l) (s : State) (f : LoopState → LoopState) : loopAt (s.setLoop l f) k = loopAt s k := by
  cases l <;> cases k <;> simp [loopAt, State.setLoop, upd, at', Lo.idx] at h ⊢

theorem loopAt_of_loops (h : t.loops = s.loops) (l : Lo) : loopAt t l = loopAt s l := by
  simp only [loopAt, h]

/-- The registers of an LO's words in force. -/
def loRegs (l : Lo) : List Nat := [Reg.LO.INT l.idx, Reg.LO.FRAC l.idx, Reg.LO.ODIV l.idx, Reg.LO.FREQ_HZ l.idx]

theorem setLoWords_leaves (l : Lo) (hz : Nat) (s : State) : frame [] (loRegs l) s (setLoWords l hz s) := by
  cases l <;> exact frame_set (by decide) (frame_set (by decide) (frame_set (by decide) (frame_set (by decide) (frame_refl _ _ _))))

/-- An LO that coasts for want of a reference closes with its measured error as offset. -/
def shutLoop (l : Lo) (off : Int) (s : State) : State :=
  if s.flag (Fld.LO.STAT.COAST l.idx) && (loopAt s l).byRef then
    let v := (s.put (Fld.LO.STAT.COAST l.idx) false).setLoop l (fun x => { x with offset := off, byRef := false })
    raise (Ev.LO.RELOCKED l.idx) (setLoWords l (v.get (Fld.LO.FREQ_HZ.HZ l.idx)) v)
  else s

/-- The registers that closing an LO's loop may change. -/
def shutWords (l : Lo) : List Nat := Reg.LO.STAT l.idx :: loRegs l ++ evWords (Ev.LO.RELOCKED l.idx)

/-- From `s` to `t` loop `l` closes where it coasts for want of a reference. -/
structure Shuts (l : Lo) (off : Int) (s t : State) : Prop where
  frame : frame [.loops, .twc, .fab] (shutWords l) s t
  events : keepsEvents s t
  sys : t.loops.sys = s.loops.sys
  closedAt : t.loops.closedAt = s.loops.closedAt
  other : ∀ k, k ≠ l → loopAt t k = loopAt s k
  closes : s.flag (Fld.LO.STAT.COAST l.idx) = true → (loopAt s l).byRef = true →
    t.flag (Fld.LO.STAT.COAST l.idx) = false ∧ loOffset t l = off ∧ raised t (Ev.LO.RELOCKED l.idx)

theorem shutWords_offset (l : Lo) : ∀ a ∈ Reg.LO.STAT l.idx :: loRegs l, a % 4096 ≠ 16 := by
  cases l <;> decide

theorem stat_not_loRegs (l : Lo) : Reg.LO.STAT l.idx ∉ loRegs l := by
  cases l <;> decide

theorem shuts_shutLoop (l : Lo) (off : Int) (s : State) : Shuts l off s (shutLoop l off s) := by
  unfold shutLoop
  split
  case isFalse h =>
    refine ⟨frame_refl _ _ _, keepsEvents_refl s, rfl, rfl, fun _ _ => rfl, fun h1 h2 => absurd ?_ h⟩
    simp [h1, h2]
  case isTrue =>
    dsimp only
    generalize hv : (s.put (Fld.LO.STAT.COAST l.idx) false).setLoop l (fun x => { x with offset := off, byRef := false }) = v
    have v1 : Machine.frame [.loops] [Reg.LO.STAT l.idx] s v := by
      rw [← hv]
      exact frame_setLoop (by simp) (frame_put (f := Fld.LO.STAT.COAST l.idx) (List.mem_singleton.mpr rfl) (frame_refl _ _ _))
    have v2 : v.flag (Fld.LO.STAT.COAST l.idx) = false := by
      rw [← hv]
      exact State.flag_put_same s (Fld.LO.STAT.COAST l.idx) false (show 3 + 1 ≤ 32 by decide) Nat.one_pos
    have v3 : loopAt v l = { loopAt s l with offset := off, byRef := false } := by
      rw [← hv]
      exact loopAt_setLoop (s.put (Fld.LO.STAT.COAST l.idx) false) l _
    have v4 (k : Lo) (hk : k ≠ l) : loopAt v k = loopAt s k := by
      rw [← hv]
      exact loopAt_setLoop_ne hk (s.put (Fld.LO.STAT.COAST l.idx) false) _
    have v5 : v.loops.sys = s.loops.sys ∧ v.loops.closedAt = s.loops.closedAt := by
      rw [← hv]
      exact ⟨rfl, rfl⟩
    have w := setLoWords_leaves l (v.get (Fld.LO.FREQ_HZ.HZ l.idx)) v
    generalize setLoWords l (v.get (Fld.LO.FREQ_HZ.HZ l.idx)) v = x at w ⊢
    have hx : (raise (Ev.LO.RELOCKED l.idx) x).loops = v.loops := (raise_loops _ _).trans (w.1 .loops (by simp))
    have hf : Machine.frame [.loops] (Reg.LO.STAT l.idx :: loRegs l) s x :=
      frame_trans (frame_mono v1 (fun _ h => h) (by simp)) (frame_mono w (by simp) (by simp))
    refine ⟨frame_raise (by decide) (List.subset_append_right _ _) (frame_mono hf (by simp) (List.subset_append_left _ _)),
      keepsEvents_trans (keepsEvents_of_frame (by simp) (shutWords_offset l) hf) (keepsEvents_raise _ _),
      (congrArg Loops.sys hx).trans v5.1, (congrArg Loops.closedAt hx).trans v5.2,
      fun k hk => (loopAt_of_loops hx k).trans (v4 k hk), fun _ _ => ⟨?_, ?_, raised_raise _ _⟩⟩
    · rw [flag_raise _ _ (loStat_offset l).1 (loStat_offset l).2, frame_flag w (stat_not_loRegs l), v2]
    · exact congrArg LoopState.offset ((loopAt_of_loops hx l).trans v3)

/-- The loops close: PLL-S with its measured error, and each LO that coasts for want of a reference with its own. -/
def loopsClosed (sys lof lob : Int) (s : State) : State :=
  let t := (((s.put Fld.CLK.STAT.COAST false).put Fld.CLK.STAT.HOLDOVER_DEGRADED false).seti Fld.CLK.REBASE_ERR.PPB sys)
  shutLoop .lob lob (shutLoop .lof lof { t with loops := { t.loops with
    sys := { t.loops.sys with offset := sys, byRef := false, valid := 0, phaseOut := false }, closedAt := some t.epoch } })

/-- The registers that closing the loops may change. -/
def closeWords : List Nat := [Reg.CLK.STAT, Reg.CLK.REBASE_ERR] ++ shutWords .lof ++ shutWords .lob

theorem loopsClosed_shows (sys lof lob : Int) (s : State) :
    frame [.loops, .twc, .fab] closeWords s (loopsClosed sys lof lob s) ∧
    (loopsClosed sys lof lob s).flag Fld.CLK.STAT.COAST = false ∧ (loopsClosed sys lof lob s).flag Fld.CLK.STAT.HOLDOVER_DEGRADED = false ∧
    (loopsClosed sys lof lob s).loops.sys.offset = sys ∧ (loopsClosed sys lof lob s).loops.closedAt = some s.epoch ∧
    ∀ l : Lo, s.flag (Fld.LO.STAT.COAST l.idx) = true → (loopAt s l).byRef = true →
      (loopsClosed sys lof lob s).flag (Fld.LO.STAT.COAST l.idx) = false ∧
      loOffset (loopsClosed sys lof lob s) l = (match l with | .lof => lof | .lob => lob) ∧
      raised (loopsClosed sys lof lob s) (Ev.LO.RELOCKED l.idx) := by
  unfold loopsClosed
  dsimp only
  generalize hb : ((s.put Fld.CLK.STAT.COAST false).put Fld.CLK.STAT.HOLDOVER_DEGRADED false).seti Fld.CLK.REBASE_ERR.PPB sys = b
  have b1 : b.flag Fld.CLK.STAT.COAST = false ∧ b.flag Fld.CLK.STAT.HOLDOVER_DEGRADED = false := by
    rw [← hb]
    unfold State.seti
    simp (disch := decide) only [flag_set_apart, flag_put_apart, State.flag_put_same, and_self]
  have b2 : frame [] [Reg.CLK.STAT, Reg.CLK.REBASE_ERR] s b := by
    rw [← hb]
    exact frame_seti (by decide) (frame_put (by decide) (frame_put (by decide) (frame_refl _ _ _)))
  generalize hc : ({ b with loops := _ } : State) = c
  have c1 : c.loops.sys.offset = sys ∧ c.loops.closedAt = some b.epoch := by
    rw [← hc]
    exact ⟨rfl, rfl⟩
  have c2 (l : Lo) : loopAt c l = loopAt b l := by
    rw [← hc]
    rfl
  have c3 : frame [.loops] [Reg.CLK.STAT, Reg.CLK.REBASE_ERR] s c := by
    rw [← hc]
    exact frame_loops (by simp) (frame_mono b2 (by simp) (fun _ h => h))
  have c4 (f : Field) : c.flag f = b.flag f := by
    rw [← hc]
    exact flag_of_regs rfl f
  have hf := shuts_shutLoop .lof lof c
  generalize shutLoop .lof lof c = d at hf ⊢
  have hg := shuts_shutLoop .lob lob d
  generalize shutLoop .lob lob d = e at hg ⊢
  have hby (l : Lo) : loopAt c l = loopAt s l := (c2 l).trans (loopAt_of_loops (b2.1 .loops (by simp)) l)
  have hco (l : Lo) : c.flag (Fld.LO.STAT.COAST l.idx) = s.flag (Fld.LO.STAT.COAST l.idx) := frame_flag c3 (by cases l <;> decide)
  have clk (f : Field) (h : f.addr = Reg.CLK.STAT) : e.flag f = b.flag f := by
    rw [frame_flag hg.frame (by rw [h]; decide), frame_flag hf.frame (by rw [h]; decide), c4]
  refine ⟨frame_trans (frame_mono c3 (by simp) (by decide)) (frame_trans (frame_mono hf.frame (fun _ h => h) (by decide))
      (frame_mono hg.frame (fun _ h => h) (by decide))), (clk _ rfl).trans b1.1, (clk _ rfl).trans b1.2, ?_, ?_, fun l h1 h2 => ?_⟩
  · rw [hg.sys, hf.sys, c1.1]
  · rw [hg.closedAt, hf.closedAt, c1.2, frame_epoch b2 (by simp)]
  · rw [← hco] at h1
    rw [← hby] at h2
    cases l with
    | lof =>
      obtain ⟨k1, k2, k3⟩ := hf.closes h1 h2
      exact ⟨(frame_flag hg.frame (by decide)).trans k1, (congrArg LoopState.offset (hg.other .lof (by decide))).trans k2,
        raised_of_keepsEvents hg.events k3⟩
    | lob => exact hg.closes ((frame_flag hf.frame (by decide)).trans h1) ((congrArg LoopState.byRef (hf.other .lob (by decide))).trans h2)

/-! ## The steps that remove the offsets (R74.4) -/

/-- The number of steps that remove the offsets of every loop. -/
def rebaseCount (s : State) : Nat :=
  max (rebaseSteps s.loops.sys.offset) (max (rebaseSteps (loOffset s .lof)) (rebaseSteps (loOffset s .lob)))

theorem frame_setPllWords (ha : [Reg.CLK.INT, Reg.CLK.FRAC] ⊆ as) (h : frame ps as s t) : frame ps as s (setPllWords t) := by
  refine frame_set (f := Fld.CLK.FRAC.F) (ha (by decide)) (frame_set (f := Fld.CLK.INT.N) (ha (by decide)) h)

theorem frame_unitSettled {x : UnitId} (hp : Part.flt ∈ ps) (h : frame ps as s t) : frame ps as s (unitSettled x t) := by
  unfold unitSettled
  split
  · exact frame_flt hp h
  · exact h

/-- Posting the steps shows them, and touches nothing else but the plan. -/
theorem postRebase_shows (s : State) :
    frame [.loops, .plan] (Reg.CLK.STAT :: planWords) s (postRebase s) ∧ (postRebase s).loops = { s.loops with stepsLeft := rebaseCount s } ∧
    (postRebase s).flag Fld.CLK.STAT.CORRECTING = (rebaseCount s != 0) ∧
    (postRebase s).flag Fld.CLK.STAT.COAST = s.flag Fld.CLK.STAT.COAST ∧
    (postRebase s).flag Fld.CLK.STAT.HOLDOVER_DEGRADED = s.flag Fld.CLK.STAT.HOLDOVER_DEGRADED := by
  unfold postRebase
  dsimp only
  generalize hb : ({ s with loops := _ } : State).put Fld.CLK.STAT.CORRECTING _ = b
  have b1 : frame [.loops] [Reg.CLK.STAT] s b := by
    rw [← hb]
    exact frame_put (by decide) (frame_loops (by simp) (frame_refl _ _ _))
  have b2 : b.loops = { s.loops with stepsLeft := rebaseCount s } := by
    rw [← hb]
    rfl
  have b3 : b.flag Fld.CLK.STAT.CORRECTING = (rebaseCount s != 0) := by
    rw [← hb]
    exact State.flag_put_same _ _ _ (by decide) (by decide)
  have b4 (f : Field) (h : Apart Fld.CLK.STAT.CORRECTING f) : b.flag f = s.flag f := by
    rw [← hb, flag_put_apart h]
    exact flag_of_regs rfl f
  generalize hc : forEach _ _ b = c
  have hf : frame [.plan] planWords b c := by
    rw [← hc]
    exact frame_forEach (fun _ _ _ h => frame_posted (by simp) (fun _ h => h) h) (frame_refl _ _ _)
  have clk (f : Field) (h : f.addr = Reg.CLK.STAT) : c.flag f = b.flag f := frame_flag hf (by rw [h]; decide)
  exact ⟨frame_trans (frame_mono b1 (by simp) (by decide)) (frame_mono hf (by simp) (by decide)),
    (hf.1 .loops (by simp)).trans b2, (clk _ rfl).trans b3, (clk _ rfl).trans (b4 _ (by decide)), (clk _ rfl).trans (b4 _ (by decide))⟩

/-! ## The phase rebase (R74) -/

/-- The loops closed and shown so: their words follow, and the steps of an earlier rebase are cancelled. -/
def rebased (sys lof lob : Int) (s : State) : State :=
  cancelEntries isRebase (raise Ev.CLK.REBASED (unitSettled (0x09, 0) (setPllWords (loopsClosed sys lof lob s))))

theorem closeLoops_eq (sys lof lob : Int) (hc : s.flag Fld.CLK.STAT.COAST = true) (hr : s.flag Fld.CLK.STAT.REF_VALID = true)
    (hv : 2 ≤ s.loops.sys.valid) :
    closeLoops sys lof lob s =
      raiseIf ((postRebase (rebased sys lof lob s)).loops.stepsLeft == 0) Ev.CLK.CORR_DONE (postRebase (rebased sys lof lob s)) :=
  if_pos (by simp [hc, hr, hv])

/-- The registers that a rebase may change before it posts its steps. -/
def rebasedWords : List Nat :=
  closeWords ++ [Reg.CLK.INT, Reg.CLK.FRAC] ++ evWords Ev.CLK.REBASED ++ planRegs ++ (nextRegs .lof ++ nextRegs .lob)

/-- Once the loops are closed, what follows leaves their state, and loses no event. -/
theorem rebased_follows (sys lof lob : Int) (s : State) :
    frame [.plan, .flt, .twc, .fab] ([Reg.CLK.INT, Reg.CLK.FRAC] ++ evWords Ev.CLK.REBASED ++ planRegs ++ (nextRegs .lof ++ nextRegs .lob))
      (loopsClosed sys lof lob s) (rebased sys lof lob s) ∧
    keepsEvents (loopsClosed sys lof lob s) (rebased sys lof lob s) ∧ raised (rebased sys lof lob s) Ev.CLK.REBASED := by
  unfold rebased
  generalize loopsClosed sys lof lob s = a
  have h1 : frame [.flt] [Reg.CLK.INT, Reg.CLK.FRAC] a (unitSettled (0x09, 0) (setPllWords a)) :=
    frame_unitSettled (by simp) (frame_setPllWords (fun _ h => h) (frame_refl _ _ _))
  generalize unitSettled (0x09, 0) (setPllWords a) = b at h1 ⊢
  have h2 : frame [.plan] (planRegs ++ (nextRegs .lof ++ nextRegs .lob)) (raise Ev.CLK.REBASED b)
      (cancelEntries isRebase (raise Ev.CLK.REBASED b)) :=
    frame_cancelEntries (by simp) (List.subset_append_left _ _) (List.subset_append_right _ _) (frame_refl _ _ _)
  have k2 := keepsEvents_of_frame (by simp) (by decide) h2
  refine ⟨frame_trans (frame_mono h1 (by simp) (by decide)) (frame_trans (frame_raise (by decide) (by decide) (frame_refl _ _ _))
      (frame_mono h2 (by simp) (by decide))), ?_, raised_of_keepsEvents k2 (raised_raise _ _)⟩
  exact keepsEvents_trans (keepsEvents_of_frame (by simp) (by decide) h1) (keepsEvents_trans (keepsEvents_raise _ _) k2)

theorem phaseRebase_completes (sys lof lob : Int) (hc : s.flag Fld.CLK.STAT.COAST = true) (hr : s.flag Fld.CLK.STAT.REF_VALID = true)
    (hv : 2 ≤ s.loops.sys.valid) :
    completes (.phaseRebase sys lof lob) s (fun t =>
      t.flag Fld.CLK.STAT.COAST = false ∧ t.flag Fld.CLK.STAT.HOLDOVER_DEGRADED = false ∧ t.loops.sys.offset = sys ∧
      t.loops.closedAt = some s.epoch ∧ raised t Ev.CLK.REBASED ∧
      (∀ l : Lo, s.flag (Fld.LO.STAT.COAST l.idx) = true → (at' s.loops.loops l.idx {}).byRef = true →
        t.flag (Fld.LO.STAT.COAST l.idx) = false ∧ loOffset t l = (match l with | .lof => lof | .lob => lob) ∧
        raised t (Ev.LO.RELOCKED l.idx)) ∧
      t.loops.stepsLeft = max (rebaseSteps sys) (max (rebaseSteps (loOffset t .lof)) (rebaseSteps (loOffset t .lob))) ∧
      t.flag Fld.CLK.STAT.CORRECTING = (t.loops.stepsLeft != 0) ∧ (t.loops.stepsLeft = 0 → raised t Ev.CLK.CORR_DONE) ∧
      frame [.loops, .plan, .flt, .twc, .fab] ([Reg.CLK.STAT, Reg.CLK.REBASE_ERR, Reg.CLK.INT, Reg.CLK.FRAC] ++
        [0, 1].flatMap (fun i => [Reg.LO.STAT i, Reg.LO.INT i, Reg.LO.FRAC i, Reg.LO.ODIV i, Reg.LO.FREQ_HZ i,
          (Fld.LO.NEXT_INT.N i).addr, (Fld.LO.NEXT_FRAC.F i).addr, (Fld.LO.NEXT_ODIV.D i).addr, (Fld.LO.NEXT_EPOCH.EPOCH i).addr]) ++ planWords ++
        evsWords [Ev.CLK.REBASED, Ev.CLK.CORR_DONE, Ev.LO.RELOCKED 0, Ev.LO.RELOCKED 1]) s t) := by
  refine completes_of_eq rfl (closeLoops_eq sys lof lob hc hr hv) ?_
  -- the loops close
  obtain ⟨a1, a2, a3, a4, a5, a6⟩ := loopsClosed_shows sys lof lob s
  obtain ⟨b1, b2, b3⟩ := rebased_follows sys lof lob s
  generalize loopsClosed sys lof lob s = a at a1 a2 a3 a4 a5 a6 b1 b2
  generalize rebased sys lof lob s = b at b1 b2 b3 ⊢
  have hb : b.loops = a.loops := b1.1 .loops (by decide)
  -- the steps are posted
  obtain ⟨c1, c2, c3, c4, c5⟩ := postRebase_shows b
  have ck := keepsEvents_of_frame (by decide) (by decide) c1
  have count : rebaseCount b = max (rebaseSteps sys) (max (rebaseSteps (loOffset b .lof)) (rebaseSteps (loOffset b .lob))) := by
    rw [← a4, rebaseCount, hb]
  generalize postRebase b = c at c1 c2 c3 c4 c5 ck ⊢
  -- the end of the correction is raised where there is none
  have d1 : frame evParts (evWords Ev.CLK.CORR_DONE) c (raiseIf (c.loops.stepsLeft == 0) Ev.CLK.CORR_DONE c) :=
    frame_raiseIf (fun _ h => h) (fun _ h => h) (frame_refl _ _ _)
  have d2 := keepsEvents_raiseIf (c.loops.stepsLeft == 0) Ev.CLK.CORR_DONE c
  have d3 (h : c.loops.stepsLeft = 0) : raised (raiseIf (c.loops.stepsLeft == 0) Ev.CLK.CORR_DONE c) Ev.CLK.CORR_DONE := by
    rw [h]
    exact raised_raise _ _
  generalize raiseIf (c.loops.stepsLeft == 0) Ev.CLK.CORR_DONE c = t at d1 d2 d3 ⊢
  have hl : t.loops = { b.loops with stepsLeft := rebaseCount b } := (d1.1 .loops (by decide)).trans c2
  have ht : t.loops.stepsLeft = rebaseCount b := congrArg Loops.stepsLeft hl
  have hd : c.loops.stepsLeft = rebaseCount b := congrArg Loops.stepsLeft c2
  have off (l : Lo) : loOffset t l = loOffset b l := by simp only [loOffset, hl]
  have aoff (l : Lo) : loOffset b l = loOffset a l := by simp only [loOffset, hb]
  have clk (f : Field) (h : f.addr = Reg.CLK.STAT) : t.flag f = c.flag f := frame_flag d1 (by rw [h]; decide)
  have fin : frame [.loops, .plan, .flt, .twc, .fab] (rebasedWords ++ (Reg.CLK.STAT :: planWords) ++ evWords Ev.CLK.CORR_DONE) s t :=
    frame_trans (frame_mono a1 (by decide) (by decide)) (frame_trans (frame_mono b1 (by decide) (by decide))
      (frame_trans (frame_mono c1 (by decide) (by decide)) (frame_mono d1 (by decide) (by decide))))
  refine ⟨?_, ?_, ?_, ?_, raised_finish (raised_of_keepsEvents (keepsEvents_trans ck d2) b3), fun l h1 h2 => ?_, ?_, ?_, ?_,
    frame_finish (frame_mono fin (fun _ h => h) (by decide))⟩
  · exact (clk _ rfl).trans (c4.trans ((frame_flag b1 (by decide)).trans a2))
  · exact (clk _ rfl).trans (c5.trans ((frame_flag b1 (by decide)).trans a3))
  · rw [finish_loops, hl, hb, a4]
  · rw [finish_loops, hl, hb, a5]
  · obtain ⟨k1, k2, k3⟩ := a6 l h1 h2
    refine ⟨?_, (off l).trans ((aoff l).trans k2), raised_finish (raised_of_keepsEvents (keepsEvents_trans b2 (keepsEvents_trans ck d2)) k3)⟩
    refine (finish_flag _ _ _).trans ((frame_flag d1 ?_).trans ((frame_flag c1 ?_).trans ((frame_flag b1 ?_).trans k1))) <;> cases l <;> decide
  · exact (ht.trans count).trans (by rw [← off, ← off]; rfl)
  · refine (clk _ rfl).trans (c3.trans ?_)
    rw [finish_loops, ht]
  · exact fun h => raised_finish (d3 (hd.trans (ht.symm.trans h)))

end Sys2Proof.Machine.Clocking

namespace Sys2Proof.Machine.Clocking

open Capture

variable {ps : List Part} {as : List Nat} {s t u : State} {l : Lo} {r : LoReq}

/-! ## The calibrations of a synthesiser (R65 to R67) -/

/-- The parts and registers that asking for a calibration may change. -/
def calParts : List Part := [.loops, .aux, .plan, .twc, .fab]

def calWords (l : Lo) : List Nat := Reg.COX.STAT :: loAskWords l ++ evsWords [Ev.LO.CAL_DEFERRED l.idx, Ev.COX.LIMITED]

theorem loAskWords_subset_calWords (l : Lo) : Reg.COX.STAT :: loAskWords l ⊆ calWords l := List.subset_append_left _ _

theorem deferWords_subset_calWords (l : Lo) : evWords (Ev.LO.CAL_DEFERRED l.idx) ⊆ calWords l := fun _ h =>
  List.mem_append_right _ (by simp [evsWords, h])

theorem limitedWords_subset_calWords (l : Lo) : evWords Ev.COX.LIMITED ⊆ calWords l := fun _ h =>
  List.mem_append_right _ (by simp [evsWords, h])

/-- From `s` to `t` calibrations are asked for or wait: the status stands but for QUEUED and CAL_PENDING, and so does an ALL pass. -/
structure Asks (l : Lo) (s t : State) : Prop where
  frame : frame calParts (calWords l) s t
  stat : keepsStat l s t
  pass : (t.lo l).pass = (s.lo l).pass
  all : (t.lo l).waitingAll = (s.lo l).waitingAll

theorem Asks.refl (l : Lo) (s : State) : Asks l s s := ⟨frame_refl _ _ _, keepsStat_refl l s, rfl, rfl⟩

theorem Asks.trans (h : Asks l s t) (k : Asks l t u) : Asks l s u :=
  ⟨frame_trans h.frame k.frame, keepsStat_trans h.stat k.stat, k.pass.trans h.pass, k.all.trans h.all⟩

/-- A change that leaves the synthesisers and the status. -/
theorem Asks.of_frame (h : Machine.frame ps as s t) (hp : ps ⊆ calParts) (ha : as ⊆ calWords l) (hl : Part.loops ∉ ps)
    (hs : Reg.LO.STAT l.idx ∉ as) : Asks l s t := by
  have e := lo_of_loops (h.1 .loops hl) l
  exact ⟨frame_mono h hp ha, keepsStat_of_frame h hs, by rw [e], by rw [e]⟩

theorem asks_setLo {f : LoState → LoState} (h1 : (f (s.lo l)).pass = (s.lo l).pass) (h2 : (f (s.lo l)).waitingAll = (s.lo l).waitingAll) :
    Asks l s (s.setLo l f) :=
  ⟨frame_setLo (by simp [calParts]) (frame_refl _ _ _), keepsStat_setLo l l f s, by rw [lo_setLo, h1], by rw [lo_setLo, h2]⟩

theorem stat_mem_calWords (l : Lo) : Reg.LO.STAT l.idx ∈ calWords l :=
  loAskWords_subset_calWords l (List.mem_cons_of_mem _ (lo_mem_loAskWords l).1)

theorem asks_pending (l : Lo) (b : Bool) (s : State) : Asks l s (s.put (Fld.LO.STAT.CAL_PENDING l.idx) b) :=
  ⟨frame_put (f := Fld.LO.STAT.CAL_PENDING l.idx) (stat_mem_calWords l) (frame_refl _ _ _), keepsStat_pending l b s, rfl, rfl⟩

theorem asks_queued (l : Lo) (b : Bool) (s : State) : Asks l s (s.put (Fld.LO.STAT.QUEUED l.idx) b) :=
  ⟨frame_put (f := Fld.LO.STAT.QUEUED l.idx) (stat_mem_calWords l) (frame_refl _ _ _), keepsStat_queued l b s, rfl, rfl⟩

theorem asks_raise {g : Nat} (h : evWords g ⊆ calWords l) (s : State) : Asks l s (raise g s) :=
  .of_frame (frame_raised g s) (by decide) h (by decide) (stat_not_event l g)

/-- The pass of a synthesiser and its waiting ALL stand while a change is posted. -/
theorem lo_postLo (l : Lo) (r : LoReq) (s : State) : (postLo l r s).lo l = { s.lo l with busy := some (resolveCal s l r), settling := false } := by
  unfold postLo
  dsimp only
  split <;> rw [lo_of_loops (loops_postAll _), lo_setLo]

theorem asks_postLo (l : Lo) (r : LoReq) (s : State) : Asks l s (postLo l r s) where
  frame := frame_postLo (by decide) (fun _ h => loAskWords_subset_calWords l (List.mem_cons_of_mem _ (planWords_subset_loAskWords l h)))
    (frame_refl _ _ _)
  stat := keepsStat_postLo l r s
  pass := by rw [lo_postLo]
  all := by rw [lo_postLo]

/-- A request of a busy synthesiser is held; what it held is superseded (R68). -/
def holdReq (l : Lo) (r : LoReq) (s : State) : State :=
  ((if (s.lo l).queued.isSome then raise (Ev.LO.SUPERSEDED l.idx) (s.bumpSat (Fld.LO.SUPERSEDED_CNT.COUNT l.idx)) else s).setLo l
    (fun y => { y with queued := some r })).put (Fld.LO.STAT.QUEUED l.idx) true

theorem requestLo_off (h : loOn s l = false) : requestLo l r s = s := if_pos (by simp [h])

theorem requestLo_busy (hon : loOn s l = true) (hb : (s.lo l).busy ≠ none) : requestLo l r s = holdReq l r s := by
  have hb' : (s.lo l).busy.isNone = false := by
    rw [Option.isNone_eq_false_iff, Option.isSome_iff_ne_none]
    exact hb
  unfold requestLo
  simp only [hon, hb', Bool.not_true, Bool.false_eq_true, ↓reduceIte]
  rfl

theorem lo_holdReq (l : Lo) (r : LoReq) (s : State) : (holdReq l r s).lo l = { s.lo l with queued := some r } := by
  have e (t : State) : ((t.setLo l (fun y => { y with queued := some r })).put (Fld.LO.STAT.QUEUED l.idx) true).lo l =
      { t.lo l with queued := some r } := lo_setLo t l _
  unfold holdReq
  rw [e]
  split
  · rw [lo_of_loops (raise_loops _ _)]
    rfl
  · rfl

theorem asks_requestLo (l : Lo) (r : LoReq) (s : State) : Asks l s (requestLo l r s) := by
  have hf : frame calParts (calWords l) s (requestLo l r s) :=
    frame_requestLo (by decide) (fun _ h => loAskWords_subset_calWords l (List.mem_cons_of_mem _ h)) (frame_refl _ _ _)
  refine ⟨hf, keepsStat_requestLo l r s, ?_, ?_⟩ <;>
  · cases hon : loOn s l with
    | false => rw [requestLo_off hon]
    | true =>
      by_cases hb : (s.lo l).busy = none
      · rw [requestLo_free hon hb, lo_postLo]
      · rw [requestLo_busy hon hb, lo_holdReq]

theorem asks_goCal (l : Lo) (s : State) : Asks l s (goCal l s) := by
  unfold goCal
  split
  · exact (asks_setLo (by rfl) (by rfl)).trans ((asks_pending l false _).trans (asks_requestLo l _ _))
  · exact .refl l s

theorem asks_holdCal (l : Lo) (r : LoReq) (s : State) : Asks l s (holdCal l r s) := (asks_setLo rfl rfl).trans (asks_pending l true _)

theorem asks_deferCal (l : Lo) (r : LoReq) (s : State) : Asks l s (deferCal l r s) :=
  (asks_holdCal l r s).trans (asks_raise (deferWords_subset_calWords l) _)

theorem asks_noGrantCal (l : Lo) (s : State) : Asks l s (noGrantCal l s) := by
  unfold noGrantCal
  split
  · split
    · exact asks_goCal l s
    · refine (asks_setLo (f := fun x => { x with skipIdle := true }) rfl rfl).trans ?_
      split
      · exact asks_holdCal l _ _
      · exact asks_deferCal l _ _
  · exact .refl l s

theorem frame_assertReq (use : CoexUse) (s : State) : frame [.aux, .twc, .fab] (Reg.COX.STAT :: evWords Ev.COX.LIMITED) s (assertReq use s) := by
  unfold assertReq
  dsimp only
  split
  · exact frame_refl _ _ _
  split
  · split
    · exact frame_aux (by simp) (frame_aux (by simp) (frame_refl _ _ _))
    · exact frame_aux (by simp) (frame_refl _ _ _)
  split
  · exact frame_raise (by decide) (List.subset_cons_self _ _) (frame_refl _ _ _)
  · split
    · exact frame_aux (by simp) (frame_put (f := Fld.COX.STAT.REQ) List.mem_cons_self (frame_aux (by simp) (frame_refl _ _ _)))
    · exact frame_put (f := Fld.COX.STAT.REQ) List.mem_cons_self (frame_aux (by simp) (frame_refl _ _ _))

theorem stat_not_coex (l : Lo) : Reg.LO.STAT l.idx ∉ Reg.COX.STAT :: evWords Ev.COX.LIMITED := by
  cases l <;> decide

theorem asks_assertReq (l : Lo) (use : CoexUse) (s : State) : Asks l s (assertReq use s) :=
  .of_frame (frame_assertReq use s) (by decide)
    (List.cons_subset.mpr ⟨loAskWords_subset_calWords l List.mem_cons_self, limitedWords_subset_calWords l⟩) (by decide) (stat_not_coex l)

theorem asks_startCal (l : Lo) (r : LoReq) (s : State) : Asks l s (startCal l r s) := by
  have h : Asks l s (assertReq (.calibration l) (s.setLo l (fun x => { x with waiting := some r }))) :=
    (asks_setLo (by rfl) (by rfl)).trans (asks_assertReq l _ _)
  unfold startCal
  dsimp only
  split
  · exact h.trans (asks_noGrantCal l _)
  split
  · exact h
  · exact h.trans (asks_goCal l _)

end Sys2Proof.Machine.Clocking

namespace Sys2Proof.Machine.Clocking

open Capture

variable {ps : List Part} {as : List Nat} {s t u : State} {l : Lo} {r : LoReq}

/-! ## What follows a settling (R67, R68) -/

/-- The registers that a synthesiser's next work may change. -/
def workWords (l : Lo) : List Nat := calWords l ++ evWords (Ev.LO.CAL_DONE l.idx)

/-- From `s` to `t` a synthesiser goes on with its work: the status stands but for QUEUED and CAL_PENDING. -/
structure Proceeds (l : Lo) (s t : State) : Prop where
  frame : frame calParts (workWords l) s t
  stat : keepsStat l s t

theorem Proceeds.refl (l : Lo) (s : State) : Proceeds l s s := ⟨frame_refl _ _ _, keepsStat_refl l s⟩

theorem Proceeds.trans (h : Proceeds l s t) (k : Proceeds l t u) : Proceeds l s u :=
  ⟨frame_trans h.frame k.frame, keepsStat_trans h.stat k.stat⟩

theorem Asks.proceeds (h : Asks l s t) : Proceeds l s t := ⟨frame_mono h.frame (fun _ h => h) (List.subset_append_left _ _), h.stat⟩

theorem proceeds_setLo (l : Lo) (f : LoState → LoState) (s : State) : Proceeds l s (s.setLo l f) :=
  ⟨frame_setLo (by simp [calParts]) (frame_refl _ _ _), keepsStat_setLo l l f s⟩

theorem proceeds_calDone (l : Lo) (s : State) : Proceeds l s (raise (Ev.LO.CAL_DONE l.idx) s) :=
  ⟨frame_raise (by decide) (List.subset_append_right _ _) (frame_refl _ _ _), keepsStat_raise l _ s⟩

theorem asks_dropLoQueue (l : Lo) (s : State) : Asks l s (dropLoQueue l s) :=
  (asks_setLo (f := fun x => { x with queued := none }) rfl rfl).trans (asks_queued l false _)

theorem asks_serveLoQueue (l : Lo) (s : State) : Asks l s (serveLoQueue l s) := by
  unfold serveLoQueue
  split
  · split
    · exact .refl l s
    split
    · exact asks_dropLoQueue l s
    · exact (asks_dropLoQueue l s).trans (asks_postLo l _ _)
  · exact .refl l s

theorem proceeds_passNext (l : Lo) (s : State) : Proceeds l s (passNext l s) := by
  unfold passNext
  split
  · split
    · exact (proceeds_setLo l _ s).trans (asks_startCal l _ _).proceeds
    · exact .refl l s
  · exact .refl l s

theorem proceeds_stepPass (l : Lo) (s : State) : Proceeds l s (stepPass l s) := by
  unfold stepPass
  split
  · exact proceeds_passNext l s
  · exact .refl l s

theorem proceeds_endPass (l : Lo) (hz back : Nat) (s : State) : Proceeds l s (endPass l hz back s) := by
  unfold endPass
  split
  · exact (asks_serveLoQueue l s).proceeds
  split
  · exact (asks_postLo l _ s).proceeds
  · exact ((proceeds_setLo l _ s).trans (proceeds_calDone l _)).trans (asks_serveLoQueue l _).proceeds

theorem proceeds_afterSettle (l : Lo) (r : LoReq) (s : State) : Proceeds l s (afterSettle l r s) := by
  have h : Proceeds l s (raiseIf (r.kind == .cal && r.host) (Ev.LO.CAL_DONE l.idx) s) := by
    unfold raiseIf
    split
    · exact proceeds_calDone l s
    · exact .refl l s
  unfold afterSettle
  dsimp only
  split
  · exact h.trans (proceeds_endPass l _ _ _)
  · exact h.trans ((asks_serveLoQueue l _).proceeds.trans (proceeds_stepPass l _))
  · exact h.trans (asks_serveLoQueue l _).proceeds

/-! ## A change that ends (R62, R79) -/

/-- The change of a synthesiser ends: the gap of its path too, and what it needed COEX_REQ for. -/
def changeEnds (l : Lo) (s : State) : State :=
  releaseReq (.calibration l) (releaseReq (.search l)
    (((endGap l.vhf.path (s.setLo l (fun x => { x with busy := none, settling := false }))).put (Fld.LO.STAT.SETTLING l.idx) false).put
      (Fld.LO.STAT.CALIBRATING l.idx) false))

theorem frame_endGap {p : Path} (hp : Part.blocks ∈ ps) (h : frame ps as s t) : frame ps as s (endGap p t) := by
  unfold endGap
  split
  · exact frame_blocks hp h
  · exact h

theorem releaseReq_leaves (use : CoexUse) (s : State) : frame [.aux] [Reg.COX.STAT] s (releaseReq use s) :=
  frame_releaseReq (by simp) (by simp) (frame_refl _ _ _)

theorem stat_ne_coex (l : Lo) : Reg.LO.STAT l.idx ∉ [Reg.COX.STAT] := by
  cases l <;> decide

/-- The shown state of a synthesiser whose change has ended. -/
theorem changeEnds_shows (l : Lo) (s : State) :
    frame [.loops, .blocks, .aux] [Reg.COX.STAT, Reg.LO.STAT l.idx] s (changeEnds l s) ∧
    (changeEnds l s).flag (Fld.LO.STAT.SETTLING l.idx) = false ∧ (changeEnds l s).flag (Fld.LO.STAT.CALIBRATING l.idx) = false ∧
    (changeEnds l s).flag (Fld.LO.STAT.COAST l.idx) = s.flag (Fld.LO.STAT.COAST l.idx) := by
  unfold changeEnds
  generalize ha : endGap l.vhf.path (s.setLo l (fun x => { x with busy := none, settling := false })) = a
  have a1 : frame [.loops, .blocks] [] s a := by
    rw [← ha]
    exact frame_endGap (by simp) (frame_setLo (by simp) (frame_refl _ _ _))
  generalize hb : (a.put (Fld.LO.STAT.SETTLING l.idx) false).put (Fld.LO.STAT.CALIBRATING l.idx) false = b
  have b1 : frame [] [Reg.LO.STAT l.idx] a b := by
    rw [← hb]
    exact frame_put (f := Fld.LO.STAT.CALIBRATING l.idx) (List.mem_singleton.mpr rfl)
      (frame_put (f := Fld.LO.STAT.SETTLING l.idx) (List.mem_singleton.mpr rfl) (frame_refl _ _ _))
  have b2 : b.flag (Fld.LO.STAT.SETTLING l.idx) = false ∧ b.flag (Fld.LO.STAT.CALIBRATING l.idx) = false ∧
      b.flag (Fld.LO.STAT.COAST l.idx) = a.flag (Fld.LO.STAT.COAST l.idx) := by
    rw [← hb]
    cases l <;> simp (disch := decide) only [flag_put_apart, State.flag_put_same, and_self]
  have hf : frame [.aux] [Reg.COX.STAT] b (releaseReq (.calibration l) (releaseReq (.search l) b)) :=
    frame_trans (releaseReq_leaves _ _) (releaseReq_leaves _ _)
  generalize releaseReq (.calibration l) (releaseReq (.search l) b) = c at hf ⊢
  have stat (f : Field) (h : f.addr = Reg.LO.STAT l.idx) : c.flag f = b.flag f := frame_flag hf (by rw [h]; exact stat_ne_coex l)
  exact ⟨frame_trans (frame_mono a1 (by simp) (by simp)) (frame_trans (frame_mono b1 (by simp) (by simp)) (frame_mono hf (by simp) (by simp))),
    (stat _ rfl).trans b2.1, (stat _ rfl).trans b2.2.1, (stat _ rfl).trans (b2.2.2.trans (frame_flag a1 (by simp)))⟩

/-! ## The hop table (R63) -/

/-- The words of a hop-table entry. -/
def hopRegs (l : Lo) (i : Nat) : List Nat :=
  [Reg.LO.HOP_W0 l.idx i, Reg.LO.HOP_W1 l.idx i, Reg.LO.HOP_W2 l.idx i, Reg.LO.HOP_W3 l.idx i]

theorem hop_not_work (l : Lo) : ∀ i < 32, ∀ a ∈ hopRegs l i, a ∉ workWords l ∧ a ≠ Reg.LO.STAT l.idx := by
  cases l <;> decide

/-- The words of an entry are distinct. -/
theorem hop_ne (n i : Nat) : Reg.LO.HOP_W0 n i ≠ Reg.LO.HOP_W1 n i ∧ Reg.LO.HOP_W0 n i ≠ Reg.LO.HOP_W2 n i ∧ Reg.LO.HOP_W0 n i ≠ Reg.LO.HOP_W3 n i ∧
    Reg.LO.HOP_W1 n i ≠ Reg.LO.HOP_W2 n i ∧ Reg.LO.HOP_W1 n i ≠ Reg.LO.HOP_W3 n i := by
  unfold Reg.LO.HOP_W0 Reg.LO.HOP_W1 Reg.LO.HOP_W2 Reg.LO.HOP_W3
  omega

/-- The second word of an entry that a search or calibration stores. -/
theorem fieldOf_hopWord (c d : Nat) :
    fieldOf (wordOf [(0, 6, c), (6, 1, 1), (8, 6, d)]) 0 6 = c % 64 ∧ fieldOf (wordOf [(0, 6, c), (6, 1, 1), (8, 6, d)]) 6 1 = 1 ∧
      fieldOf (wordOf [(0, 6, c), (6, 1, 1), (8, 6, d)]) 7 1 = 0 := by
  simp only [fieldOf, wordOf, List.foldl, BitVec.toNat_ofNat]
  omega

theorem word_set_ne {f : Field} {a : Nat} (h : a ≠ f.addr) (s : State) (v : Nat) : (s.set f v).word a = s.word a :=
  (State.word_set s f v a).trans (if_neg h)

theorem storeEntry_shows (l : Lo) (i hz c : Nat) (s : State) :
    frame [] (hopRegs l i) s (storeEntry l i hz c s) ∧
    (storeEntry l i hz c s).get (Fld.LO.HOP_W1.SUBBAND l.idx i) = c % 64 ∧ (storeEntry l i hz c s).flag (Fld.LO.HOP_W1.VALID l.idx i) = true ∧
    (storeEntry l i hz c s).flag (Fld.LO.HOP_W1.STALE l.idx i) = false ∧
    (storeEntry l i hz c s).get (Fld.LO.HOP_W0.FREQ_HZ l.idx i) = hz % 2 ^ 32 := by
  obtain ⟨h01, h02, h03, h12, h13⟩ := hop_ne l.idx i
  have w1 : (storeEntry l i hz c s).word (Reg.LO.HOP_W1 l.idx i) = wordOf [(0, 6, c), (6, 1, 1), (8, 6, outputDivider hz)] :=
    (word_set_ne (f := Fld.LO.HOP_W3.CAL_EPOCH l.idx i) h13 _ _).trans
      ((word_set_ne (f := Fld.LO.HOP_W2.TJ_CAL l.idx i) h12 _ _).trans ((State.word_setWord _ _ _ _).trans (if_pos rfl)))
  have w0 : (storeEntry l i hz c s).word (Reg.LO.HOP_W0 l.idx i) = (s.set (Fld.LO.HOP_W0.FREQ_HZ l.idx i) hz).word (Reg.LO.HOP_W0 l.idx i) :=
    (word_set_ne (f := Fld.LO.HOP_W3.CAL_EPOCH l.idx i) h03 _ _).trans
      ((word_set_ne (f := Fld.LO.HOP_W2.TJ_CAL l.idx i) h02 _ _).trans ((State.word_setWord _ _ _ _).trans (if_neg h01)))
  obtain ⟨f1, f2, f3⟩ := fieldOf_hopWord c (outputDivider hz)
  refine ⟨?_, (congrArg (fun w => fieldOf w 0 6) w1).trans f1, (congrArg (fun w => fieldOf w 6 1 == 1) w1).trans (by rw [f2]; rfl),
    (congrArg (fun w => fieldOf w 7 1 == 1) w1).trans (by rw [f3]; rfl), (congrArg (fun w => fieldOf w 0 32) w0).trans ?_⟩
  · exact frame_set (f := Fld.LO.HOP_W3.CAL_EPOCH l.idx i) (show Reg.LO.HOP_W3 l.idx i ∈ hopRegs l i by simp [hopRegs])
      (frame_seti (f := Fld.LO.HOP_W2.TJ_CAL l.idx i) (show Reg.LO.HOP_W2 l.idx i ∈ hopRegs l i by simp [hopRegs])
        (frame_setWord (by simp [hopRegs]) (frame_set (f := Fld.LO.HOP_W0.FREQ_HZ l.idx i) List.mem_cons_self (frame_refl _ _ _))))
  · exact State.get_set_same s (Fld.LO.HOP_W0.FREQ_HZ l.idx i) hz (show 0 + 32 ≤ 32 by decide)

/-! ## A change that settles (R62 to R64) -/

/-- The sub-band code `c` comes into force, and the synthesiser is locked unless it coasts. -/
def showCode (l : Lo) (c : Nat) (s : State) : State :=
  (s.set (Fld.LO.STAT.SUBBAND l.idx) c).put (Fld.LO.STAT.LOCKED l.idx) (!(s.flag (Fld.LO.STAT.COAST l.idx)))

theorem showCode_shows (l : Lo) (c : Nat) (s : State) :
    frame [] [Reg.LO.STAT l.idx] s (showCode l c s) ∧ (showCode l c s).get (Fld.LO.STAT.SUBBAND l.idx) = c % 64 ∧
    (showCode l c s).flag (Fld.LO.STAT.LOCKED l.idx) = !(s.flag (Fld.LO.STAT.COAST l.idx)) ∧
    (showCode l c s).flag (Fld.LO.STAT.SETTLING l.idx) = s.flag (Fld.LO.STAT.SETTLING l.idx) ∧
    (showCode l c s).flag (Fld.LO.STAT.CALIBRATING l.idx) = s.flag (Fld.LO.STAT.CALIBRATING l.idx) := by
  refine ⟨frame_put (f := Fld.LO.STAT.LOCKED l.idx) (List.mem_singleton.mpr rfl)
    (frame_set (f := Fld.LO.STAT.SUBBAND l.idx) (List.mem_singleton.mpr rfl) (frame_refl _ _ _)), ?_⟩
  unfold showCode
  cases l <;> simp (disch := decide) only [get_put_apart, State.get_set_same, flag_put_apart, flag_set_apart, State.flag_put_same, and_true] <;> rfl

/-- A search or calibration stores its code; another change leaves the table. -/
def storeFresh (l : Lo) (r : LoReq) (c : Nat) (s : State) : State := if r.fresh then storeEntry l r.entry r.hz c s else s

theorem frame_storeFresh (l : Lo) (r : LoReq) (c : Nat) (s : State) : frame [] (hopRegs l r.entry) s (storeFresh l r c s) := by
  unfold storeFresh
  split
  · exact (storeEntry_shows l r.entry r.hz c s).1
  · exact frame_refl _ _ _

theorem settleLo_found {code : Option Nat} {c : Nat} (hb : (s.lo l).busy = some r) (hs : (s.lo l).settling = true)
    (hc : (if r.fresh then code else some (s.get (Fld.LO.HOP_W1.SUBBAND l.idx r.entry))) = some c) :
    settleLo l code s = afterSettle l r (unitSettled (0x0A + l.idx, 0) (showCode l c (storeFresh l r c (changeEnds l s)))) := by
  unfold settleLo
  simp only [hb, hs, hc, Bool.not_true, Bool.false_eq_true, ↓reduceIte]
  rfl

/-- The registers that a settling may change. -/
def settleWords (l : Lo) (i : Nat) : List Nat :=
  [Reg.COX.STAT, Reg.LO.HOP_W0 l.idx i, Reg.LO.HOP_W1 l.idx i, Reg.LO.HOP_W2 l.idx i, Reg.LO.HOP_W3 l.idx i] ++ loAskWords l ++
    evsWords [Ev.LO.CAL_DONE l.idx, Ev.LO.CAL_DEFERRED l.idx, Ev.COX.LIMITED]

theorem coex_mem_settleWords (l : Lo) (i : Nat) : [Reg.COX.STAT, Reg.LO.STAT l.idx] ⊆ settleWords l i := by
  simp [settleWords, loAskWords]

theorem hopRegs_subset_settleWords (l : Lo) (i : Nat) : hopRegs l i ⊆ settleWords l i := by
  simp [settleWords, hopRegs]

theorem workWords_subset_settleWords (l : Lo) (i : Nat) : workWords l ⊆ settleWords l i := by
  have ask : loAskWords l ⊆ settleWords l i := fun _ h => List.mem_append_left _ (List.mem_append_right _ h)
  have events : evWords (Ev.LO.CAL_DONE l.idx) ++ evsWords [Ev.LO.CAL_DEFERRED l.idx, Ev.COX.LIMITED] ⊆ settleWords l i := fun _ h =>
    List.mem_append_right _ h
  obtain ⟨done, rest⟩ := List.append_subset.mp events
  exact List.append_subset.mpr ⟨List.append_subset.mpr ⟨List.cons_subset.mpr ⟨by simp [settleWords], ask⟩, rest⟩, done⟩

theorem loSettled_completes {code : Option Nat} {c : Nat} (hb : (s.lo l).busy = some r) (hs : (s.lo l).settling = true) (hi : r.entry < 32)
    (hc : (if r.fresh then code else some (s.get (Fld.LO.HOP_W1.SUBBAND l.idx r.entry))) = some c) :
    completes (.loSettled l code) s (fun t =>
      t.get (Fld.LO.STAT.SUBBAND l.idx) = c % 64 ∧ t.flag (Fld.LO.STAT.LOCKED l.idx) = !(s.flag (Fld.LO.STAT.COAST l.idx)) ∧
      t.flag (Fld.LO.STAT.SETTLING l.idx) = false ∧ t.flag (Fld.LO.STAT.CALIBRATING l.idx) = false ∧
      (r.fresh = true → t.get (Fld.LO.HOP_W1.SUBBAND l.idx r.entry) = c % 64 ∧ t.flag (Fld.LO.HOP_W1.VALID l.idx r.entry) = true ∧
        t.flag (Fld.LO.HOP_W1.STALE l.idx r.entry) = false ∧ t.get (Fld.LO.HOP_W0.FREQ_HZ l.idx r.entry) = r.hz % 2 ^ 32) ∧
      frame [.loops, .blocks, .aux, .plan, .flt, .twc, .fab] (settleWords l r.entry) s t) := by
  refine completes_of_eq rfl (settleLo_found hb hs hc) ?_
  have hop (a : Nat) (h : a ∈ hopRegs l r.entry) : a ∉ workWords l ∧ a ≠ Reg.LO.STAT l.idx := hop_not_work l r.entry hi a h
  have w0 : Reg.LO.HOP_W0 l.idx r.entry ∈ hopRegs l r.entry := by simp [hopRegs]
  have w1 : Reg.LO.HOP_W1 l.idx r.entry ∈ hopRegs l r.entry := by simp [hopRegs]
  -- the change ends
  obtain ⟨a1, a2, a3, a4⟩ := changeEnds_shows l s
  generalize changeEnds l s = a at a1 a2 a3 a4 ⊢
  -- its code is stored
  have b1 := frame_storeFresh l r c a
  have b2 (h : r.fresh = true) : storeFresh l r c a = storeEntry l r.entry r.hz c a := if_pos h
  have b3 := (storeEntry_shows l r.entry r.hz c a).2
  have bs (f : Field) (h : f.addr = Reg.LO.STAT l.idx) : (storeFresh l r c a).flag f = a.flag f :=
    frame_flag b1 (by rw [h]; exact fun m => (hop _ m).2 rfl)
  generalize storeFresh l r c a = b at b1 b2 bs ⊢
  -- it comes into force
  obtain ⟨c1, c2, c3, c4, c5⟩ := showCode_shows l c b
  generalize showCode l c b = d at c1 c2 c3 c4 c5 ⊢
  have u1 : frame [.flt] [] d (unitSettled (0x0A + l.idx, 0) d) := frame_unitSettled (by simp) (frame_refl _ _ _)
  generalize unitSettled (0x0A + l.idx, 0) d = e at u1 ⊢
  -- the synthesiser goes on
  have p := proceeds_afterSettle l r e
  generalize afterSettle l r e = t at p ⊢
  have de : frame [.flt] [Reg.LO.STAT l.idx] b e := frame_trans (frame_mono c1 (by simp) (fun _ h => h)) (frame_mono u1 (fun _ h => h) (by simp))
  have hopGet (f : Field) (h : f.addr ∈ hopRegs l r.entry) : t.get f = b.get f := by
    rw [frame_get p.frame (hop _ h).1, frame_get de (by simpa using (hop _ h).2)]
  have hopFlag (f : Field) (h : f.addr ∈ hopRegs l r.entry) : t.flag f = b.flag f := by
    rw [State.flag, hopGet f h, State.flag]
  have stat (f : Field) (h : f ∈ [Fld.LO.STAT.COAST l.idx, Fld.LO.STAT.LOCKED l.idx, Fld.LO.STAT.SETTLING l.idx, Fld.LO.STAT.CALIBRATING l.idx,
      Fld.LO.STAT.SUBBAND l.idx, Fld.LO.STAT.ENTRY l.idx]) : t.get f = d.get f := by
    rw [p.stat.get h, frame_get u1 (by simp)]
  have flags (f : Field) (h : f ∈ [Fld.LO.STAT.COAST l.idx, Fld.LO.STAT.LOCKED l.idx, Fld.LO.STAT.SETTLING l.idx, Fld.LO.STAT.CALIBRATING l.idx,
      Fld.LO.STAT.SUBBAND l.idx, Fld.LO.STAT.ENTRY l.idx]) : t.flag f = d.flag f := by
    rw [State.flag, stat f h, State.flag]
  refine ⟨(stat _ (by simp)).trans c2, ?_, ?_, ?_, fun h => ?_, frame_finish ?_⟩
  · exact (flags _ (by simp)).trans (c3.trans (by rw [bs _ rfl, a4]))
  · exact (flags _ (by simp)).trans (c4.trans ((bs _ rfl).trans a2))
  · exact (flags _ (by simp)).trans (c5.trans ((bs _ rfl).trans a3))
  · obtain ⟨k1, k2, k3, k4⟩ := b3
    rw [← b2 h] at k1 k2 k3 k4
    exact ⟨(hopGet _ w1).trans k1, (hopFlag _ w1).trans k2, (hopFlag _ w1).trans k3, (hopGet _ w0).trans k4⟩
  · exact frame_trans (frame_mono a1 (by decide) (coex_mem_settleWords l _)) (frame_trans (frame_mono b1 (by simp) (hopRegs_subset_settleWords l _))
      (frame_trans (frame_mono de (by decide) (fun _ h => coex_mem_settleWords l _ (List.mem_cons_of_mem _ h)))
        (frame_mono p.frame (by decide) (workWords_subset_settleWords l _))))

/-! ## A search that found no code (R64) -/

theorem settleLo_none (hb : (s.lo l).busy = some r) (hs : (s.lo l).settling = true) (hf : r.fresh = true) :
    settleLo l none s = searchFailed l r (changeEnds l s) := by
  unfold settleLo
  simp only [hb, hs, hf, Bool.not_true, Bool.false_eq_true, ↓reduceIte]
  rfl

/-- The LO coasts after a search that found no code. -/
def searchCoasts (l : Lo) (s : State) : State :=
  let t := (raise (Ev.LO.UNLOCK l.idx) (raise (Ev.LO.SEARCH_FAIL l.idx) s)).put (Fld.LO.STAT.COAST l.idx) true
  flagCoast (t.setLoop l (fun x => { x with coastFrom := t.epoch, coastTj := t.pwr.tj, byRef := !(t.flag Fld.CLK.STAT.REF_VALID) }))

theorem searchFailed_eq (l : Lo) (r : LoReq) (s : State) :
    searchFailed l r s = unitFault (0x0A + l.idx) 0 6 (postLo l { kind := .retune, hz := r.hz, fresh := true } (searchCoasts l s)) := rfl

/-- The registers that a failed search changes at once. -/
def searchWords (l : Lo) : List Nat := Reg.LO.STAT l.idx :: evWords (Ev.LO.SEARCH_FAIL l.idx) ++ evWords (Ev.LO.UNLOCK l.idx)

theorem searchCoasts_shows (l : Lo) (s : State) :
    frame [.loops, .blocks, .twc, .fab] (searchWords l) s (searchCoasts l s) ∧ (searchCoasts l s).flag (Fld.LO.STAT.COAST l.idx) = true ∧
    raised (searchCoasts l s) (Ev.LO.SEARCH_FAIL l.idx) ∧ raised (searchCoasts l s) (Ev.LO.UNLOCK l.idx) := by
  unfold searchCoasts
  dsimp only
  have a1 : frame [.loops, .blocks, .twc, .fab] (searchWords l) s (raise (Ev.LO.UNLOCK l.idx) (raise (Ev.LO.SEARCH_FAIL l.idx) s)) :=
    frame_raise (by decide) (List.subset_append_right _ _)
      (frame_raise (by decide) (fun _ h => List.mem_append_left _ (List.mem_cons_of_mem _ h)) (frame_refl _ _ _))
  have a2 : raised (raise (Ev.LO.UNLOCK l.idx) (raise (Ev.LO.SEARCH_FAIL l.idx) s)) (Ev.LO.SEARCH_FAIL l.idx) :=
    raised_of_keepsEvents (keepsEvents_raise _ _) (raised_raise _ _)
  have a3 := raised_raise (Ev.LO.UNLOCK l.idx) (raise (Ev.LO.SEARCH_FAIL l.idx) s)
  generalize raise (Ev.LO.UNLOCK l.idx) (raise (Ev.LO.SEARCH_FAIL l.idx) s) = a at a1 a2 a3 ⊢
  generalize hb : (a.put (Fld.LO.STAT.COAST l.idx) true).setLoop l _ = b
  have b1 : frame [.loops] [Reg.LO.STAT l.idx] a b := by
    rw [← hb]
    exact frame_setLoop (by simp) (frame_put (f := Fld.LO.STAT.COAST l.idx) (List.mem_singleton.mpr rfl) (frame_refl _ _ _))
  have b2 : b.flag (Fld.LO.STAT.COAST l.idx) = true := by
    rw [← hb]
    exact State.flag_put_same a (Fld.LO.STAT.COAST l.idx) true (show 3 + 1 ≤ 32 by decide) Nat.one_pos
  have k : keepsEvents a (flagCoast b) :=
    keepsEvents_trans (keepsEvents_of_frame (by simp) (by simpa using (loStat_offset l).1) b1) (keepsEvents_flagCoast b)
  exact ⟨frame_flagCoast (by simp) (frame_trans a1 (frame_mono b1 (by simp) (by simp [searchWords]))), (flagCoast_flag _ _).trans b2,
    raised_of_keepsEvents k a2, raised_of_keepsEvents k a3⟩

theorem keepsEvents_postLo (l : Lo) (r : LoReq) (s : State) : keepsEvents s (postLo l r s) :=
  keepsEvents_of_loFrame (l := l) (frame_postLo (fun _ h => h) (List.subset_append_right _ _) (frame_refl _ _ _))

theorem asked_of_frame {c : Change} {want : Nat} (h : asked s t c want) (hp : Part.plan ∉ ps) (k : frame ps as t u) : asked s u c want := by
  obtain ⟨h1, h2, h3⟩ : Part.plan.same t u := k.1 .plan hp
  unfold asked
  rw [h1, h2, h3]
  exact h

theorem loSearchFailed_completes (hb : (s.lo l).busy = some r) (hs : (s.lo l).settling = true) (hf : r.fresh = true) :
    completes (.loSettled l none) s (fun t =>
      t.flag (Fld.LO.STAT.COAST l.idx) = true ∧ raised t (Ev.LO.SEARCH_FAIL l.idx) ∧ raised t (Ev.LO.UNLOCK l.idx) ∧
      (t.lo l).busy = some { kind := .retune, hz := r.hz, fresh := true } ∧
      asked s t (.lo l { kind := .retune, hz := r.hz, fresh := true }) 0 ∧
      pageFrame [.loops, .blocks, .aux, .plan, .flt, .twc, .fab] [0x000, 0x003 + l.idx, 0x00D, 0x040, 0x062, 0x071] s t) := by
  refine completes_of_eq rfl ((settleLo_none hb hs hf).trans (searchFailed_eq l r _)) ?_
  have a1 := (changeEnds_shows l s).1
  generalize changeEnds l s = a at a1 ⊢
  -- the LO coasts
  obtain ⟨b1, b2, b3, b4⟩ := searchCoasts_shows l a
  generalize searchCoasts l a = b at b1 b2 b3 b4 ⊢
  have hab : frame [.loops, .blocks, .aux, .twc, .fab] ([Reg.COX.STAT, Reg.LO.STAT l.idx] ++ searchWords l) s b :=
    frame_trans (frame_mono a1 (by decide) (List.subset_append_left _ _)) (frame_mono b1 (by decide) (List.subset_append_right _ _))
  -- the retune is posted
  have c1 : frame [.loops, .plan] planWords b (postLo l { kind := .retune, hz := r.hz, fresh := true } b) :=
    frame_postLo (fun _ h => h) (fun _ h => h) (frame_refl _ _ _)
  have c2 := (keepsStat_postLo l { kind := .retune, hz := r.hz, fresh := true } b).coast
  have c3 : ((postLo l { kind := .retune, hz := r.hz, fresh := true } b).lo l).busy = some { kind := .retune, hz := r.hz, fresh := true } :=
    postLo_busy rfl b
  have c4 : asked s (postLo l { kind := .retune, hz := r.hz, fresh := true } b) (.lo l { kind := .retune, hz := r.hz, fresh := true }) 0 :=
    postLo_asked rfl (frame_epoch hab (by decide)).symm
  have c5 := keepsEvents_postLo l { kind := .retune, hz := r.hz, fresh := true } b
  generalize postLo l { kind := .retune, hz := r.hz, fresh := true } b = c at c1 c2 c3 c4 c5 ⊢
  -- the failure counts as a loop unlock
  have hk := handles_unitFault (show safeUnit (0x0A + l.idx) = true by cases l <;> decide) 0 6 c
  generalize unitFault (0x0A + l.idx) 0 6 c = t at hk ⊢
  have fin : frame [.loops, .blocks, .aux, .plan, .flt, .twc, .fab] ([Reg.COX.STAT, Reg.LO.STAT l.idx] ++ searchWords l ++ planWords ++ faultWords) s t :=
    frame_trans (frame_mono hab (by decide) (fun _ h => List.mem_append_left _ (List.mem_append_left _ h)))
      (frame_trans (frame_mono c1 (by decide) (fun _ h => List.mem_append_left _ (List.mem_append_right _ h)))
        (frame_mono hk.frame (by decide) (List.subset_append_right _ _)))
  have ev := keepsEvents_trans c5 hk.events
  refine ⟨?_, raised_finish (raised_of_keepsEvents ev b3), raised_finish (raised_of_keepsEvents ev b4), ?_,
    asked_finish (asked_of_frame c4 (by decide) hk.frame), frame_of_pages (frame_finish fin) (by cases l <;> decide)⟩
  · exact (frame_flag hk.frame (by cases l <;> decide)).trans (c2.trans b2)
  · exact (congrArg LoState.busy (lo_of_loops (hk.frame.1 .loops (by decide)) l)).trans c3

/-- Settles O7: closing the loops (`loopsClosed_shows`) and posting the steps (`postRebase_shows`) give the phase rebase; a change that ends, its
stored code and what the synthesiser goes on to (`proceeds_afterSettle`) give the settling. -/
theorem rebaseAndSettleComplete : Obligations.RebaseAndSettleComplete := by
  unfold Obligations.RebaseAndSettleComplete
  refine ⟨?rebase, ?parts, ?settled, ?failed⟩
  case rebase => exact fun sys lof lob s hc hr hv => phaseRebase_completes sys lof lob hc hr hv
  case parts => exact fun off => ⟨rebaseParts_sum off, fun i _ => rebasePart_abs off i⟩
  case settled => exact fun l code r c s hb hs hi hc => loSettled_completes hb hs hi hc
  case failed => exact fun l r s hb hs hf => loSearchFailed_completes hb hs hf

end Sys2Proof.Machine.Clocking

namespace Sys2Proof.Machine.Clocking

open Capture

variable {ps : List Part} {as : List Nat} {s t u : State} {l : Lo} {r : LoReq} {port : Port} {v : Word}

/-! ## A calibration asked for (R65, R67, R68) -/

/-- `postLo_asked` for a request of any kind: the change is posted with the entry in force filled in. -/
theorem postLo_asked_resolved (he : s.epoch = t.epoch) :
    asked s (postLo l r t) (.lo l (resolveCal t l r)) (if (resolveCal t l r).glimpse then nextHopBoundary s else 0) := by
  have hh : nextHopBoundary t = nextHopBoundary s := by simp only [nextHopBoundary, he]
  unfold postLo
  rw [hh]
  dsimp only
  generalize resolveCal t l r = q
  split
  case isTrue =>
    refine asked_postAll (asksFor_lo _ ?_) he
    rcases hopGain_shape (t.setLo l (fun x => { x with busy := some q, settling := false })) l q.hz with e | e
    · exact .inl e
    · exact .inr (.inr e)
  case isFalse =>
    refine asked_postAll (asksFor_lo _ ?_) he
    cases q.band with
    | none => exact .inl rfl
    | some b => exact .inr (.inl ⟨_, _, rfl⟩)

/-- A request of any kind is posted with the entry in force filled in, or held as it is (R65, R68). -/
theorem loAsked_requestLo_any (hon : loOn t l = true) (hb : (t.lo l).busy = (s.lo l).busy) (hr : resolveCal t l r = resolveCal s l r)
    (he : s.epoch = t.epoch) : loAsked s (requestLo l r t) l (if (s.lo l).busy = none then resolveCal s l r else r) := by
  unfold loAsked
  split
  case isTrue h =>
    rw [requestLo_free hon (hb.trans h), lo_postLo, hr]
    exact ⟨rfl, hr ▸ postLo_asked_resolved he⟩
  case isFalse h =>
    rw [requestLo_busy hon (by rwa [hb]), lo_holdReq]
    exact ⟨rfl, State.flag_put_same _ (Fld.LO.STAT.QUEUED l.idx) true (show 4 + 1 ≤ 32 by decide) Nat.one_pos⟩

/-- With no grant to wait for and time left in the second, an activity asserts COEX_REQ (R46, R47). -/
theorem assertReq_asserts {use : CoexUse} (hr : s.receiving = true) (hg : s.flag Fld.COX.CTRL.GNT_USE = false) (hd : usedTicks s < dutyTicks s) :
    frame [.aux] [Reg.COX.STAT] s (assertReq use s) ∧ (assertReq use s).aux.uses.contains use = true ∧
    (assertReq use s).aux.waits = s.aux.waits := by
  have hd' : ¬ dutyTicks s ≤ usedTicks s := by omega
  have free (x : Aux) (f : Field) : ({ s with aux := x } : State).flag f = s.flag f := flag_of_regs rfl f
  have freePut (x : Aux) : (({ s with aux := x } : State).put Fld.COX.STAT.REQ true).flag Fld.COX.CTRL.GNT_USE = false :=
    (flag_put_apart (by decide) _ true).trans ((free x _).trans hg)
  unfold assertReq
  dsimp only
  split
  case isTrue h =>
    refine ⟨frame_refl _ _ _, ?_, rfl⟩
    simpa [hr] using h
  case isFalse =>
    split
    · rw [if_neg (by simp [free, hg])]
      exact ⟨frame_aux (by simp) (frame_refl _ _ _), by simp, rfl⟩
    · rw [if_neg (by simp [freePut])]
      exact ⟨frame_put (f := Fld.COX.STAT.REQ) (by decide) (frame_aux (by simp) (frame_refl _ _ _)), by simp, rfl⟩

/-- What a synthesiser's own next step needs not to wait: it is powered, needs no grant, and the limiter leaves it time (R46, R47, R67). -/
structure MayStart (l : Lo) (s : State) : Prop where
  on : loOn s l = true
  ungranted : s.flag Fld.COX.CTRL.GNT_USE = false
  duty : usedTicks s < dutyTicks s
  ready : waitsForGrant s (.calibration l) = false

theorem receiving_of_loOn (h : loOn s l = true) : s.receiving = true := (Bool.and_eq_true_iff.mp h).1

/-- A calibration that may start stands ready to be requested: COEX_REQ is asserted for it, and nothing waits. -/
def calReady (l : Lo) (r : LoReq) (s : State) : State :=
  ((assertReq (.calibration l) (s.setLo l (fun x => { x with waiting := some r }))).setLo l (fun x => { x with waiting := none })).put
    (Fld.LO.STAT.CAL_PENDING l.idx) false

theorem calReady_shows (h : MayStart l s) (r : LoReq) :
    frame [.loops, .aux] [Reg.COX.STAT, Reg.LO.STAT l.idx] s (calReady l r s) ∧ keepsStat l s (calReady l r s) ∧
    ((calReady l r s).lo l).busy = (s.lo l).busy ∧ (calReady l r s).aux.uses.contains (.calibration l) = true ∧
    startCal l r s = requestLo l r (calReady l r s) := by
  obtain ⟨f, hu, hw⟩ := assertReq_asserts (use := .calibration l) (s := s.setLo l (fun x => { x with waiting := some r }))
    (receiving_of_loOn h.on) h.ungranted h.duty
  have hlo : (s.setLo l (fun x => { x with waiting := some r })).lo l = { s.lo l with waiting := some r } := lo_setLo s l _
  have e : startCal l r s = goCal l (assertReq (.calibration l) (s.setLo l (fun x => { x with waiting := some r }))) := by
    unfold startCal
    dsimp only
    have hr : waitsForGrant (assertReq (.calibration l) (s.setLo l (fun x => { x with waiting := some r }))) (.calibration l) = false := by
      rw [waitsForGrant, hw]
      exact h.ready
    rw [hu, hr]
    rfl
  unfold calReady
  rw [e]
  generalize hs : s.setLo l (fun x => { x with waiting := some r }) = a at f hu hw hlo ⊢
  generalize assertReq (.calibration l) a = b at f hu ⊢
  have a1 : frame [.loops] [] s a := by
    rw [← hs]
    exact frame_setLo (by simp) (frame_refl _ _ _)
  have hb : b.lo l = { s.lo l with waiting := some r } := (lo_of_loops (f.1 .loops (by simp)) l).trans hlo
  have sb : keepsStat l s b := keepsStat_trans (keepsStat_of_frame a1 (by simp)) (keepsStat_of_frame f (stat_ne_coex l))
  refine ⟨frame_put (f := Fld.LO.STAT.CAL_PENDING l.idx) (by simp; exact .inr rfl) (frame_setLo (by simp)
      (frame_trans (frame_mono a1 (by simp) (by simp)) (frame_mono f (by simp) (by simp)))),
    keepsStat_trans sb (keepsStat_trans (keepsStat_setLo l l _ b) (keepsStat_pending l false _)), ?_, hu, ?_⟩
  · exact (congrArg LoState.busy (lo_setLo b l (fun x => { x with waiting := none }))).trans (show (b.lo l).busy = _ by rw [hb])
  · unfold goCal
    rw [hb]

theorem freq_not_ready (l : Lo) : Reg.LO.FREQ_HZ l.idx ∉ [Reg.COX.STAT, Reg.LO.STAT l.idx] ∧
    Reg.RGL.BAND_PLAN ∉ [Reg.COX.STAT, Reg.LO.STAT l.idx] := by
  cases l <;> decide

/-- A calibration that may start is requested at once (R67). -/
theorem startCal_asks (h : MayStart l s) (r : LoReq) :
    loAsked s (startCal l r s) l (if (s.lo l).busy = none then resolveCal s l r else r) ∧
    (startCal l r s).aux.uses.contains (.calibration l) = true ∧
    frame [.loops, .aux, .plan, .twc, .fab] (Reg.COX.STAT :: loAskWords l) s (startCal l r s) := by
  obtain ⟨f, hs, hb, hu, e⟩ := calReady_shows h r
  obtain ⟨hz, hp⟩ := freq_not_ready l
  rw [e]
  generalize calReady l r s = a at f hs hb hu ⊢
  have hon : loOn a l = true := (frame_loOn f (by decide) hp l).trans h.on
  have hr : resolveCal a l r = resolveCal s l r := by
    unfold resolveCal
    rw [frame_get f hz, hs.get (by simp)]
  have k : frame loParts (loAskWords l) a (requestLo l r a) := frame_requestLo (fun _ h => h) (fun _ h => h) (frame_refl _ _ _)
  refine ⟨loAsked_requestLo_any hon hb hr (frame_epoch f (by decide)).symm, ?_, ?_⟩
  · rw [show (requestLo l r a).aux = a.aux from k.1 .aux (by decide)]
    exact hu
  · exact frame_trans (frame_mono f (by simp) (by simp [loAskWords])) (frame_mono k (by decide) (List.subset_cons_self _ _))

/-- A request is asked for from any state with the same change under way and the same epoch. -/
theorem loAsked_from (h : loAsked s t l r) (hb : (u.lo l).busy = (s.lo l).busy) (he : u.epoch = s.epoch) : loAsked u t l r := by
  unfold loAsked asked nextHopBoundary at *
  rw [hb, he]
  exact h

/-! ## A calibration that waits (R66, R67) -/

theorem lo_put (s : State) (f : Field) (b : Bool) (l : Lo) : (s.put f b).lo l = s.lo l := rfl

theorem deferCal_shows (l : Lo) (r : LoReq) (s : State) :
    (deferCal l r s).lo l = { s.lo l with waiting := some r } ∧ wrote s (deferCal l r s) (Fld.LO.STAT.CAL_PENDING l.idx) 1 ∧
    raised (deferCal l r s) (Ev.LO.CAL_DEFERRED l.idx) ∧
    frame [.loops, .twc, .fab] (Reg.LO.STAT l.idx :: evWords (Ev.LO.CAL_DEFERRED l.idx)) s (deferCal l r s) := by
  refine ⟨by rw [deferCal, lo_of_loops (raise_loops _ _), holdCal, lo_put, lo_setLo], ?_, raised_raise _ _,
    frame_raise (by decide) (List.subset_cons_self _ _) (frame_holdCal (by simp) List.mem_cons_self (frame_refl _ _ _))⟩
  exact wrote_raise _ (wrote_set (s.setLo l (fun x => { x with waiting := some r })) (Fld.LO.STAT.CAL_PENDING l.idx) 1)
    (loStat_offset l).1 (loStat_offset l).2

/-! ## The calibration commands (R67) -/

/-- A START takes the place of what waits; an entry of a pass that waits goes back to the pass. -/
def cleared (l : Lo) (s : State) : State :=
  s.setLo l (fun x => { returnEntry x.waiting x with waiting := none, waitingAll := false, skipIdle := false })

theorem calWord_bits (forced all : Bool) :
    (calWord forced all).getLsbD 0 = true ∧ (calWord forced all).getLsbD 1 = forced ∧ (calWord forced all).getLsbD 2 = all := by
  cases forced <;> cases all <;> decide

theorem calCommand_one (l : Lo) (forced : Bool) (s : State) : calCommand l (calWord forced false) s =
    if loOn s l && (forced || loIdle s l) then startCal l (calRequest forced true) (cleared l s) else deferCal l (calRequest forced true) (cleared l s) := by
  obtain ⟨h0, h1, h2⟩ := calWord_bits forced false
  unfold calCommand
  simp only [h0, h1, h2, Bool.not_true, Bool.not_false, Bool.and_true, Bool.false_eq_true, ↓reduceIte]
  rfl

/-- An ALL pass waits for its path. -/
def deferAll (l : Lo) (s : State) : State :=
  raise (Ev.LO.CAL_DEFERRED l.idx) (((cleared l s).setLo l (fun x => { x with waitingAll := true })).put (Fld.LO.STAT.CAL_PENDING l.idx) true)

theorem calCommand_all (l : Lo) (forced : Bool) (s : State) : calCommand l (calWord forced true) s =
    if loOn s l && loIdle s l then startPass l (cleared l s) else deferAll l s := by
  obtain ⟨h0, _, h2⟩ := calWord_bits forced true
  unfold calCommand
  simp only [h0, h2, Bool.not_true, Bool.false_eq_true, ↓reduceIte]
  rfl

theorem calCmd_offset (l : Lo) : Reg.LO.CAL_CMD l.idx % 4096 ≠ 0x20 := by
  cases l <;> decide

/-- The state in which a write of CAL_CMD acts: the page's key is closed, and nothing waits. -/
def calStart (l : Lo) (s : State) : State := cleared l (closeKey (Reg.LO.CAL_CMD l.idx / 4096) s)

theorem calStart_leaves (l : Lo) (s : State) : frame [.loops, .fab] [] s (calStart l s) :=
  frame_setLo (by simp) (frame_closeKey (by simp) (frame_refl _ _ _))

theorem returnEntry_keeps (q : Option LoReq) (x : LoState) : (returnEntry q x).busy = x.busy := by
  unfold returnEntry
  split
  · split <;> rfl
  · rfl

/-- The synthesiser's state in which a write of CAL_CMD acts. -/
theorem lo_calStart (l : Lo) (s : State) : (calStart l s).lo l =
    { returnEntry (s.lo l).waiting (s.lo l) with waiting := none, waitingAll := false, skipIdle := false } :=
  lo_setLo (closeKey (Reg.LO.CAL_CMD l.idx / 4096) s) l _

theorem mayStart_calStart (h : MayStart l s) : MayStart l (calStart l s) := ⟨h.on, h.ungranted, h.duty, h.ready⟩

theorem loCalStart_completes {Q : State → Prop} (hl : lets s (Reg.LO.CAL_CMD l.idx) = true)
    (k : Q (finish s (if loOn s l && loIdle s l then startCal l (calRequest false true) (calStart l s)
      else deferCal l (calRequest false true) (calStart l s)))) : completes (.loCalStart port l v) s Q :=
  completes_of_eq rfl ((hostWrite_acts hl (calCmd_offset l)).trans (calCommand_one l false _)) k

theorem loCalForce_completes {Q : State → Prop} (hl : lets s (Reg.LO.CAL_CMD l.idx) = true)
    (k : Q (finish s (if loOn s l then startCal l (calRequest true true) (calStart l s) else deferCal l (calRequest true true) (calStart l s)))) :
    completes (.loCalForce port l v) s Q :=
  completes_of_eq rfl ((hostWrite_acts hl (calCmd_offset l)).trans ((calCommand_one l true _).trans
    (by rw [Bool.true_or, Bool.and_true]; rfl))) k

theorem loCalAll_completes {Q : State → Prop} (hl : lets s (Reg.LO.CAL_CMD l.idx) = true)
    (k : Q (finish s (if loOn s l && loIdle s l then startPass l (calStart l s) else
      deferAll l (closeKey (Reg.LO.CAL_CMD l.idx / 4096) s)))) : completes (.loCalAll port l v) s Q :=
  completes_of_eq rfl ((hostWrite_acts hl (calCmd_offset l)).trans (calCommand_all l _ _)) k

/-- A START of one calibration waits, with CAL_PENDING and CAL_DEFERRED. -/
theorem deferCal_finish (l : Lo) (r : LoReq) (s : State) :
    (((finish s (deferCal l r (calStart l s))).lo l).waiting = some r ∧ wrote s (finish s (deferCal l r (calStart l s))) (Fld.LO.STAT.CAL_PENDING l.idx) 1 ∧
      raised (finish s (deferCal l r (calStart l s))) (Ev.LO.CAL_DEFERRED l.idx) ∧
      frame [.loops, .twc, .fab] (Reg.LO.STAT l.idx :: evWords (Ev.LO.CAL_DEFERRED l.idx)) s (finish s (deferCal l r (calStart l s)))) := by
  obtain ⟨h1, h2, h3, h4⟩ := deferCal_shows l r (calStart l s)
  have hw : ((deferCal l r (calStart l s)).lo l).waiting = some r := by rw [h1]
  have h2' : wrote s (deferCal l r (calStart l s)) (Fld.LO.STAT.CAL_PENDING l.idx) 1 := by
    rw [wrote, ← frame_word (calStart_leaves l s) (List.not_mem_nil)]
    exact h2
  generalize deferCal l r (calStart l s) = t at hw h2' h3 h4 ⊢
  exact ⟨hw, wrote_finish h2', raised_finish h3, frame_finish (frame_trans (frame_mono (calStart_leaves l s) (by simp) (by simp)) h4)⟩

/-- A START of one calibration is requested at once. -/
theorem startCal_finish (h : MayStart l s) (r : LoReq) :
    loAsked s (finish s (startCal l r (calStart l s))) l (if (s.lo l).busy = none then resolveCal s l r else r) ∧
    (finish s (startCal l r (calStart l s))).aux.uses.contains (.calibration l) = true ∧
    frame [.loops, .aux, .plan, .twc, .fab] (Reg.COX.STAT :: loAskWords l) s (finish s (startCal l r (calStart l s))) := by
  obtain ⟨h1, h2, h3⟩ := startCal_asks (mayStart_calStart h) r
  have hb : (s.lo l).busy = ((calStart l s).lo l).busy := by
    rw [lo_calStart]
    exact (returnEntry_keeps _ _).symm
  rw [show resolveCal (calStart l s) l r = resolveCal s l r from rfl, ← hb] at h1
  exact ⟨loAsked_finish (loAsked_from h1 hb rfl), h2, frame_finish (frame_trans (frame_mono (calStart_leaves l s) (by simp) (by simp)) h3)⟩

/-! ## ALL passes (R67) -/

theorem deferAll_shows (l : Lo) (s : State) :
    ((deferAll l s).lo l).waitingAll = true ∧ ((deferAll l s).lo l).waiting = none ∧ wrote s (deferAll l s) (Fld.LO.STAT.CAL_PENDING l.idx) 1 ∧
    raised (deferAll l s) (Ev.LO.CAL_DEFERRED l.idx) ∧
    frame [.loops, .twc, .fab] (Reg.LO.STAT l.idx :: evWords (Ev.LO.CAL_DEFERRED l.idx)) s (deferAll l s) := by
  have hlo : (deferAll l s).lo l =
      { returnEntry (s.lo l).waiting (s.lo l) with waiting := none, waitingAll := true, skipIdle := false } := by
    rw [deferAll, lo_of_loops (raise_loops _ _), lo_put, lo_setLo, cleared, lo_setLo]
  refine ⟨by rw [hlo], by rw [hlo], ?_, raised_raise _ _, frame_raise (by decide) (List.subset_cons_self _ _)
    (frame_put (f := Fld.LO.STAT.CAL_PENDING l.idx) List.mem_cons_self (frame_setLo (by simp) (frame_setLo (by simp) (frame_refl _ _ _))))⟩
  exact wrote_raise _ (wrote_set ((cleared l s).setLo l (fun x => { x with waitingAll := true })) (Fld.LO.STAT.CAL_PENDING l.idx) 1)
    (loStat_offset l).1 (loStat_offset l).2

/-- An ALL pass stands at its beginning. -/
def passBegun (l : Lo) (s : State) : State :=
  (s.setLo l (fun x => { x with waitingAll := false, pass := some (validEntries s l, s.get (Fld.LO.FREQ_HZ.HZ l.idx)) })).put
    (Fld.LO.STAT.CAL_PENDING l.idx) false

theorem passBegun_leaves (l : Lo) (s : State) : frame [.loops] [Reg.LO.STAT l.idx] s (passBegun l s) :=
  frame_put (f := Fld.LO.STAT.CAL_PENDING l.idx) (List.mem_singleton.mpr rfl) (frame_setLo (by simp) (frame_refl _ _ _))

theorem lo_passBegun (l : Lo) (s : State) : (passBegun l s).lo l =
    { s.lo l with waitingAll := false, pass := some (validEntries s l, s.get (Fld.LO.FREQ_HZ.HZ l.idx)) } := lo_setLo s l _

theorem startPass_none (h : validEntries s l = []) :
    startPass l s = raise (Ev.LO.CAL_DONE l.idx) ((passBegun l s).setLo l (fun x => { x with pass := none })) := by
  unfold startPass
  dsimp only
  rw [if_pos (by rw [h]; rfl)]
  rfl

theorem startPass_some {i : Nat} {rest : List Nat} (h : validEntries s l = i :: rest) : startPass l s = passNext l (passBegun l s) := by
  unfold startPass
  dsimp only
  rw [if_neg (by rw [h]; simp)]
  rfl

/-- While its path is idle, a pass goes on with the calibration of its next entry. -/
theorem passNext_eq {i : Nat} {rest : List Nat} {back : Nat} (hp : (s.lo l).pass = some (i :: rest, back)) (hon : loOn s l = true)
    (hi : loIdle s l = true) (hw : (s.lo l).waiting = none) (hk : (s.lo l).skipIdle = false) :
    passNext l s = startCal l { kind := .cal, hz := s.get (Fld.LO.HOP_W0.FREQ_HZ l.idx i), entry := i, fresh := true }
      (s.setLo l (fun x => { x with pass := some (rest, back) })) := by
  unfold passNext
  rw [hp]
  exact if_pos (by simp [hon, hi, hw, hk])

theorem loIdle_of_mgr (h : t.mgr = s.mgr) (l : Lo) : loIdle t l = loIdle s l := by
  simp only [loIdle, fullOn, lanesOn_congr h]

theorem startPass_begins {i : Nat} {rest : List Nat} (hon : loOn s l = true) (hi : loIdle s l = true) (hw : (s.lo l).waiting = none)
    (hk : (s.lo l).skipIdle = false) (h : validEntries s l = i :: rest) :
    ((startPass l s).lo l).pass = some (rest, s.get (Fld.LO.FREQ_HZ.HZ l.idx)) ∧ ((startPass l s).lo l).waitingAll = false ∧
    frame calParts (calWords l) s (startPass l s) := by
  have f := passBegun_leaves l s
  have hlo := lo_passBegun l s
  rw [startPass_some h]
  generalize passBegun l s = a at f hlo ⊢
  have hp : (a.lo l).pass = some (i :: rest, s.get (Fld.LO.FREQ_HZ.HZ l.idx)) := by rw [hlo, h]
  have hon' : loOn a l = true := (frame_loOn f (by decide) (by cases l <;> decide) l).trans hon
  have hi' : loIdle a l = true := (loIdle_of_mgr (f.1 .mgr (by decide)) l).trans hi
  rw [passNext_eq hp hon' hi' (by rw [hlo]; exact hw) (by rw [hlo]; exact hk)]
  generalize hr : ({ kind := .cal, hz := a.get (Fld.LO.HOP_W0.FREQ_HZ l.idx i), entry := i, fresh := true } : LoReq) = r
  have k := asks_startCal l r (a.setLo l (fun x => { x with pass := some (rest, s.get (Fld.LO.FREQ_HZ.HZ l.idx)) }))
  have hb := lo_setLo a l (fun x => { x with pass := some (rest, s.get (Fld.LO.FREQ_HZ.HZ l.idx)) })
  refine ⟨k.pass.trans (by rw [hb]), k.all.trans (by rw [hb, hlo]), ?_⟩
  exact frame_trans (frame_mono f (by decide) (by simpa using stat_mem_calWords l))
    (frame_trans (frame_setLo (by decide) (frame_refl _ _ _)) k.frame)

theorem startPass_empty (h : validEntries s l = []) :
    ((startPass l s).lo l).pass = none ∧ raised (startPass l s) (Ev.LO.CAL_DONE l.idx) ∧
    frame [.loops, .twc, .fab] (Reg.LO.STAT l.idx :: evWords (Ev.LO.CAL_DONE l.idx)) s (startPass l s) := by
  rw [startPass_none h]
  refine ⟨?_, raised_raise _ _, frame_raise (by decide) (List.subset_cons_self _ _) (frame_setLo (by simp)
    (frame_mono (passBegun_leaves l s) (by simp) (by simp)))⟩
  rw [lo_of_loops (raise_loops _ _), lo_setLo]

/-- A START of ALL on a busy path waits, with CAL_PENDING and CAL_DEFERRED. -/
theorem deferAll_finish (l : Lo) (s : State) :
    ((finish s (deferAll l (closeKey (Reg.LO.CAL_CMD l.idx / 4096) s))).lo l).waitingAll = true ∧
    ((finish s (deferAll l (closeKey (Reg.LO.CAL_CMD l.idx / 4096) s))).lo l).waiting = none ∧
    wrote s (finish s (deferAll l (closeKey (Reg.LO.CAL_CMD l.idx / 4096) s))) (Fld.LO.STAT.CAL_PENDING l.idx) 1 ∧
    raised (finish s (deferAll l (closeKey (Reg.LO.CAL_CMD l.idx / 4096) s))) (Ev.LO.CAL_DEFERRED l.idx) ∧
    frame [.loops, .twc, .fab] (Reg.LO.STAT l.idx :: evWords (Ev.LO.CAL_DEFERRED l.idx)) s
      (finish s (deferAll l (closeKey (Reg.LO.CAL_CMD l.idx / 4096) s))) := by
  have f : frame [.fab] [] s (closeKey (Reg.LO.CAL_CMD l.idx / 4096) s) := frame_closeKey (by simp) (frame_refl _ _ _)
  generalize closeKey (Reg.LO.CAL_CMD l.idx / 4096) s = a at f ⊢
  obtain ⟨h1, h2, h3, h4, h5⟩ := deferAll_shows l a
  generalize deferAll l a = t at h1 h2 h3 h4 h5 ⊢
  rw [wrote, frame_word f (List.not_mem_nil)] at h3
  exact ⟨h1, h2, wrote_finish h3, raised_finish h4, frame_finish (frame_trans (frame_mono f (by simp) (by simp)) h5)⟩

/-- A START of ALL on an idle path begins the pass with the first valid entry. -/
theorem startPass_finish {i : Nat} {rest : List Nat} (h : (loOn s l && loIdle s l) = true) (hv : validEntries s l = i :: rest) :
    ((finish s (startPass l (calStart l s))).lo l).pass = some (rest, s.get (Fld.LO.FREQ_HZ.HZ l.idx)) ∧
    ((finish s (startPass l (calStart l s))).lo l).waitingAll = false ∧
    frame [.loops, .aux, .plan, .twc, .fab] (calWords l) s (finish s (startPass l (calStart l s))) := by
  obtain ⟨hon, hi⟩ := Bool.and_eq_true_iff.mp h
  have hlo := lo_calStart l s
  obtain ⟨h1, h2, h3⟩ := startPass_begins (s := calStart l s) (l := l) hon hi (by rw [hlo]) (by rw [hlo]) hv
  have f := calStart_leaves l s
  have hz := frame_get (f := Fld.LO.FREQ_HZ.HZ l.idx) f (List.not_mem_nil)
  generalize calStart l s = a at h1 h2 h3 f hz ⊢
  generalize startPass l a = t at h1 h2 h3 ⊢
  rw [hz] at h1
  exact ⟨h1, h2, frame_finish (frame_trans (frame_mono f (by simp) (by simp)) h3)⟩

/-- A START of ALL without a valid entry is done. -/
theorem startPass_finish_empty (hv : validEntries s l = []) :
    ((finish s (startPass l (calStart l s))).lo l).pass = none ∧ raised (finish s (startPass l (calStart l s))) (Ev.LO.CAL_DONE l.idx) ∧
    frame [.loops, .twc, .fab] (Reg.LO.STAT l.idx :: evWords (Ev.LO.CAL_DONE l.idx)) s (finish s (startPass l (calStart l s))) := by
  obtain ⟨h1, h2, h3⟩ := startPass_empty (s := calStart l s) (l := l) hv
  have f := calStart_leaves l s
  generalize calStart l s = a at h1 h2 h3 f ⊢
  generalize startPass l a = t at h1 h2 h3 ⊢
  exact ⟨h1, raised_finish h2, frame_finish (frame_trans (frame_mono f (by simp) (by simp)) h3)⟩

/-! ## A waiting calibration on a boundary (R65 to R67, R437) -/

/-- An idle period passed over ends where the path is no longer idle. -/
def idleSeen (l : Lo) (s : State) : State := if loIdle s l then s else s.setLo l (fun x => { x with skipIdle := false })

theorem idleSeen_shows (l : Lo) (s : State) :
    frame [.loops] [] s (idleSeen l s) ∧ ((idleSeen l s).lo l).busy = (s.lo l).busy ∧ ((idleSeen l s).lo l).waiting = (s.lo l).waiting ∧
    (loIdle s l = true → idleSeen l s = s) := by
  unfold idleSeen
  split
  case isTrue h => exact ⟨frame_refl _ _ _, rfl, rfl, fun _ => rfl⟩
  case isFalse h => exact ⟨frame_setLo (by simp) (frame_refl _ _ _), by rw [lo_setLo], by rw [lo_setLo], fun e => absurd e h⟩

theorem outdatedCal_congr (h : t.regs = s.regs) : outdatedCal t l r = outdatedCal s l r := by
  simp only [outdatedCal, get_of_regs h, flag_of_regs h]

theorem idleCal_eq (hw : waitsForGrant s (.calibration l) = false) (hon : loOn s l = true) (hr : (s.lo l).waiting = some r)
    (hf : r.forced = true ∨ (loIdle s l = true ∧ (s.lo l).skipIdle = false)) (ho : outdatedCal s l r = false) :
    idleCal l s = startCal l r (idleSeen l s) := by
  obtain ⟨f, _, h2, h3⟩ := idleSeen_shows l s
  have hg : waitsForGrant (idleSeen l s) (.calibration l) = false := by
    rw [waitsForGrant, show (idleSeen l s).aux = s.aux from f.1 .aux (by simp)]
    exact hw
  have ho' : outdatedCal (idleSeen l s) l r = false := by
    rw [← ho]
    unfold idleSeen
    split
    · rfl
    · exact outdatedCal_congr rfl
  have hgo : (r.forced || (loIdle (idleSeen l s) l && !((idleSeen l s).lo l).skipIdle)) = true := by
    rcases hf with hf | ⟨hi, hk⟩
    · rw [hf, Bool.true_or]
    · rw [h3 hi, hi, hk]
      simp
  unfold idleCal
  rw [if_neg (by simp [hon])]
  change (if waitsForGrant (idleSeen l s) (.calibration l) then idleSeen l s else _) = _
  rw [hg, if_neg (by simp)]
  change (match ((idleSeen l s).lo l).waiting with
    | some r => _
    | none => _) = _
  rw [h2, hr]
  change (if outdatedCal (idleSeen l s) l r then _ else
    if r.forced || (loIdle (idleSeen l s) l && !((idleSeen l s).lo l).skipIdle) then startCal l r (idleSeen l s) else idleSeen l s) = _
  rw [ho', hgo]
  rfl

theorem loCalIdlePost_completes (ht : s.time % epochTicks = 0) (h : MayStart l s) (hr : (s.lo l).waiting = some r)
    (hf : r.forced = true ∨ (loIdle s l = true ∧ (s.lo l).skipIdle = false)) (ho : outdatedCal s l r = false) :
    completes (.loCalIdlePost l) s (fun t =>
      loAsked s t l (if (s.lo l).busy = none then resolveCal s l r else r) ∧
      t.aux.uses.contains (.calibration l) = true ∧ frame [.loops, .aux, .plan, .twc, .fab] (Reg.COX.STAT :: loAskWords l) s t) := by
  refine completes_of_eq rfl ((if_pos ht).trans (idleCal_eq h.ready h.on hr hf ho)) ?_
  obtain ⟨f, hb, _, _⟩ := idleSeen_shows l s
  have hm : MayStart l (idleSeen l s) := by
    unfold idleSeen
    split
    · exact h
    · exact ⟨h.on, h.ungranted, h.duty, h.ready⟩
  have hv : resolveCal (idleSeen l s) l r = resolveCal s l r := by
    unfold resolveCal
    rw [frame_get f (by simp), frame_get f (by simp)]
  generalize idleSeen l s = a at f hb hm hv ⊢
  obtain ⟨h1, h2, h3⟩ := startCal_asks hm r
  rw [hv, hb] at h1
  exact ⟨loAsked_finish (loAsked_from h1 hb.symm (frame_epoch f (by simp)).symm), h2,
    frame_finish (frame_trans (frame_mono f (by simp) (by simp)) h3)⟩

end Sys2Proof.Machine.Clocking

namespace Sys2Proof.Machine.Clocking

open Capture

variable {ps : List Part} {as : List Nat} {s t u : State} {l : Lo} {i n : Nat}

/-! ## Entries that become STALE (R65) -/

/-- A valid entry has left its calibration temperature by more than 12 °C. -/
def strayed (s : State) (l : Lo) (i : Nat) : Bool :=
  s.flag (Fld.LO.HOP_W1.VALID l.idx i) && decide (192 < (s.pwr.tj - s.geti (Fld.LO.HOP_W2.TJ_CAL l.idx i)).natAbs)

/-- An entry in force that has become STALE raises the event, and where this is asked for a calibration waits (R65). -/
def staleSeen (l : Lo) (inForce : Bool) (s : State) : State :=
  if inForce then
    let u := raise (Ev.LO.STALE l.idx) s
    if u.flag (Fld.LO.CTRL.STALE_RESEARCH l.idx) && (u.lo l).waiting.isNone then holdCal l (calRequest false false) u else u
  else s

theorem staleEntry_eq (l : Lo) (i : Nat) (s : State) : staleEntry l i s =
    if strayed s l i && !(s.flag (Fld.LO.HOP_W1.STALE l.idx i)) then
      staleSeen l (loOn s l && s.get (Fld.LO.STAT.ENTRY l.idx) == i) (s.put (Fld.LO.HOP_W1.STALE l.idx i) true)
    else s := by
  rw [strayed, Bool.and_right_comm]
  rfl

theorem staleSeen_leaves (l : Lo) (inForce : Bool) (s : State) :
    frame [.loops, .twc, .fab] (Reg.LO.STAT l.idx :: evWords (Ev.LO.STALE l.idx)) s (staleSeen l inForce s) := by
  have h : frame [.loops, .twc, .fab] (Reg.LO.STAT l.idx :: evWords (Ev.LO.STALE l.idx)) s (raise (Ev.LO.STALE l.idx) s) :=
    frame_raise (by decide) (List.subset_cons_self _ _) (frame_refl _ _ _)
  unfold staleSeen
  dsimp only
  split
  · split
    · exact frame_holdCal (by simp) List.mem_cons_self h
    · exact h
  · exact frame_refl _ _ _

/-- The registers that checking one entry may change. -/
def staleWords (l : Lo) (i : Nat) : List Nat := Reg.LO.HOP_W1 l.idx i :: Reg.LO.STAT l.idx :: evWords (Ev.LO.STALE l.idx)

theorem hopW1_mem (l : Lo) (i : Nat) : Reg.LO.HOP_W1 l.idx i ∈ hopRegs l i := by simp [hopRegs]

theorem hopW2_mem (l : Lo) (i : Nat) : Reg.LO.HOP_W2 l.idx i ∈ hopRegs l i := by simp [hopRegs]

theorem hop_not_stale (l : Lo) : ∀ i < 32, ∀ a ∈ hopRegs l i, a ∉ Reg.LO.STAT l.idx :: evWords (Ev.LO.STALE l.idx) := by
  cases l <;> decide

/-- An entry that is checked becomes STALE where it has strayed; its VALID stands. -/
theorem staleEntry_shows (l : Lo) (hi : i < 32) (s : State) :
    frame [.loops, .twc, .fab] (staleWords l i) s (staleEntry l i s) ∧
    (staleEntry l i s).flag (Fld.LO.HOP_W1.VALID l.idx i) = s.flag (Fld.LO.HOP_W1.VALID l.idx i) ∧
    (staleEntry l i s).flag (Fld.LO.HOP_W1.STALE l.idx i) = (s.flag (Fld.LO.HOP_W1.STALE l.idx i) || strayed s l i) := by
  have hw : Reg.LO.HOP_W1 l.idx i ∉ Reg.LO.STAT l.idx :: evWords (Ev.LO.STALE l.idx) := hop_not_stale l i hi _ (hopW1_mem l i)
  have ap : Apart (Fld.LO.HOP_W1.STALE l.idx i) (Fld.LO.HOP_W1.VALID l.idx i) := .inr (show 7 + 1 ≤ 32 ∧ (6 + 1 ≤ 7 ∨ 7 + 1 ≤ 6) by decide)
  rw [staleEntry_eq]
  split
  case isTrue h =>
    have k := staleSeen_leaves l (loOn s l && s.get (Fld.LO.STAT.ENTRY l.idx) == i) (s.put (Fld.LO.HOP_W1.STALE l.idx i) true)
    obtain ⟨hd, _⟩ := Bool.and_eq_true_iff.mp h
    refine ⟨frame_trans (frame_put (f := Fld.LO.HOP_W1.STALE l.idx i) List.mem_cons_self (frame_refl _ _ _))
        (frame_mono k (fun _ h => h) (List.subset_cons_self _ _)), (frame_flag k hw).trans (flag_put_apart ap s true), (frame_flag k hw).trans ?_⟩
    rw [hd, Bool.or_true]
    exact State.flag_put_same s (Fld.LO.HOP_W1.STALE l.idx i) true (show 7 + 1 ≤ 32 by decide) Nat.one_pos
  case isFalse h =>
    refine ⟨frame_refl _ _ _, rfl, ?_⟩
    cases hs : s.flag (Fld.LO.HOP_W1.STALE l.idx i) <;> simp_all

theorem strayed_congr (hf : frame ps as s t) (hp : Part.pwr ∉ ps) (hv : t.flag (Fld.LO.HOP_W1.VALID l.idx i) = s.flag (Fld.LO.HOP_W1.VALID l.idx i))
    (hc : Reg.LO.HOP_W2 l.idx i ∉ as) : strayed t l i = strayed s l i := by
  have e : { t.pwr with pins := {} } = { s.pwr with pins := {} } := hf.1 .pwr hp
  have htj : t.pwr.tj = s.pwr.tj := by
    have m := congrArg Power.tj e
    exact m
  have hg : t.geti (Fld.LO.HOP_W2.TJ_CAL l.idx i) = s.geti (Fld.LO.HOP_W2.TJ_CAL l.idx i) := by
    rw [State.geti, frame_get hf hc, State.geti]
  unfold strayed
  rw [hv, htj, hg]

/-- From `s` to `t` the first `n` entries of a synthesiser have been checked. -/
structure Checked (l : Lo) (n : Nat) (s t : State) : Prop where
  frame : frame [.loops, .twc, .fab] ((List.range 32).flatMap (staleWords l)) s t
  valid : ∀ i < 32, t.flag (Fld.LO.HOP_W1.VALID l.idx i) = s.flag (Fld.LO.HOP_W1.VALID l.idx i)
  stale : ∀ i < 32, t.flag (Fld.LO.HOP_W1.STALE l.idx i) = (s.flag (Fld.LO.HOP_W1.STALE l.idx i) || (decide (i < n) && strayed s l i))

/-- What a check of some entry may reach: that entry's second word, or the status and the event. -/
theorem mem_checked {a : Nat} (h : a ∈ (List.range 32).flatMap (staleWords l)) :
    (∃ j < 32, a = Reg.LO.HOP_W1 l.idx j) ∨ a ∈ Reg.LO.STAT l.idx :: evWords (Ev.LO.STALE l.idx) := by
  obtain ⟨j, hj, m⟩ := List.mem_flatMap.mp h
  exact (List.mem_cons.mp m).imp (fun e => ⟨j, List.mem_range.mp hj, e⟩) id

/-- The calibration temperatures are not reached. -/
theorem hopW2_not_checked (hi : i < 32) : Reg.LO.HOP_W2 l.idx i ∉ (List.range 32).flatMap (staleWords l) := by
  intro m
  rcases mem_checked m with ⟨j, _, e⟩ | m
  · unfold Reg.LO.HOP_W1 Reg.LO.HOP_W2 at e
    omega
  · exact hop_not_stale l i hi _ (hopW2_mem l i) m

theorem hop_not_staleWords (l : Lo) (hi : i < 32) (hne : i ≠ n) : Reg.LO.HOP_W1 l.idx i ∉ staleWords l n := by
  intro m
  rcases List.mem_cons.mp m with e | m
  · unfold Reg.LO.HOP_W1 at e
    omega
  · exact hop_not_stale l i hi _ (hopW1_mem l i) m

theorem forEach_range_succ {σ : Type} (f : Nat → σ → σ) (n : Nat) (x : σ) :
    forEach (List.range (n + 1)) f x = f n (forEach (List.range n) f x) := by
  simp only [forEach, List.range_succ, List.foldl_append, List.foldl_cons, List.foldl_nil]

theorem checked_entries (l : Lo) (hn : n ≤ 32) (s : State) : Checked l n s (forEach (List.range n) (fun i u => staleEntry l i u) s) := by
  induction n with
  | zero => exact ⟨frame_refl _ _ _, fun _ _ => rfl, fun i _ => by simp [forEach]⟩
  | succ n ih =>
    rw [forEach_range_succ]
    have k := ih (by omega)
    generalize forEach (List.range n) (fun i u => staleEntry l i u) s = a at k ⊢
    obtain ⟨h1, h2, h3⟩ := staleEntry_shows l (show n < 32 by omega) a
    have own (f : Nat → Field) (hf : ∀ j, (f j).addr = Reg.LO.HOP_W1 l.idx j) (j : Nat) (hj : j < 32) (hne : j ≠ n) :
        (staleEntry l n a).flag (f j) = a.flag (f j) := frame_flag h1 (by rw [hf]; exact hop_not_staleWords l hj hne)
    refine ⟨frame_trans k.frame (frame_mono h1 (fun _ h => h) (fun _ h => List.mem_flatMap.mpr ⟨n, List.mem_range.mpr (by omega), h⟩)),
      fun i hi => ?_, fun i hi => ?_⟩ <;> by_cases hne : i = n
    · subst hne
      rw [h2, k.valid i hi]
    · rw [own (Fld.LO.HOP_W1.VALID l.idx) (fun _ => rfl) i hi hne, k.valid i hi]
    · subst hne
      rw [h3, k.stale i hi, strayed_congr k.frame (by decide) (k.valid i hi) (hopW2_not_checked hi)]
      simp
    · rw [own (Fld.LO.HOP_W1.STALE l.idx) (fun _ => rfl) i hi hne, k.stale i hi, show decide (i < n + 1) = decide (i < n) by
        rw [decide_eq_decide]; omega]

theorem hop_page (l : Lo) : ∀ i < 32, ∀ a ∈ hopRegs l i, a / 4096 = 3 + l.idx := by
  cases l <;> decide

theorem pages_of_stale (l : Lo) : ∀ a ∈ Reg.LO.STAT l.idx :: evWords (Ev.LO.STALE l.idx), a / 4096 = 3 + l.idx ∨ a / 4096 = 0x62 := by
  cases l <;> decide

/-- The entries of the other synthesiser are not reached: they stand on its own page. -/
theorem hop_not_others {l k : Lo} (h : k.idx ≠ l.idx) (hi : i < 32) {a : Nat} (ha : a ∈ hopRegs k i) :
    a ∉ (List.range 32).flatMap (staleWords l) := by
  intro m
  have hk := hop_page k i hi a ha
  have hx : k.idx ≤ 1 := by cases k <;> decide
  rcases mem_checked m with ⟨j, hj, rfl⟩ | m
  · have := hop_page l j hj _ (hopW1_mem l j)
    omega
  · rcases pages_of_stale l a m with e | e <;> omega

/-- The registers that the staleness check may change. -/
def checkWords : List Nat :=
  [Reg.LO.STAT 0, Reg.LO.STAT 1] ++ (List.range 32).flatMap (fun i => [Reg.LO.HOP_W1 0 i, Reg.LO.HOP_W1 1 i]) ++
    evsWords [Ev.LO.STALE 0, Ev.LO.STALE 1]

theorem staleWords_subset_checkWords (l : Lo) : (List.range 32).flatMap (staleWords l) ⊆ checkWords := by
  intro a m
  rcases mem_checked m with ⟨j, hj, rfl⟩ | m
  · refine List.mem_append_left _ (List.mem_append_right _ (List.mem_flatMap.mpr ⟨j, List.mem_range.mpr hj, ?_⟩))
    cases l <;> simp [Lo.idx]
  · rcases List.mem_cons.mp m with rfl | m
    · cases l <;> simp [checkWords, Lo.idx]
    · refine List.mem_append_right _ (List.mem_flatMap.mpr ⟨Ev.LO.STALE l.idx, ?_, m⟩)
      cases l <;> simp [Lo.idx]

theorem forEach_pair {α σ : Type} (x y : α) (f : α → σ → σ) (s : σ) : forEach [x, y] f s = f y (f x s) := rfl

theorem stalenessCheck_completes (ht : s.time % (100 * epochTicks) = 0) :
    completes .stalenessCheck s (fun t =>
      (∀ (l : Lo) (i : Nat), i < 32 → (t.flag (Fld.LO.HOP_W1.STALE l.idx i) = true ↔ (s.flag (Fld.LO.HOP_W1.STALE l.idx i) = true ∨
        (s.flag (Fld.LO.HOP_W1.VALID l.idx i) = true ∧ 192 < (s.pwr.tj - s.geti (Fld.LO.HOP_W2.TJ_CAL l.idx i)).natAbs)))) ∧
      frame [.loops, .twc, .fab] checkWords s t) := by
  refine completes_of_eq rfl (if_pos ht) ?_
  rw [forEach_pair]
  have kf := checked_entries .lof (Nat.le_refl 32) s
  generalize forEach (List.range 32) (fun i u => staleEntry .lof i u) s = a at kf ⊢
  have kb := checked_entries .lob (Nat.le_refl 32) a
  generalize forEach (List.range 32) (fun i u => staleEntry .lob i u) a = b at kb ⊢
  have stale (l : Lo) (i : Nat) (hi : i < 32) :
      b.flag (Fld.LO.HOP_W1.STALE l.idx i) = (s.flag (Fld.LO.HOP_W1.STALE l.idx i) || strayed s l i) := by
    cases l with
    | lof =>
      rw [frame_flag kb.frame (hop_not_others (l := .lob) (k := .lof) (by decide) hi (hopW1_mem .lof i)), kf.stale i hi]
      simp [hi]
    | lob =>
      have w1 := hop_not_others (l := .lof) (k := .lob) (by decide) hi (hopW1_mem .lob i)
      have w2 := hop_not_others (l := .lof) (k := .lob) (by decide) hi (hopW2_mem .lob i)
      rw [kb.stale i hi, strayed_congr kf.frame (by decide) (frame_flag kf.frame w1) w2, frame_flag kf.frame w1]
      simp [hi]
  refine ⟨fun l i hi => ?_, frame_finish (frame_trans (frame_mono kf.frame (fun _ h => h) (staleWords_subset_checkWords .lof))
    (frame_mono kb.frame (fun _ h => h) (staleWords_subset_checkWords .lob)))⟩
  rw [finish_flag, stale l i hi]
  simp [strayed]

/-! ## The clock outputs (R75, R76) -/

theorem clkoutCfg_plain (n : Fin 3) : keyedMask (Reg.CLK.CLKOUT_CFG n.val) = 0 ∧ hasRwl (Reg.CLK.CLKOUT_CFG n.val) = false ∧
    Reg.CLK.CLKOUT_CFG n.val % 4096 ≠ 0x20 ∧ Reg.CLK.CLKOUT_CFG n.val % 4096 ≠ 16 ∧ Reg.CLK.CLKOUT_CFG n.val ≠ Reg.TWC.SKIP_CNT ∧
    Reg.CLK.CLKOUT_CFG n.val ≠ Fld.CLK.REF_CFG.REF_FREQ.addr := by
  revert n
  decide

theorem leastDiv_lt (s : State) (src : Bool) : leastDiv s src < 4096 := by
  unfold leastDiv
  split
  · split <;> decide
  · decide

/-- The setting of a clock output with its divider raised where it is too small, and the event of that (R75). -/
def clamped (n : Nat) (least : Nat) (s : State) : State :=
  let low := decide (s.get (Fld.CLK.CLKOUT_CFG.DIV n) < least)
  raiseIf low Ev.CLK.CLKOUT_CLAMPED ((if low then s.set (Fld.CLK.CLKOUT_CFG.DIV n) least else s).put (Fld.CLK.CLKOUT_CFG.CLAMPED n) low)

theorem clkout_apart (n : Nat) : Apart (Fld.CLK.CLKOUT_CFG.CLAMPED n) (Fld.CLK.CLKOUT_CFG.DIV n) :=
  .inr (show 31 + 1 ≤ 32 ∧ (0 + 12 ≤ 31 ∨ 31 + 1 ≤ 0) by decide)

theorem clamped_shows (n : Fin 3) {least : Nat} (h : least < 4096) (s : State) :
    (clamped n.val least s).get (Fld.CLK.CLKOUT_CFG.DIV n.val) = max (s.get (Fld.CLK.CLKOUT_CFG.DIV n.val)) least ∧
    (clamped n.val least s).flag (Fld.CLK.CLKOUT_CFG.CLAMPED n.val) = decide (s.get (Fld.CLK.CLKOUT_CFG.DIV n.val) < least) ∧
    frame [.twc, .fab] (Reg.CLK.CLKOUT_CFG n.val :: evWords Ev.CLK.CLKOUT_CLAMPED) s (clamped n.val least s) := by
  obtain ⟨_, _, _, ho, hs, _⟩ := clkoutCfg_plain n
  unfold clamped
  dsimp only
  generalize hl : decide (s.get (Fld.CLK.CLKOUT_CFG.DIV n.val) < least) = low
  have a1 : (if low then s.set (Fld.CLK.CLKOUT_CFG.DIV n.val) least else s).get (Fld.CLK.CLKOUT_CFG.DIV n.val) =
      max (s.get (Fld.CLK.CLKOUT_CFG.DIV n.val)) least := by
    subst hl
    split
    case isTrue c =>
      have c' := of_decide_eq_true c
      rw [State.get_set_same s (Fld.CLK.CLKOUT_CFG.DIV n.val) least (show 0 + 12 ≤ 32 by decide)]
      exact (Nat.mod_eq_of_lt h).trans (Nat.max_eq_right (Nat.le_of_lt c')).symm
    case isFalse c => exact (Nat.max_eq_left (by simpa using c)).symm
  have a2 : frame [.twc, .fab] (Reg.CLK.CLKOUT_CFG n.val :: evWords Ev.CLK.CLKOUT_CLAMPED) s
      (if low then s.set (Fld.CLK.CLKOUT_CFG.DIV n.val) least else s) := by
    split
    · exact frame_set (f := Fld.CLK.CLKOUT_CFG.DIV n.val) List.mem_cons_self (frame_refl _ _ _)
    · exact frame_refl _ _ _
  generalize (if low then s.set (Fld.CLK.CLKOUT_CFG.DIV n.val) least else s) = a at a1 a2 ⊢
  refine ⟨?_, (flag_raiseIf _ _ _ ho hs).trans (State.flag_put_same a (Fld.CLK.CLKOUT_CFG.CLAMPED n.val) low (show 31 + 1 ≤ 32 by decide) Nat.one_pos),
    frame_raiseIf (by decide) (List.subset_cons_self _ _) (frame_put (f := Fld.CLK.CLKOUT_CFG.CLAMPED n.val) List.mem_cons_self a2)⟩
  exact (congrArg (fun w => fieldOf w 0 12) (word_raiseIf _ _ _ ho hs)).trans ((get_put_apart (clkout_apart n.val) a low).trans a1)

/-- The settings of output `n` wait for the next boundary. -/
def markDirty (n : Nat) (s : State) : State :=
  { s with loops := { s.loops with clkoutDirty := s.loops.clkoutDirty.filter (fun k => k != n) ++ [n] } }

theorem writeClkout_eq (port : Port) (n : Fin 3) (v : Word) (s : State) :
    writeClkout port n.val v (keyOpen s (Reg.CLK.CLKOUT_CFG n.val / 4096) port) (closeKey (Reg.CLK.CLKOUT_CFG n.val / 4096) s) =
      markDirty n.val (clamped n.val (leastDiv s ((afterWrite s port (Reg.CLK.CLKOUT_CFG n.val) v).getLsbD 12))
        (stored port (Reg.CLK.CLKOUT_CFG n.val) v s)) := by
  obtain ⟨hk, hr, _, _, _, hc⟩ := clkoutCfg_plain n
  have src : (stored port (Reg.CLK.CLKOUT_CFG n.val) v s).flag (Fld.CLK.CLKOUT_CFG.SRC n.val) =
      (afterWrite s port (Reg.CLK.CLKOUT_CFG n.val) v).getLsbD 12 :=
    (congrArg (fun w => fieldOf w 12 1 == 1) (stored_word port _ v s)).trans (getLsbD_eq_fieldOf _ 12).symm
  have ref : (stored port (Reg.CLK.CLKOUT_CFG n.val) v s).get Fld.CLK.REF_CFG.REF_FREQ = s.get Fld.CLK.REF_CFG.REF_FREQ :=
    frame_get (frame_stored s) (by simpa using hc.symm)
  have least : leastDiv (stored port (Reg.CLK.CLKOUT_CFG n.val) v s)
      ((stored port (Reg.CLK.CLKOUT_CFG n.val) v s).flag (Fld.CLK.CLKOUT_CFG.SRC n.val)) =
      leastDiv s ((afterWrite s port (Reg.CLK.CLKOUT_CFG n.val) v).getLsbD 12) := by
    rw [src, leastDiv, ref, leastDiv]
  rw [← least]
  unfold writeClkout
  rw [plainWrite_stored port v s hk hr]
  rfl

theorem clkoutCfgWrite_completes {port : Port} {n : Fin 3} {v : Word} (hl : lets s (Reg.CLK.CLKOUT_CFG n.val) = true) :
    completes (.clkoutCfgWrite port n v) s (fun t =>
      t.get (Fld.CLK.CLKOUT_CFG.DIV n.val) =
        max (fieldOf (afterWrite s port (Reg.CLK.CLKOUT_CFG n.val) v) 0 12) (leastDiv s ((afterWrite s port (Reg.CLK.CLKOUT_CFG n.val) v).getLsbD 12)) ∧
      t.flag (Fld.CLK.CLKOUT_CFG.CLAMPED n.val) =
        decide (fieldOf (afterWrite s port (Reg.CLK.CLKOUT_CFG n.val) v) 0 12 < leastDiv s ((afterWrite s port (Reg.CLK.CLKOUT_CFG n.val) v).getLsbD 12)) ∧
      t.loops.clkoutDirty.contains n.val = true ∧ t.loops.clkNow = s.loops.clkNow ∧
      frame [.loops, .twc, .fab] (Reg.CLK.CLKOUT_CFG n.val :: evWords Ev.CLK.CLKOUT_CLAMPED) s t) := by
  refine completes_of_eq rfl ((hostWrite_acts hl (clkoutCfg_plain n).2.2.1).trans (writeClkout_eq port n v s)) ?_
  obtain ⟨h1, h2, h3⟩ := clamped_shows n (leastDiv_lt s ((afterWrite s port (Reg.CLK.CLKOUT_CFG n.val) v).getLsbD 12))
    (stored port (Reg.CLK.CLKOUT_CFG n.val) v s)
  have hd : (stored port (Reg.CLK.CLKOUT_CFG n.val) v s).get (Fld.CLK.CLKOUT_CFG.DIV n.val) =
      fieldOf (afterWrite s port (Reg.CLK.CLKOUT_CFG n.val) v) 0 12 := congrArg (fun w => fieldOf w 0 12) (stored_word port _ v s)
  rw [hd] at h1 h2
  have hf := frame_trans (frame_mono (frame_stored (port := port) (v := v) s) (by simp) (by simp)) h3
  generalize clamped n.val _ _ = t at h1 h2 hf ⊢
  have hn : t.loops.clkNow = s.loops.clkNow := congrArg Loops.clkNow (hf.1 .loops (by decide))
  refine ⟨h1, h2, ?_, hn, frame_finish (frame_loops (by simp) (frame_mono hf (by simp) (fun _ h => h)))⟩
  simp [markDirty]

/-- Settles O8: a write of CAL_CMD acts in `calStart`, from which a calibration is requested (`startCal_asks`), waits (`deferCal_shows`) or
begins an ALL pass (`startPass_begins`); the staleness check goes through the entries (`checked_entries`), and a clock output's divider is raised
(`clamped_shows`). -/
theorem calibrationAndClkoutComplete : Obligations.CalibrationAndClkoutComplete := by
  unfold Obligations.CalibrationAndClkoutComplete
  refine ⟨?startWaits, ?start, ?force, ?forceWaits, ?allWaits, ?all, ?allEmpty, ?idlePost, ?staleness, ?clkout⟩
  case startWaits =>
    intro port l v s hl h
    refine loCalStart_completes hl ?_
    rw [if_neg (by simp [h])]
    exact deferCal_finish l _ s
  case start =>
    intro port l v s hl h hg hd hw
    refine loCalStart_completes hl ?_
    rw [if_pos h]
    exact startCal_finish ⟨(Bool.and_eq_true_iff.mp h).1, hg, hd, hw⟩ _
  case force =>
    intro port l v s hl hon hg hd hw
    refine loCalForce_completes hl ?_
    rw [if_pos hon]
    exact startCal_finish ⟨hon, hg, hd, hw⟩ _
  case forceWaits =>
    intro port l v s hl hon
    refine loCalForce_completes hl ?_
    rw [if_neg (by simp [hon])]
    exact deferCal_finish l _ s
  case allWaits =>
    intro port l v s hl h
    refine loCalAll_completes hl ?_
    rw [if_neg (by simp [h])]
    exact deferAll_finish l s
  case all =>
    intro port l v s i rest hl h hv
    refine loCalAll_completes hl ?_
    rw [if_pos h]
    exact startPass_finish h hv
  case allEmpty =>
    intro port l v s hl h hv
    refine loCalAll_completes hl ?_
    rw [if_pos h]
    exact startPass_finish_empty hv
  case idlePost => exact fun l s r ht hon hr hf ho hw hg hd => loCalIdlePost_completes ht ⟨hon, hg, hd, hw⟩ hr hf ho
  case staleness => exact fun s ht => stalenessCheck_completes ht
  case clkout => exact fun port n v s hl => clkoutCfgWrite_completes hl

end Sys2Proof.Machine.Clocking

namespace Sys2Proof.Machine.Survey

open Capture

variable {ps : List Part} {as : List Nat} {s t u : State} {m n : MapSel}

/-! ## A lone change of the second class (R22) -/

/-- Change `c` alone is asked for, for boundary `want`, and stands behind every other request: it is placed on boundary `lo` or later and no
request waits, or it waits as the last one. -/
def lastOrPlaced (c : Change) (want lo : Nat) (t : State) : Prop :=
  (stands c lo t.plan ∧ t.planWait = []) ∨ ∃ l, t.planWait = l ++ [(want, [c])]

theorem stands_place_alone {c : Change} {want : Nat} (hf : isFreq c = false) (s : State) :
    stands c (max want (s.epoch + 2)) (place [c] want s).plan :=
  ⟨_, mem_moveFreq (mem_placeAt_self _ c _) hf, rfl, rfl, Nat.le_add_right _ _⟩

/-- The last waiting request is served only when no other waits, if it holds no change of the first class (R22). -/
theorem nextWaiting_last {l : List (Nat × List Change)} {g x : Nat × List Change} (hg : g.2.any firstClass = false)
    (hw : s.planWait = l ++ [g]) (hx : nextWaiting s = some x) : x ∈ l ∨ (x = g ∧ l = []) := by
  unfold nextWaiting at hx
  rw [hw, List.find?_append, List.find?_singleton, hg] at hx
  cases hf : l.find? (fun x => x.2.any firstClass) with
  | some y =>
    simp only [hf, Option.some_or, Option.orElse_some, Option.some.injEq] at hx
    exact .inl (hx ▸ List.mem_of_find?_eq_some hf)
  | none =>
    rw [hf] at hx
    cases l with
    | nil => exact .inr ⟨by simpa using hx.symm, rfl⟩
    | cons y l => exact .inl (by simp [show y = x by simpa using hx])

theorem lastOrPlaced_servePlan {c : Change} {want lo : Nat} (hf : isFreq c = false) (hc : firstClass c = false)
    (hl : lo ≤ max want (t.epoch + 2)) (k : lastOrPlaced c want lo t) : lastOrPlaced c want lo (servePlan t) := by
  unfold servePlan
  cases hx : nextWaiting t with
  | none => exact k
  | some x =>
    dsimp only
    split
    case isFalse => exact k
    unfold lastOrPlaced
    rw [showFreqPlan_plan, showFreqPlan_planWait]
    rcases k with ⟨_, hw⟩ | ⟨l, hw⟩
    · exact absurd (mem_of_nextWaiting hx) (by simp [hw])
    rcases nextWaiting_last (by simp [hc]) hw hx with hm | ⟨rfl, rfl⟩
    · exact .inr ⟨l.erase x, by simp [place, hw, List.erase_append_left _ hm]⟩
    · obtain ⟨e, he, h1, h2, h3⟩ := stands_place_alone (want := want) hf { t with planWait := t.planWait.erase (want, [c]) }
      exact .inl ⟨⟨e, he, h1, h2, Nat.le_trans hl h3⟩, by simp [place, hw]⟩

theorem lastOrPlaced_serveWaiting {c : Change} {want lo k : Nat} (hf : isFreq c = false) (hc : firstClass c = false)
    (hl : lo ≤ max want (t.epoch + 2)) (h : lastOrPlaced c want lo t) : lastOrPlaced c want lo (serveWaiting k t) := by
  induction k generalizing t with
  | zero => exact h
  | succ k ih => exact ih (by rwa [servePlan_epoch]) (lastOrPlaced_servePlan hf hc hl h)

theorem lastOrPlaced_post {c : Change} (hf : isFreq c = false) (hc : firstClass c = false) (want : Nat) (s : State) :
    lastOrPlaced c want (max want (s.epoch + 2)) (post c want s) := by
  unfold post postAll
  rw [List.any_cons, hf, List.any_nil, Bool.or_false, Bool.and_false, if_neg (by simp)]
  split
  case isTrue h =>
    have hw : s.planWait = [] := by simpa using (Bool.and_eq_true_iff.mp h).1
    refine .inl ⟨?_, ?_⟩
    · rw [showFreqPlan_plan]
      exact stands_place_alone hf s
    · rw [showFreqPlan_planWait]
      exact hw
  case isFalse =>
    have k : lastOrPlaced c want (max want (s.epoch + 2))
        (serveWaiting (s.planWait.length + 1) { s with planWait := s.planWait ++ [(want, [c])] }) :=
      lastOrPlaced_serveWaiting hf hc (Nat.le_refl _) (.inr ⟨s.planWait, rfl⟩)
    dsimp only
    split <;> exact k

/-- A change of the second class that is posted alone is asked for. -/
theorem asked_post_second {c : Change} (hf : isFreq c = false) (hc : firstClass c = false) (want : Nat) (s : State) :
    asked s (post c want s) c want := by
  rcases lastOrPlaced_post hf hc want s with ⟨⟨e, he, h1, h2, h3⟩, _⟩ | ⟨l, hw⟩
  · exact .inl ⟨e, he, h1, h2, by omega, by omega⟩
  · exact .inr ⟨(want, [c]), by simp [hw], rfl, by simp⟩

/-! ## The allocation and rotation of watch entries (R108, R109) -/

theorem frame_allocateWatch {c : LaneClass} (hp : Part.plan ∈ ps) (ha : planWords ⊆ as) (h : frame ps as s t) :
    frame ps as s (allocateWatch c t) := by
  unfold allocateWatch
  split
  · exact h
  · exact frame_forEach (fun _ _ _ hu => frame_posted hp ha hu)
      (frame_forEach (fun _ _ _ hu => frame_posted hp ha hu) (frame_forEach (fun _ _ _ hu => frame_posted hp ha hu) h))

theorem frame_visitNext {l want : Nat} (hp : Part.plan ∈ ps) (ha : planWords ⊆ as) (h : frame ps as s t) :
    frame ps as s (visitNext l want t) := by
  unfold visitNext
  split
  · exact frame_posted hp ha h
  · exact h

theorem frame_startRotation (hp : Part.plan ∈ ps) (hm : Part.mgr ∈ ps) (ha : planWords ⊆ as) (h : frame ps as s t) :
    frame ps as s (startRotation t) := by
  unfold startRotation
  split
  · exact frame_mgr hm h
  split
  · exact h
  · exact frame_forEach (fun _ _ _ hu => frame_visitNext hp ha (frame_mgr hm hu)) (frame_mgr hm h)

/-- The watch allocation that a snapshot of map `m` feeds. -/
def allocateFrom (m : MapSel) (s : State) : State :=
  match m with
  | .fm => allocateWatch .rds s
  | .b3 => startRotation (allocateWatch .fic s)
  | .lf => allocateWatch .amw s

theorem frame_allocateFrom (hp : Part.plan ∈ ps) (hm : Part.mgr ∈ ps) (ha : planWords ⊆ as) (h : frame ps as s t) :
    frame ps as s (allocateFrom m t) := by
  cases m with
  | fm => exact frame_allocateWatch hp ha h
  | b3 => exact frame_startRotation hp hm ha (frame_allocateWatch hp ha h)
  | lf => exact frame_allocateWatch hp ha h

theorem ficRotate_eq {l f : Nat} {d : Nat × Nat} (hf : nextVisit s (candidates s .fic) (s.lane l).khz = some f)
    (hn : isPlanned (isTuneOf l) s = false) (hd : s.mgr.dwell.find? (fun x => x.1 == l) = some d) (he : d.2 ≤ s.epoch + 2)
    (ha : autoWatch s .fic = true) : ficRotate l s = post (.tune l .b3 f false) d.2 s := by
  simp [ficRotate, hd, he, ha, hn, visitNext, hf, postWatch, LaneClass.path]

/-! ## Survey maps -/

theorem mapIdx_lt (m : MapSel) : m.idx < 3 := by cases m <;> decide

/-- The number of a map's window names it. -/
theorem mapIdx_inj (h : n.idx = m.idx) : n = m := by
  have k (m : MapSel) : [MapSel.fm, .b3, .lf][m.idx]? = some m := by cases m <;> rfl
  exact Option.some.inj (by rw [← k n, h, k m])

theorem at_upd_ne {α : Type} {k i j : Nat} (v : Vector α k) (f : α → α) (d : α) (h : j ≠ i) : at' (upd v i f) j d = at' v j d := by
  unfold at' upd
  split
  · simp [List.getD_eq_getElem?_getD, Vector.getElem?_set_ne _ (Ne.symm h)]
  · rfl

theorem map_setMap_same (s : State) (m : MapSel) (f : SurveyMap → SurveyMap) : (s.setMap m f).map m = f (s.map m) :=
  at_upd _ _ _ (mapIdx_lt m)

theorem map_setMap_ne (h : n ≠ m) (s : State) (f : SurveyMap → SurveyMap) : (s.setMap m f).map n = s.map n :=
  at_upd_ne _ _ _ (fun e => h (mapIdx_inj e))

theorem map_of_maps (h : t.maps = s.maps) (m : MapSel) : t.map m = s.map m := by
  simp only [State.map, h]

theorem finish_map (s t : State) (m : MapSel) : (finish s t).map m = t.map m := rfl

theorem frame_setMap {f : SurveyMap → SurveyMap} (hp : Part.maps ∈ ps) (h : frame ps as s t) : frame ps as s (t.setMap m f) :=
  frame_maps hp h

/-! ## Snapshots (R94, R95) -/

/-- The snapshot of map `m` at the present boundary (R94, R95). -/
def snapshotOf (m : MapSel) (readings : List (Nat × Int)) (s : State) : Snapshot :=
  ⟨s.epoch, pathClosed s m.path, tileNow s m.path,
    ageCells ((List.range m.entries).filterMap (measureEntry s m readings)) (s.map m).now.cells⟩

/-- `s` with a snapshot of map `m` taken, but for the count of loud refreshes of its path. -/
def snapshotTaken (m : MapSel) (readings : List (Nat × Int)) (s : State) : State :=
  (State.setMap { s with dsp := { s.dsp with touched := s.dsp.touched.filter (fun e => e.1 != m) } } m
    (fun x => { x with now := snapshotOf m readings s, unposted := true })).put ⟨Reg.SRV.STAT, m.idx, 1⟩
      (pathClosed s m.path || (tileNow s m.path).isSome)

/-- Closing a snapshot does to the path no more than count its loud refreshes (R33). -/
theorem frame_closeSnapshot (m : MapSel) (readings : List (Nat × Int)) (s : State) :
    frame [.paths] [] (snapshotTaken m readings s) (closeSnapshot m readings s) := by
  unfold closeSnapshot
  dsimp only
  split
  · exact frame_refl _ _ _
  · exact frame_setPath (by simp) (frame_refl _ _ _)

theorem map_snapshotTaken (m : MapSel) (readings : List (Nat × Int)) (s : State) :
    (snapshotTaken m readings s).map m = { s.map m with now := snapshotOf m readings s, unposted := true } :=
  map_setMap_same _ _ _

theorem map_snapshotTaken_ne (h : n ≠ m) (readings : List (Nat × Int)) (s : State) : (snapshotTaken m readings s).map n = s.map n :=
  map_setMap_ne h _ _

theorem stat_snapshotTaken (m : MapSel) (readings : List (Nat × Int)) (s : State) :
    (snapshotTaken m readings s).flag ⟨Reg.SRV.STAT, m.idx, 1⟩ = (pathClosed s m.path || (tileNow s m.path).isSome) :=
  State.flag_put_same _ _ _ (show m.idx + 1 ≤ 32 by have := mapIdx_lt m; omega) Nat.one_pos

theorem dsp_snapshotTaken (m : MapSel) (readings : List (Nat × Int)) (s : State) :
    (snapshotTaken m readings s).dsp = { s.dsp with touched := s.dsp.touched.filter (fun e => e.1 != m) } := rfl

theorem frame_snapshotTaken (m : MapSel) (readings : List (Nat × Int)) (s : State) :
    frame [.maps, .dsp] [Reg.SRV.STAT] s (snapshotTaken m readings s) :=
  frame_put (by simp) (frame_setMap (by simp) (frame_dsp (by simp) (frame_refl _ _ _)))

theorem execSnapshotClose_eq {readings : List (Nat × Int)} (hr : s.receiving = true) (ht : s.time % (m.period * epochTicks) = 0) :
    execSnapshotClose m readings s = commit s (allocateFrom m (closeSnapshot m readings s)) := by
  unfold execSnapshotClose
  rw [if_pos (by simp [hr, ht])]
  cases m <;> rfl

/-- What a snapshot leaves when the watch allocation that it feeds has run. -/
theorem frame_allocated (m : MapSel) (readings : List (Nat × Int)) (s : State) :
    frame [.paths, .plan, .mgr] planWords (snapshotTaken m readings s) (allocateFrom m (closeSnapshot m readings s)) :=
  frame_allocateFrom (by simp) (by simp) (fun _ h => h) (frame_mono (frame_closeSnapshot m readings s) (by simp) (by simp))

theorem snapshotClose_completes {readings : List (Nat × Int)} (hr : s.receiving = true) (ht : s.time % (m.period * epochTicks) = 0) :
    completes (.snapshotClose m readings) s (fun t =>
      (t.map m).now = snapshotOf m readings s ∧ (t.map m).unposted = true ∧ (∀ n : MapSel, n ≠ m → t.map n = s.map n) ∧
      t.flag ⟨Reg.SRV.STAT, m.idx, 1⟩ = (pathClosed s m.path || (tileNow s m.path).isSome) ∧
      { t.dsp with touched := s.dsp.touched } = s.dsp ∧ (∀ e ∈ t.dsp.touched, e.1 ≠ m) ∧
      frame [.maps, .dsp, .paths, .plan, .mgr] (Reg.SRV.STAT :: planWords) s t) := by
  refine completes_of_commit (execSnapshotClose_eq hr ht) ?_
  have hf := frame_allocated m readings s
  generalize allocateFrom m (closeSnapshot m readings s) = t at hf ⊢
  have hm (n : MapSel) : (finish s t).map n = (snapshotTaken m readings s).map n := map_of_maps (hf.1 .maps (by decide)) n
  have hd : t.dsp = { s.dsp with touched := s.dsp.touched.filter (fun e => e.1 != m) } :=
    (hf.1 .dsp (by decide)).trans (dsp_snapshotTaken m readings s)
  refine ⟨?_, ?_, fun n hn => (hm n).trans (map_snapshotTaken_ne hn readings s), ?_, ?_, ?_, ?_⟩
  · rw [hm, map_snapshotTaken]
  · rw [hm, map_snapshotTaken]
  · rw [finish_flag, frame_flag hf (show Reg.SRV.STAT ∉ planWords by decide), stat_snapshotTaken]
  · rw [finish_dsp, hd]
  · intro e he
    rw [finish_dsp, hd] at he
    simpa using (List.mem_filter.mp he).2
  · exact frame_finish (frame_trans (frame_mono (frame_snapshotTaken m readings s) (by simp) (by simp)) (frame_mono hf (by simp) (by simp)))

/-! ## Posting a snapshot (R96, R97) -/

/-- The snapshot of map `m` goes to the window, or to its side slot while the window holds another (R97). -/
def snapshotMoved (m : MapSel) (s : State) : State :=
  (s.setMap m (fun x => { x with unposted := false })).setMap m
    (fun x => if s.flag (windowValid (m.idx + 1)) then { x with side := x.now } else { x with held := x.now })

/-- The words that a posted snapshot brings to its window. -/
def snapshotWords (m : MapSel) (s : State) : List (Nat × Word) :=
  [(Reg.SRV.FM_EPOCH + 4 * m.idx, lowWord (s.map m).now.epoch)]

theorem postSnapshot_on (hu : (s.map m).unposted = true) (hp : postsMap s m = true) :
    postSnapshot m s = raise (Ev.SRV.FM_READY + m.idx) (raiseIf (s.flag (windowValid (m.idx + 1))) Ev.SRV.OVERFLOW
      (postResult (m.idx + 1) (snapshotWords m s) (snapshotMoved m s))) := by
  have h : postsMap (s.setMap m (fun x => { x with unposted := false })) m = true := hp
  unfold postSnapshot
  simp only [hu, hp, Bool.not_true, Bool.false_eq_true, ↓reduceIte]
  rfl

theorem postSnapshot_off (hu : (s.map m).unposted = true) (hp : postsMap s m = false) :
    postSnapshot m s = s.setMap m (fun x => { x with unposted := false }) := by
  simp [postSnapshot, hu, hp]

theorem map_snapshotMoved (m : MapSel) (s : State) :
    (snapshotMoved m s).map m = if s.flag (windowValid (m.idx + 1)) then { s.map m with unposted := false, side := (s.map m).now }
      else { s.map m with unposted := false, held := (s.map m).now } := by
  unfold snapshotMoved
  rw [map_setMap_same, map_setMap_same]

/-- An event that is raised on a condition is raised where the condition holds. -/
theorem raised_raiseIf {g : Nat} {c : Bool} (h : c = true) (s : State) : raised (raiseIf c g s) g := by
  rw [raiseIf, if_pos h]
  exact raised_raise g s

theorem snapshotWords_offset (m : MapSel) (s : State) : ∀ c ∈ snapshotWords m s, c.1 % 4096 ≠ 16 ∧ c.1 ≠ Reg.TWC.SKIP_CNT := by
  intro c hc
  rw [List.mem_singleton.mp hc]
  have h : ∀ i < 3, (Reg.SRV.FM_EPOCH + 4 * i) % 4096 ≠ 16 ∧ Reg.SRV.FM_EPOCH + 4 * i ≠ Reg.TWC.SKIP_CNT := by decide
  exact h _ (mapIdx_lt m)

/-- The events of a posted snapshot, raised after its result. -/
theorem frame_snapshotEvents (b : Bool) (m : MapSel) (t : State) :
    frame [.fab, .twc] (evsWords [Ev.SRV.FM_READY + m.idx, Ev.SRV.OVERFLOW]) t (raise (Ev.SRV.FM_READY + m.idx) (raiseIf b Ev.SRV.OVERFLOW t)) :=
  frame_raise (by simp [evParts]) (by simp [evsWords]) (frame_raiseIf (by simp [evParts]) (by simp [evsWords]) (frame_refl _ _ _))

theorem frame_snapshotPost (m : MapSel) (s : State) :
    frame [.fab] [windowHeader (m.idx + 1), Reg.SRV.FM_EPOCH + 4 * m.idx] (snapshotMoved m s)
      (postResult (m.idx + 1) (snapshotWords m s) (snapshotMoved m s)) :=
  frame_postResult_quiet (by have := mapIdx_lt m; omega) (by simp) (by simp) (by simp [snapshotWords]) (frame_refl _ _ _)

theorem frame_snapshotMoved (m : MapSel) (s : State) : frame [.maps] [] s (snapshotMoved m s) :=
  frame_setMap (by simp) (frame_setMap (by simp) (frame_refl _ _ _))

theorem snapshotPosted_completes (hu : (s.map m).unposted = true) (hp : postsMap s m = true) :
    completes (.snapshotPosted m) s (fun t =>
      posted s t (m.idx + 1) (snapshotWords m s) ∧ raised t (Ev.SRV.FM_READY + m.idx) ∧
      (t.map m).unposted = false ∧
      (if s.flag (windowValid (m.idx + 1)) then (t.map m).side = (s.map m).now ∧ raised t Ev.SRV.OVERFLOW else (t.map m).held = (s.map m).now) ∧
      frame [.maps, .fab, .twc] ([windowHeader (m.idx + 1), Reg.SRV.FM_EPOCH + 4 * m.idx] ++
        evsWords [Ev.SRV.FM_READY + m.idx, Ev.SRV.OVERFLOW]) s t) := by
  refine completes_of_eq rfl (postSnapshot_on hu hp) ?_
  have hi : m.idx + 1 < 27 := by have := mapIdx_lt m; omega
  have hr : posted s (postResult (m.idx + 1) (snapshotWords m s) (snapshotMoved m s)) (m.idx + 1) (snapshotWords m s) :=
    posted_of_fab rfl rfl (posted_postResult hi (by simp [snapshotWords]) (snapshotMoved m s))
  have hf := frame_trans (frame_mono (frame_snapshotPost m s) (by simp) (List.subset_append_left _ _))
    (frame_mono (frame_snapshotEvents (s.flag (windowValid (m.idx + 1))) m _) (fun _ h => h) (List.subset_append_right _ _))
  have hm := map_of_maps (hf.1 .maps (by decide)) m
  rw [map_snapshotMoved] at hm
  refine ⟨posted_finish (posted_raise hi (snapshotWords_offset m s) _ (posted_raiseIf hi (snapshotWords_offset m s) _ _ hr)),
    raised_finish (raised_raise _ _), ?_, ?_,
    frame_finish (frame_trans (frame_mono (frame_snapshotMoved m s) (by simp) (by simp)) (frame_mono hf (by simp) (fun _ h => h)))⟩
  · rw [finish_map, hm]
    split <;> rfl
  · rw [finish_map, hm]
    split
    case isTrue h =>
      exact ⟨rfl, raised_finish (raised_of_keepsEvents (keepsEvents_raise _ _) (raised_raiseIf h _))⟩
    case isFalse => rfl

/-- Settles O9: a closed snapshot stands while the watch allocation that it feeds runs (`frame_allocated`), a posted one moves to its window
(`map_snapshotMoved`) with a result and its events, and a visit's retune, of the second class, is asked for (`asked_post_second`). -/
theorem surveyCompletes : Obligations.SurveyCompletes := by
  unfold Obligations.SurveyCompletes
  refine ⟨?close, ?posted, ?unposted, ?rotate⟩
  case close => exact fun m readings s hr ht => snapshotClose_completes hr ht
  case posted => exact fun m s hu hp => snapshotPosted_completes hu hp
  case unposted =>
    intro m s hu hp
    refine completes_of_eq rfl (postSnapshot_off hu hp) ⟨?_, frame_finish (frame_setMap (by simp) (frame_refl _ _ _))⟩
    rw [finish_map, map_setMap_same]
  case rotate =>
    intro e d s f hf hn hd he ha
    exact completes_of_eq rfl (ficRotate_eq hf hn hd he ha)
      ⟨asked_finish (asked_post_second rfl rfl _ _), frame_finish (frame_posted (by simp) (fun _ h => h) (frame_refl _ _ _))⟩

end Sys2Proof.Machine.Survey

namespace Sys2Proof.Machine.Reception

open Capture

variable {ps qs : List Part} {as bs : List Nat} {s t u : State}

/-! ## What an operation may change, and that it loses no event -/

/-- From `s` to `t` nothing changes but parts of `ps` and the registers of `as`, and no raised event is lost. -/
structure Effect (ps : List Part) (as : List Nat) (s t : State) : Prop where
  frame : frame ps as s t
  events : keepsEvents s t

theorem Effect.refl (ps : List Part) (as : List Nat) (s : State) : Effect ps as s s := ⟨frame_refl _ _ _, keepsEvents_refl s⟩

theorem Effect.trans (h : Effect ps as s t) (k : Effect ps as t u) : Effect ps as s u :=
  ⟨frame_trans h.frame k.frame, keepsEvents_trans h.events k.events⟩

theorem Effect.mono (h : Effect qs bs s t) (hp : qs ⊆ ps) (ha : bs ⊆ as) : Effect ps as s t := ⟨frame_mono h.frame hp ha, h.events⟩

/-- A change that leaves the register fabric and every EV_RAW register loses no event. -/
theorem Effect.step (h : Effect ps as s t) (k : Machine.frame qs bs t u) (hf : Part.fab ∉ qs) (hr : ∀ a ∈ bs, a % 4096 ≠ 16)
    (hp : qs ⊆ ps) (ha : bs ⊆ as) : Effect ps as s u :=
  h.trans ⟨frame_mono k hp ha, keepsEvents_of_frame hf hr k⟩

theorem Effect.setWord {a : Nat} (h : Effect ps as s t) (ha : a ∈ as) (hr : a % 4096 ≠ 16) (w : Word) : Effect ps as s (t.setWord a w) :=
  h.step (frame_setWord (as := [a]) (List.mem_singleton.mpr rfl) (frame_refl [] _ t)) (by simp) (by simpa using hr) (by simp)
    (by simpa using ha)

theorem Effect.set {f : Field} (h : Effect ps as s t) (ha : f.addr ∈ as) (hr : f.addr % 4096 ≠ 16) (v : Nat) : Effect ps as s (t.set f v) :=
  h.setWord ha hr _

theorem Effect.put {f : Field} (h : Effect ps as s t) (ha : f.addr ∈ as) (hr : f.addr % 4096 ≠ 16) (b : Bool) : Effect ps as s (t.put f b) :=
  h.set ha hr _

theorem Effect.raise {g : Nat} (h : Effect ps as s t) (hp : evParts ⊆ ps) (ha : evWords g ⊆ as) : Effect ps as s (raise g t) :=
  ⟨frame_raise hp ha h.frame, keepsEvents_trans h.events (keepsEvents_raise g t)⟩

theorem Effect.raiseIf {g : Nat} {c : Bool} (h : Effect ps as s t) (hp : evParts ⊆ ps) (ha : evWords g ⊆ as) : Effect ps as s (raiseIf c g t) :=
  ⟨frame_raiseIf hp ha h.frame, keepsEvents_trans h.events (keepsEvents_raiseIf c g t)⟩

theorem Effect.forEach {α : Type} {l : List α} {f : α → State → State} (h : Effect ps as s t)
    (hf : ∀ x u, x ∈ l → Effect ps as s u → Effect ps as s (f x u)) : Effect ps as s (forEach l f t) := by
  unfold Machine.forEach
  induction l generalizing t with
  | nil => exact h
  | cons x l ih => exact ih (hf x t List.mem_cons_self h) (fun y u hy hu => hf y u (List.mem_cons_of_mem _ hy) hu)

theorem Effect.ite {c : Prop} [Decidable c] (h : c → Effect ps as s t) (k : ¬c → Effect ps as s u) : Effect ps as s (if c then t else u) := by
  split
  · exact h ‹_›
  · exact k ‹_›

/-- An update of parts that leaves the fabric and the registers. -/
theorem Effect.part (h : Effect ps as s t) (k : Machine.frame qs [] t u) (hp : qs ⊆ ps) (hf : Part.fab ∉ qs) : Effect ps as s u :=
  h.step k hf (by simp) hp (by simp)

theorem Effect.mgr (h : Effect ps as s t) (hp : Part.mgr ∈ ps) (x : Manager) : Effect ps as s { t with mgr := x } :=
  h.part (frame_mgr (ps := [.mgr]) (by simp) (frame_refl _ _ t)) (by simpa using hp) (by simp)

theorem Effect.flt (h : Effect ps as s t) (hp : Part.flt ∈ ps) (x : Faults) : Effect ps as s { t with flt := x } :=
  h.part (frame_flt (ps := [.flt]) (by simp) (frame_refl _ _ t)) (by simpa using hp) (by simp)

theorem Effect.slots (h : Effect ps as s t) (hp : Part.slots ∈ ps) (x : Vector Slot 4) : Effect ps as s { t with slots := x } :=
  h.part (frame_slots (ps := [.slots]) (by simp) (frame_refl _ _ t)) (by simpa using hp) (by simp)

theorem Effect.pib (h : Effect ps as s t) (hp : Part.pib ∈ ps) (x : Pib) : Effect ps as s { t with pib := x } :=
  h.part (frame_pib (ps := [.pib]) (by simp) (frame_refl _ _ t)) (by simpa using hp) (by simp)

theorem Effect.rds (h : Effect ps as s t) (hp : Part.rds ∈ ps) (x : Vector RdsCtx 104) : Effect ps as s { t with rds := x } :=
  h.part (frame_rds (ps := [.rds]) (by simp) (frame_refl _ _ t)) (by simpa using hp) (by simp)

theorem Effect.dab (h : Effect ps as s t) (hp : Part.dab ∈ ps) (x : Vector DabLane 20) : Effect ps as s { t with dab := x } :=
  h.part (frame_dab (ps := [.dab]) (by simp) (frame_refl _ _ t)) (by simpa using hp) (by simp)

theorem Effect.aux (h : Effect ps as s t) (hp : Part.aux ∈ ps) (x : Aux) : Effect ps as s { t with aux := x } :=
  h.part (frame_aux (ps := [.aux]) (by simp) (frame_refl _ _ t)) (by simpa using hp) (by simp)

theorem Effect.finish (h : Effect ps as s t) : Effect ps as s (finish s t) := ⟨frame_finish h.frame, h.events⟩

theorem Effect.epoch (h : Effect ps as s t) (hp : Part.time ∉ ps) : t.epoch = s.epoch := frame_epoch h.frame hp

/-! ## Change flags (R160, R162, R192, R226) -/

theorem Effect.setChange {f : Field} {enable g : Nat} (h : Effect ps as s t) (hp : evParts ⊆ ps) (ha : f.addr ∈ as) (hr : f.addr % 4096 ≠ 16)
    (he : evWords g ⊆ as) : Effect ps as s (setChange f enable g t) :=
  (h.put ha hr true).raiseIf hp he

theorem Effect.changeIf {c : Bool} {f : Field} {enable g : Nat} (h : Effect ps as s t) (hp : evParts ⊆ ps) (ha : f.addr ∈ as)
    (hr : f.addr % 4096 ≠ 16) (he : evWords g ⊆ as) : Effect ps as s (changeIf c f enable g t) :=
  .ite (fun _ => h.setChange hp ha hr he) (fun _ => h)

/-! ## The flags and events that follow from a change -/

theorem fmNotices : ∀ n < 8, Reg.FMF.CHG n ∈ noticeRegs ∧ Reg.FMF.CHG n % 4096 ≠ 16 ∧ evWords (Ev.FMF.CHANGE n) ⊆ noticeRegs := by
  decide +kernel

theorem amNotices : ∀ n < 6, Reg.AMF.CHG n ∈ noticeRegs ∧ Reg.AMF.CHG n % 4096 ≠ 16 ∧ evWords (Ev.AMF.CHANGE n) ⊆ noticeRegs := by
  decide +kernel

theorem dabNotices : ∀ n < 4, Reg.DAB.CHG n ∈ noticeRegs ∧ Reg.DAB.CHG n % 4096 ≠ 16 ∧ evWords (Ev.DAB.CHANGE n) ⊆ noticeRegs ∧
    evWords (Ev.DAB.SERVICES n) ⊆ noticeRegs := by
  decide +kernel

theorem drmNotices : ∀ n < 2, Reg.DRM.CHG n ∈ noticeRegs ∧ Reg.DRM.CHG n % 4096 ≠ 16 ∧ evWords (Ev.DRM.CHANGE n) ⊆ noticeRegs ∧
    evWords (Ev.DRM.SERVICES n) ⊆ noticeRegs := by
  decide +kernel

theorem watchNotices : (∀ k < 3, Reg.WRD.CHG k ∈ noticeRegs ∧ Reg.WRD.CHG k % 4096 ≠ 16) ∧
    [Reg.WFC.CHG0, Reg.WFC.CHG_DB0, Reg.WFC.CHG_DB1, Reg.WAM.CHG0, Reg.PIB.STAT] ⊆ noticeRegs := by
  decide +kernel

theorem tableNotices : evsWords [Ev.WRD.CHANGED, Ev.WFC.CHANGED, Ev.WAM.CHANGED, Ev.WFC.DB, Ev.SDQ.SOURCE, Ev.PIB.CHANGED, Ev.PIB.FULL] ⊆ noticeRegs := by
  decide +kernel

/-- The number of entries of a watch table that its CHG registers cover. -/
def tableSize : WatchTable → Nat
  | .rds => 96
  | .fic => 16
  | .am => 24

/-- The registers of the identity book. -/
def pibWords : List Nat := Reg.PIB.STAT :: evsWords [Ev.PIB.CHANGED, Ev.PIB.FULL]

theorem pibWords_notices : pibWords ⊆ noticeRegs := by decide +kernel

theorem pibWords_apart {a : Nat} (he : a % 4096 ≠ 16) (hs : a ≠ Reg.TWC.SKIP_CNT) (hi : a ≠ Reg.PIB.STAT) : a ∉ pibWords := by
  intro h
  have all : ∀ x ∈ pibWords, x % 4096 = 16 ∨ x = Reg.TWC.SKIP_CNT ∨ x = Reg.PIB.STAT := by decide
  rcases all a h with h | h | h
  · exact he h
  · exact hs h
  · exact hi h

/-- The classes of the identity book follow the linkage sets, and refused sources may be retried (R233, R235, R241). -/
theorem Effect.pibFollow (h : Effect ps as s t) (hp : .slots :: noticeParts ⊆ ps) (ha : pibWords ⊆ as) : Effect ps as s (pibFollow t) := by
  have hv : evParts ⊆ ps := fun _ hx => hp (by simp [noticeParts]; simp [evParts] at hx; tauto)
  have hi : Part.pib ∈ ps := hp (by simp [noticeParts])
  have hs : Part.slots ∈ ps := hp (by simp)
  have hr : Reg.PIB.STAT ∈ as := ha (by simp [pibWords])
  have he : ∀ g ∈ [Ev.PIB.CHANGED, Ev.PIB.FULL], evWords g ⊆ as := fun g hg x hx =>
    ha (List.mem_cons_of_mem _ (List.mem_flatMap.mpr ⟨g, hg, hx⟩))
  have changed {v : State} (hv' : Effect ps as s v) : Effect ps as s (pibChanged v) := by
    refine Effect.forEach (Effect.raise ?_ hv (he _ (by simp))) (fun e w _ hw => .ite (fun _ => hw.slots hs _) (fun _ => hw))
    exact .ite (fun _ => (hv'.set (f := Fld.PIB.STAT.CLASSES) hr (by decide) _).put (f := Fld.PIB.STAT.FULL) hr (by decide) _)
      (fun _ => hv'.set (f := Fld.PIB.STAT.CLASSES) hr (by decide) _)
  have placed {l : List LinkSet} {v : State} (hv' : Effect ps as s v) : Effect ps as s (Machine.forEach l (fun x u => match freeClass u with
      | some i => { u.setClass i (some (classOf x)) with pib := { (u.setClass i (some (classOf x))).pib with
          leftOut := u.pib.leftOut.filter (fun n => n != x.name) } }
      | none => if u.pib.leftOut.contains x.name then u
        else pibFull { u with pib := { u.pib with leftOut := x.name :: u.pib.leftOut } }) v) := by
    refine hv'.forEach (fun x w _ hw => ?_)
    split
    · exact (hw.pib hi _).pib hi _
    · exact .ite (fun _ => hw) (fun _ => ((hw.pib hi _).put (f := Fld.PIB.STAT.FULL) hr (by decide) true).raise hv (he _ (by simp)))
  unfold Machine.pibFollow
  dsimp only
  exact .ite (fun _ => placed ((h.pib hi _).pib hi _)) (fun _ => changed (placed ((h.pib hi _).pib hi _)))

/-! ## The notices of a command, stage by stage -/

/-- What one CHG bit is: a single bit of a notice word, apart from the EV_RAW words. -/
structure NoticeBit (f : Field) : Prop where
  one : f.width = 1
  fits : f.lo < 32
  addr : f.addr ∈ noticeRegs
  apart : f.addr % 4096 ≠ 16

/-- A property that the notices from `a` to `b` leave: CHG bits set, events raised, and the identity book where linkage sets changed. -/
structure Survives (a b : State) (P : State → Prop) : Prop where
  put : ∀ {u : State} {f : Field}, NoticeBit f → P u → P (u.put f true)
  raise : ∀ {u : State} {g : Nat}, evWords g ⊆ noticeRegs → P u → P (raise g u)
  follow : linkKey a ≠ linkKey b → ∀ {u : State}, P u → P (pibFollow u)

variable {a b : State} {P : State → Prop}

theorem forEach_survives {α : Type} {l : List α} {f : α → State → State} (h : ∀ x ∈ l, ∀ u, P u → P (f x u)) (hs : P s) : P (forEach l f s) := by
  unfold Machine.forEach
  induction l generalizing s with
  | nil => exact hs
  | cons x l ih => exact ih (fun y hy => h y (List.mem_cons_of_mem _ hy)) (h x List.mem_cons_self s hs)

theorem Survives.raiseIf (h : Survives a b P) {g : Nat} (he : evWords g ⊆ noticeRegs) (c : Bool) (hs : P s) : P (Machine.raiseIf c g s) := by
  unfold Machine.raiseIf
  split
  · exact h.raise he hs
  · exact hs

theorem Survives.changeIf (h : Survives a b P) {f : Field} {enable g : Nat} (hf : NoticeBit f) (he : evWords g ⊆ noticeRegs) (c : Bool) (hs : P s) :
    P (Machine.changeIf c f enable g s) := by
  unfold Machine.changeIf
  split
  · exact h.raiseIf he _ (h.put hf hs)
  · exact hs

theorem Survives.setChanges (h : Survives a b P) {l : List (Field × Bool)} {enable g : Nat} (hl : ∀ c ∈ l, NoticeBit c.1) (he : evWords g ⊆ noticeRegs)
    (hs : P s) : P (Machine.setChanges l enable g s) :=
  forEach_survives (fun c hc _ hu => h.changeIf (hl c hc) he c.2 hu) hs

theorem Survives.markWatch (h : Survives a b P) {w : WatchTable} {n : Nat} (hn : n < tableSize w) (hs : P s) : P (markWatch w n s) := by
  have he : ∀ g ∈ [Ev.WRD.CHANGED, Ev.WFC.CHANGED, Ev.WAM.CHANGED], evWords g ⊆ noticeRegs := fun g hg x hx =>
    tableNotices (List.mem_flatMap.mpr ⟨g, by simp at hg ⊢; tauto, hx⟩)
  cases w with
  | rds =>
    simp only [tableSize] at hn
    obtain ⟨h1, h2⟩ := watchNotices.1 (n / 32) (by omega)
    exact h.raise (he _ (by simp)) (h.put (f := ⟨Reg.WRD.CHG (n / 32), n % 32, 1⟩) ⟨rfl, by dsimp only; omega, h1, h2⟩ hs)
  | fic =>
    simp only [tableSize] at hn
    exact h.raise (he _ (by simp)) (h.put (f := ⟨Reg.WFC.CHG0, n, 1⟩)
      ⟨rfl, by dsimp only; omega, watchNotices.2 (by simp), show Reg.WFC.CHG0 % 4096 ≠ 16 by decide⟩ hs)
  | am =>
    simp only [tableSize] at hn
    exact h.raise (he _ (by simp)) (h.put (f := ⟨Reg.WAM.CHG0, n, 1⟩)
      ⟨rfl, by dsimp only; omega, watchNotices.2 (by simp), show Reg.WAM.CHG0 % 4096 ≠ 16 by decide⟩ hs)

theorem Survives.markBlock (h : Survives a b P) {k : Nat} (hk : k < 38) (hs : P s) : P (markBlock k s) := by
  refine h.raise (fun x hx => tableNotices (List.mem_flatMap.mpr ⟨Ev.WFC.DB, by simp, hx⟩)) (h.put ?_ hs)
  split
  · exact ⟨rfl, by dsimp only; omega, watchNotices.2 (by simp), show Reg.WFC.CHG_DB0 % 4096 ≠ 16 by decide⟩
  · exact ⟨rfl, by dsimp only; omega, watchNotices.2 (by simp), show Reg.WFC.CHG_DB1 % 4096 ≠ 16 by decide⟩

/-- The notices of the FM lanes. -/
def noteFm (a b : State) (u : State) : State :=
  forEach (List.range 8) (fun n u => setChanges (fmChanges a b n) (Reg.FMF.CHG_EN n) (Ev.FMF.CHANGE n) u) u

/-- The notices of the AM lanes. -/
def noteAm (a b : State) (u : State) : State :=
  forEach (List.range 6) (fun n u => setChanges (amChanges a b n) (Reg.AMF.CHG_EN n) (Ev.AMF.CHANGE n) u) u

/-- The notices of the DAB engines' selections. -/
def noteDab (a b : State) (u : State) : State :=
  forEach (List.range 4) (fun n u => if dabSelWords a n == dabSelWords b n then u else
    let limit := (List.range 6).any (fun k => !(a.flag (Fld.DAB.SEL_STAT.LIMIT n k)) && b.flag (Fld.DAB.SEL_STAT.LIMIT n k))
    raise (Ev.DAB.SERVICES n) (setChanges [(Fld.DAB.CHG.SERVICES n, true), (Fld.DAB.CHG.LIMIT n, limit)] (Reg.DAB.CHG_EN n) (Ev.DAB.CHANGE n) u)) u

/-- The notices of the DRM engines' services. -/
def noteDrm (a b : State) (u : State) : State :=
  forEach (List.range 2) (fun n u => if drmSelWords a n == drmSelWords b n then u else
    raise (Ev.DRM.SERVICES n) (changeIf (drmInfoWords a n != drmInfoWords b n) (Fld.DRM.CHG.SERVICES n) (Reg.DRM.CHG_EN n) (Ev.DRM.CHANGE n) u)) u

/-- The notices of the RDS watch table. -/
def noteRds (a b : State) (u : State) : State :=
  forEach (List.range 96) (fun n u =>
    if rdsKey a n == rdsKey b n && !((a.rdsCtx (8 + n)).alarm && !(b.rdsCtx (8 + n)).alarm) then u else markWatch .rds n u) u

/-- The notices of the AM watch table. -/
def noteAmWatch (a b : State) (u : State) : State :=
  forEach (List.range 24) (fun n u => if amKey a n == amKey b n then u else markWatch .am n u) u

/-- The notices of the FIC watch table. -/
def noteFic (a b : State) (u : State) : State :=
  forEach (List.range 16) (fun n u =>
    if ficKey a n == ficKey b n && !((a.dabCtx (4 + n)).alarm && !(b.dabCtx (4 + n)).alarm) then u else markWatch .fic n u) u

/-- The notices of the FIC database. -/
def noteBlocks (a b : State) (u : State) : State :=
  if a.ens == b.ens && a.dab == b.dab then u else
    forEach (List.range 38) (fun k u => if ensembleKey a k == ensembleKey b k then u else markBlock k u) u

/-- The notices of the linkage sets and the data queues. -/
def noteLinks (a b : State) (u : State) : State :=
  raiseIf ((List.range 16).any (fun q => queueActive a q != queueActive b q)) Ev.SDQ.SOURCE
    (if linkKey a == linkKey b then u else pibFollow (raise Ev.WFC.DB (u.put Fld.WFC.CHG_DB1.LINK true)))

/-- What follows the notices of the RDS watch table. -/
def noteRest (a b : State) (u : State) : State := noteLinks a b (noteBlocks a b (noteFic a b (noteAmWatch a b u)))

theorem announce_eq (a b : State) : announce a b = noteRest a b (noteRds a b (noteDrm a b (noteDab a b (noteAm a b (noteFm a b b))))) := rfl

theorem fmBits {n : Nat} (hn : n < 8) : ∀ c ∈ fmChanges a b n, NoticeBit c.1 := by
  obtain ⟨h1, h2, -⟩ := fmNotices n hn
  intro c hc
  simp only [fmChanges, List.mem_cons, List.not_mem_nil, or_false] at hc
  rcases hc with rfl | rfl | rfl | rfl | rfl | rfl | rfl | rfl <;> exact ⟨rfl, Nat.le_of_ble_eq_true rfl, h1, h2⟩

theorem amBits {n : Nat} (hn : n < 6) : ∀ c ∈ amChanges a b n, NoticeBit c.1 := by
  obtain ⟨h1, h2, -⟩ := amNotices n hn
  intro c hc
  simp only [amChanges, List.mem_cons, List.not_mem_nil, or_false] at hc
  rcases hc with rfl | rfl <;> exact ⟨rfl, Nat.le_of_ble_eq_true rfl, h1, h2⟩

theorem dabBits {n : Nat} (hn : n < 4) (x y : Bool) : ∀ c ∈ [(Fld.DAB.CHG.SERVICES n, x), (Fld.DAB.CHG.LIMIT n, y)], NoticeBit c.1 := by
  obtain ⟨h1, h2, -⟩ := dabNotices n hn
  intro c hc
  simp only [List.mem_cons, List.not_mem_nil, or_false] at hc
  rcases hc with rfl | rfl <;> exact ⟨rfl, Nat.le_of_ble_eq_true rfl, h1, h2⟩

theorem Survives.noteFm (h : Survives a b P) (hs : P s) : P (noteFm a b s) :=
  forEach_survives (fun n hn _ hu => h.setChanges (fmBits (List.mem_range.mp hn)) (fmNotices n (List.mem_range.mp hn)).2.2 hu) hs

theorem Survives.noteAm (h : Survives a b P) (hs : P s) : P (noteAm a b s) :=
  forEach_survives (fun n hn _ hu => h.setChanges (amBits (List.mem_range.mp hn)) (amNotices n (List.mem_range.mp hn)).2.2 hu) hs

theorem Survives.noteDab (h : Survives a b P) (hs : P s) : P (noteDab a b s) :=
  forEach_survives (fun n hn u hu => by
    obtain ⟨-, -, h3, h4⟩ := dabNotices n (List.mem_range.mp hn)
    split
    · exact hu
    · exact h.raise h4 (h.setChanges (dabBits (List.mem_range.mp hn) _ _) h3 hu)) hs

theorem Survives.noteDrm (h : Survives a b P) (hs : P s) : P (noteDrm a b s) :=
  forEach_survives (fun n hn u hu => by
    obtain ⟨h1, h2, h3, h4⟩ := drmNotices n (List.mem_range.mp hn)
    split
    · exact hu
    · exact h.raise h4 (h.changeIf (f := Fld.DRM.CHG.SERVICES n) ⟨rfl, Nat.le_of_ble_eq_true rfl, h1, h2⟩ h3 _ hu)) hs

theorem Survives.noteRds (h : Survives a b P) (hs : P s) : P (noteRds a b s) :=
  forEach_survives (fun n hn u hu => by
    split
    · exact hu
    · exact h.markWatch (List.mem_range.mp hn) hu) hs

theorem Survives.noteAmWatch (h : Survives a b P) (hs : P s) : P (noteAmWatch a b s) :=
  forEach_survives (fun n hn u hu => by
    split
    · exact hu
    · exact h.markWatch (List.mem_range.mp hn) hu) hs

theorem Survives.noteFic (h : Survives a b P) (hs : P s) : P (noteFic a b s) :=
  forEach_survives (fun n hn u hu => by
    split
    · exact hu
    · exact h.markWatch (List.mem_range.mp hn) hu) hs

theorem Survives.noteBlocks (h : Survives a b P) (hs : P s) : P (noteBlocks a b s) := by
  unfold Reception.noteBlocks
  split
  · exact hs
  · refine forEach_survives (fun k hk u hu => ?_) hs
    split
    · exact hu
    · exact h.markBlock (List.mem_range.mp hk) hu

theorem Survives.noteLinks (h : Survives a b P) (hs : P s) : P (noteLinks a b s) := by
  have he : ∀ g ∈ [Ev.WFC.DB, Ev.SDQ.SOURCE], evWords g ⊆ noticeRegs := fun g hg x hx =>
    tableNotices (List.mem_flatMap.mpr ⟨g, by simp at hg ⊢; tauto, hx⟩)
  refine h.raiseIf (he _ (by simp)) _ ?_
  split
  · exact hs
  · rename_i hn
    exact h.follow (fun e => hn (beq_iff_eq.mpr e)) (h.raise (he _ (by simp))
      (h.put (f := Fld.WFC.CHG_DB1.LINK) ⟨rfl, by decide, watchNotices.2 (List.mem_of_elem_eq_true rfl), by decide⟩ hs))

theorem Survives.noteRest (h : Survives a b P) (hs : P s) : P (noteRest a b s) :=
  h.noteLinks (h.noteBlocks (h.noteFic (h.noteAmWatch hs)))

/-- What survives the notices holds after them. -/
theorem Survives.announced (h : Survives a b P) (hb : P b) : P (announce a b) := by
  rw [announce_eq]
  exact h.noteRest (h.noteRds (h.noteDrm (h.noteDab (h.noteAm (h.noteFm hb)))))

/-- The notices touch the notice words; where linkage sets changed, the identity book follows. -/
theorem survives_effect (hp : evParts ⊆ ps) (ha : noticeRegs ⊆ as) (hl : linkKey a = linkKey b ∨ .slots :: noticeParts ⊆ ps) :
    Survives a b (Effect ps as s) where
  put hf hu := hu.put (ha hf.addr) hf.apart true
  raise he hu := hu.raise hp (fun _ hx => ha (he hx))
  follow hn _ hu := hu.pibFollow (hl.resolve_left hn) (fun _ hx => ha (pibWords_notices hx))

theorem Effect.announced {a : State} (h : Effect ps as s t) (hp : evParts ⊆ ps) (ha : noticeRegs ⊆ as)
    (hl : linkKey a = linkKey t ∨ .slots :: noticeParts ⊆ ps) : Effect ps as s (announce a t) :=
  (survives_effect hp ha hl).announced h

theorem Effect.markWatch {w : WatchTable} {n : Nat} (h : Effect ps as s t) (hp : evParts ⊆ ps) (ha : noticeRegs ⊆ as) (hn : n < tableSize w) :
    Effect ps as s (markWatch w n t) :=
  (survives_effect (a := s) (b := s) hp ha (.inl rfl)).markWatch hn h

/-- An event that is raised stays raised. -/
theorem survives_raised (g : Nat) : Survives a b (fun u => raised u g) where
  put hf hu := raised_of_keepsEvents ((Effect.refl [] noticeRegs _).put hf.addr hf.apart true).events hu
  raise _ hu := raised_of_keepsEvents (keepsEvents_raise _ _) hu
  follow _ _ hu := raised_of_keepsEvents (Effect.pibFollow (as := pibWords) (Effect.refl (.slots :: noticeParts) _ _) (fun _ h => h)
    (fun _ h => h)).events hu

/-- A bit that is set stays set when a bit is. -/
theorem flag_put_true {f g : Field} (hf : f.width = 1 ∧ f.lo < 32) (hg : g.width = 1 ∧ g.lo < 32) (h : s.flag f = true) :
    (s.put g true).flag f = true := by
  obtain ⟨fa, fl, fw⟩ := f
  obtain ⟨ga, gl, gw⟩ := g
  obtain ⟨rfl, hf⟩ := hf
  obtain ⟨rfl, hg⟩ := hg
  by_cases e : ga = fa ∧ gl = fl
  · obtain ⟨rfl, rfl⟩ := e
    exact State.flag_put_same s _ true hg Nat.one_pos
  · rw [flag_put_apart]
    · exact h
    · dsimp only [Apart] at hf hg ⊢
      omega

/-- A CHG bit that is set stays set. -/
theorem survives_flag {f : Field} (hf : f.width = 1 ∧ f.lo < 32) (he : f.addr % 4096 ≠ 16) (hs : f.addr ≠ Reg.TWC.SKIP_CNT)
    (hi : f.addr ≠ Reg.PIB.STAT) : Survives a b (fun u => u.flag f = true) where
  put hg hu := flag_put_true hf ⟨hg.one, hg.fits⟩ hu
  raise _ hu := (flag_raise _ _ he hs).trans hu
  follow _ u hu := (frame_flag (Effect.pibFollow (Effect.refl (.slots :: noticeParts) pibWords u) (fun _ h => h) (fun _ h => h)).frame
    (pibWords_apart he hs hi)).trans hu

end Sys2Proof.Machine.Reception

namespace Sys2Proof.Machine.Reception

open Capture Survey

variable {ps qs : List Part} {as bs : List Nat} {s t u : State}

/-! ## The offset estimator (R128 to R131) -/

theorem Effect.post {c : Change} {want : Nat} (h : Effect ps as s t) (hp : Part.plan ∈ ps) (ha : planWords ⊆ as) :
    Effect ps as s (post c want t) :=
  h.step (frame_posted (ps := [.plan]) (as := planWords) (by simp) (fun _ h => h) (frame_refl _ _ t)) (by simp) (by decide) (by simpa using hp) ha

/-- The registers of a posted step, of its limit and of the plan (R129, R131). -/
def stepWords : List Nat := Reg.OFS.STAT :: planWords ++ evWords Ev.OFS.RANGE

/-- A field that neither a step's limit nor the plan touches. -/
structure OffStep (f : Field) : Prop where
  limit : Apart Fld.OFS.STAT.AT_LIMIT f
  plan : f.addr ∉ planWords
  event : f.addr % 4096 ≠ 16
  skip : f.addr ≠ Reg.TWC.SKIP_CNT

/-- At most a step is posted and its limit shown. -/
structure StepsOnly (s t : State) : Prop where
  effect : Effect [.plan, .twc, .fab] stepWords s t
  readings : ∀ f, OffStep f → t.get f = s.get f

theorem StepsOnly.refl (s : State) : StepsOnly s s := ⟨.refl _ _ _, fun _ _ => rfl⟩

theorem StepsOnly.limited (s : State) : StepsOnly s (raise Ev.OFS.RANGE (s.put Fld.OFS.STAT.AT_LIMIT true)) :=
  ⟨((Effect.refl _ _ s).put (by decide) (by decide) true).raise (by decide) (by decide),
    fun _ hf => (get_raise _ _ hf.event hf.skip).trans (get_put_apart hf.limit s true)⟩

theorem StepsOnly.posted (h : StepsOnly s t) (c : Change) (want : Nat) : StepsOnly s (post c want t) :=
  ⟨h.effect.post (by simp) (by decide), fun f hf =>
    (frame_get (frame_posted (ps := [.plan]) (by simp) (fun _ h => h) (frame_refl _ _ t)) hf.plan).trans (h.readings f hf)⟩

theorem stepsOnly_postStep (want : Int) (s : State) : StepsOnly s (postStep want s) := by
  have limit (c : Prop) [Decidable c] : StepsOnly s (if c then s else raise Ev.OFS.RANGE (s.put Fld.OFS.STAT.AT_LIMIT true)) := by
    split
    · exact .refl s
    · exact .limited s
  unfold postStep
  dsimp only
  split
  · exact .refl s
  · split
    · exact limit _
    · exact (limit _).posted _ _

/-- The step that MANUAL asks for, where it asks for one (R131). -/
def manualStep (s t : State) : State :=
  if s.get Fld.OFS.CTRL.MODE = 2 then
    if s.geti Fld.OFS.MAN_PPB.PPB - s.corr = 0 then t else postStep (s.geti Fld.OFS.MAN_PPB.PPB - s.corr) t
  else t

theorem stepsOnly_manualStep (s t : State) : StepsOnly t (manualStep s t) := by
  unfold manualStep
  split
  · split
    · exact .refl t
    · exact stepsOnly_postStep _ t
  · exact .refl t

/-- The reports that count in a window (R128). -/
def usedReports (obs : List OfsObs) (s : State) : List OfsObs :=
  (obs.filter (ofsSource s)).filter (fun o => decide ((2 * o.err - twiceMedian (obs.filter (ofsSource s))).natAbs ≤ 600))

/-- Their weights' sum, and that of their weighted errors (R128). -/
def usedWeight (l : List OfsObs) : Nat := (l.map ofsWeight).sum

def usedError (l : List OfsObs) : Int := (l.map (fun o => (ofsWeight o : Int) * o.err)).sum

/-- A window without weight: NO_SOURCE, and MANUAL's step. -/
theorem ofsWindow_without {obs : List OfsObs} (h : usedWeight (usedReports obs s) = 0) : ofsWindow obs s =
    manualStep s (raise Ev.OFS.NO_SOURCE ((s.set Fld.OFS.STAT.SOURCES (usedReports obs s).length).put Fld.OFS.STAT.NO_SOURCE true)) := by
  unfold usedWeight usedReports at h
  unfold ofsWindow manualStep usedReports
  simp only [h, ↓reduceIte]

/-- The step that TRACK asks for, where r is 5 ppb or more (R129). -/
def trackStep (l : List OfsObs) (s t : State) : State :=
  if s.get Fld.OFS.CTRL.MODE = 0 ∧ 5 * usedWeight l ≤ (usedError l).natAbs then postStep (roundDiv (usedError l) (usedWeight l)) t else t

theorem stepsOnly_trackStep (l : List OfsObs) (s t : State) : StepsOnly t (trackStep l s t) := by
  unfold trackStep
  split
  · exact stepsOnly_postStep _ t
  · exact .refl t

/-- The estimate of a window with weight (R128). -/
def estimate (l : List OfsObs) (s : State) : State :=
  ((s.set Fld.OFS.STAT.SOURCES l.length).put Fld.OFS.STAT.NO_SOURCE false).seti Fld.OFS.EST_PPB.PPB
    (roundDiv (s.corr * usedWeight l + usedError l) (usedWeight l))

theorem ofsWindow_with {obs : List OfsObs} (h : usedWeight (usedReports obs s) ≠ 0) : ofsWindow obs s =
    manualStep s (trackStep (usedReports obs s) s (ofsConverge (usedError (usedReports obs s)) (usedWeight (usedReports obs s))
      (estimate (usedReports obs s) s))) := by
  unfold ofsWindow manualStep trackStep estimate
  unfold usedWeight usedReports at h ⊢
  simp only [h, ↓reduceIte]
  rfl

/-- CONVERGED and its event are all that its rule changes, with the count of calm windows (R129). -/
theorem ofsConverge_leaves (num : Int) (den : Nat) (s : State) :
    Effect [.mgr, .twc, .fab] (Reg.OFS.STAT :: evWords Ev.OFS.CONVERGED) s (ofsConverge num den s) ∧
    ∀ f, Apart Fld.OFS.STAT.CONVERGED f → f.addr % 4096 ≠ 16 → f.addr ≠ Reg.TWC.SKIP_CNT → (ofsConverge num den s).get f = s.get f := by
  have counted (n : Nat) : Effect [.mgr, .twc, .fab] (Reg.OFS.STAT :: evWords Ev.OFS.CONVERGED) s { s with mgr := { s.mgr with calm := n } } :=
    (Effect.refl _ _ s).mgr (by simp) _
  unfold ofsConverge
  generalize (if num.natAbs < 10 * den then s.mgr.calm + 1 else 0) = n
  dsimp only
  split
  · exact ⟨(counted _).put (by decide) (by decide) false, fun f hf _ _ => get_put_apart hf _ false⟩
  · split
    · refine ⟨((counted _).put (by decide) (by decide) true).raiseIf (by decide) (by decide), fun f hf he hs => ?_⟩
      rw [raiseIf]
      split
      · exact (get_raise _ _ he hs).trans (get_put_apart hf _ true)
      · exact get_put_apart hf _ true
    · exact ⟨counted _, fun _ _ _ _ => rfl⟩

theorem ofSigned_mod (w : Nat) (i : Int) : ofSigned w i % 2 ^ w = ofSigned w i := by
  have h := Int.emod_lt_of_pos i (show (0 : Int) < 2 ^ w by positivity)
  refine Nat.mod_eq_of_lt ?_
  unfold ofSigned
  zify
  rw [Int.toNat_of_nonneg (Int.emod_nonneg i (by positivity))]
  exact h

theorem execOfsWindow_eq (obs : List OfsObs) (hr : s.receiving = true) (ht : s.time % (100 * epochTicks) = 0) :
    execOfsWindow obs s = commit s (ofsWindow obs s) := by
  unfold execOfsWindow
  rw [if_pos (by simp [hr, ht])]

theorem offStep_readings : OffStep Fld.OFS.STAT.SOURCES ∧ OffStep Fld.OFS.STAT.NO_SOURCE ∧ OffStep Fld.OFS.EST_PPB.PPB := by
  refine ⟨?_, ?_, ?_⟩ <;> exact ⟨by decide, by decide, by decide, by decide⟩

theorem ofsWindow_noSource (obs : List OfsObs) (hr : s.receiving = true) (ht : s.time % (100 * epochTicks) = 0)
    (ho : obs.filter (ofsSource s) = []) :
    completes (.ofsWindow obs) s (fun t =>
      t.get Fld.OFS.STAT.SOURCES = 0 ∧ t.flag Fld.OFS.STAT.NO_SOURCE = true ∧ raised t Ev.OFS.NO_SOURCE ∧
      t.get Fld.OFS.EST_PPB.PPB = s.get Fld.OFS.EST_PPB.PPB ∧
      frame [.mgr, .plan, .twc, .fab] (Reg.OFS.STAT :: planWords ++ evsWords [Ev.OFS.NO_SOURCE, Ev.OFS.RANGE]) s t) := by
  have hu : usedReports obs s = [] := by rw [usedReports, ho]; rfl
  refine completes_of_eq (execOfsWindow_eq obs hr ht) (ofsWindow_without (by rw [hu]; rfl)) ?_
  rw [hu, List.length_nil]
  obtain ⟨hs, hn, he⟩ := offStep_readings
  have shown (f : Field) (h1 : f.addr % 4096 ≠ 16) (h2 : f.addr ≠ Reg.TWC.SKIP_CNT) (h3 : Apart Fld.OFS.STAT.NO_SOURCE f) :=
    (get_raise Ev.OFS.NO_SOURCE _ h1 h2).trans (get_put_apart h3 (s.set Fld.OFS.STAT.SOURCES 0) true)
  have h1 : Effect [.mgr, .plan, .twc, .fab] (Reg.OFS.STAT :: planWords ++ evsWords [Ev.OFS.NO_SOURCE, Ev.OFS.RANGE]) s
      (raise Ev.OFS.NO_SOURCE ((s.set Fld.OFS.STAT.SOURCES 0).put Fld.OFS.STAT.NO_SOURCE true)) :=
    (((Effect.refl _ _ s).set (by decide) (by decide) 0).put (by decide) (by decide) true).raise (by decide) (by decide)
  have hstep := stepsOnly_manualStep s (raise Ev.OFS.NO_SOURCE ((s.set Fld.OFS.STAT.SOURCES 0).put Fld.OFS.STAT.NO_SOURCE true))
  refine ⟨?_, ?_, ?_, ?_, (h1.trans (hstep.effect.mono (by decide) (by decide))).finish.frame⟩
  · exact (hstep.readings _ hs).trans ((shown _ hs.event hs.skip (by decide)).trans (State.get_set_same _ _ _ (by decide)))
  · have : (raise Ev.OFS.NO_SOURCE ((s.set Fld.OFS.STAT.SOURCES 0).put Fld.OFS.STAT.NO_SOURCE true)).flag Fld.OFS.STAT.NO_SOURCE = true :=
      (flag_raise _ _ hn.event hn.skip).trans (State.flag_put_same _ _ _ (by decide) (by decide))
    exact (congrArg (· == 1) (hstep.readings _ hn)).trans this
  · exact raised_finish (raised_of_keepsEvents hstep.effect.events (raised_raise _ _))
  · exact (hstep.readings _ he).trans ((shown _ he.event he.skip (by decide)).trans (get_set_apart (by decide) s 0))

theorem ofsWindow_estimates (obs used : List OfsObs) (hr : s.receiving = true) (ht : s.time % (100 * epochTicks) = 0)
    (hu : used = usedReports obs s) (hw : usedWeight used ≠ 0) :
    completes (.ofsWindow obs) s (fun t =>
      t.get Fld.OFS.STAT.SOURCES = used.length % 256 ∧ t.flag Fld.OFS.STAT.NO_SOURCE = false ∧
      t.get Fld.OFS.EST_PPB.PPB = ofSigned 32 (roundDiv (s.corr * usedWeight used + usedError used) (usedWeight used)) ∧
      frame [.mgr, .plan, .twc, .fab] ([Reg.OFS.STAT, Reg.OFS.EST_PPB] ++ planWords ++ evsWords [Ev.OFS.CONVERGED, Ev.OFS.RANGE]) s t) := by
  subst hu
  refine completes_of_eq (execOfsWindow_eq obs hr ht) (ofsWindow_with hw) ?_
  generalize usedReports obs s = used
  obtain ⟨hs, hn, he⟩ := offStep_readings
  obtain ⟨hc, hcr⟩ := ofsConverge_leaves (usedError used) (usedWeight used) (estimate used s)
  have h1 : Effect [.mgr, .plan, .twc, .fab] ([Reg.OFS.STAT, Reg.OFS.EST_PPB] ++ planWords ++ evsWords [Ev.OFS.CONVERGED, Ev.OFS.RANGE]) s
      (estimate used s) :=
    (((Effect.refl _ _ s).set (by decide) (by decide) _).put (by decide) (by decide) false).set (by decide) (by decide) _
  have ht := stepsOnly_trackStep used s (ofsConverge (usedError used) (usedWeight used) (estimate used s))
  have hm := stepsOnly_manualStep s (trackStep used s (ofsConverge (usedError used) (usedWeight used) (estimate used s)))
  have shown (f : Field) (hf : OffStep f) (hA : Apart Fld.OFS.STAT.CONVERGED f) :=
    (hm.readings f hf).trans ((ht.readings f hf).trans (hcr f hA hf.event hf.skip))
  refine ⟨?_, ?_, ?_, ?_⟩
  · refine (shown _ hs (by decide)).trans ((get_set_apart (by decide) _ _).trans ((get_put_apart (by decide) _ false).trans ?_))
    exact State.get_set_same _ _ _ (by decide)
  · refine (congrArg (· == 1) ((shown _ hn (by decide)).trans (get_set_apart (by decide) _ _))).trans ?_
    exact State.flag_put_same _ _ _ (by decide) (by decide)
  · refine (shown _ he (by decide)).trans ((State.get_set_same _ _ _ (by decide)).trans (ofSigned_mod 32 _))
  · exact ((h1.trans (hc.mono (by decide) (by decide))).trans ((ht.effect.trans hm.effect).mono (by decide) (by decide))).finish.frame

/-- Settles O10: a window shows its readings before it posts a step, and a step touches no more than its limit and the plan (`StepsOnly`), so that the
readings of the window stand. -/
theorem offsetWindowCompletes : Obligations.OffsetWindowCompletes := by
  unfold Obligations.OffsetWindowCompletes
  refine ⟨?none, ?some⟩
  case none => exact fun obs s hr ht ho => ofsWindow_noSource obs hr ht ho
  case some => exact fun obs s used hr ht hu hw => ofsWindow_estimates obs used hr ht hu hw

end Sys2Proof.Machine.Reception

namespace Sys2Proof.Machine.Reception

/-- What a command that completes leaves is what it commits. -/
theorem of_completes {c : Instr} {s u : State} {Q : State → Prop} (h : completes c s Q) (e : exec c s = commit s u) : Q (finish s u) := by
  obtain ⟨t, ht, hq⟩ := h
  rw [e] at ht
  injection ht with ht
  exact ht ▸ hq

/-! ## A decode context for a selection that no engine has -/

/-- A selection of an engine past the last one. -/
def strayUser : DecUser := { drm := true, engine := 16, sel := 0 }

/-- On a boundary `strayUser` waits for a decode context, and one is free. -/
def strayWaits : State := { State.reset.set (Fld.LNM.CAPACITY.COUNT 7) 1 with decWait := [strayUser] }

theorem strayWaits_served : mayDecode strayWaits strayUser = true ∧ freeDecoder strayWaits = some 0 := by decide +kernel

/-- DECODING is written at the selection's status word, past the pages of the engines. -/
theorem strayWaits_word : (announce strayWaits (serveDecoders strayWaits)).word (selStat strayUser) ≠ strayWaits.word (selStat strayUser) := by
  decide +kernel

theorem exec_decoderFreed {s : State} (h : s.time % epochTicks = 0) : exec .decoderFreed s = commit s (announce s (serveDecoders s)) := by
  show execDecoderFreed s = _
  unfold execDecoderFreed
  rw [if_pos h]
  rfl

/-- Refutes O19: nothing in the statement says that the selection that waits is one of an engine. A waiting selection of engine 16 takes context 0,
and its DECODING and DEC are written at `SVC_STAT` of engine 16, on page 0x044, which is not among the pages of the frame. -/
theorem not_drmCompletes : ¬ Obligations.DrmCompletes := by
  unfold Obligations.DrmCompletes
  rintro ⟨-, -, -, -, freed, -⟩
  obtain ⟨hm, hf⟩ := strayWaits_served
  have ht : strayWaits.time % epochTicks = 0 := by decide
  have hd : strayWaits.decWait = [strayUser] := rfl
  have hc := freed strayWaits strayUser [] 0 ht hd (by decide) hm hf
  have h := of_completes hc (exec_decoderFreed ht)
  generalize hu : announce strayWaits (serveDecoders strayWaits) = u at h
  obtain ⟨-, -, -, hw⟩ := h
  exact strayWaits_word (hu ▸ hw (selStat strayUser) (by decide))

/-! ## A policy source of an engine that there is not -/

/-- Slot 0 owns source 0, a DAB selection of engine 7, which has waited for 10 s. -/
def strayOwned : State :=
  { ((((State.reset.set (Fld.PGM.SRC.KIND 0 0) 3).set (Fld.PGM.SRC.INST 0 0) 7).put (Fld.PGM.SRC.OWNER 0 0) true).set
      (Fld.PGM.SRC_STAT.STATE 0 0) srcWaiting).put (Fld.DAB.SEL_CTRL.EN 7 0) true with
    time := 10000 * epochTicks, slots := upd State.reset.slots 0 (fun x => { x with owned := [(0, ⟨3, 0, 0⟩, 255)] }) }

theorem strayOwned_idle : strayOwned.flag (Fld.PGM.SRC.OWNER 0 0) = true ∧ srcState strayOwned 0 0 = srcWaiting ∧
    (strayOwned.src 0 0).idleSince + 10000 ≤ strayOwned.epoch ∧
    (strayOwned.slot 0).owned.find? (fun o => o.1 == 0) = some (0, ⟨3, 0, 0⟩, 255) := by
  decide +kernel

/-- The selection is switched off at `SEL_CTRL` of engine 7. -/
theorem strayOwned_word : (announce strayOwned (policyRelease 0 0 strayOwned)).word (Reg.DAB.SEL_CTRL 7 0) ≠
    strayOwned.word (Reg.DAB.SEL_CTRL 7 0) := by
  decide +kernel

/-- Refutes O28: nothing in the statement says that an owned source names one of the engines. The release of a DAB source of engine 7
clears EN at `SEL_CTRL` of engine 7, on page 0x037, which is not among the pages of the frame. -/
theorem not_policyCompletes : ¬ Obligations.PolicyCompletes := by
  unfold Obligations.PolicyCompletes
  rintro ⟨-, -, -, release⟩
  obtain ⟨ho, hs, hi, hf⟩ := strayOwned_idle
  have h := of_completes (release 0 0 strayOwned ⟨3, 0, 0⟩ 255 ho (.inr hs) hi hf) (u := announce strayOwned (policyRelease 0 0 strayOwned)) rfl
  generalize hu : announce strayOwned (policyRelease 0 0 strayOwned) = u at h
  obtain ⟨-, -, -, -, -, -, hw⟩ := h
  exact strayOwned_word (hu ▸ hw (Reg.DAB.SEL_CTRL 7 0) (by decide))

end Sys2Proof.Machine.Reception

namespace Sys2Proof.Machine.Reception

open Capture Clocking Survey

variable {ps qs : List Part} {as bs : List Nat} {s t u : State}

/-! ## Where nothing is announced -/

/-- The pages of the words that the notices compare. -/
def announcedPages : List Nat :=
  [0x020, 0x021, 0x022, 0x023, 0x024, 0x025, 0x026, 0x027, 0x028, 0x029, 0x02A, 0x02B, 0x02C, 0x02D, 0x030, 0x031, 0x032, 0x033, 0x034, 0x035, 0x03A]

/-- What the notices compare of a lane. -/
def laneShown (x : Lane) : LaneState × Bool × Nat × Bool := (x.shown, x.sync, x.khz, x.inUse)

/-- What the notices compare of an RDS context. -/
def rdsShown (x : RdsCtx) : RdsRecord × List Nat × Bool := (x.record, x.upper, x.alarm)

/-- From `a` to `b` nothing changes that a notice reports. -/
structure Unannounced (a b : State) : Prop where
  am : b.am = a.am
  ens : b.ens = a.ens
  links : b.links = a.links
  queues : b.queues = a.queues
  word : ∀ x, x / 4096 ∈ announcedPages → b.word x = a.word x
  rds : ∀ c, rdsShown (b.rdsCtx c) = rdsShown (a.rdsCtx c)
  dab : ∀ c, (b.dabCtx c).alarm = (a.dabCtx c).alarm
  lane : ∀ l, laneShown (b.lane l) = laneShown (a.lane l)

theorem Unannounced.flag {f : Field} (h : Unannounced s t) (hf : f.addr / 4096 ∈ announcedPages) : t.flag f = s.flag f := by
  rw [State.flag, State.flag, State.get, State.get, h.word _ hf]

theorem Unannounced.laneBlock (h : Unannounced s t) (l : Nat) : laneBlock t l = laneBlock s l := by
  have hk := h.lane l
  simp only [laneShown, Prod.mk.injEq] at hk
  obtain ⟨-, -, hk, hi⟩ := hk
  unfold Machine.laneBlock State.laneInUse
  rw [hk, hi]

theorem Unannounced.ensembleKey (h : Unannounced s t) (b : Nat) : ensembleKey t b = ensembleKey s b := by
  have ha (b : Nat) : blockAlarm t b = blockAlarm s b := by simp only [blockAlarm, h.dab, h.laneBlock]
  simp only [Machine.ensembleKey, ensembleOf, h.ens, ensembleWords, ha]

theorem announced_queueWords : (∀ n < 4, Reg.DAB.CTRL n / 4096 ∈ announcedPages ∧ ∀ k < 6, Reg.DAB.SEL_CTRL n k / 4096 ∈ announcedPages ∧
      Reg.DAB.SEL_STAT n k / 4096 ∈ announcedPages) ∧
    ∀ n < 2, Reg.DRM.CTRL n / 4096 ∈ announcedPages ∧ (∀ k < 4, Reg.DRM.SVC_SEL n k / 4096 ∈ announcedPages ∧
      Reg.DRM.SVC_STAT n k / 4096 ∈ announcedPages) ∧ ∀ i < 32, (Reg.DRM.SVC_INFO_W0 n 0 + 4 * i) / 4096 ∈ announcedPages := by
  decide +kernel

theorem announced_laneWords : (∀ n < 8, (Fld.FMF.STAT.STEREO n).addr / 4096 ∈ announcedPages) ∧ (∀ n < 6, (Fld.AMF.STAT.LOCK n).addr / 4096 ∈ announcedPages) ∧
    ∀ n < 24, Reg.WAM.A_W0 n / 4096 ∈ announcedPages ∧ Reg.WAM.A_W2 n / 4096 ∈ announcedPages := by
  decide +kernel

/-- A queue's binding names a selection that an engine has. -/
theorem queueBinding_lt {q n k : Nat} {drm pad : Bool} (h : queueBinding s q = some (drm, n, k, pad)) : if drm then n < 2 ∧ k < 4 else n < 4 ∧ k < 6 := by
  have hn : fieldOf (at' s.queues q {}).cfg 2 2 < 4 := fieldOf_lt _ 2 2
  unfold queueBinding at h
  dsimp only at h
  split at h
  · split at h
    · simp only [Option.some.injEq, Prod.mk.injEq] at h
      obtain ⟨rfl, rfl, rfl, -⟩ := h
      exact ⟨hn, ‹_›⟩
    · cases h
  · split at h
    · rename_i hc
      simp only [Option.some.injEq, Prod.mk.injEq] at h
      obtain ⟨rfl, rfl, rfl, -⟩ := h
      exact ⟨hc.1, hc.2.1⟩
    · cases h
  · cases h

theorem Unannounced.queueActive (h : Unannounced s t) (q : Nat) : queueActive t q = queueActive s q := by
  have hb : queueBinding t q = queueBinding s q := by simp only [queueBinding, h.queues]
  unfold Machine.queueActive
  rw [hb]
  split
  · rfl
  · rename_i n k _ hq
    obtain ⟨hn, hk⟩ : n < 2 ∧ k < 4 := by simpa using queueBinding_lt hq
    obtain ⟨hc, hs, -⟩ := announced_queueWords.2 n hn
    have hp : ∀ {f : Field}, f.addr = Reg.DRM.SVC_SEL n k ∨ f.addr = Reg.DRM.SVC_STAT n k → t.flag f = s.flag f := fun hf =>
      h.flag (by rcases hf with hf | hf <;> rw [hf]; exacts [(hs k hk).1, (hs k hk).2])
    rw [hp (.inl rfl), hp (.inr rfl), hp (.inr rfl), hp (.inr rfl), h.flag (f := Fld.DRM.CTRL.DATA_EN n) hc]
  · rename_i n k _ hq
    obtain ⟨hn, hk⟩ : n < 4 ∧ k < 6 := by simpa using queueBinding_lt hq
    obtain ⟨hc, hs⟩ := announced_queueWords.1 n hn
    have hp : ∀ {f : Field}, f.addr = Reg.DAB.SEL_CTRL n k ∨ f.addr = Reg.DAB.SEL_STAT n k → t.flag f = s.flag f := fun hf =>
      h.flag (by rcases hf with hf | hf <;> rw [hf]; exacts [(hs k hk).1, (hs k hk).2])
    rw [hp (.inl rfl), hp (.inr rfl), hp (.inr rfl), hp (.inr rfl), hp (.inr rfl), h.flag (f := Fld.DAB.CTRL.PAD_EN n) hc,
      h.flag (f := Fld.DAB.CTRL.DATA_EN n) hc]

/-- A pass over a list that changes nothing. -/
theorem forEach_same {α : Type} {l : List α} {f : α → State → State} (h : ∀ x ∈ l, ∀ u, f x u = u) (t : State) : forEach l f t = t := by
  unfold Machine.forEach
  induction l generalizing t with
  | nil => rfl
  | cons x l ih => rw [List.foldl_cons, h x List.mem_cons_self, ih (fun y hy => h y (List.mem_cons_of_mem _ hy))]

theorem setChanges_same {l : List (Field × Bool)} (h : ∀ c ∈ l, c.2 = false) (enable g : Nat) (t : State) : setChanges l enable g t = t :=
  forEach_same (fun c hc u => by rw [h c hc]; rfl) t

theorem Unannounced.fmChanges (h : Unannounced s t) {n : Nat} (hn : n < 8) : ∀ c ∈ fmChanges s t n, c.2 = false := by
  have hr := h.rds n
  simp only [rdsShown, Prod.mk.injEq] at hr
  obtain ⟨hr, hu, ha⟩ := hr
  simp [Machine.fmChanges, hr, hu, ha, h.flag (f := Fld.FMF.STAT.STEREO n) (announced_laneWords.1 n hn)]

theorem Unannounced.amChanges (h : Unannounced s t) {n : Nat} (hn : n < 6) : ∀ c ∈ amChanges s t n, c.2 = false := by
  simp [Machine.amChanges, h.am, h.flag (f := Fld.AMF.STAT.LOCK n) (announced_laneWords.2.1 n hn)]

theorem Unannounced.dabSelWords (h : Unannounced s t) {n : Nat} (hn : n < 4) : dabSelWords t n = dabSelWords s n :=
  List.map_congr_left (fun k hk => h.word _ ((announced_queueWords.1 n hn).2 k (List.mem_range.mp hk)).2)

theorem Unannounced.drmSelWords (h : Unannounced s t) {n : Nat} (hn : n < 2) : drmSelWords t n = drmSelWords s n := by
  obtain ⟨-, hs, hi⟩ := announced_queueWords.2 n hn
  unfold Machine.drmSelWords drmInfoWords
  rw [List.map_congr_left (fun k hk => h.word (Reg.DRM.SVC_STAT n k) (hs k (List.mem_range.mp hk)).2),
    List.map_congr_left (fun i hi' => h.word (Reg.DRM.SVC_INFO_W0 n 0 + 4 * i) (hi i (List.mem_range.mp hi')))]

theorem Unannounced.rdsKey (h : Unannounced s t) (n : Nat) : rdsKey t n = rdsKey s n := by
  have hr := h.rds (8 + n)
  have hl := h.lane (20 + n)
  simp only [rdsShown, laneShown, Prod.mk.injEq] at hr hl
  obtain ⟨hr, -⟩ := hr
  obtain ⟨hs, hy, -⟩ := hl
  simp only [Machine.rdsKey, hr, hs, hy]

theorem Unannounced.amKey (h : Unannounced s t) {n : Nat} (hn : n < 24) : amKey t n = amKey s n := by
  have hl := h.lane (132 + n)
  simp only [laneShown, Prod.mk.injEq] at hl
  obtain ⟨h0, h2⟩ := announced_laneWords.2.2 n hn
  simp only [Machine.amKey, hl.1, h.word _ h0, h.word _ h2]

theorem Unannounced.ficKey (h : Unannounced s t) (n : Nat) : ficKey t n = ficKey s n := by
  have hl := h.lane (116 + n)
  simp only [laneShown, Prod.mk.injEq] at hl
  obtain ⟨hs, hy, -⟩ := hl
  simp only [Machine.ficKey, hs, hy, ensembleOf, h.ens, h.laneBlock]

theorem Unannounced.rdsAlarm (h : Unannounced s t) (c : Nat) : (t.rdsCtx c).alarm = (s.rdsCtx c).alarm := by
  have hr := h.rds c
  simp only [rdsShown, Prod.mk.injEq] at hr
  exact hr.2.2

/-- Where nothing is announced the notices change nothing. -/
theorem announce_same (h : Unannounced s t) : announce s t = t := by
  have fm := fun n (hn : n ∈ List.range 8) (u : State) =>
    setChanges_same (h.fmChanges (List.mem_range.mp hn)) (Reg.FMF.CHG_EN n) (Ev.FMF.CHANGE n) u
  have am := fun n (hn : n ∈ List.range 6) (u : State) =>
    setChanges_same (h.amChanges (List.mem_range.mp hn)) (Reg.AMF.CHG_EN n) (Ev.AMF.CHANGE n) u
  have hq : ((List.range 16).any (fun q => queueActive s q != queueActive t q)) = false := by simp [h.queueActive]
  unfold announce
  dsimp only
  rw [hq, raiseIf, if_neg (by decide), if_pos (by simp [linkKey, h.links]),
    forEach_same (fun k _ u => if_pos (beq_iff_eq.mpr (h.ensembleKey k).symm)), ite_self,
    forEach_same (fun n hn u => if_pos (by simp [h.ficKey, h.dab])),
    forEach_same (fun n hn u => if_pos (beq_iff_eq.mpr (h.amKey (List.mem_range.mp hn)).symm)),
    forEach_same (fun n hn u => if_pos (by simp [h.rdsKey, h.rdsAlarm])),
    forEach_same (fun n hn u => if_pos (beq_iff_eq.mpr (h.drmSelWords (List.mem_range.mp hn)).symm)),
    forEach_same (fun n hn u => if_pos (beq_iff_eq.mpr (h.dabSelWords (List.mem_range.mp hn)).symm)), forEach_same am, forEach_same fm]

end Sys2Proof.Machine.Reception

namespace Sys2Proof.Machine.Reception

open Capture Clocking Survey

variable {ps qs : List Part} {as bs pages : List Nat} {s t u : State}

/-! ## Whole pages -/

/-- The byte addresses on the pages of a list. -/
def wordsOf (pages : List Nat) : List Nat := pages.flatMap (fun p => (List.range 4096).map (fun i => 4096 * p + i))

theorem mem_wordsOf {a : Nat} : a ∈ wordsOf pages ↔ a / 4096 ∈ pages := by
  simp only [wordsOf, List.mem_flatMap, List.mem_map, List.mem_range]
  constructor
  · rintro ⟨p, hp, i, hi, rfl⟩
    rwa [show (4096 * p + i) / 4096 = p by omega]
  · exact fun h => ⟨a / 4096, h, a % 4096, by omega, by omega⟩

theorem subset_wordsOf (h : ∀ a ∈ as, a / 4096 ∈ pages) : as ⊆ wordsOf pages := fun a ha => mem_wordsOf.mpr (h a ha)

theorem wordsOf_mono {more : List Nat} (h : pages ⊆ more) : wordsOf pages ⊆ wordsOf more :=
  subset_wordsOf (fun _ ha => h (mem_wordsOf.mp ha))

theorem Effect.pageFrame (h : Effect ps (wordsOf pages) s t) : pageFrame ps pages s t :=
  frame_of_pages h.frame (fun _ ha => mem_wordsOf.mp ha)

theorem evWords_pages {g : Nat} (h : [eventPage g, 0x062] ⊆ pages) : evWords g ⊆ wordsOf pages :=
  subset_wordsOf (fun a ha => by
    rcases List.mem_cons.mp ha with rfl | ha
    · rw [evRawAddr, show (eventPage g * 4096 + 16) / 4096 = eventPage g by omega]
      exact h (by simp)
    · rw [List.mem_singleton.mp ha]
      exact h (show Reg.TWC.SKIP_CNT / 4096 ∈ _ from List.mem_cons_of_mem _ (by decide)))

theorem noticeRegs_pages : noticeRegs ⊆ wordsOf noticePages :=
  subset_wordsOf (by decide +kernel)

end Sys2Proof.Machine.Reception

namespace Sys2Proof.Machine.Reception

open Capture Clocking Survey

variable {ps qs : List Part} {as bs pages : List Nat} {s t u : State}

/-! ## RDS contexts -/

theorem rdsCtx_setRds {c : Nat} (h : c < 104) (s : State) (f : RdsCtx → RdsCtx) : (s.setRds c f).rdsCtx c = f (s.rdsCtx c) := at_upd _ f _ h

theorem rdsCtx_setRds_ne {c d : Nat} (h : d ≠ c) (s : State) (f : RdsCtx → RdsCtx) : (s.setRds c f).rdsCtx d = s.rdsCtx d := at_upd_ne _ f _ h

theorem upd_upd {α : Type} {n : Nat} (v : Vector α n) (i : Nat) (f g : α → α) : upd (upd v i f) i g = upd v i (fun x => g (f x)) := by
  unfold upd
  split <;> simp

theorem setRds_setRds (s : State) (c : Nat) (f g : RdsCtx → RdsCtx) : (s.setRds c f).setRds c g = s.setRds c (fun x => g (f x)) :=
  congrArg (fun v => { s with rds := v }) (upd_upd _ _ _ _)

theorem frame_setRds {c : Nat} {f : RdsCtx → RdsCtx} (hp : Part.rds ∈ ps) (h : frame ps as s t) : frame ps as s (t.setRds c f) := frame_rds hp h

theorem Effect.setRds {c : Nat} {f : RdsCtx → RdsCtx} (h : Effect ps as s t) (hp : Part.rds ∈ ps) : Effect ps as s (t.setRds c f) := h.rds hp _

theorem rdsCtx_of_rds (h : t.rds = s.rds) (c : Nat) : t.rdsCtx c = s.rdsCtx c := by unfold State.rdsCtx; rw [h]

theorem dabCtx_of_dab (h : t.dab = s.dab) (c : Nat) : t.dabCtx c = s.dabCtx c := by unfold State.dabCtx; rw [h]

theorem lane_of_mgr (h : t.mgr = s.mgr) (l : Nat) : t.lane l = s.lane l := by unfold State.lane; rw [h]

/-- An operation that leaves AM, the database, the links and the queues, and the pages that the notices compare, is announced only for its
lanes and its RDS and DAB contexts. -/
theorem unannounced_of_frame (h : frame ps as s t) (hp : ∀ p ∈ [Part.am, .ens, .links, .queues], p ∉ ps) (ha : ∀ a ∈ as, a / 4096 ∉ announcedPages)
    (hr : ∀ c, rdsShown (t.rdsCtx c) = rdsShown (s.rdsCtx c)) (hd : ∀ c, (t.dabCtx c).alarm = (s.dabCtx c).alarm)
    (hl : ∀ l, laneShown (t.lane l) = laneShown (s.lane l)) : Unannounced s t where
  am := h.1 .am (hp _ (by simp))
  ens := h.1 .ens (hp _ (by simp))
  links := h.1 .links (hp _ (by simp))
  queues := h.1 .queues (hp _ (by simp))
  word x hx := h.2 x (fun m => ha x m hx)
  rds := hr
  dab := hd
  lane := hl

/-- A change of an RDS context that keeps record, upper streams and alarm. -/
theorem unannounced_setRds {c : Nat} {f : RdsCtx → RdsCtx} (hc : c < 104) (hf : rdsShown (f (s.rdsCtx c)) = rdsShown (s.rdsCtx c))
    (h : frame ps as s t) (hp : ∀ p ∈ [Part.am, .ens, .links, .queues, .rds, .dab], p ∉ ps) (ha : ∀ a ∈ as, a / 4096 ∉ announcedPages)
    (hl : ∀ l, laneShown (t.lane l) = laneShown (s.lane l)) : Unannounced s (t.setRds c f) := by
  have hr := rdsCtx_of_rds (h.1 .rds (hp _ (by simp)))
  refine unannounced_of_frame (ps := .rds :: ps) (frame_setRds (by simp) (frame_mono h (by simp) (fun _ h => h))) ?_ ha ?_
    (fun d => congrArg DabLane.alarm (dabCtx_of_dab (h.1 .dab (hp _ (by simp))) d)) hl
  · intro p m
    simp only [List.mem_cons, not_or]
    exact ⟨by rintro rfl; simp at m, hp p (by simp at m ⊢; tauto)⟩
  · intro d
    by_cases e : d = c
    · subst e
      rw [rdsCtx_setRds hc, hr]
      exact hf
    · rw [rdsCtx_setRds_ne e, hr]

/-! ## Blocks (R147, R157) -/

variable {c bits : Nat} {o : RdsObs}

/-- Context `old` with a block of class `cls` at `place` counted. -/
def blockCounted (old : RdsCtx) (place bits cls : Nat) : RdsCtx :=
  { old with
    recent := (cls :: old.recent).take 64
    misplaced := if (rdsPlaceOf bits).all (fun p => p == place) then 0 else old.misplaced + 1 }

/-- Context `old` with block `b` at `place` counted and joined to the group in progress. -/
def blockJoined (old : RdsCtx) (place bits : Nat) (b : RdsBlk) : RdsCtx :=
  withGroup (if place = 1 then { blockCounted old place bits b.cls with
      foreign := if place == 1 && b.cls == 0 && b.data != old.record.pi then some b.data else none } else blockCounted old place bits b.cls) 0
    (if (addBlock (groupOf old 0) place b).length = 4 then [] else addBlock (groupOf old 0) place b)

theorem rdsShown_blockJoined (old : RdsCtx) (place bits : Nat) (b : RdsBlk) : rdsShown (blockJoined old place bits b) = rdsShown old := by
  unfold blockJoined
  split <;> rfl

theorem groupOf_withGroup (x : RdsCtx) (stream : Nat) (g : List RdsBlk) : groupOf (withGroup x stream g) stream = g := by
  simp [groupOf, withGroup]

theorem groupOf_blockJoined (old : RdsCtx) (place bits : Nat) (b : RdsBlk) : groupOf (blockJoined old place bits b) 0 =
    if (addBlock (groupOf old 0) place b).length = 4 then [] else addBlock (groupOf old 0) place b :=
  groupOf_withGroup _ _ _

theorem place_took (x : RdsCtx) (stream : Nat) (o : RdsObs) (place : Nat) : (x.took stream o place).place stream = place := by
  simp [RdsCtx.place, RdsCtx.took]

theorem liveBlock_eq {place : Nat} {b : RdsBlk} (hp : place = (s.rdsCtx c).place 0) (hb : b = rdsReceive (rdsEcc s c) place bits) :
    liveBlock c bits s =
      if isCapture s (blockCounted (s.rdsCtx c) place bits b.cls) place b.cls b.data b.cPrime then
        capture c (s.setRds c (fun _ => blockJoined (s.rdsCtx c) place bits b))
      else if 20 ≤ (((blockCounted (s.rdsCtx c) place bits b.cls).recent.take 25).filter (fun k => k == 3)).length ∨
          6 ≤ (blockCounted (s.rdsCtx c) place bits b.cls).misplaced then
        rdsLoss c (s.setRds c (fun _ => blockJoined (s.rdsCtx c) place bits b))
      else if (addBlock (groupOf (s.rdsCtx c) 0) place b).length = 4 then
        takeGroup c (addBlock (groupOf (s.rdsCtx c) 0) place b) (s.setRds c (fun _ => blockJoined (s.rdsCtx c) place bits b))
      else s.setRds c (fun _ => blockJoined (s.rdsCtx c) place bits b) := by
  subst hp hb
  unfold liveBlock blockJoined blockCounted
  cases h : rdsPlaceOf bits with
  | none => rfl
  | some p =>
    cases e : p == (s.rdsCtx c).place 0 <;> simp only [Option.all_some, bne, e] <;> rfl

/-- A block that is neither a capture nor the loss of synchronisation is counted, and a whole group taken (R147, R157). -/
theorem liveBlock_counts {place : Nat} {b : RdsBlk} (hp : place = (s.rdsCtx c).place 0) (hb : b = rdsReceive (rdsEcc s c) place bits)
    (hc : isCapture s (blockCounted (s.rdsCtx c) place bits b.cls) place b.cls b.data b.cPrime = false)
    (hr : (((b.cls :: (s.rdsCtx c).recent).take 25).filter (fun k => k == 3)).length < 20) (hm : (s.rdsCtx c).misplaced < 5) :
    liveBlock c bits s = if (addBlock (groupOf (s.rdsCtx c) 0) place b).length = 4
      then takeGroup c (addBlock (groupOf (s.rdsCtx c) 0) place b) (s.setRds c (fun _ => blockJoined (s.rdsCtx c) place bits b))
      else s.setRds c (fun _ => blockJoined (s.rdsCtx c) place bits b) := by
  have hrecent : (((blockCounted (s.rdsCtx c) place bits b.cls).recent.take 25).filter (fun k => k == 3)).length < 20 := by
    rwa [blockCounted, List.take_take]
  have hmis : (blockCounted (s.rdsCtx c) place bits b.cls).misplaced < 6 := by
    unfold blockCounted
    dsimp only
    split <;> omega
  rw [liveBlock_eq hp hb, hc, if_neg Bool.false_ne_true, if_neg (by omega)]

theorem not_capture {x : RdsCtx} {place : Nat} {b : RdsBlk} (ha : x.armedTo = none) (hf : place = 1 → x.foreign = none) :
    isCapture s x place b.cls b.data b.cPrime = false := by
  unfold isCapture
  rw [ha]
  by_cases e : place = 1
  · simp [hf e]
  · simp [e]

/-- A block of stream 0 of a lane in synchronisation (R147). -/
theorem rdsBlock_live (hu : (s.lane (rdsLane c)).inUse = true) (hs : (s.lane (rdsLane c)).sync = true)
    (hk : rdsRbds s c = true → rdsRemainder ((s.rdsCtx c).bits 0 o) ≠ 0) :
    rdsBlock c 0 o s = (liveBlock c ((s.rdsCtx c).bits 0 o) s).setRds c (fun y => y.took 0 o ((s.rdsCtx c).place 0 % 4 + 1)) := by
  have hskip : (rdsRbds s c && rdsRemainder ((s.rdsCtx c).bits 0 o) == 0) = false := by
    cases h : rdsRbds s c
    · rfl
    · simpa using hk h
  unfold rdsBlock
  dsimp only
  rw [State.laneInUse, hu, hskip, hs]
  rfl

theorem rdsBlock_counts (ctx : Fin 104) {b : RdsBlk} {place : Nat} (hu : (s.lane (rdsLane ctx.val)).inUse = true)
    (hs : (s.lane (rdsLane ctx.val)).sync = true) (hp : place = (s.rdsCtx ctx.val).place 0) (hbits : bits = (s.rdsCtx ctx.val).bits 0 o)
    (hb : b = rdsReceive (rdsEcc s ctx.val) place bits) (hk : rdsRbds s ctx.val = true → rdsRemainder bits ≠ 0)
    (ha : (s.rdsCtx ctx.val).armedTo = none) (hf : place = 1 → (s.rdsCtx ctx.val).foreign = none)
    (hr : (((b.cls :: (s.rdsCtx ctx.val).recent).take 25).filter (fun k => k == 3)).length < 20) (hm : (s.rdsCtx ctx.val).misplaced < 5)
    (hg : (addBlock (groupOf (s.rdsCtx ctx.val) 0) place b).length < 4) :
    completes (.rdsBlock ctx 0 o) s (fun t =>
      (t.rdsCtx ctx.val).recent = (b.cls :: (s.rdsCtx ctx.val).recent).take 64 ∧
      (t.rdsCtx ctx.val).misplaced = (if (rdsPlaceOf bits).all (fun p => p == place) then 0 else (s.rdsCtx ctx.val).misplaced + 1) ∧
      groupOf (t.rdsCtx ctx.val) 0 = addBlock (groupOf (s.rdsCtx ctx.val) 0) place b ∧ (t.rdsCtx ctx.val).place 0 = place % 4 + 1 ∧
      (t.rdsCtx ctx.val).record = (s.rdsCtx ctx.val).record ∧ frame [.rds] [] s t) := by
  have hlive : rdsBlock ctx.val 0 o s = s.setRds ctx.val (fun _ => (blockJoined (s.rdsCtx ctx.val) place bits b).took 0 o (place % 4 + 1)) := by
    rw [rdsBlock_live hu hs (hbits ▸ hk), ← hbits, liveBlock_counts hp hb (not_capture ha hf) hr hm, if_neg (by omega), setRds_setRds, ← hp]
  have he : execRdsBlock ctx 0 o s = commit s (s.setRds ctx.val (fun _ => (blockJoined (s.rdsCtx ctx.val) place bits b).took 0 o (place % 4 + 1))) := by
    unfold execRdsBlock commitLanes
    rw [show ((0 : Fin 4).val) = 0 from rfl, hlive,
      announce_same (unannounced_setRds ctx.isLt (rdsShown_blockJoined _ _ _ _) (frame_refl [] [] s) (by simp) (by simp) (fun _ => rfl))]
  have hx : (s.setRds ctx.val (fun _ => (blockJoined (s.rdsCtx ctx.val) place bits b).took 0 o (place % 4 + 1))).rdsCtx ctx.val =
      (blockJoined (s.rdsCtx ctx.val) place bits b).took 0 o (place % 4 + 1) := rdsCtx_setRds ctx.isLt _ _
  refine completes_of_commit he ?_
  simp only [show ∀ u : State, (finish s u).rdsCtx ctx.val = u.rdsCtx ctx.val from fun _ => rfl, hx]
  refine ⟨?_, ?_, ?_, place_took _ _ _ _, ?_, frame_finish (frame_setRds (by simp) (frame_refl _ _ s))⟩
  · unfold blockJoined
    split <;> rfl
  · unfold blockJoined
    split <;> rfl
  · rw [show groupOf ((blockJoined (s.rdsCtx ctx.val) place bits b).took 0 o (place % 4 + 1)) 0 = _ from groupOf_blockJoined _ _ _ _, if_neg (by omega)]
  · unfold blockJoined
    split <;> rfl

end Sys2Proof.Machine.Reception

namespace Sys2Proof.Machine.Reception

open Capture Clocking Survey

variable {ps qs : List Part} {as bs pages : List Nat} {s t u : State} {c bits : Nat} {o : RdsObs} {g : List RdsBlk}

/-! ## Groups (R148, R152, R158) -/

/-- The host is woken where the pins are committed (R346). -/
theorem Effect.hostWake (h : Effect ps as s t) (hp : Part.pwr ∈ ps ∧ evParts ⊆ ps) (ha : Reg.SYS.WAKE_CFG ∈ as ∧ evWords Ev.SYS.WAKE ⊆ as) :
    Effect ps as s (hostWake t) := by
  unfold Machine.hostWake
  refine .ite (fun _ => ?_) (fun _ => h)
  exact ((h.put (f := Fld.SYS.WAKE_CFG.ASSERTED) ha.1 (by decide) _).part (frame_pwr (ps := [.pwr]) (by simp) (frame_refl _ _ _))
    (by simpa using hp.1) (by simp)).raise hp.2 ha.2

/-- The registers of a group FIFO. -/
theorem fifoWords : ∀ f < 9, [(fifoDrop f).addr, (fifoOverflow f).addr] ⊆ wordsOf noticePages ∧ evWords (fifoEvent f) ⊆ wordsOf noticePages ∧
    (fifoDrop f).addr % 4096 ≠ 16 ∧ (fifoOverflow f).addr % 4096 ≠ 16 := by
  have pages : ∀ f < 9, (∀ a ∈ [(fifoDrop f).addr, (fifoOverflow f).addr], a / 4096 ∈ noticePages) ∧
      [eventPage (fifoEvent f), 0x062] ⊆ noticePages ∧ (fifoDrop f).addr % 4096 ≠ 16 ∧ (fifoOverflow f).addr % 4096 ≠ 16 := by
    decide +kernel
  intro f hf
  obtain ⟨h1, h2, h3⟩ := pages f hf
  exact ⟨subset_wordsOf h1, evWords_pages h2, h3⟩

/-- Queueing a group touches its FIFO, or counts the drop (R152). -/
theorem queueGroup_leaves (c stream : Nat) (typeC : Bool) (g : List RdsBlk) (s : State) :
    Effect [.fm, .watchFifo, .twc, .fab] (wordsOf noticePages) s (queueGroup c stream typeC g s) := by
  obtain ⟨ha, he, hd, ho⟩ := fifoWords (min c 8) (by omega)
  have hr : Effect [.fm, .watchFifo, .twc, .fab] (wordsOf noticePages) s s := .refl _ _ _
  unfold queueGroup
  dsimp only
  refine .ite (fun _ => hr) (fun _ => .ite (fun _ => ?_) (fun _ => Effect.raiseIf ?_ (by decide) he))
  · exact ((hr.set (ha (by simp)) hd _).put (ha (by simp)) ho true).raiseIf (by decide) he
  · unfold State.setFifo
    exact .ite (fun _ => hr.part (frame_fm (ps := [.fm]) (by simp) (frame_refl _ _ s)) (by simp) (by simp))
      (fun _ => hr.part (frame_watchFifo (ps := [.watchFifo]) (by simp) (frame_refl _ _ s)) (by simp) (by simp))

/-- Context `x` with the alarm's counts and the alarm at other values. -/
def alarmAt (alarm : Bool) (run off : Nat) (x : RdsCtx) : RdsCtx := { x with alarm := alarm, ptyRun := run, ptyOff := off }

/-- The alarm that turns on is shown and wakes the host (R158, R159). -/
theorem alarmOn_leaves (hc : c < 104) (s : State) :
    Effect [.pwr, .twc, .fab] (wordsOf (0x000 :: noticePages)) (s.setRds c (fun x => { x with alarm := true })) (alarmOn c s) := by
  have hn : noticeRegs ⊆ wordsOf (0x000 :: noticePages) := fun _ hx => wordsOf_mono (by simp) (noticeRegs_pages hx)
  have hw : Reg.WRD.WAKE_SRC ∈ wordsOf (0x000 :: noticePages) := mem_wordsOf.mpr (by decide)
  have hv : ∀ g ∈ [Ev.WRD.ALARM, Ev.SYS.WAKE], evWords g ⊆ wordsOf (0x000 :: noticePages) := fun g hg => evWords_pages (by
    simp only [List.mem_cons, List.not_mem_nil, or_false] at hg
    rcases hg with rfl | rfl <;> decide)
  have hr : Effect [.pwr, .twc, .fab] (wordsOf (0x000 :: noticePages)) (s.setRds c (fun x => { x with alarm := true }))
      (s.setRds c (fun x => { x with alarm := true })) := .refl _ _ _
  unfold alarmOn
  dsimp only
  refine .ite (fun _ => hr) (fun _ => ?_)
  have raised {v : State} (hu : Effect [.pwr, .twc, .fab] (wordsOf (0x000 :: noticePages)) (s.setRds c (fun x => { x with alarm := true })) v) :
      Effect [.pwr, .twc, .fab] (wordsOf (0x000 :: noticePages)) (s.setRds c (fun x => { x with alarm := true })) (raise Ev.WRD.ALARM v) :=
    hu.raise (by decide) (hv _ (by simp))
  have shown : Effect [.pwr, .twc, .fab] (wordsOf (0x000 :: noticePages)) (s.setRds c (fun x => { x with alarm := true }))
      (raise Ev.WRD.ALARM (if c < 8 then setChange (Fld.FMF.CHG.ALARM_ON c) (Reg.FMF.CHG_EN c) (Ev.FMF.CHANGE c)
        ((s.setRds c (fun x => { x with alarm := true })).setWord Reg.WRD.WAKE_SRC (wordOf [(0, 8, rdsLane c), (16, 16, (s.rdsCtx c).record.pi)]))
        else markWatch .rds (c - 8)
          ((s.setRds c (fun x => { x with alarm := true })).setWord Reg.WRD.WAKE_SRC (wordOf [(0, 8, rdsLane c), (16, 16, (s.rdsCtx c).record.pi)])))) := by
    refine raised (.ite (fun h8 => ?_) (fun h8 => ?_))
    · obtain ⟨h1, h2, h3⟩ := fmNotices c h8
      exact (hr.setWord hw (by decide) _).setChange (f := Fld.FMF.CHG.ALARM_ON c) (by decide) (hn h1) h2 (fun _ hx => hn (h3 hx))
    · exact (hr.setWord hw (by decide) _).markWatch (by decide) hn (by simp only [tableSize]; omega)
  exact .ite (fun _ => shown.hostWake ⟨by simp, by decide⟩ ⟨mem_wordsOf.mpr (by decide), hv _ (by simp)⟩) (fun _ => shown)

/-- A group counts towards the alarm (R158). -/
theorem alarmGroup_leaves (hc : c < 104) (g : List RdsBlk) (s : State) :
    Effect [.rds, .pwr, .twc, .fab] (wordsOf (0x000 :: noticePages)) s (alarmGroup c g s) ∧
    ∃ a p q, (alarmGroup c g s).rdsCtx c = alarmAt a p q (s.rdsCtx c) ∧ (1 < (groupBlk g 1).cls → p = 0) := by
  have set (f : RdsCtx → RdsCtx) : Effect [.rds, .pwr, .twc, .fab] (wordsOf (0x000 :: noticePages)) s (s.setRds c f) :=
    (Effect.refl _ _ s).setRds (by simp)
  unfold alarmGroup
  dsimp only
  split
  · exact ⟨set _, _, 0, _, rdsCtx_setRds hc _ _, fun _ => rfl⟩
  · rename_i hb
    split
    · split
      · have k := alarmOn_leaves hc (s.setRds c (fun y => { y with ptyRun := y.ptyRun + 1, ptyOff := 0 }))
        refine ⟨((set _).setRds (by simp)).trans (k.mono (by simp) (fun _ h => h)), true, (s.rdsCtx c).ptyRun + 1, 0, ?_, fun h => absurd h hb⟩
        rw [rdsCtx_of_rds (k.frame.1 .rds (by decide)), rdsCtx_setRds hc, rdsCtx_setRds hc]
        rfl
      · exact ⟨set _, _, (s.rdsCtx c).ptyRun + 1, 0, rdsCtx_setRds hc _ _, fun h => absurd h hb⟩
    · split
      · refine ⟨(set _).setRds (by simp), false, 0, 0, ?_, fun _ => rfl⟩
        unfold alarmOff
        rw [rdsCtx_setRds hc, rdsCtx_setRds hc]
        rfl
      · exact ⟨set _, _, 0, (s.rdsCtx c).ptyOff + 1, rdsCtx_setRds hc _ _, fun _ => rfl⟩

/-- What a whole group of the record's own PI makes of the context (R148, R155). -/
def groupTaken (epoch khz : Nat) (g : List RdsBlk) (x : RdsCtx) : RdsCtx :=
  { (if (groupBlk g 1).cls = 0 then { x with seenAt := some epoch, age := 0 } else x) with record := x.record.take epoch (afCode khz) g }

/-- The parts and registers of a whole group. -/
def groupParts : List Part := [.rds, .fm, .watchFifo, .pwr, .twc, .fab]

/-- A whole group of the record's own PI updates the record (R148), and counts towards the alarm (R158); `b` stands for a new clock time. -/
theorem group_recorded (hc : c < 104) (b : Bool) (epoch khz : Nat) (h : Effect groupParts (wordsOf (0x000 :: noticePages)) s t)
    (hx : t.rdsCtx c = if (groupBlk g 1).cls = 0 then { s.rdsCtx c with seenAt := some epoch, age := 0 } else s.rdsCtx c) :
    Effect groupParts (wordsOf (0x000 :: noticePages)) s (alarmGroup c g (changeIf (decide (c < 8) && b) (Fld.FMF.CHG.CT c) (Reg.FMF.CHG_EN c)
      (Ev.FMF.CHANGE c) (t.setRds c (fun x => { x with record := x.record.take epoch (afCode khz) g })))) ∧
    ∃ a p q, (alarmGroup c g (changeIf (decide (c < 8) && b) (Fld.FMF.CHG.CT c) (Reg.FMF.CHG_EN c)
      (Ev.FMF.CHANGE c) (t.setRds c (fun x => { x with record := x.record.take epoch (afCode khz) g })))).rdsCtx c =
        alarmAt a p q (groupTaken epoch khz g (s.rdsCtx c)) ∧ (1 < (groupBlk g 1).cls → p = 0) := by
  have hn : noticeRegs ⊆ wordsOf (0x000 :: noticePages) := fun _ hx => wordsOf_mono (by simp) (noticeRegs_pages hx)
  have shown (u : State) : Effect evParts (wordsOf (0x000 :: noticePages)) u
      (changeIf (decide (c < 8) && b) (Fld.FMF.CHG.CT c) (Reg.FMF.CHG_EN c) (Ev.FMF.CHANGE c) u) := by
    by_cases h8 : c < 8
    · obtain ⟨h1, h2, h3⟩ := fmNotices c h8
      exact (Effect.refl _ _ u).changeIf (f := Fld.FMF.CHG.CT c) (by simp) (hn h1) h2 (fun _ hx => hn (h3 hx))
    · simp only [h8, decide_false, Bool.false_and]
      exact .refl _ _ _
  have k := shown (t.setRds c (fun x => { x with record := x.record.take epoch (afCode khz) g }))
  obtain ⟨ha, a, p, q, hy, hp⟩ := alarmGroup_leaves hc g (changeIf (decide (c < 8) && b) (Fld.FMF.CHG.CT c) (Reg.FMF.CHG_EN c)
    (Ev.FMF.CHANGE c) (t.setRds c (fun x => { x with record := x.record.take epoch (afCode khz) g })))
  refine ⟨((h.setRds (by decide)).trans (k.mono (by decide) (fun _ h => h))).trans (ha.mono (by decide) (fun _ h => h)), a, p, q, ?_, hp⟩
  rw [hy, rdsCtx_of_rds (k.frame.1 .rds (by decide)), rdsCtx_setRds hc, hx]
  unfold groupTaken
  split <;> rfl

theorem takeGroup_own (hc : c < 104) (hp : (groupBlk g 0).data = (s.rdsCtx c).record.pi) (hq : (groupBlk g 2).cPrime = false) :
    Effect groupParts (wordsOf (0x000 :: noticePages)) s (takeGroup c g s) ∧
    ∃ a p q, (takeGroup c g s).rdsCtx c = alarmAt a p q (groupTaken s.epoch (s.lane (rdsLane c)).khz g (s.rdsCtx c)) ∧
      (1 < (groupBlk g 1).cls → p = 0) := by
  have queued := queueGroup_leaves c 0 false g s
  have hrds : (queueGroup c 0 false g s).rdsCtx c = s.rdsCtx c := rdsCtx_of_rds (queued.frame.1 .rds (by decide)) c
  have wide := queued.mono (ps := groupParts) (by decide) (wordsOf_mono (pages := noticePages) (more := 0x000 :: noticePages) (by simp))
  unfold takeGroup
  dsimp only
  rw [if_neg (by simp [hp, hq])]
  refine group_recorded hc _ _ _ (.ite (fun _ => wide.setRds (by decide)) (fun _ => wide)) ?_
  split
  · rw [rdsCtx_setRds hc, hrds]
  · exact hrds

/-- The fourth block of a group of the record's own PI in synchronisation. -/
theorem rdsBlock_group (ctx : Fin 104) {b : RdsBlk} (hu : (s.lane (rdsLane ctx.val)).inUse = true)
    (hs : (s.lane (rdsLane ctx.val)).sync = true) (hp : (s.rdsCtx ctx.val).place 0 = 4) (hbits : bits = (s.rdsCtx ctx.val).bits 0 o)
    (hb : b = rdsReceive (rdsEcc s ctx.val) 4 bits) (hk : rdsRbds s ctx.val = true → rdsRemainder bits ≠ 0)
    (ha : (s.rdsCtx ctx.val).armedTo = none)
    (hr : (((b.cls :: (s.rdsCtx ctx.val).recent).take 25).filter (fun k => k == 3)).length < 20) (hm : (s.rdsCtx ctx.val).misplaced < 5)
    (hl : (groupOf (s.rdsCtx ctx.val) 0).length = 3) (hg : g = groupOf (s.rdsCtx ctx.val) 0 ++ [b])
    (hpi : (groupBlk g 0).data = (s.rdsCtx ctx.val).record.pi) (hc : (groupBlk g 2).cPrime = false) :
    completes (.rdsBlock ctx 0 o) s (fun t =>
      (t.rdsCtx ctx.val).record = (s.rdsCtx ctx.val).record.take s.epoch (afCode (s.lane (rdsLane ctx.val)).khz) g ∧
      groupOf (t.rdsCtx ctx.val) 0 = [] ∧ (t.rdsCtx ctx.val).place 0 = 1 ∧
      ((groupBlk g 1).cls = 0 → (t.rdsCtx ctx.val).seenAt = some s.epoch ∧ (t.rdsCtx ctx.val).age = 0) ∧
      (1 < (groupBlk g 1).cls → (t.rdsCtx ctx.val).ptyRun = 0) ∧
      pageFrame ([.rds, .fm, .watchFifo, .pwr] ++ noticeParts) (0x000 :: noticePages) s t) := by
  have hadd : addBlock (groupOf (s.rdsCtx ctx.val) 0) 4 b = g := by
    rw [hg, addBlock, if_neg (by omega), if_pos (by omega)]
  have hlen : g.length = 4 := by rw [hg, List.length_append, hl]; rfl
  have hlive : rdsBlock ctx.val 0 o s =
      (takeGroup ctx.val g (s.setRds ctx.val (fun _ => blockJoined (s.rdsCtx ctx.val) 4 bits b))).setRds ctx.val (fun y => y.took 0 o 1) := by
    rw [rdsBlock_live hu hs (hbits ▸ hk), ← hbits, liveBlock_counts hp.symm hb (not_capture ha (fun h => absurd h (by decide))) hr hm, hadd, if_pos hlen, hp]
  have hrec : (blockJoined (s.rdsCtx ctx.val) 4 bits b).record = (s.rdsCtx ctx.val).record := rfl
  have hgrp : groupOf (blockJoined (s.rdsCtx ctx.val) 4 bits b) 0 = [] := by
    rw [groupOf_blockJoined, hadd, if_pos hlen]
  obtain ⟨he, a, p, q, hx, hrun⟩ := takeGroup_own (s := s.setRds ctx.val (fun _ => blockJoined (s.rdsCtx ctx.val) 4 bits b)) (g := g) ctx.isLt
    (by rw [rdsCtx_setRds ctx.isLt]; exact hpi) hc
  rw [rdsCtx_setRds ctx.isLt] at hx
  have hexec : exec (.rdsBlock ctx 0 o) s = commit s (announce s (rdsBlock ctx.val 0 o s)) := rfl
  have hall : Effect ([.rds, .fm, .watchFifo, .pwr] ++ noticeParts) (wordsOf (0x000 :: noticePages)) s
      ((takeGroup ctx.val g (s.setRds ctx.val (fun _ => blockJoined (s.rdsCtx ctx.val) 4 bits b))).setRds ctx.val (fun y => y.took 0 o 1)) :=
    (((Effect.refl _ _ s).setRds (by decide)).trans (he.mono (by decide) (fun _ h => h))).setRds (by decide)
  rw [hlive] at hexec
  generalize hv : (takeGroup ctx.val g (s.setRds ctx.val (fun _ => blockJoined (s.rdsCtx ctx.val) 4 bits b))).setRds ctx.val
    (fun y => y.took 0 o 1) = v at hexec hall
  have hvx : v.rdsCtx ctx.val = (alarmAt a p q (groupTaken s.epoch (s.lane (rdsLane ctx.val)).khz g (blockJoined (s.rdsCtx ctx.val) 4 bits b))).took 0 o 1 := by
    rw [← hv, rdsCtx_setRds ctx.isLt, hx]
    rfl
  have hlink : linkKey s = linkKey v := by unfold linkKey; rw [hall.frame.1 .links (by decide)]
  have hn : noticeRegs ⊆ wordsOf (0x000 :: noticePages) := fun _ hx => wordsOf_mono (by simp) (noticeRegs_pages hx)
  have hnote : (announce s v).rdsCtx ctx.val = v.rdsCtx ctx.val :=
    rdsCtx_of_rds (((Effect.refl noticeParts _ v).announced (by decide) hn (.inl hlink)).frame.1 .rds (by decide)) _
  refine completes_of_commit hexec ?_
  simp only [show (finish s (announce s v)).rdsCtx ctx.val = _ from hnote, hvx]
  refine ⟨?_, ?_, place_took _ _ _ _, ?_, hrun, (hall.announced (by decide) hn (.inl hlink)).finish.pageFrame⟩
  · exact congrArg (fun r : RdsRecord => r.take s.epoch (afCode (s.lane (rdsLane ctx.val)).khz) g) hrec
  · unfold groupTaken
    split <;> exact hgrp
  · intro h0
    unfold groupTaken
    rw [if_pos h0]
    exact ⟨rfl, rfl⟩

end Sys2Proof.Machine.Reception

namespace Sys2Proof.Machine.Reception

open Capture Clocking Survey

variable {ps qs : List Part} {as bs pages : List Nat} {s t u : State} {c bits : Nat} {o : RdsObs} {g : List RdsBlk}

/-! ## Blocks that a sprout searches (R115, R117) -/

theorem mem_indices {α : Type} {n i : Nat} {v : Vector α n} {p : α → Bool} (d : α) : i ∈ indices v p ↔ i < n ∧ p (at' v i d) = true := by
  simp only [indices, List.mem_map, List.mem_filter, Prod.exists, List.mem_zipIdx_iff_getElem?, at']
  constructor
  · rintro ⟨a, b, ⟨hb, hp⟩, rfl⟩
    obtain ⟨hlt, rfl⟩ := List.getElem?_eq_some_iff.mp hb
    exact ⟨by simpa using hlt, by simpa [List.getD_eq_getElem?_getD, hb] using hp⟩
  · rintro ⟨hi, hp⟩
    have hlt : i < v.toList.length := by simpa using hi
    exact ⟨v.toList[i], i, ⟨List.getElem?_eq_getElem hlt, by simpa [List.getD_eq_getElem?_getD, List.getElem?_eq_getElem hlt] using hp⟩, rfl⟩

theorem sprout_setSprout {i : Nat} (h : i < 32) (s : State) (f : Sprout → Sprout) : (s.setSprout i f).sprout i = f (s.sprout i) := at_upd _ f _ h

theorem sprout_setSprout_ne {i j : Nat} (h : j ≠ i) (s : State) (f : Sprout → Sprout) : (s.setSprout i f).sprout j = s.sprout j := at_upd_ne _ f _ h

theorem mem_plantedSlots {i : Nat} {p : Sprout → Bool} : i ∈ plantedSlots s p ↔ i < 32 ∧ (s.sprout i).state = .planted ∧ p (s.sprout i) = true := by
  rw [plantedSlots, mem_indices {}]
  simp [State.sprout]

theorem rdsSprout_lt {l stream i : Nat} (h : rdsSprout s l stream = some i) : i < 32 :=
  (mem_plantedSlots.mp (List.mem_of_mem_head? h)).1

/-- Context `x` with a searched block's group, whole or in progress. -/
def searched (s : State) (c slot : Nat) (g : List RdsBlk) (x : RdsCtx) : RdsCtx :=
  if g.length = 4 then shadowGroup s c slot g (withGroup x 0 []) else withGroup x 0 g

theorem searched_keeps (s : State) (c slot : Nat) (g : List RdsBlk) (x : RdsCtx) :
    rdsShown (searched s c slot g x) = rdsShown x ∧ (searched s c slot g x).record = x.record ∧ (searched s c slot g x).recent = x.recent ∧
      groupOf (searched s c slot g x) 0 = if g.length = 4 then [] else g := by
  unfold searched shadowGroup
  split
  · dsimp only
    split
    · exact ⟨rfl, rfl, rfl, groupOf_withGroup _ _ _⟩
    · exact ⟨rfl, rfl, rfl, groupOf_withGroup _ _ _⟩
  · exact ⟨rfl, rfl, rfl, groupOf_withGroup _ _ _⟩

theorem shadowBlock_eq (c slot bits : Nat) (typeC : Bool) (s : State) (p : Sprout) (b : RdsBlk) (hp : p = (s.sprout slot).search bits)
    (hb : b = rdsReceive 0 p.placeNow bits) :
    shadowBlock c 0 slot bits typeC s =
      (s.setSprout slot (fun _ => p.count p.placeNow b (addBlock (groupOf (s.rdsCtx c) 0) p.placeNow b) typeC (s.rdsCtx c).record.pi)).setRds c
        (searched s c slot (addBlock (groupOf (s.rdsCtx c) 0) p.placeNow b)) := by
  subst hb hp
  unfold shadowBlock
  dsimp only
  congr 1
  funext x
  by_cases h : (addBlock (groupOf (s.rdsCtx c) 0) ((s.sprout slot).search bits).placeNow
      (rdsReceive 0 ((s.sprout slot).search bits).placeNow bits)).length = 4
  · simp only [searched, h, and_self, ↓reduceIte]
  · simp only [searched, h, false_and, ↓reduceIte]

theorem rdsBlock_shadow {i : Nat} (hu : (s.lane (rdsLane c)).inUse = true) (hs : (s.lane (rdsLane c)).sync = false) (hi : rdsSprout s (rdsLane c) 0 = some i)
    (hk : rdsRbds s c = true → rdsRemainder ((s.rdsCtx c).bits 0 o) ≠ 0) :
    rdsBlock c 0 o s = shadowBlock c 0 i ((s.rdsCtx c).bits 0 o) o.typeC (s.setRds c (fun y => y.took 0 o (y.place 0 % 4 + 1))) := by
  have hskip : (rdsRbds s c && rdsRemainder ((s.rdsCtx c).bits 0 o) == 0) = false := by
    cases h : rdsRbds s c
    · rfl
    · simpa using hk h
  unfold rdsBlock
  dsimp only
  rw [State.laneInUse, hu, hskip, hs, hi]
  rfl

theorem setRds_setSprout (s : State) (c i : Nat) (f : RdsCtx → RdsCtx) (k : Sprout → Sprout) (r : RdsCtx → RdsCtx) :
    ((s.setRds c f).setSprout i k).setRds c r = (s.setSprout i k).setRds c (fun x => r (f x)) := setRds_setRds (s.setSprout i k) c f r

theorem rdsBlock_searched (ctx : Fin 104) {i : Nat} {p : Sprout} {b : RdsBlk} (hu : (s.lane (rdsLane ctx.val)).inUse = true)
    (hs : (s.lane (rdsLane ctx.val)).sync = false) (hi : rdsSprout s (rdsLane ctx.val) 0 = some i) (hbits : bits = (s.rdsCtx ctx.val).bits 0 o)
    (hp : p = (s.sprout i).search bits) (hb : b = rdsReceive 0 p.placeNow bits) (hk : rdsRbds s ctx.val = true → rdsRemainder bits ≠ 0) :
    completes (.rdsBlock ctx 0 o) s (fun t =>
      (t.rdsCtx ctx.val).record = (s.rdsCtx ctx.val).record ∧ (t.rdsCtx ctx.val).recent = (s.rdsCtx ctx.val).recent ∧
      (let g := addBlock (groupOf (s.rdsCtx ctx.val) 0) p.placeNow b
       t.sprout i = p.count p.placeNow b g o.typeC (s.rdsCtx ctx.val).record.pi ∧
       groupOf (t.rdsCtx ctx.val) 0 = if g.length = 4 then [] else g) ∧
      frame [.rds, .mgr] [] s t) := by
  have hblock := (rdsBlock_shadow hu hs hi (hbits ▸ hk)).trans (shadowBlock_eq ctx.val i _ o.typeC _ p b (hbits ▸ hp) (hbits ▸ hb))
  rw [rdsCtx_setRds ctx.isLt, setRds_setSprout] at hblock
  have hgroup : groupOf ((s.rdsCtx ctx.val).took 0 o ((s.rdsCtx ctx.val).place 0 % 4 + 1)) 0 = groupOf (s.rdsCtx ctx.val) 0 := rfl
  have hrec : ((s.rdsCtx ctx.val).took 0 o ((s.rdsCtx ctx.val).place 0 % 4 + 1)).record = (s.rdsCtx ctx.val).record := rfl
  rw [hgroup, hrec] at hblock
  obtain ⟨hshown, hr, hc, hgr⟩ := searched_keeps (s.setRds ctx.val (fun y => y.took 0 o (y.place 0 % 4 + 1))) ctx.val i
    (addBlock (groupOf (s.rdsCtx ctx.val) 0) p.placeNow b) ((s.rdsCtx ctx.val).took 0 o ((s.rdsCtx ctx.val).place 0 % 4 + 1))
  generalize addBlock (groupOf (s.rdsCtx ctx.val) 0) p.placeNow b = g at *
  generalize searched (s.setRds ctx.val (fun y => y.took 0 o (y.place 0 % 4 + 1))) ctx.val i g = f at *
  have hm : frame [.mgr] [] s (s.setSprout i (fun _ => p.count p.placeNow b g o.typeC (s.rdsCtx ctx.val).record.pi)) :=
    frame_mgr (by simp) (frame_refl _ _ s)
  have hsame := unannounced_setRds (c := ctx.val) (f := fun x => f (x.took 0 o (x.place 0 % 4 + 1))) ctx.isLt hshown hm (by simp) (by simp) (fun _ => rfl)
  have hexec : exec (.rdsBlock ctx 0 o) s = commit s (announce s (rdsBlock ctx.val 0 o s)) := rfl
  rw [hblock, announce_same hsame] at hexec
  have hx : ((s.setSprout i (fun _ => p.count p.placeNow b g o.typeC (s.rdsCtx ctx.val).record.pi)).setRds ctx.val
      (fun x => f (x.took 0 o (x.place 0 % 4 + 1)))).rdsCtx ctx.val =
      f ((s.rdsCtx ctx.val).took 0 o ((s.rdsCtx ctx.val).place 0 % 4 + 1)) := rdsCtx_setRds ctx.isLt _ _
  refine completes_of_commit hexec ⟨?_, ?_, ⟨sprout_setSprout (rdsSprout_lt hi) s _, ?_⟩,
    frame_finish (frame_setRds (by simp) (frame_mono hm (by simp) (by simp)))⟩
  · exact (congrArg RdsCtx.record hx).trans hr
  · exact (congrArg RdsCtx.recent hx).trans hc
  · exact (congrArg (groupOf · 0) hx).trans hgr

/-! ## Alarms that end (R158, R216) -/

/-- A property that one pass of a list brings about and every pass leaves holds after the list. -/
theorem forEach_reaches {α : Type} {P : State → Prop} {l : List α} {f : α → State → State} {x : α} (hx : x ∈ l) (hset : ∀ u, P (f x u))
    (hkeep : ∀ y ∈ l, ∀ u, P u → P (f y u)) (s : State) : P (forEach l f s) := by
  unfold Machine.forEach
  induction l generalizing s with
  | nil => cases hx
  | cons y l ih =>
    rcases List.mem_cons.mp hx with rfl | hx
    · show P (forEach l f (f x s))
      exact forEach_survives (fun z hz => hkeep z (List.mem_cons_of_mem _ hz)) (hset s)
    · exact ih hx (fun z hz => hkeep z (List.mem_cons_of_mem _ hz)) (f y s)

theorem alarmOff_bit : ∀ n < 8, (Fld.FMF.CHG.ALARM_OFF n).addr % 4096 ≠ 16 ∧ (Fld.FMF.CHG.ALARM_OFF n).addr ≠ Reg.TWC.SKIP_CNT ∧
    (Fld.FMF.CHG.ALARM_OFF n).addr ≠ Reg.PIB.STAT := by
  decide

/-- A lane's alarm that goes off sets ALARM_OFF. -/
theorem announce_alarmOff {a b : State} (h : c < 8) (ha : (a.rdsCtx c).alarm = true) (hb : (b.rdsCtx c).alarm = false) :
    (announce a b).flag (Fld.FMF.CHG.ALARM_OFF c) = true := by
  obtain ⟨h1, h2, h3⟩ := alarmOff_bit c h
  have hs : Survives a b (fun u => u.flag (Fld.FMF.CHG.ALARM_OFF c) = true) := survives_flag ⟨rfl, Nat.le_of_ble_eq_true rfl⟩ h1 h2 h3
  have set : ∀ u, (setChanges (fmChanges a b c) (Reg.FMF.CHG_EN c) (Ev.FMF.CHANGE c) u).flag (Fld.FMF.CHG.ALARM_OFF c) = true := by
    refine fun u => forEach_reaches (P := fun u => u.flag (Fld.FMF.CHG.ALARM_OFF c) = true) (x := (Fld.FMF.CHG.ALARM_OFF c, true))
      (by simp [fmChanges, ha, hb]) (fun v => ?_) (fun y hy v hv => hs.changeIf (fmBits h y hy) (fmNotices c h).2.2 y.2 hv) u
    exact hs.raiseIf (fmNotices c h).2.2 _ (State.flag_put_same v (Fld.FMF.CHG.ALARM_OFF c) true (Nat.le_of_ble_eq_true rfl) Nat.one_pos)
  have hfm : (noteFm a b b).flag (Fld.FMF.CHG.ALARM_OFF c) = true :=
    forEach_reaches (P := fun u => u.flag (Fld.FMF.CHG.ALARM_OFF c) = true) (List.mem_range.mpr h) set
      (fun n hn _ hu => hs.setChanges (fmBits (List.mem_range.mp hn)) (fmNotices n (List.mem_range.mp hn)).2.2 hu) b
  rw [announce_eq]
  exact hs.noteRest (hs.noteRds (hs.noteDrm (hs.noteDab (hs.noteAm hfm))))

/-- A watch entry's alarm that goes off raises CHANGED. -/
theorem announce_rdsAlarmOff {a b : State} {n : Nat} (h : n < 96) (ha : (a.rdsCtx (8 + n)).alarm = true) (hb : (b.rdsCtx (8 + n)).alarm = false) :
    raised (announce a b) Ev.WRD.CHANGED := by
  have hs : Survives a b (fun u => raised u Ev.WRD.CHANGED) := survives_raised _
  rw [announce_eq]
  refine hs.noteRest (forEach_reaches (P := fun u => raised u Ev.WRD.CHANGED) (List.mem_range.mpr h) (fun u => ?_) (fun k hk u hu => ?_) _)
  · rw [if_neg (by simp [ha, hb])]
    exact raised_raise _ _
  · split
    · exact hu
    · exact hs.markWatch (List.mem_range.mp hk) hu

theorem announce_ficAlarmOff {a b : State} {n : Nat} (h : n < 16) (ha : (a.dabCtx (4 + n)).alarm = true) (hb : (b.dabCtx (4 + n)).alarm = false) :
    raised (announce a b) Ev.WFC.CHANGED := by
  have hs : Survives a b (fun u => raised u Ev.WFC.CHANGED) := survives_raised _
  rw [announce_eq]
  refine hs.noteLinks (hs.noteBlocks (forEach_reaches (P := fun u => raised u Ev.WFC.CHANGED) (List.mem_range.mpr h) (fun u => ?_) (fun k hk u hu => ?_) _))
  · rw [if_neg (by simp [ha, hb])]
    exact raised_raise _ _
  · split
    · exact hu
    · exact hs.markWatch (List.mem_range.mp hk) hu

/-- An RDS alarm goes off and is announced (R158). -/
theorem rdsAlarmOff_announced (hc : c < 104) (ha : (s.rdsCtx c).alarm = true) (hx : t = announce s (alarmOff c s)) :
    t.rdsCtx c = { s.rdsCtx c with alarm := false, ptyRun := 0, ptyOff := 0 } ∧ (c < 8 → t.flag (Fld.FMF.CHG.ALARM_OFF c) = true) ∧
      (8 ≤ c → raised t Ev.WRD.CHANGED) ∧ frame [.rds, .twc, .fab] noticeRegs s t := by
  subst hx
  have hoff : (alarmOff c s).rdsCtx c = { s.rdsCtx c with alarm := false, ptyRun := 0, ptyOff := 0 } := rdsCtx_setRds hc _ _
  have hset : Effect [.rds, .twc, .fab] noticeRegs s (alarmOff c s) := (Effect.refl _ _ s).setRds (by simp)
  have hnote : Effect evParts noticeRegs (alarmOff c s) (announce s (alarmOff c s)) :=
    (Effect.refl _ _ _).announced (fun _ h => h) (fun _ h => h) (.inl rfl)
  refine ⟨(rdsCtx_of_rds (hnote.frame.1 .rds (by decide)) c).trans hoff, fun h => announce_alarmOff h ha (by rw [hoff]), fun h => ?_,
    (hset.trans (hnote.mono (by decide) (fun _ h => h))).frame⟩
  have e : 8 + (c - 8) = c := by omega
  exact announce_rdsAlarmOff (n := c - 8) (by omega) (by rw [e]; exact ha) (by rw [e, hoff])

theorem dabCtx_setDab (hc : c < 20) (s : State) (f : DabLane → DabLane) : (s.setDab c f).dabCtx c = f (s.dabCtx c) := at_upd _ f _ hc

theorem dabCtx_setDab_ne {d : Nat} (h : d ≠ c) (s : State) (f : DabLane → DabLane) : (s.setDab c f).dabCtx d = s.dabCtx d := at_upd_ne _ f _ h

/-- A DAB alarm goes off and is announced (R216). -/
theorem dabAlarmOff_announced (hc : c < 20) (ha : (s.dabCtx c).alarm = true) (hx : t = announce s (dabAlarmOff c s)) :
    t.dabCtx c = { s.dabCtx c with alarm := false, aswFrames := 0, aswHere := false } ∧ (4 ≤ c → raised t Ev.WFC.CHANGED) ∧
      frame [.dab, .twc, .fab] noticeRegs s t := by
  subst hx
  have hoff : (dabAlarmOff c s).dabCtx c = { s.dabCtx c with alarm := false, aswFrames := 0, aswHere := false } := dabCtx_setDab hc _ _
  have hset : Effect [.dab, .twc, .fab] noticeRegs s (dabAlarmOff c s) := (Effect.refl _ _ s).dab (by simp) _
  have hnote : Effect evParts noticeRegs (dabAlarmOff c s) (announce s (dabAlarmOff c s)) :=
    (Effect.refl _ _ _).announced (fun _ h => h) (fun _ h => h) (.inl rfl)
  refine ⟨(dabCtx_of_dab (hnote.frame.1 .dab (by decide)) c).trans hoff, fun h => ?_, (hset.trans (hnote.mono (by decide) (fun _ h => h))).frame⟩
  have e : 4 + (c - 4) = c := by omega
  exact announce_ficAlarmOff (n := c - 4) (by omega) (by rw [e]; exact ha) (by rw [e, hoff])

/-! ## RDS reception -/

/-- The RDS context of a lane of the FM or RDS class. -/
theorem rdsIndex_lane : ∀ l < 156, laneClass l = .fm ∨ laneClass l = .rds →
    rdsIndex l < 104 ∧ (laneClass l = .fm → l < 8 ∧ rdsIndex l = l) ∧ (laneClass l = .rds → 8 ≤ rdsIndex l) := by
  decide +kernel

/-- The DAB context of a lane of the DAB or FIC class. -/
theorem dabIndex_lane : ∀ l < 156, laneClass l = .dab ∨ laneClass l = .fic → dabIndex l < 20 ∧ (laneClass l = .fic → 4 ≤ dabIndex l) := by
  decide +kernel

theorem alarmTimeout_rds {l : Nat} (hl : laneClass l = .fm ∨ laneClass l = .rds) (ha : (s.rdsCtx (rdsIndex l)).alarm = true)
    (ho : 10000 ≤ (s.rdsCtx (rdsIndex l)).outOfSync) : alarmTimeout l s = alarmOff (rdsIndex l) s := by
  unfold alarmTimeout
  rcases hl with hl | hl <;> rw [hl] <;> exact if_pos (by simp [ha, ho])

theorem alarmTimeout_dab {l : Nat} (hl : laneClass l = .dab ∨ laneClass l = .fic) (ha : (s.dabCtx (dabIndex l)).alarm = true)
    (ho : 10000 ≤ (s.dabCtx (dabIndex l)).outOfSync) : alarmTimeout l s = dabAlarmOff (dabIndex l) s := by
  unfold alarmTimeout
  rcases hl with hl | hl <;> rw [hl] <;> exact if_pos (by simp [ha, ho])

/-- Settles O14: a block is counted where it is neither a capture nor the loss of synchronisation (`liveBlock_counts`), a whole group of the record's
own PI is taken (`takeGroup_own`), a searched block leaves what the notices compare (`searched_keeps`), and an alarm that goes off is announced. -/
theorem rdsCompletes : Obligations.RdsCompletes := by
  unfold Obligations.RdsCompletes
  refine ⟨?block, ?group, ?search, ?trigger, ?rdsAlarm, ?dabAlarm⟩
  case block => exact fun ctx obs s place bits b hu hs hp hbits hb hk ha hf hr hm hg => rdsBlock_counts ctx hu hs hp hbits hb hk ha hf hr hm hg
  case group => exact fun ctx obs s g b bits hu hs hp hbits hb hk ha hr hm hl hg hpi hc => rdsBlock_group ctx hu hs hp hbits hb hk ha hr hm hl hg hpi hc
  case search => exact fun ctx obs s i p bits b hu hs hi hbits hp hb hk => rdsBlock_searched ctx hu hs hi hbits hp hb hk
  case trigger =>
    intro ctx s e ha he
    have hx : execCaptureTriggerExpire ctx s = commit s (s.setRds ctx.val (fun x => { x with armedTo := none })) := by
      unfold execCaptureTriggerExpire
      rw [ha]
      exact congrArg (commit s) (if_pos he)
    exact completes_of_commit hx ⟨rdsCtx_setRds ctx.isLt _ _, fun d _ hd => rdsCtx_setRds_ne hd _ _, frame_finish (frame_setRds (by simp) (frame_refl _ _ s))⟩
  case rdsAlarm =>
    intro lane s hl ha ho
    obtain ⟨hi, hfm, hrds⟩ := rdsIndex_lane lane.val lane.isLt hl
    have hx : exec (.alarmOutOfSyncTimeout lane) s = commit s (announce s (alarmTimeout lane.val s)) := rfl
    rw [alarmTimeout_rds hl ha ho] at hx
    obtain ⟨hctx, hoff, hchanged, hframe⟩ := rdsAlarmOff_announced hi ha rfl
    refine completes_of_commit hx ⟨hctx, fun h => ?_, fun h => raised_finish (hchanged (hrds h)), frame_finish hframe⟩
    obtain ⟨h8, e⟩ := hfm h
    rw [e] at hoff
    rw [finish_flag, e]
    exact hoff h8
  case dabAlarm =>
    intro lane s hl ha ho
    obtain ⟨hi, hfic⟩ := dabIndex_lane lane.val lane.isLt hl
    have hx : exec (.alarmOutOfSyncTimeout lane) s = commit s (announce s (alarmTimeout lane.val s)) := rfl
    rw [alarmTimeout_dab hl ha ho] at hx
    obtain ⟨hctx, hchanged, hframe⟩ := dabAlarmOff_announced hi ha rfl
    exact completes_of_commit hx ⟨hctx, fun h => raised_finish (hchanged (hfic h)), frame_finish hframe⟩

end Sys2Proof.Machine.Reception

namespace Sys2Proof.Machine.Reception

open Capture Clocking Survey

variable {ps qs : List Part} {as bs pages : List Nat} {s t u : State} {c : Nat} {o : DabObs}

/-! ## The loss of synchronisation (R106, R397) -/

/-- The registers of a recorded fault (R403). -/
def faultWords : List Nat := [Reg.FLT.PERMANENT_CNT, Reg.FLT.TRANSIENT_CNT] ++ evWords Ev.FLT.FAULT

theorem Effect.logRecord {r : FaultRec} (h : Effect ps as s t) (hp : Part.flt ∈ ps ∧ evParts ⊆ ps) (ha : faultWords ⊆ as) :
    Effect ps as s (logRecord r t) := by
  have hv : evWords Ev.FLT.FAULT ⊆ as := fun _ hx => ha (List.mem_append_right _ hx)
  unfold Machine.logRecord
  refine Effect.raise ?_ hp.2 hv
  by_cases hc : r.cls = 1
  · rw [if_pos hc]
    exact (h.flt hp.1 _).set (f := Fld.FLT.PERMANENT_CNT.COUNT) (show Reg.FLT.PERMANENT_CNT ∈ as from ha (by simp [faultWords])) (by decide) _
  · rw [if_neg hc]
    exact (h.flt hp.1 _).set (f := Fld.FLT.TRANSIENT_CNT.COUNT) (show Reg.FLT.TRANSIENT_CNT ∈ as from ha (by simp [faultWords])) (by decide) _

/-- The parts and registers of a loss of synchronisation. -/
def lossParts : List Part := [.mgr, .flt, .twc, .fab]

def lossWords : List Nat := faultWords ++ evWords Ev.LNM.LANE_LOST

theorem Effect.setLane {l : Nat} {f : Lane → Lane} (h : Effect ps as s t) (hp : Part.mgr ∈ ps) : Effect ps as s (t.setLane l f) := h.mgr hp _

theorem laneLost_leaves (l : Nat) (s : State) : Effect lossParts lossWords s (laneLost l s) := by
  unfold laneLost
  refine .ite (fun _ => ?_) (fun _ => .refl _ _ _)
  exact (((Effect.refl _ _ s).setLane (by decide)).logRecord ⟨by decide, by decide⟩ (by decide)).raise (by decide) (by decide)

/-- The loss of a DAB lane touches besides only the engine's CHG word. -/
theorem dabLoss_leaves (c : Nat) (s : State) : Effect lossParts (lossWords ++ noticeRegs) s (dabLoss c s) := by
  have wide {u : State} : Effect lossParts (lossWords ++ noticeRegs) u (laneLost (dabLane c) u) :=
    (laneLost_leaves _ u).mono (fun _ h => h) (List.subset_append_left _ _)
  unfold dabLoss
  by_cases h : c < 4
  · obtain ⟨h1, h2, h3, -⟩ := dabNotices c h
    rw [if_pos h]
    exact ((Effect.refl _ _ s).setChange (f := Fld.DAB.CHG.LOST c) (by decide) (List.mem_append_right _ h1) h2
      (fun _ hx => List.mem_append_right _ (h3 hx))).trans wide
  · rw [if_neg h]
    exact wide

/-! ## Frames (R126, R197, R198) -/

theorem setDab_setDab (s : State) (c : Nat) (f g : DabLane → DabLane) : (s.setDab c f).setDab c g = s.setDab c (fun x => g (f x)) :=
  congrArg (fun v => { s with dab := v }) (upd_upd _ _ _ _)

/-- The quality words of a frame (R218). -/
def frameQual (o : DabObs) (window : Int) : Word × Word × Word :=
  (wordOf [(0, 16, ofSigned 16 o.level), (16, 16, ofSigned 16 o.snr)], wordOf [(0, 16, ofSigned 16 o.fofs), (16, 16, ofSigned 16 window)],
    wordOf [(0, 16, min 65535 o.cber), (16, 12, o.delay)])

/-- Context `x` with a frame of a lane in synchronisation counted. -/
def frameRead (epoch : Nat) (gaps : List (Nat × Nat)) (o : DabObs) (window : Int) (x : DabLane) : DabLane :=
  { ({ x with nullAt := some epoch }).frame gaps o with qual := some (frameQual o window), aswHere := false }

theorem frameRead_shows (epoch : Nat) (gaps : List (Nat × Nat)) (o : DabObs) (window : Int) (x : DabLane) :
    (frameRead epoch gaps o window x).nullAt = some epoch ∧ (frameRead epoch gaps o window x).fibs = (o.fibs.reverse ++ x.fibs).take 120 ∧
      (frameRead epoch gaps o window x).erased = erasedSymbols o.start gaps ∧ (frameRead epoch gaps o window x).qual = some (frameQual o window) ∧
      (frameRead epoch gaps o window x).window = x.window ∧ (frameRead epoch gaps o window x).alarm = x.alarm := by
  unfold frameRead DabLane.frame
  dsimp only
  split <;> exact ⟨rfl, rfl, rfl, rfl, rfl, rfl⟩

/-- The loss of synchronisation that a frame's counts bring about (R197). -/
def lossCounted (c : Nat) (t : State) : State := if 4 ≤ (t.dabCtx c).nullMisses ∨ 10 ≤ (t.dabCtx c).fibMisses then dabLoss c t else t

theorem lossCounted_leaves (c : Nat) (s : State) : Effect lossParts (lossWords ++ noticeRegs) s (lossCounted c s) :=
  .ite (fun _ => dabLoss_leaves c s) (fun _ => .refl _ _ _)

/-- An engine's context, counts and plan after a frame without packets or data. -/
def engineFrame (c : Nat) (o : DabObs) (s : State) : State :=
  let ok := (o.fibs.filter (fun b => b)).length
  moveWindow c o.target (post (.afc (dabLane c) o.afc) 0
    (((s.setDab c (frameRead s.epoch (dabGaps s c) o (s.dabCtx c).window)).bump (Fld.DAB.FIB_CNT.OK c) ok).bump (Fld.DAB.FIB_CNT.ERR c)
      (o.fibs.length - ok)))

theorem dabFrame_engine (h : c < 4) (hl : (s.lane (dabLane c)).live = true) (hs : (s.lane (dabLane c)).sync = true) (hp : o.packets = [])
    (hd : o.data = []) : dabFrame c o s = lossCounted c (engineFrame c o s) := by
  unfold dabFrame
  dsimp only
  rw [hl, hs, hp, hd, setDab_setDab, if_neg (by decide), if_neg (show ¬4 ≤ c by omega)]
  rfl

theorem dabFrame_watch (h : 4 ≤ c) (hl : (s.lane (dabLane c)).live = true) (hs : (s.lane (dabLane c)).sync = true) :
    dabFrame c o s = lossCounted c (s.setDab c (frameRead s.epoch (dabGaps s c) o (s.dabCtx c).window)) := by
  unfold dabFrame
  dsimp only
  rw [hl, hs, setDab_setDab, if_neg (by decide), if_pos h]
  rfl

/-- A move of the FFT window touches the context and the engine's CHG word. -/
theorem moveWindow_leaves (h : c < 4) (target : Int) (s : State) : Effect [.dab, .twc, .fab] noticeRegs s (moveWindow c target s) ∧
    (moveWindow c target s).dabCtx c =
      { s.dabCtx c with window := if (target - (s.dabCtx c).window).natAbs < 8 then (s.dabCtx c).window else target } := by
  obtain ⟨h1, h2, h3, -⟩ := dabNotices c h
  have moved : Effect [.dab, .twc, .fab] noticeRegs s (s.setDab c (fun x => { x with window := target })) := (Effect.refl _ _ s).dab (by simp) _
  have hx : (s.setDab c (fun x => { x with window := target })).dabCtx c = { s.dabCtx c with window := target } := dabCtx_setDab (by omega) _ _
  unfold moveWindow
  dsimp only
  split
  · exact ⟨.refl _ _ _, rfl⟩
  · split
    · have k := (Effect.refl evParts noticeRegs (s.setDab c (fun x => { x with window := target }))).setChange (f := Fld.DAB.CHG.TIMING c)
        (enable := Reg.DAB.CHG_EN c) (fun _ h => h) h1 h2 h3
      exact ⟨moved.trans (k.mono (by decide) (fun _ h => h)), (dabCtx_of_dab (k.frame.1 .dab (by decide)) c).trans hx⟩
    · exact ⟨moved, hx⟩

theorem fibCount_words : ∀ n < 4, (Fld.DAB.FIB_CNT.ERR n).addr = (Fld.DAB.FIB_CNT.OK n).addr ∧
    (Fld.DAB.FIB_CNT.OK n).addr ∉ planWords ++ (lossWords ++ noticeRegs) ∧ (Fld.DAB.FIB_CNT.OK n).addr % 4096 ≠ 16 ∧ (Fld.DAB.FIB_CNT.OK n).addr / 4096 ∈ noticePages ∧
    Apart (Fld.DAB.FIB_CNT.ERR n) (Fld.DAB.FIB_CNT.OK n) ∧ Apart (Fld.DAB.FIB_CNT.OK n) (Fld.DAB.FIB_CNT.ERR n) := by
  decide +kernel

theorem frameWords_pages : planWords ++ (lossWords ++ noticeRegs) ⊆ wordsOf ([0x000, 0x018, 0x040, 0x071] ++ noticePages) :=
  subset_wordsOf (by decide +kernel)

theorem length_not (l : List Bool) : l.length - (l.filter (fun b => b)).length = (l.filter (fun b => !b)).length := by
  have h := List.length_eq_length_filter_add (l := l) (fun b => b)
  omega

/-- Announcing touches no more than the notice words where the linkage sets stand. -/
theorem announce_leaves (hl : t.links = s.links) : Effect evParts noticeRegs t (announce s t) :=
  (Effect.refl _ _ t).announced (fun _ h => h) (fun _ h => h) (.inl (by unfold linkKey; rw [hl]))

/-- An engine's FIBs are counted (R197). -/
def fibsCounted (c : Nat) (o : DabObs) (s : State) : State :=
  (s.bump (Fld.DAB.FIB_CNT.OK c) (o.fibs.filter (fun b => b)).length).bump (Fld.DAB.FIB_CNT.ERR c)
    (o.fibs.length - (o.fibs.filter (fun b => b)).length)

theorem fibsCounted_gets (h : c < 4) (o : DabObs) (s : State) :
    (fibsCounted c o s).get (Fld.DAB.FIB_CNT.OK c) = (s.get (Fld.DAB.FIB_CNT.OK c) + (o.fibs.filter (fun b => b)).length) % 65536 ∧
    (fibsCounted c o s).get (Fld.DAB.FIB_CNT.ERR c) = (s.get (Fld.DAB.FIB_CNT.ERR c) + (o.fibs.filter (fun b => !b)).length) % 65536 := by
  obtain ⟨-, -, -, -, h1, h2⟩ := fibCount_words c h
  have fits : (Fld.DAB.FIB_CNT.OK c).lo + (Fld.DAB.FIB_CNT.OK c).width ≤ 32 ∧ (Fld.DAB.FIB_CNT.ERR c).lo + (Fld.DAB.FIB_CNT.ERR c).width ≤ 32 :=
    ⟨Nat.le_of_ble_eq_true rfl, Nat.le_of_ble_eq_true rfl⟩
  unfold fibsCounted State.bump
  constructor
  · rw [get_set_apart h1, State.get_set_same _ _ _ fits.1]
    rfl
  · rw [State.get_set_same _ _ _ fits.2, get_set_apart h2, length_not]
    rfl

theorem fibsCounted_leaves (h : c < 4) (o : DabObs) (s : State) : Effect [] [(Fld.DAB.FIB_CNT.OK c).addr] s (fibsCounted c o s) := by
  obtain ⟨e2, -, he, -⟩ := fibCount_words c h
  have step {u : State} (f : Field) (k : Nat) (hf : f.addr = (Fld.DAB.FIB_CNT.OK c).addr) (hu : Effect [] [(Fld.DAB.FIB_CNT.OK c).addr] s u) :
      Effect [] [(Fld.DAB.FIB_CNT.OK c).addr] s (u.bump f k) := hu.set (by simp [hf]) (by rwa [hf]) _
  exact step _ _ e2 (step _ _ rfl (.refl _ _ _))

/-- What follows the counts of an engine's frame: its AFC, the window, a loss and the notices. -/
theorem engineRest_leaves (h : c < 4) (o : DabObs) (a t : State) (ha : t.links = a.links) :
    Effect [.plan, .dab, .mgr, .flt, .twc, .fab] (planWords ++ (lossWords ++ noticeRegs)) t
      (announce a (lossCounted c (moveWindow c o.target (post (.afc (dabLane c) o.afc) 0 t)))) ∧
    (announce a (lossCounted c (moveWindow c o.target (post (.afc (dabLane c) o.afc) 0 t)))).dabCtx c =
      { t.dabCtx c with window := if (o.target - (t.dabCtx c).window).natAbs < 8 then (t.dabCtx c).window else o.target } ∧
    asked t (announce a (lossCounted c (moveWindow c o.target (post (.afc (dabLane c) o.afc) 0 t)))) (.afc (dabLane c) o.afc) 0 := by
  have hpost : Effect [.plan] planWords t (post (.afc (dabLane c) o.afc) 0 t) := (Effect.refl _ _ t).post (by simp) (fun _ h => h)
  have hask : asked t (post (.afc (dabLane c) o.afc) 0 t) (.afc (dabLane c) o.afc) 0 := asked_post_second rfl rfl _ _
  have hx : (post (.afc (dabLane c) o.afc) 0 t).dabCtx c = t.dabCtx c := dabCtx_of_dab (hpost.frame.1 .dab (by decide)) c
  generalize post (.afc (dabLane c) o.afc) 0 t = u at hpost hask hx ⊢
  obtain ⟨hmove, hw⟩ := moveWindow_leaves h o.target u
  generalize moveWindow c o.target u = v at hmove hw ⊢
  have hloss := lossCounted_leaves c v
  have hl : (lossCounted c v).links = a.links :=
    ((hloss.frame.1 .links (by decide)).trans (hmove.frame.1 .links (by decide))).trans ((hpost.frame.1 .links (by decide)).trans ha)
  have hnote := announce_leaves hl
  have hrest : Effect [.mgr, .flt, .twc, .fab] (lossWords ++ noticeRegs) v (announce a (lossCounted c v)) :=
    (hloss.mono (by decide) (fun _ h => h)).trans (hnote.mono (by decide) (List.subset_append_right _ _))
  refine ⟨?_, ?_, ?_⟩
  · exact ((hpost.mono (by decide) (List.subset_append_left _ _)).trans
      (hmove.mono (by decide) (fun _ hx => List.mem_append_right _ (List.mem_append_right _ hx)))).trans
      (hrest.mono (by decide) (List.subset_append_right _ _))
  · rw [dabCtx_of_dab (hrest.frame.1 .dab (by decide)), hw, hx]
  · exact asked_of_frame (asked_of_frame hask (by decide) hmove.frame) (by decide) hrest.frame

theorem dabLane_engine (h : c < 4) : dabLane c = 14 + c := by rw [dabLane, if_pos h, Nat.add_comm]

theorem dabFrame_engine_completes (lane : Fin 20) (h : lane.val < 4) (hl : (s.lane (14 + lane.val)).live = true) (hs : (s.lane (14 + lane.val)).sync = true)
    (hp : o.packets = []) (hd : o.data = []) :
    completes (.dabFrame lane o) s (fun t =>
      t.get (Fld.DAB.FIB_CNT.OK lane.val) = (s.get (Fld.DAB.FIB_CNT.OK lane.val) + (o.fibs.filter (fun b => b)).length) % 65536 ∧
      t.get (Fld.DAB.FIB_CNT.ERR lane.val) = (s.get (Fld.DAB.FIB_CNT.ERR lane.val) + (o.fibs.filter (fun b => !b)).length) % 65536 ∧
      (t.dabCtx lane.val).nullAt = some s.epoch ∧ (t.dabCtx lane.val).fibs = (o.fibs.reverse ++ (s.dabCtx lane.val).fibs).take 120 ∧
      (t.dabCtx lane.val).erased = erasedSymbols o.start (dabGaps s lane.val) ∧
      (t.dabCtx lane.val).qual = some (wordOf [(0, 16, ofSigned 16 o.level), (16, 16, ofSigned 16 o.snr)],
        wordOf [(0, 16, ofSigned 16 o.fofs), (16, 16, ofSigned 16 (s.dabCtx lane.val).window)], wordOf [(0, 16, min 65535 o.cber), (16, 12, o.delay)]) ∧
      (t.dabCtx lane.val).window = (if (o.target - (s.dabCtx lane.val).window).natAbs < 8 then (s.dabCtx lane.val).window else o.target) ∧
      asked s t (.afc (14 + lane.val) o.afc) 0 ∧
      pageFrame ([.dab, .plan, .mgr, .flt] ++ noticeParts) ([0x000, 0x018, 0x040, 0x071] ++ noticePages) s t) := by
  have hexec : exec (.dabFrame lane o) s = commit s (announce s (dabFrame lane.val o s)) := rfl
  have hlt := lane.isLt
  generalize lane.val = c at *
  rw [← dabLane_engine h] at hl hs ⊢
  rw [dabFrame_engine h hl hs hp hd] at hexec
  obtain ⟨e2, hw, -, hpage, -⟩ := fibCount_words c h
  have hread := frameRead_shows s.epoch (dabGaps s c) o (s.dabCtx c).window (s.dabCtx c)
  have hset : Effect [.dab] [] s (s.setDab c (frameRead s.epoch (dabGaps s c) o (s.dabCtx c).window)) := (Effect.refl _ _ s).dab (by simp) _
  have hcount := fibsCounted_leaves h o (s.setDab c (frameRead s.epoch (dabGaps s c) o (s.dabCtx c).window))
  obtain ⟨hok, herr⟩ := fibsCounted_gets h o (s.setDab c (frameRead s.epoch (dabGaps s c) o (s.dabCtx c).window))
  have hctx : (fibsCounted c o (s.setDab c (frameRead s.epoch (dabGaps s c) o (s.dabCtx c).window))).dabCtx c =
      frameRead s.epoch (dabGaps s c) o (s.dabCtx c).window (s.dabCtx c) := dabCtx_setDab hlt _ _
  rw [show engineFrame c o s = moveWindow c o.target (post (.afc (dabLane c) o.afc) 0
    (fibsCounted c o (s.setDab c (frameRead s.epoch (dabGaps s c) o (s.dabCtx c).window)))) from rfl] at hexec
  have hepoch : (fibsCounted c o (s.setDab c (frameRead s.epoch (dabGaps s c) o (s.dabCtx c).window))).epoch = s.epoch := rfl
  have hlinks : (fibsCounted c o (s.setDab c (frameRead s.epoch (dabGaps s c) o (s.dabCtx c).window))).links = s.links := rfl
  have hbefore : Effect ([.dab, .plan, .mgr, .flt] ++ noticeParts) (wordsOf ([0x000, 0x018, 0x040, 0x071] ++ noticePages)) s
      (fibsCounted c o (s.setDab c (frameRead s.epoch (dabGaps s c) o (s.dabCtx c).window))) :=
    (hset.mono (by decide) (by simp)).trans (hcount.mono (by simp) (subset_wordsOf (fun a ha => List.mem_append_right _ (List.mem_singleton.mp ha ▸ hpage))))
  generalize fibsCounted c o (s.setDab c (frameRead s.epoch (dabGaps s c) o (s.dabCtx c).window)) = u at *
  obtain ⟨hrest, hwin, hask⟩ := engineRest_leaves h o s u hlinks
  generalize announce s (lossCounted c (moveWindow c o.target (post (.afc (dabLane c) o.afc) 0 u))) = t at *
  obtain ⟨r1, r2, r3, r4, r5, -⟩ := hread
  refine completes_of_commit hexec ⟨?_, ?_, ?_⟩
  · rw [finish_get, frame_get hrest.frame hw, hok]
    rfl
  · rw [finish_get, frame_get hrest.frame (by rwa [e2]), herr]
    rfl
  · have hfin : (finish s t).dabCtx c = t.dabCtx c := rfl
    rw [hfin, hwin, hctx]
    refine ⟨r1, r2, r3, r4, ?_, ?_, ?_⟩
    · rw [r5]
    · unfold asked at hask ⊢
      rw [hepoch] at hask
      exact hask
    · exact (hbefore.trans (hrest.mono (by decide) frameWords_pages)).finish.pageFrame

theorem dabLane_watch (h : 4 ≤ c) : dabLane c = 112 + c := by rw [dabLane, if_neg (by omega), Nat.add_comm]

theorem dabFrame_watch_completes (lane : Fin 20) (h : 4 ≤ lane.val) (hl : (s.lane (112 + lane.val)).live = true)
    (hs : (s.lane (112 + lane.val)).sync = true) :
    completes (.dabFrame lane o) s (fun t =>
      (t.dabCtx lane.val).nullAt = some s.epoch ∧ (t.dabCtx lane.val).fibs = (o.fibs.reverse ++ (s.dabCtx lane.val).fibs).take 120 ∧
      ((t.dabCtx lane.val).qual.map (fun q => q.1)) = some (wordOf [(0, 16, ofSigned 16 o.level), (16, 16, ofSigned 16 o.snr)]) ∧
      ((t.dabCtx lane.val).nullMisses < 4 → (t.dabCtx lane.val).fibMisses < 10 → frame [.dab, .twc, .fab] noticeRegs s t)) := by
  have hexec : exec (.dabFrame lane o) s = commit s (announce s (dabFrame lane.val o s)) := rfl
  have hlt := lane.isLt
  generalize lane.val = c at *
  rw [← dabLane_watch h] at hl hs
  rw [dabFrame_watch h hl hs] at hexec
  obtain ⟨r1, r2, -, r4, -, -⟩ := frameRead_shows s.epoch (dabGaps s c) o (s.dabCtx c).window (s.dabCtx c)
  have hset : Effect [.dab, .twc, .fab] noticeRegs s (s.setDab c (frameRead s.epoch (dabGaps s c) o (s.dabCtx c).window)) :=
    (Effect.refl _ _ s).dab (by simp) _
  have hx : (s.setDab c (frameRead s.epoch (dabGaps s c) o (s.dabCtx c).window)).dabCtx c =
      frameRead s.epoch (dabGaps s c) o (s.dabCtx c).window (s.dabCtx c) := dabCtx_setDab hlt _ _
  have hlinks : (s.setDab c (frameRead s.epoch (dabGaps s c) o (s.dabCtx c).window)).links = s.links := rfl
  generalize s.setDab c (frameRead s.epoch (dabGaps s c) o (s.dabCtx c).window) = u at *
  have hloss := lossCounted_leaves c u
  have hnote := announce_leaves (s := s) (t := lossCounted c u) ((hloss.frame.1 .links (by decide)).trans hlinks)
  have hctx : (finish s (announce s (lossCounted c u))).dabCtx c = frameRead s.epoch (dabGaps s c) o (s.dabCtx c).window (s.dabCtx c) :=
    (dabCtx_of_dab (hnote.frame.1 .dab (by decide)) c).trans ((dabCtx_of_dab (hloss.frame.1 .dab (by decide)) c).trans hx)
  refine completes_of_commit hexec ?_
  rw [hctx]
  refine ⟨r1, r2, by rw [r4]; rfl, fun h1 h2 => ?_⟩
  have hkeep : lossCounted c u = u := by
    unfold lossCounted
    rw [hx, if_neg (by omega)]
  rw [hkeep] at hnote ⊢
  exact (hset.trans (hnote.mono (by decide) (fun _ h => h))).finish.frame

/-! ## Frames that a sprout receives (R117, R122) -/

theorem indices_nodup {α : Type} {n : Nat} (v : Vector α n) (p : α → Bool) : (indices v p).Nodup := by
  have h : (v.toList.zipIdx.map Prod.snd).Nodup := by
    rw [List.zipIdx_map_snd]
    exact List.nodup_range'
  exact h.sublist (List.Sublist.map _ List.filter_sublist)

theorem sproutsOn_nodup (s : State) (k : SproutKind) (l : Nat) : (sproutsOn s k l).Nodup := (indices_nodup _ _).filter _

theorem sproutsOn_lt {k : SproutKind} {l i : Nat} (h : i ∈ sproutsOn s k l) : i < 32 := (mem_plantedSlots.mp (List.mem_filter.mp h).1).1

theorem sprout_of_mgr (h : t.mgr = s.mgr) (i : Nat) : t.sprout i = s.sprout i := by unfold State.sprout; rw [h]

/-- Each sprout of a list is changed once. -/
theorem sprout_forEach {l : List Nat} (f : Sprout → Sprout) (hn : l.Nodup) (s : State) {i : Nat} (hi : i < 32) :
    (forEach l (fun j u => u.setSprout j f) s).sprout i = if i ∈ l then f (s.sprout i) else s.sprout i := by
  unfold Machine.forEach
  induction l generalizing s with
  | nil => simp
  | cons j l ih =>
    rw [List.nodup_cons] at hn
    rw [List.foldl_cons, ih hn.2]
    by_cases e : i = j
    · subst e
      simp [hn.1, sprout_setSprout hi]
    · simp [e, sprout_setSprout_ne e]

theorem frame_forEach_setSprout (l : List Nat) (f : Sprout → Sprout) (s : State) : frame [.mgr] [] s (forEach l (fun j u => u.setSprout j f) s) :=
  frame_forEach (fun _ _ _ hu => frame_mgr (by simp) hu) (frame_refl _ _ s)

theorem lane_forEach_setSprout (l : List Nat) (f : Sprout → Sprout) (s : State) (k : Nat) :
    (forEach l (fun j u => u.setSprout j f) s).lane k = s.lane k := by
  unfold Machine.forEach
  induction l generalizing s with
  | nil => rfl
  | cons j l ih => exact ih _

/-- A sprout's counts of a frame (R117). -/
def sproutFrame (hid : Bool) (o : DabObs) (x : Sprout) : Sprout :=
  if hid then { x with passes := 0, fibs := [] }
  else { x with passes := if o.null then x.passes + 1 else 0, fibs := (x.fibs ++ o.fibs).take 4 }

theorem dabShadow_eq (c : Nat) (o : DabObs) (s : State) : dabShadow c o s =
    if (sproutsOn s .dab (dabLane c)).isEmpty || 4 ≤ c then
      forEach (sproutsOn s .dab (dabLane c)) (fun i u => u.setSprout i (sproutFrame (frameHidden o.start (dabGaps s c)) o)) s
    else post (.afc (dabLane c) o.afc) 0
      (forEach (sproutsOn s .dab (dabLane c)) (fun i u => u.setSprout i (sproutFrame (frameHidden o.start (dabGaps s c)) o)) s) := rfl

theorem sproutFrame_shows (hid : Bool) (o : DabObs) (x : Sprout) :
    (sproutFrame hid o x).passes = (if hid = true ∨ o.null = false then 0 else x.passes + 1) ∧
      (sproutFrame hid o x).fibs = if hid then [] else (x.fibs ++ o.fibs).take 4 := by
  unfold sproutFrame
  cases hid <;> cases o.null <;> exact ⟨rfl, rfl⟩

theorem dabFrame_shadow_completes (lane : Fin 20) (h : (s.lane (dabLane lane.val)).live = false ∨ (s.lane (dabLane lane.val)).sync = false) :
    completes (.dabFrame lane o) s (fun t =>
      (t.dabCtx lane.val).nullAt = some s.epoch ∧
      (∀ i ∈ sproutsOn s .dab (dabLane lane.val),
        (t.sprout i).passes = (if frameHidden o.start (dabGaps s lane.val) = true ∨ o.null = false then 0 else (s.sprout i).passes + 1) ∧
        (t.sprout i).fibs = (if frameHidden o.start (dabGaps s lane.val) then [] else ((s.sprout i).fibs ++ o.fibs).take 4)) ∧
      (lane.val < 4 → sproutsOn s .dab (dabLane lane.val) ≠ [] → asked s t (.afc (dabLane lane.val) o.afc) 0) ∧
      (sproutsOn s .dab (dabLane lane.val) = [] → frame [.dab] [] s t) ∧ frame [.dab, .mgr, .plan] planWords s t) := by
  have hexec : exec (.dabFrame lane o) s = commit s (announce s (dabFrame lane.val o s)) := rfl
  have hlt := lane.isLt
  generalize lane.val = c at *
  have hframe : dabFrame c o s = dabShadow c o (s.setDab c (fun x => { x with nullAt := some s.epoch })) := by
    unfold dabFrame
    dsimp only
    rw [if_pos (by rcases h with h | h <;> simp [h])]
  have hgaps : dabGaps (s.setDab c (fun x => { x with nullAt := some s.epoch })) c = dabGaps s c := by
    unfold dabGaps
    rw [dabCtx_setDab hlt]
    rfl
  have hon : sproutsOn (s.setDab c (fun x => { x with nullAt := some s.epoch })) .dab (dabLane c) = sproutsOn s .dab (dabLane c) := rfl
  rw [hframe, dabShadow_eq, hgaps, hon] at hexec
  have hset : frame [.dab] [] s (s.setDab c (fun x => { x with nullAt := some s.epoch })) := frame_dab (by simp) (frame_refl _ _ s)
  have hx : (s.setDab c (fun x => { x with nullAt := some s.epoch })).dabCtx c = { s.dabCtx c with nullAt := some s.epoch } := dabCtx_setDab hlt _ _
  have halarm (d : Nat) : ((s.setDab c (fun x => { x with nullAt := some s.epoch })).dabCtx d).alarm = (s.dabCtx d).alarm := by
    by_cases e : d = c
    · subst e
      rw [hx]
    · rw [dabCtx_setDab_ne e]
  have hsprout (i : Nat) : (s.setDab c (fun x => { x with nullAt := some s.epoch })).sprout i = s.sprout i := rfl
  have hlane (l : Nat) : (s.setDab c (fun x => { x with nullAt := some s.epoch })).lane l = s.lane l := rfl
  have hepoch : (s.setDab c (fun x => { x with nullAt := some s.epoch })).epoch = s.epoch := rfl
  have hrds (d : Nat) : (s.setDab c (fun x => { x with nullAt := some s.epoch })).rdsCtx d = s.rdsCtx d := rfl
  generalize s.setDab c (fun x => { x with nullAt := some s.epoch }) = u at *
  have hgot := frame_forEach_setSprout (sproutsOn s .dab (dabLane c)) (sproutFrame (frameHidden o.start (dabGaps s c)) o) u
  have hgotLane := lane_forEach_setSprout (sproutsOn s .dab (dabLane c)) (sproutFrame (frameHidden o.start (dabGaps s c)) o) u
  have hgotSprout : ∀ i ∈ sproutsOn s .dab (dabLane c), (forEach (sproutsOn s .dab (dabLane c))
      (fun i u => u.setSprout i (sproutFrame (frameHidden o.start (dabGaps s c)) o)) u).sprout i =
      sproutFrame (frameHidden o.start (dabGaps s c)) o (s.sprout i) := fun i hi => by
    rw [sprout_forEach _ (sproutsOn_nodup _ _ _) u (sproutsOn_lt hi), if_pos hi, hsprout]
  have hempty : sproutsOn s .dab (dabLane c) = [] → forEach (sproutsOn s .dab (dabLane c))
      (fun i u => u.setSprout i (sproutFrame (frameHidden o.start (dabGaps s c)) o)) u = u := fun e => by rw [e]; rfl
  generalize forEach (sproutsOn s .dab (dabLane c)) (fun i u => u.setSprout i (sproutFrame (frameHidden o.start (dabGaps s c)) o)) u = v at *
  have hpost : frame [.plan] planWords v (post (.afc (dabLane c) o.afc) 0 v) := frame_posted (by simp) (fun _ h => h) (frame_refl _ _ v)
  have hw : ∃ w, (if (sproutsOn s .dab (dabLane c)).isEmpty || 4 ≤ c then v else post (.afc (dabLane c) o.afc) 0 v) = w ∧
      frame [.plan] planWords v w ∧ (sproutsOn s .dab (dabLane c) = [] → w = v) ∧
      (c < 4 → sproutsOn s .dab (dabLane c) ≠ [] → asked v w (.afc (dabLane c) o.afc) 0) := by
    refine ⟨_, rfl, ?_, fun e => by rw [e]; rfl, fun h4 hne => ?_⟩
    · split
      · exact frame_refl _ _ v
      · exact hpost
    · rw [if_neg (by simp [hne, h4])]
      exact asked_post_second rfl rfl _ _
  obtain ⟨w, hwe, hwf, hwnone, hwask⟩ := hw
  rw [hwe] at hexec
  have hall : frame [.dab, .mgr, .plan] planWords s w :=
    frame_trans (frame_trans (frame_mono hset (by simp) (by simp)) (frame_mono hgot (by simp) (by simp))) (frame_mono hwf (by simp) (fun _ h => h))
  have hwmgr : w.mgr = v.mgr := hwf.1 .mgr (by decide)
  have hwdab : w.dab = u.dab := (hwf.1 .dab (by decide)).trans (hgot.1 .dab (by decide))
  have hsame : announce s w = w := announce_same (unannounced_of_frame hall (by simp) (by decide)
    (fun d => congrArg rdsShown (rdsCtx_of_rds (hall.1 .rds (by decide)) d))
    (fun d => (congrArg DabLane.alarm (dabCtx_of_dab hwdab d)).trans (halarm d))
    (fun l => congrArg laneShown ((lane_of_mgr hwmgr l).trans ((hgotLane l).trans (hlane l)))))
  rw [hsame] at hexec
  refine completes_of_commit hexec ⟨?_, fun i hi => ?_, fun h4 hne => ?_, fun e => ?_, frame_finish hall⟩
  · rw [show (finish s w).dabCtx c = w.dabCtx c from rfl, dabCtx_of_dab hwdab, hx]
  · rw [show (finish s w).sprout i = w.sprout i from rfl, sprout_of_mgr hwmgr, hgotSprout i hi]
    exact sproutFrame_shows _ _ _
  · have k := hwask h4 hne
    have he : v.epoch = s.epoch := (frame_epoch hgot (by decide)).trans hepoch
    unfold asked at k ⊢
    rwa [he] at k
  · rw [hwnone e, hempty e]
    exact frame_finish hset

/-- Settles O20: an engine's FIBs are counted (`fibsCounted_gets`), and what follows, its AFC, the FFT window, a loss and the notices, leaves its
readings (`engineRest_leaves`); a sprout's frame is counted on the sprout alone (`sprout_forEach`). -/
theorem dabFramesComplete : Obligations.DabFramesComplete := by
  unfold Obligations.DabFramesComplete
  refine ⟨?engine, ?watch, ?shadow⟩
  case engine => exact fun lane obs s h hl hs hp hd => dabFrame_engine_completes lane h hl hs hp hd
  case watch => exact fun lane obs s h hl hs => dabFrame_watch_completes lane h hl hs
  case shadow => exact fun lane obs s h => dabFrame_shadow_completes lane h

end Sys2Proof.Machine.Reception

namespace Sys2Proof.Machine.Reception

open Capture Clocking Survey

variable {ps qs : List Part} {as bs pages : List Nat} {s t u : State} {c n k block : Nat}

/-! ## Matching an engine's selections (R183, R202, R205) -/

/-- The words of a DAB engine that matching writes. -/
def engineWords (n : Nat) : List Nat := Reg.DAB.STAT n :: (List.range 6).map (Reg.DAB.SEL_STAT n)

/-- The registers and parts that matching may change. -/
def matchWords : List Nat := (List.range 4).flatMap (fun n => engineWords n ++ evWords (Ev.DAB.NO_DECODER n))

def matchParts : List Part := [.dab, .decoders, .slots, .twc, .fab]

theorem engineWords_offset : ∀ n < 4, ∀ a ∈ engineWords n, a % 4096 ≠ 16 := by decide

theorem engineWords_match (h : n < 4) : engineWords n ⊆ matchWords ∧ evWords (Ev.DAB.NO_DECODER n) ⊆ matchWords :=
  ⟨fun _ hx => List.mem_flatMap.mpr ⟨n, List.mem_range.mpr h, List.mem_append_left _ hx⟩,
    fun _ hx => List.mem_flatMap.mpr ⟨n, List.mem_range.mpr h, List.mem_append_right _ hx⟩⟩

theorem selStat_mem (h : k < 6) : Reg.DAB.SEL_STAT n k ∈ engineWords n :=
  List.mem_cons_of_mem _ (List.mem_map.mpr ⟨k, List.mem_range.mpr h, rfl⟩)

/-- When an ensemble was last heard on a context, and its AGE. -/
def heard (x : DabLane) : Option Nat × Nat := (x.seenAt, x.age)

theorem heard_setDab {f : DabLane → DabLane} (hf : ∀ x, heard (f x) = heard x) (s : State) (c d : Nat) :
    heard ((s.setDab c f).dabCtx d) = heard (s.dabCtx d) := by
  by_cases e : d = c
  · subst e
    by_cases hn : d < 20
    · rw [dabCtx_setDab hn, hf]
    · have hsame : upd s.dab d f = s.dab := by rw [upd, dif_neg hn]
      rw [dabCtx_of_dab (t := s.setDab d f) hsame]
  · rw [dabCtx_setDab_ne e]

/-- Matching touches the engines' selections alone. -/
structure Matched (s t : State) : Prop where
  effect : Effect matchParts matchWords s t
  heard : ∀ d, heard (t.dabCtx d) = heard (s.dabCtx d)

theorem Matched.refl (s : State) : Matched s s := ⟨.refl _ _ _, fun _ => rfl⟩

theorem Matched.of_effect (h : Matched s t) (k : Effect qs bs t u) (hq : qs ⊆ matchParts) (hd : Part.dab ∉ qs) (hb : bs ⊆ matchWords) : Matched s u :=
  ⟨h.effect.trans (k.mono hq hb), fun d => (congrArg Reception.heard (dabCtx_of_dab (k.frame.1 .dab hd) d)).trans (h.heard d)⟩

theorem Matched.setWord (h : Matched s t) (hn : n < 4) {a : Nat} (ha : a ∈ engineWords n) (w : Word) : Matched s (t.setWord a w) :=
  h.of_effect (qs := []) (bs := [a]) ((Effect.refl _ _ t).setWord (by simp) (engineWords_offset n hn a ha) w) (by simp) (by simp)
    (by simpa using (engineWords_match hn).1 ha)

theorem Matched.setSels (h : Matched s t) (f : DabLane → Vector DabSel 6) : Matched s (t.setDab n (fun x => { x with sels := f x })) :=
  ⟨h.effect.dab (by decide) _, fun d => (heard_setDab (f := fun x => { x with sels := f x }) (fun _ => rfl) t n d).trans (h.heard d)⟩

theorem Matched.stopBlocks (h : Matched s t) (v : DecUser) : Matched s (stopBlocks v t) := by
  refine h.of_effect (qs := [.slots]) (bs := []) ?_ (by decide) (by decide) (by simp)
  exact (Effect.refl _ _ t).forEach (fun _ _ _ hu => hu.slots (by simp) _)

/-- The user of a selection of DAB engine `n`. -/
abbrev dabUser (n k : Nat) : DecUser := { drm := false, engine := n, sel := k }

theorem Matched.showDecoder (h : Matched s t) (hn : n < 4) (hk : k < 6) (b1 b2 : Bool) (d : Nat) : Matched s (showDecoder (dabUser n k) b1 b2 d t) :=
  ((h.setWord hn (selStat_mem hk) _).setWord hn (selStat_mem hk) _).setWord hn (selStat_mem hk) _

theorem Matched.decoders (h : Matched s t) (x : Vector (Option DecUser) 8) (y : List DecUser) :
    Matched s { t with decoders := x, decWait := y } := by
  have hf : frame [.decoders] [] t { t with decoders := x, decWait := y } :=
    frame_decWait (t := { t with decoders := x }) (by simp) (frame_decoders (by simp) (frame_refl _ _ t))
  exact h.of_effect ⟨hf, keepsEvents_of_frame (by simp) (by simp) hf⟩ (by decide) (by decide) (by simp)

theorem Matched.releaseDecoder (h : Matched s t) (hn : n < 4) (hk : k < 6) : Matched s (releaseDecoder (dabUser n k) t) := by
  unfold Machine.releaseDecoder
  split
  · exact Matched.showDecoder ((h.stopBlocks _).decoders _ _) hn hk _ _ _
  · exact h

theorem Matched.requestDecoder (h : Matched s t) (hn : n < 4) (hk : k < 6) : Matched s (requestDecoder (dabUser n k) t) := by
  unfold Machine.requestDecoder
  split
  · exact h
  · split
    · exact Matched.showDecoder (h.decoders _ t.decWait) hn hk _ _ _
    · exact ((h.decoders t.decoders _).showDecoder hn hk _ _ _).of_effect ((Effect.refl evParts _ _).raise (fun _ h => h) (fun _ h => h)) (by decide)
        (by decide) (engineWords_match hn).2

theorem Matched.clearSel (h : Matched s t) (hn : n < 4) (hk : k < 6) : Matched s (clearSel n k t) :=
  ((h.releaseDecoder hn hk).setWord hn (selStat_mem hk) _).setSels _

theorem Matched.showSel {p : SelPlan} (h : Matched s t) (hn : n < 4) (hk : p.sel < 6) : Matched s (showSel n p t) := by
  have ite {q : Prop} [Decidable q] {x y : State} (hx : Matched s x) (hy : Matched s y) : Matched s (if q then x else y) := by
    split
    · exact hx
    · exact hy
  have h1 := ite (q := (p.comp.tmid == 0 && !p.limit && !p.dup && !notDecoded p.comp) = true) h (h.releaseDecoder hn hk)
  unfold Machine.showSel
  dsimp only
  exact ite (Matched.requestDecoder (ite (h1.setWord hn (selStat_mem hk) _) ((h1.setWord hn (selStat_mem hk) _).setSels _)) hn hk)
    (ite (h1.setWord hn (selStat_mem hk) _) ((h1.setWord hn (selStat_mem hk) _).setSels _))

theorem Matched.forEach {α : Type} {l : List α} {f : α → State → State} (h : Matched s t) (hf : ∀ x ∈ l, ∀ u, Matched s u → Matched s (f x u)) :
    Matched s (forEach l f t) := forEach_survives hf h

/-- A plan is for a selection that the engine has. -/
theorem planSelections_lt (s : State) (n : Nat) : ∀ p ∈ (planSelections s n).1, p.sel < 6 := by
  unfold planSelections
  refine List.foldlRecOn (motive := fun a : List SelPlan × List (Nat × Nat) => ∀ p ∈ a.1, p.sel < 6) _ _ (by simp) (fun a ha k hk => ?_)
  dsimp only
  split
  · exact ha
  · intro p hp
    rcases List.mem_append.mp hp with hp | hp
    · exact ha p hp
    · rw [List.mem_singleton.mp hp]
      exact List.mem_range.mp hk

theorem Matched.matchDab (h : Matched s t) (hn : n < 4) : Matched s (matchDab n t) := by
  have hstat : Reg.DAB.STAT n ∈ engineWords n := List.mem_cons_self
  unfold Machine.matchDab
  split
  · exact h
  · refine Matched.setWord (Matched.setWord (Matched.forEach (h.forEach (fun k hk u hu => ?_)) (fun p hp u hu => ?_)) hn hstat _) hn hstat _
    · exact hu.clearSel hn (List.mem_range.mp (List.mem_filter.mp hk).1)
    · exact hu.showSel hn (planSelections_lt t n p hp)

theorem Matched.matchBlock (h : Matched s t) (block : Nat) : Matched s (matchBlock block t) :=
  h.forEach (fun n hn u hu => by
    split
    · exact hu.matchDab (List.mem_range.mp hn)
    · exact hu)

end Sys2Proof.Machine.Reception

namespace Sys2Proof.Machine.Reception

open Capture Clocking Survey

variable {ps qs : List Part} {as bs pages : List Nat} {s t u : State} {c n k b block : Nat} {e : Ensemble}

/-! ## Records of the database (R200 to R203) -/

/-- A change of a record leaves the block it is of. -/
def OfBlock (f : Ensemble → Ensemble) : Prop := ∀ e, (f e).block = e.block

theorem ensembleOf_of_ens (h : t.ens = s.ens) (b : Nat) : ensembleOf t b = ensembleOf s b := by unfold ensembleOf; rw [h]

theorem block_of_ensembleOf (h : ensembleOf s b = some e) : e.block = b := by
  have : (e.block == b) = true := List.find?_some (p := fun e : Ensemble => e.block == b) h
  exact beq_iff_eq.mp this

theorem ensembleOf_withEnsemble {f : Ensemble → Ensemble} (hf : OfBlock f) (h : ensembleOf s b = some e) :
    ensembleOf (withEnsemble b f s) b = some (f e) := by
  have hany : s.ens.any (fun e => e.block == b) = true := by
    rw [List.any_eq_true]
    exact ⟨e, List.mem_of_find?_eq_some h, List.find?_some (p := fun e : Ensemble => e.block == b) h⟩
  have hp : ((fun e : Ensemble => e.block == b) ∘ fun e => if e.block = b then f e else e) = fun e => e.block == b := by
    funext x
    simp only [Function.comp_apply]
    split
    · rw [hf x]
    · rfl
  unfold withEnsemble ensembleOf
  rw [if_pos hany, List.find?_map, hp]
  unfold ensembleOf at h
  rw [h, Option.map_some, if_pos (block_of_ensembleOf (s := s) h)]

theorem ensembleOf_withEnsemble_new {f : Ensemble → Ensemble} (hf : OfBlock f) (h : ensembleOf s b = none) :
    ensembleOf (withEnsemble b f s) b = some (f { block := b, seenAt := s.epoch }) := by
  have hany : s.ens.any (fun e => e.block == b) = false := by
    rw [List.any_eq_false]
    exact fun x hx => List.find?_eq_none.mp h x hx
  unfold withEnsemble ensembleOf
  rw [hany, if_neg Bool.false_ne_true, List.find?_append]
  unfold ensembleOf at h
  rw [h, Option.none_or, List.find?_singleton, if_pos (by rw [hf]; exact beq_self_eq_true b)]

theorem isSome_withEnsemble {f : Ensemble → Ensemble} (hf : OfBlock f) (s : State) (b : Nat) : (ensembleOf (withEnsemble b f s) b).isSome = true := by
  cases h : ensembleOf s b with
  | none => rw [ensembleOf_withEnsemble_new hf h]; rfl
  | some e => rw [ensembleOf_withEnsemble hf h]; rfl

theorem frame_withEnsemble (f : Ensemble → Ensemble) (s : State) (b : Nat) : frame [.ens] [] s (withEnsemble b f s) := by
  unfold withEnsemble
  split <;> exact frame_ens (by simp) (frame_refl _ _ s)

theorem ensembleOf_delete (h : block ≠ b) (l : List Ensemble) :
    (l.filter (fun e => e.block != b)).find? (fun e => e.block == block) = l.find? (fun e => e.block == block) := by
  rw [List.find?_filter]
  congr 1
  funext x
  by_cases hx : x.block = block
  · simp [hx, h]
  · simp [hx]

/-- The configuration of a record: sub-channels and services in force and to come (R202). -/
def confOf (e : Ensemble) : List SubChannel × List (Nat × Bool × List Component) × List SubChannel × List DbService × Option Nat :=
  (e.subchs, e.services.map (fun y => (y.sid, y.data, y.comps)), e.nextSubchs, e.nextServices, e.changeCif)

/-- The parts and registers that pools and matching may change. -/
def dbParts : List Part := [.dab, .ens, .links, .decoders, .slots, .twc, .fab]

def dbWords : List Nat := wordsOf noticePages

theorem matchWords_db : matchWords ⊆ dbWords := subset_wordsOf (by decide +kernel)

theorem dbFull_words : [Fld.WFC.STAT.DB_FULL.addr] ⊆ dbWords ∧ evWords Ev.WFC.DB_FULL ⊆ dbWords :=
  ⟨subset_wordsOf (by decide), evWords_pages (by decide)⟩

/-- What making room and taking records leaves of a block and of the contexts (R203). -/
structure Recorded (block : Nat) (s t : State) : Prop where
  effect : Effect dbParts dbWords s t
  heard : ∀ d, heard (t.dabCtx d) = heard (s.dabCtx d)
  conf : (ensembleOf t block).map confOf = (ensembleOf s block).map confOf

theorem Recorded.refl (block : Nat) (s : State) : Recorded block s s := ⟨.refl _ _ _, fun _ => rfl, rfl⟩

theorem Recorded.matched (h : Recorded block s t) (k : Matched t u) : Recorded block s u :=
  ⟨h.effect.trans (k.effect.mono (by decide) matchWords_db), fun d => (k.heard d).trans (h.heard d),
    (congrArg (Option.map confOf) (ensembleOf_of_ens (k.effect.frame.1 .ens (by decide)) block)).trans h.conf⟩

/-- A change that leaves the contexts and the records. -/
theorem Recorded.step (h : Recorded block s t) (k : Effect qs bs t u) (hq : qs ⊆ dbParts) (hd : Part.dab ∉ qs) (he : Part.ens ∉ qs) (hb : bs ⊆ dbWords) :
    Recorded block s u :=
  ⟨h.effect.trans (k.mono hq hb), fun d => (congrArg Reception.heard (dabCtx_of_dab (k.frame.1 .dab hd) d)).trans (h.heard d),
    (congrArg (Option.map confOf) (ensembleOf_of_ens (k.frame.1 .ens he) block)).trans h.conf⟩

/-- `s` without the record of a block and the sets that it alone supplied (R203). -/
def withoutBlock (b : Nat) (s : State) : State :=
  { s with
    ens := s.ens.filter (fun e => e.block != b)
    links := (s.links.filter (fun x => x.suppliers.any (fun y => y != b))).map (fun x => { x with suppliers := x.suppliers.filter (fun y => y != b) }) }

theorem deleteEnsemble_eq (b : Nat) (s : State) : deleteEnsemble b s = matchBlock b (withoutBlock b s) := rfl

theorem withoutBlock_leaves (b : Nat) (s : State) : Effect [.ens, .links] [] s (withoutBlock b s) := by
  have hf : frame [.ens, .links] [] s (withoutBlock b s) :=
    frame_links (t := { s with ens := s.ens.filter (fun e => e.block != b) }) (by simp) (frame_ens (by simp) (frame_refl _ _ s))
  exact ⟨hf, keepsEvents_of_frame (by simp) (by simp) hf⟩

theorem Recorded.deleteEnsemble (h : Recorded block s t) (hb : block ≠ b) : Recorded block s (deleteEnsemble b t) := by
  have hw : Recorded block s (withoutBlock b t) := by
    refine ⟨h.effect.trans ((withoutBlock_leaves b t).mono (by decide) (by simp)), h.heard, ?_⟩
    exact (congrArg (Option.map confOf) (ensembleOf_delete hb t.ens)).trans h.conf
  rw [deleteEnsemble_eq]
  exact hw.matched ((Matched.refl _).matchBlock b)

/-- Making room deletes no record of the block itself (R203). -/
theorem Recorded.makeRoom (h : Recorded block s t) (full : State → Bool) (fuel : Nat) : Recorded block s (makeRoom block full fuel t) := by
  induction fuel generalizing t with
  | zero => exact h
  | succ fuel ih =>
    unfold Machine.makeRoom
    split
    · exact h
    · split
      · rename_i e he
        have hb : block ≠ e.block := by
          have := (List.mem_filter.mp (List.mem_of_find?_eq_some he)).2
          simp only [Bool.and_eq_true, bne_iff_ne] at this
          exact this.2.symm
        have hput := h.step (qs := []) (bs := [Fld.WFC.STAT.DB_FULL.addr]) ((Effect.refl _ _ t).put (f := Fld.WFC.STAT.DB_FULL) (by decide) (by decide) true)
          (by simp) (by simp) (by simp) dbFull_words.1
        exact ih ((hput.deleteEnsemble hb).step ((Effect.refl evParts (evWords Ev.WFC.DB_FULL) _).raise (fun _ h => h) (fun _ h => h)) (by decide)
          (by decide) (by decide) dbFull_words.2)
      · exact h

theorem Recorded.withEnsemble {f : Ensemble → Ensemble} (h : Recorded block s t) (hf : OfBlock f) (hc : ∀ e, confOf (f e) = confOf e)
    (hs : (ensembleOf t block).isSome = true) : Recorded block s (withEnsemble block f t) := by
  obtain ⟨e, he⟩ := Option.isSome_iff_exists.mp hs
  have hw := frame_withEnsemble f t block
  refine ⟨h.effect.part hw (by decide) (by simp), fun d => ?_, ?_⟩
  · rw [dabCtx_of_dab (hw.1 .dab (by simp))]
    exact h.heard d
  · rw [ensembleOf_withEnsemble hf he, ← h.conf, he, Option.map_some, Option.map_some, hc]

theorem Recorded.recordService (h : Recorded block s t) (sid : Nat) : Recorded block s (recordService block sid t) := by
  unfold Machine.recordService
  cases he : ensembleOf t block with
  | none => exact h
  | some e =>
    have hs : (ensembleOf t block).isSome = true := by rw [he]; rfl
    have hroom := (Recorded.refl block t).makeRoom servicesFull 38
    have hall := h.makeRoom servicesFull 38
    have hsome : (ensembleOf (Machine.makeRoom block servicesFull 38 t) block).isSome = true := by
      rw [← Option.isSome_map (f := confOf), hroom.conf, Option.isSome_map, hs]
    dsimp only
    split
    · exact h
    · split
      · exact h.withEnsemble (fun _ => rfl) (fun _ => rfl) hs
      · split
        · exact hall
        · refine hall.withEnsemble (fun _ => rfl) (fun x => ?_) hsome
          simp only [confOf, List.map_map]
          congr 2
          refine List.map_congr_left (fun y _ => ?_)
          simp only [Function.comp_apply]
          split <;> rfl

end Sys2Proof.Machine.Reception

namespace Sys2Proof.Machine.Reception

open Capture Clocking Survey

variable {ps qs : List Part} {as bs pages : List Nat} {s t u : State} {c n k b block : Nat} {e : Ensemble}

/-! ## The FIGs of a FIB (R200 to R204, R216) -/

/-- The parts and registers that a FIB may change. -/
def fibParts : List Part := [.dab, .ens, .links, .decoders, .pwr, .slots, .twc, .fab]

def fibWords : List Nat := wordsOf (0x000 :: noticePages)

theorem dbWords_fib : dbWords ⊆ fibWords := wordsOf_mono (by simp)

theorem noticeRegs_fib : noticeRegs ⊆ fibWords := fun _ hx => dbWords_fib (noticeRegs_pages hx)

/-- What a FIG leaves: when the contexts heard their ensembles, and that the block has a record. -/
structure FigTaken (block : Nat) (s t : State) : Prop where
  effect : Effect fibParts fibWords s t
  heard : ∀ d, heard (t.dabCtx d) = heard (s.dabCtx d)
  record : (ensembleOf s block).isSome = true → (ensembleOf t block).isSome = true

theorem FigTaken.refl (block : Nat) (s : State) : FigTaken block s s := ⟨.refl _ _ _, fun _ => rfl, fun h => h⟩

theorem FigTaken.recorded (h : FigTaken block s t) (k : Recorded block t u) : FigTaken block s u := by
  refine ⟨h.effect.trans (k.effect.mono (by decide) dbWords_fib), fun d => (k.heard d).trans (h.heard d), fun hs => ?_⟩
  rw [← Option.isSome_map (f := confOf), k.conf, Option.isSome_map]
  exact h.record hs

/-- A change that leaves the contexts and the records. -/
theorem FigTaken.step (h : FigTaken block s t) (k : Effect qs bs t u) (hq : qs ⊆ fibParts) (hd : Part.dab ∉ qs) (he : Part.ens ∉ qs) (hb : bs ⊆ fibWords) :
    FigTaken block s u :=
  ⟨h.effect.trans (k.mono hq hb), fun d => (congrArg Reception.heard (dabCtx_of_dab (k.frame.1 .dab hd) d)).trans (h.heard d),
    fun hs => (congrArg Option.isSome (ensembleOf_of_ens (k.frame.1 .ens he) block)).trans (h.record hs)⟩

theorem FigTaken.withEnsemble {f : Ensemble → Ensemble} (h : FigTaken block s t) (hf : OfBlock f) : FigTaken block s (withEnsemble block f t) := by
  have hw := frame_withEnsemble f t block
  refine ⟨h.effect.part hw (by decide) (by simp), fun d => ?_, fun _ => isSome_withEnsemble hf t block⟩
  rw [dabCtx_of_dab (hw.1 .dab (by simp))]
  exact h.heard d

theorem FigTaken.setDab {f : DabLane → DabLane} (h : FigTaken block s t) (hf : ∀ x, Reception.heard (f x) = Reception.heard x) (c : Nat) :
    FigTaken block s (t.setDab c f) :=
  ⟨h.effect.dab (by decide) _, fun d => (heard_setDab hf t c d).trans (h.heard d), h.record⟩

theorem FigTaken.alarmOff (h : FigTaken block s t) (c : Nat) : FigTaken block s (dabAlarmOff c t) :=
  h.setDab (f := fun x => { x with alarm := false, aswFrames := 0, aswHere := false }) (fun _ => rfl) c

/-- A DAB alarm that turns on is shown and wakes the host (R216, R217). -/
theorem FigTaken.alarmOn (h : FigTaken block s t) (hc : c < 20) (subch : Nat) : FigTaken block s (dabAlarmOn c subch t) := by
  have hset : FigTaken block s (t.setDab c (fun x => { x with alarm := true })) :=
    h.setDab (f := fun x => { x with alarm := true }) (fun _ => rfl) c
  have hv : ∀ g ∈ [Ev.WFC.ALARM, Ev.SYS.WAKE], evWords g ⊆ fibWords := fun g hg => evWords_pages (by
    simp only [List.mem_cons, List.not_mem_nil, or_false] at hg
    rcases hg with rfl | rfl <;> decide)
  have shown (x : Word) : Effect evParts fibWords (t.setDab c (fun x => { x with alarm := true }))
      (raise Ev.WFC.ALARM (if 4 ≤ c then markWatch .fic (c - 4)
        (((t.setDab c (fun x => { x with alarm := true })).setWord Reg.WFC.WAKE_SRC x).set Fld.WFC.WAKE_SUBCH.SUBCH subch)
        else ((t.setDab c (fun x => { x with alarm := true })).setWord Reg.WFC.WAKE_SRC x).set Fld.WFC.WAKE_SUBCH.SUBCH subch)) := by
    have hset : Effect evParts fibWords (t.setDab c (fun x => { x with alarm := true }))
        (((t.setDab c (fun x => { x with alarm := true })).setWord Reg.WFC.WAKE_SRC x).set Fld.WFC.WAKE_SUBCH.SUBCH subch) :=
      ((Effect.refl _ _ _).setWord (mem_wordsOf.mpr (by decide)) (by decide) _).set (mem_wordsOf.mpr (by decide)) (by decide) _
    exact Effect.raise (.ite (fun h4 => hset.markWatch (fun _ h => h) noticeRegs_fib (by simp only [tableSize]; omega)) (fun _ => hset)) (fun _ h => h)
      (hv _ (by simp))
  unfold dabAlarmOn
  dsimp only
  split
  · exact hset
  · have wide {x : Word} := (shown x).mono (ps := .pwr :: evParts) (as := fibWords) (by simp) (fun _ h => h)
    split
    · exact hset.step (wide.hostWake ⟨by simp, by simp⟩ ⟨mem_wordsOf.mpr (by decide), hv _ (by simp)⟩) (by decide) (by decide) (by decide) (fun _ h => h)
    · exact hset.step wide (by decide) (by decide) (by decide) (fun _ h => h)

theorem FigTaken.lateAlarm (h : FigTaken block s t) (hc : c < 20) : FigTaken block s (lateAlarm c t) := by
  unfold Machine.lateAlarm
  dsimp only
  split
  · exact h.alarmOn hc _
  · exact h

theorem FigTaken.alarmFig (h : FigTaken block s t) (hc : c < 20) (flags subch : Nat) : FigTaken block s (alarmFig c flags subch t) := by
  unfold Machine.alarmFig
  split
  · exact h.alarmOff c
  · have hset : FigTaken block s (t.setDab c (fun x => { x with
        aswFrames := if x.aswHere then x.aswFrames else x.aswFrames + 1, aswHere := true, aswEpoch := t.epoch, aswSubch := subch })) :=
      h.setDab (f := fun x => { x with
        aswFrames := if x.aswHere then x.aswFrames else x.aswFrames + 1, aswHere := true, aswEpoch := t.epoch, aswSubch := subch }) (fun _ => rfl) c
    dsimp only
    split
    · exact hset.alarmOn hc subch
    · exact hset

/-- A record with its services changed. -/
def withServices (g : List DbService → List DbService) (e : Ensemble) : Ensemble := { e with services := g e.services }

theorem FigTaken.takeService (h : FigTaken block s t) (sid : Nat) (data : Bool) (comps : List Component) :
    FigTaken block s (takeService block sid data comps t) :=
  (h.withEnsemble (f := withServices fun l => if l.any (fun x => x.sid == sid) then
      l.map (fun x => if x.sid = sid then { x with data := data, comps := comps, unseen := 0 } else x)
    else insertService { sid := sid, data := data, comps := comps, recorded := false } l) (fun _ => rfl)).recorded
    ((Recorded.refl block _).recordService sid)

theorem FigTaken.withService (h : FigTaken block s t) (sid : Nat) (f : DbService → DbService) : FigTaken block s (withService block sid f t) :=
  h.withEnsemble (f := withServices fun l => l.map (fun x : DbService => if x.sid = sid ∧ x.recorded then f x else x)) (fun _ => rfl)

theorem FigTaken.links (h : FigTaken block s t) (l : List LinkSet) : FigTaken block s { t with links := l } := by
  have hf : frame [.links] [] t { t with links := l } := frame_links (by simp) (frame_refl _ _ t)
  exact h.step ⟨hf, keepsEvents_of_frame (by simp) (by simp) hf⟩ (by decide) (by decide) (by decide) (by simp)

theorem FigTaken.takeLinkage (h : FigTaken block s t) (lsn : Nat) (hard ils : Bool) (key : Nat) (active cei : Bool) (members : List LinkMember) :
    FigTaken block s (takeLinkage block lsn hard ils key active cei members t) := by
  have hroom := h.recorded ((Recorded.refl block t).makeRoom linksFull 38)
  unfold Machine.takeLinkage
  dsimp only
  split
  · exact h.links _
  · split
    · exact hroom
    · exact hroom.links _

theorem FigTaken.collectNext {f : Ensemble → Ensemble} (h : FigTaken block s t) (hf : OfBlock f) : FigTaken block s (collectNext block f t) :=
  h.withEnsemble (f := fun e => if e.changeCif.isSome then f e else e) (fun e => by
    beta_reduce
    split
    · exact hf e
    · rfl)

theorem FigTaken.takeFig (h : FigTaken block s t) (hc : c < 20) (null : Nat) (f : Fig) : FigTaken block s (takeFig c block null f t) := by
  cases f with
  | ensemble eid al flags cif change =>
    have hw := h.withEnsemble (f := fun e => e.announce eid al flags cif change) (fun _ => rfl)
    unfold Machine.takeFig
    dsimp only
    split
    · exact hw.lateAlarm hc
    · split
      · exact hw.alarmOff c
      · exact hw
  | subch next x => cases next with
    | true => exact h.collectNext (fun _ => rfl)
    | false => exact h.withEnsemble (fun _ => rfl)
  | service next sid data comps => cases next with
    | true => exact h.collectNext (fun _ => rfl)
    | false => exact h.takeService sid data comps
  | linkage lsn hard ils key active cei members => exact h.takeLinkage lsn hard ils key active cei members
  | time mjd hour minute long => cases long <;> exact h.withEnsemble (fun _ => rfl)
  | asw cluster flags subch =>
    have hw := h.withEnsemble (f := fun e => { e with asw := flags }) (fun _ => rfl)
    unfold Machine.takeFig
    dsimp only
    split
    · exact hw.alarmFig hc flags subch
    · exact hw
  | config _ _ | userApps _ _ _ | packetFec _ _ | compLabel _ _ _ _ _ | country _ _ | ensLabel _ _ _ => exact h.withEnsemble (fun _ => rfl)
  | pty _ _ | asu _ _ | svcLabel _ _ _ _ => exact h.withService _ _
  | other => exact h

end Sys2Proof.Machine.Reception

namespace Sys2Proof.Machine.Reception

open Capture Clocking Survey

variable {ps qs : List Part} {as bs pages : List Nat} {s t u : State} {c n k b block : Nat} {e : Ensemble}

/-! ## FIBs of a lane in synchronisation (R200, R204) -/

/-- Announcing touches the identity book besides the notice words. -/
theorem announce_touches (s t : State) : Effect (.slots :: noticeParts) noticeRegs t (announce s t) :=
  (Effect.refl _ _ t).announced (by decide) (fun _ h => h) (.inr (fun _ h => h))

theorem announce_ens (s t : State) (b : Nat) : ensembleOf (announce s t) b = ensembleOf t b :=
  ensembleOf_of_ens ((announce_touches s t).frame.1 .ens (by decide)) b

theorem announce_dab (s t : State) (d : Nat) : (announce s t).dabCtx d = t.dabCtx d :=
  dabCtx_of_dab ((announce_touches s t).frame.1 .dab (by decide)) d

theorem ensembleOf_finish (s t : State) (b : Nat) : ensembleOf (finish s t) b = ensembleOf t b := rfl

/-- The record of an ensemble that is heard (R203). -/
def heardNow (epoch : Nat) (e : Ensemble) : Ensemble := { e with seenAt := epoch, age := 0 }

/-- Context `c` and its block's record hear their ensemble. -/
def hear (c block : Nat) (s : State) : State :=
  withEnsemble block (heardNow s.epoch) (s.setDab c (fun x => { x with seenAt := some s.epoch, age := 0 }))

theorem takeFib_eq (c null : Nat) (figs : List Fig) (s : State) : takeFib c null figs s =
    matchBlock (laneBlock s (dabLane c)) (forEach figs (fun f u => takeFig c (laneBlock s (dabLane c)) null f u) (hear c (laneBlock s (dabLane c)) s)) := rfl

theorem hear_leaves (c block : Nat) (s : State) : Effect [.dab, .ens] [] s (hear c block s) :=
  ((Effect.refl _ _ s).dab (by simp) _).part (frame_withEnsemble _ _ _) (by simp) (by simp)

theorem heard_hear (hc : c < 20) : heard ((hear c block s).dabCtx c) = (some s.epoch, 0) := by
  unfold hear
  rw [dabCtx_of_dab ((frame_withEnsemble _ _ _).1 .dab (by simp)), dabCtx_setDab hc]
  rfl

theorem takeFib_takes (hc : c < 20) (null : Nat) (figs : List Fig) (s : State) : Effect fibParts fibWords s (takeFib c null figs s) ∧
    heard ((takeFib c null figs s).dabCtx c) = (some s.epoch, 0) ∧ (ensembleOf (takeFib c null figs s) (laneBlock s (dabLane c))).isSome = true := by
  rw [takeFib_eq]
  generalize laneBlock s (dabLane c) = block
  have hfigs : FigTaken block (hear c block s) (matchBlock block (forEach figs (fun f u => takeFig c block null f u) (hear c block s))) :=
    (forEach_survives (P := FigTaken block (hear c block s)) (fun f _ _ hu => hu.takeFig hc null f) (.refl _ _)).recorded
      ((Recorded.refl _ _).matched ((Matched.refl _).matchBlock block))
  refine ⟨((hear_leaves c block s).mono (by decide) (by simp)).trans hfigs.effect, (hfigs.heard c).trans (heard_hear hc), hfigs.record ?_⟩
  exact isSome_withEnsemble (f := heardNow s.epoch) (fun _ => rfl) _ block

theorem fibReceived_sync {figs : List Fig} (hb : laneBlock s (dabLane c) ≠ 63) (hl : (s.lane (dabLane c)).live = true)
    (hs : (s.lane (dabLane c)).sync = true) : fibReceived c figs s = takeFib c ((s.dabCtx c).nullAt.getD s.epoch) figs s := by
  unfold fibReceived
  rw [if_neg hb, if_pos (by rw [hl, hs]; rfl)]

theorem fibReceived_shadow {figs : List Fig} (hb : laneBlock s (dabLane c) ≠ 63) (h : (s.lane (dabLane c)).live = false ∨ (s.lane (dabLane c)).sync = false)
    (hd : dabSprout s (dabLane c) = true) : fibReceived c figs s =
      s.setDab c (fun x => { x with shadow := x.shadow ++ [(s.epoch, (s.dabCtx c).nullAt.getD s.epoch, figs)] }) := by
  unfold fibReceived
  rw [if_neg hb, if_neg (by rcases h with h | h <;> simp [h]), if_pos hd]

theorem fibReceived_completes (lane : Fin 20) (figs : List Fig) (hb : laneBlock s (dabLane lane.val) ≠ 63) (hl : (s.lane (dabLane lane.val)).live = true)
    (hs : (s.lane (dabLane lane.val)).sync = true) :
    completes (.fibReceived lane figs) s (fun t =>
      (t.dabCtx lane.val).seenAt = some s.epoch ∧ (t.dabCtx lane.val).age = 0 ∧ (ensembleOf t (laneBlock s (dabLane lane.val))).isSome = true ∧
      pageFrame ([.dab, .ens, .links, .decoders, .pwr, .slots] ++ noticeParts) (0x000 :: noticePages) s t) := by
  have hexec : exec (.fibReceived lane figs) s = commit s (announce s (fibReceived lane.val figs s)) := rfl
  rw [fibReceived_sync hb hl hs] at hexec
  obtain ⟨heff, hheard, hrec⟩ := takeFib_takes lane.isLt ((s.dabCtx lane.val).nullAt.getD s.epoch) figs s
  generalize takeFib lane.val ((s.dabCtx lane.val).nullAt.getD s.epoch) figs s = u at *
  have hctx : heard ((finish s (announce s u)).dabCtx lane.val) = (some s.epoch, 0) := (congrArg heard (announce_dab s u _)).trans hheard
  refine completes_of_commit hexec ⟨congrArg Prod.fst hctx, congrArg Prod.snd hctx, ?_, ?_⟩
  · rw [ensembleOf_finish, announce_ens]
    exact hrec
  · have hall : Effect ([.dab, .ens, .links, .decoders, .pwr, .slots] ++ noticeParts) fibWords s (announce s u) :=
      (heff.mono (by decide) (fun _ h => h)).trans ((announce_touches s u).mono (by decide) noticeRegs_fib)
    exact hall.finish.pageFrame (pages := 0x000 :: noticePages)

theorem countryReceived_completes (lane : Fin 20) (ecc : Nat) (lto : Int) (hl : (s.lane (dabLane lane.val)).live = true)
    (hs : (s.lane (dabLane lane.val)).sync = true) (hb : laneBlock s (dabLane lane.val) ≠ 63) (he : ensembleOf s (laneBlock s (dabLane lane.val)) = some e) :
    completes (.fibReceived lane [.country ecc lto]) s (fun t =>
      ensembleOf t (laneBlock s (dabLane lane.val)) = some { e with seenAt := s.epoch, age := 0, ecc := ecc, lto := ofSigned 8 lto }) := by
  have hexec : exec (.fibReceived lane [.country ecc lto]) s = commit s (announce s (fibReceived lane.val [.country ecc lto] s)) := rfl
  rw [fibReceived_sync hb hl hs, takeFib_eq] at hexec
  generalize laneBlock s (dabLane lane.val) = block at *
  refine completes_of_commit hexec ?_
  have hear : ensembleOf (hear lane.val block s) block = some (heardNow s.epoch e) := ensembleOf_withEnsemble (f := heardNow s.epoch) (fun _ => rfl) he
  have country : ensembleOf (withEnsemble block (fun e => { e with ecc := ecc, lto := ofSigned 8 lto }) (Reception.hear lane.val block s)) block =
      some { heardNow s.epoch e with ecc := ecc, lto := ofSigned 8 lto } := ensembleOf_withEnsemble (fun _ => rfl) hear
  rw [ensembleOf_finish, announce_ens]
  refine Eq.trans ?_ country
  exact ensembleOf_of_ens (((Matched.refl _).matchBlock block).effect.frame.1 .ens (by decide)) block

/-- A FIB that a sprout gathers waits in its shadow (R115). -/
theorem shadowFib_completes (lane : Fin 20) (figs : List Fig) (hb : laneBlock s (dabLane lane.val) ≠ 63)
    (h : (s.lane (dabLane lane.val)).live = false ∨ (s.lane (dabLane lane.val)).sync = false) (hd : dabSprout s (dabLane lane.val) = true) :
    completes (.fibReceived lane figs) s (fun t =>
      (t.dabCtx lane.val).shadow = (s.dabCtx lane.val).shadow ++ [(s.epoch, (s.dabCtx lane.val).nullAt.getD s.epoch, figs)] ∧ frame [.dab] [] s t) := by
  have hexec : exec (.fibReceived lane figs) s = commit s (announce s (fibReceived lane.val figs s)) := rfl
  rw [fibReceived_shadow hb h hd] at hexec
  have hset : frame [.dab] [] s (s.setDab lane.val (fun x => { x with shadow := x.shadow ++ [(s.epoch, (s.dabCtx lane.val).nullAt.getD s.epoch, figs)] })) :=
    frame_dab (by simp) (frame_refl _ _ s)
  have hx := dabCtx_setDab lane.isLt s (fun x => { x with shadow := x.shadow ++ [(s.epoch, (s.dabCtx lane.val).nullAt.getD s.epoch, figs)] })
  have halarm (d : Nat) : ((s.setDab lane.val (fun x =>
      { x with shadow := x.shadow ++ [(s.epoch, (s.dabCtx lane.val).nullAt.getD s.epoch, figs)] })).dabCtx d).alarm = (s.dabCtx d).alarm := by
    by_cases e : d = lane.val
    · rw [e, hx]
    · rw [dabCtx_setDab_ne e]
  rw [announce_same (unannounced_of_frame hset (by simp) (by simp) (fun _ => rfl) halarm (fun _ => rfl))] at hexec
  exact completes_of_commit hexec ⟨congrArg DabLane.shadow hx, frame_finish hset⟩

/-! ## Reconfiguration (R202) -/

theorem confOf_changed (e : Ensemble) : confOf e.changed =
    (if e.changeFlags.testBit 0 then e.nextSubchs else e.subchs,
      (if e.changeFlags.testBit 1 then e.nextServices else e.services).map (fun y => (y.sid, y.data, y.comps)), [], [], none) := by
  have hserv : (e.changed.services).map (fun y => (y.sid, y.data, y.comps)) =
      (if e.changeFlags.testBit 1 then e.nextServices else e.services).map (fun y => (y.sid, y.data, y.comps)) := by
    unfold Ensemble.changed
    dsimp only
    split
    · rw [List.map_map]
      refine List.map_congr_left (fun x _ => ?_)
      simp only [Function.comp_apply]
      split
      · rename_i y hy
        have hid : (y.sid == x.sid) = true := List.find?_some (p := fun y : DbService => y.sid == x.sid) hy
        rw [beq_iff_eq.mp hid]
      · rfl
    · rfl
  unfold confOf
  rw [hserv]
  rfl

theorem Matched.changeSel (h : Matched s t) (hn : n < 4) (hk : k < 6) (old : Option (Component × SubChannel)) : Matched s (changeSel n k old t) := by
  unfold Machine.changeSel
  split
  · split
    · exact h.clearSel hn hk
    · split
      · exact h.setSels _
      · exact h
  · exact h

/-- The selections of engine `n` follow the configuration of `s`. -/
def selsChange (n : Nat) (s u : State) : State := forEach (List.range 6) (fun k v => changeSel n k (selComponent s n k) v) u

/-- Engine `n`'s share in the reconfiguration of its block. -/
def engineReconfig (block : Nat) (s : State) (n : Nat) (u : State) : State :=
  if laneBlock u (14 + n) == block && (u.lane (14 + n)).live then dabChange (Fld.DAB.CHG.RECONFIG n) n (selsChange n s u) else u

theorem Matched.selsChange (h : Matched s t) (hn : n < 4) (a : State) : Matched s (selsChange n a t) :=
  h.forEach (fun _ hk _ hu => hu.changeSel hn (List.mem_range.mp hk) _)

theorem dabChange_leaves (hn : n < 4) (s : State) : Effect evParts noticeRegs s (dabChange (Fld.DAB.CHG.RECONFIG n) n s) := by
  obtain ⟨h1, h2, h3, -⟩ := dabNotices n hn
  exact (Effect.refl _ _ s).setChange (f := Fld.DAB.CHG.RECONFIG n) (fun _ h => h) h1 h2 h3

theorem Recorded.engineReconfig (h : Recorded block s t) (hn : n < 4) (b : Nat) (a : State) : Recorded block s (engineReconfig b a n t) := by
  unfold Reception.engineReconfig
  split
  · exact (h.matched ((Matched.refl t).selsChange hn a)).step (dabChange_leaves hn _) (by decide) (by decide) (by decide) noticeRegs_pages
  · exact h

theorem reconfigure_eq (he : ensembleOf s block = some e) (hc : e.changeCif.isSome = true) : reconfigure block s =
    matchBlock block (forEach (List.range 4) (engineReconfig block s)
      (forEach (e.changed.services.filter (fun x => !x.recorded)) (fun x u => recordService block x.sid u) (withEnsemble block Ensemble.changed s))) := by
  unfold reconfigure
  rw [he]
  dsimp only
  rw [if_neg (by rw [Option.isNone_eq_false_iff.mpr hc]; decide)]
  rfl

/-- After the configuration applies, the block's record and the contexts stand as it left them. -/
theorem reconfigure_recorded (he : ensembleOf s block = some e) (hc : e.changeCif.isSome = true) :
    Recorded block (withEnsemble block Ensemble.changed s) (reconfigure block s) := by
  rw [reconfigure_eq he hc]
  refine Recorded.matched ?_ ((Matched.refl _).matchBlock block)
  exact forEach_survives (P := Recorded block _) (fun n hn _ hu => hu.engineReconfig (List.mem_range.mp hn) block s)
    (forEach_survives (P := Recorded block _) (fun x _ _ hu => hu.recordService x.sid) (.refl _ _))

theorem reconfig_bit : ∀ n < 4, (Fld.DAB.CHG.RECONFIG n).addr ∉ matchWords ∧ (Fld.DAB.CHG.RECONFIG n).addr % 4096 ≠ 16 ∧
    (Fld.DAB.CHG.RECONFIG n).addr ≠ Reg.TWC.SKIP_CNT ∧ (Fld.DAB.CHG.RECONFIG n).addr ≠ Reg.PIB.STAT := by
  decide +kernel

theorem engineReconfig_mgr (hn : n < 4) (block : Nat) (s u : State) : (engineReconfig block s n u).mgr = u.mgr := by
  unfold engineReconfig
  split
  · exact ((dabChange_leaves hn _).frame.1 .mgr (by decide)).trans (((Matched.refl u).selsChange hn s).effect.frame.1 .mgr (by decide))
  · rfl

theorem Matched.flag {f : Field} (h : Matched s t) (hf : f.addr ∉ matchWords) : t.flag f = s.flag f := frame_flag h.effect.frame hf

theorem survives_reconfig {a b : State} (hn : n < 4) : Survives a b (fun u => u.flag (Fld.DAB.CHG.RECONFIG n) = true) := by
  obtain ⟨-, h1, h2, h3⟩ := reconfig_bit n hn
  exact survives_flag ⟨rfl, Nat.le_of_ble_eq_true rfl⟩ h1 h2 h3

/-- An engine's share keeps a RECONFIG bit that is set. -/
theorem engineReconfig_keeps {m : Nat} (hn : n < 4) (hm : m < 4) (h : u.flag (Fld.DAB.CHG.RECONFIG n) = true) :
    (engineReconfig block s m u).flag (Fld.DAB.CHG.RECONFIG n) = true := by
  unfold engineReconfig
  split
  · obtain ⟨-, -, hnotice, -⟩ := dabNotices m hm
    refine (survives_reconfig (a := s) (b := s) hn).raiseIf hnotice _ ?_
    exact flag_put_true ⟨rfl, Nat.le_of_ble_eq_true rfl⟩ ⟨rfl, Nat.le_of_ble_eq_true rfl⟩
      ((((Matched.refl u).selsChange hm s).flag (reconfig_bit n hn).1).trans h)
  · exact h

theorem engineReconfig_sets (hn : n < 4) (h : laneBlock u (14 + n) = block) (hl : (u.lane (14 + n)).live = true) :
    (engineReconfig block s n u).flag (Fld.DAB.CHG.RECONFIG n) = true := by
  unfold engineReconfig
  rw [if_pos (by rw [hl, h, beq_self_eq_true]; rfl)]
  obtain ⟨-, -, hnotice, -⟩ := dabNotices n hn
  refine (survives_reconfig (a := s) (b := s) hn).raiseIf hnotice _ ?_
  exact State.flag_put_same _ (Fld.DAB.CHG.RECONFIG n) true (Nat.le_of_ble_eq_true rfl) Nat.one_pos

/-- RECONFIG is set at every engine that is live on the block (R202). -/
theorem reconfigure_sets (he : ensembleOf s block = some e) (hc : e.changeCif.isSome = true) (hn : n < 4) (hb : laneBlock s (14 + n) = block)
    (hl : (s.lane (14 + n)).live = true) : (reconfigure block s).flag (Fld.DAB.CHG.RECONFIG n) = true := by
  rw [reconfigure_eq he hc]
  refine (((Matched.refl _).matchBlock block).flag (reconfig_bit n hn).1).trans ?_
  have hpool : (forEach (e.changed.services.filter (fun x => !x.recorded)) (fun x u => recordService block x.sid u)
      (withEnsemble block Ensemble.changed s)).mgr = s.mgr :=
    ((forEach_survives (P := Recorded block (withEnsemble block Ensemble.changed s)) (fun x _ _ hu => hu.recordService x.sid)
      (.refl _ _)).effect.frame.1 .mgr (by decide)).trans ((frame_withEnsemble _ _ _).1 .mgr (by simp))
  have hmgr := forEach_survives (P := fun v => v.mgr = s.mgr) (l := List.range 4)
    (fun m hm v hv => (engineReconfig_mgr (List.mem_range.mp hm) block s v).trans hv) hpool
  refine forEach_reaches (P := fun v => v.mgr = s.mgr → v.flag (Fld.DAB.CHG.RECONFIG n) = true) (List.mem_range.mpr hn) (fun v hv => ?_)
    (fun m hm v hv hm' => ?_) _ hmgr
  · have hv' : v.mgr = s.mgr := (engineReconfig_mgr hn block s v).symm.trans hv
    refine engineReconfig_sets hn ?_ ?_
    · rw [← hb]
      unfold laneBlock State.laneInUse
      rw [lane_of_mgr hv']
    · rw [lane_of_mgr hv', hl]
  · exact engineReconfig_keeps hn (List.mem_range.mp hm) (hv ((engineReconfig_mgr (List.mem_range.mp hm) block s v).symm.trans hm'))

end Sys2Proof.Machine.Reception

namespace Sys2Proof.Machine.Reception

open Capture Clocking Survey

variable {s t u : State} {c n b block : Nat} {e : Ensemble}

theorem dabReconfig_completes (he : ensembleOf s block = some e) (hc : e.changeCif.isSome = true) :
    completes (.dabReconfig block) s (fun t =>
      ((ensembleOf t block).map (fun x => (x.subchs, x.services.map (fun y => (y.sid, y.data, y.comps)), x.nextSubchs, x.nextServices, x.changeCif))) =
        some (if e.changeFlags.testBit 0 then e.nextSubchs else e.subchs,
          (if e.changeFlags.testBit 1 then e.nextServices else e.services).map (fun y => (y.sid, y.data, y.comps)), [], [], none) ∧
      (∀ (n : Nat), n < 4 → laneBlock s (14 + n) = block → (s.lane (14 + n)).live = true → t.flag (Fld.DAB.CHG.RECONFIG n) = true) ∧
      pageFrame ([.ens, .links, .dab, .decoders, .slots] ++ noticeParts) noticePages s t) := by
  have hexec : exec (.dabReconfig block) s = commit s (announce s (reconfigure block s)) := rfl
  have hrec := reconfigure_recorded he hc
  have hflag := fun n hn hb hl => reconfigure_sets (n := n) he hc hn hb hl
  generalize reconfigure block s = u at *
  have hnew : (ensembleOf u block).map confOf = some (confOf e.changed) := by
    rw [hrec.conf, ensembleOf_withEnsemble (f := Ensemble.changed) (fun _ => rfl) he]
    rfl
  refine completes_of_commit hexec ⟨?_, fun n hn hb hl => ?_, ?_⟩
  · rw [ensembleOf_finish, announce_ens, ← confOf_changed e]
    exact hnew
  · rw [finish_flag]
    exact (survives_reconfig hn).announced (P := fun v => v.flag (Fld.DAB.CHG.RECONFIG n) = true) (hflag n hn hb hl)
  · have hall : Effect ([.ens, .links, .dab, .decoders, .slots] ++ noticeParts) dbWords s (announce s u) :=
      ((((Effect.refl [.ens] [] s).part (frame_withEnsemble Ensemble.changed s block) (by simp) (by simp)).mono (by decide) (by simp)).trans
        (hrec.effect.mono (by decide) (fun _ h => h))).trans ((announce_touches s u).mono (by decide) noticeRegs_pages)
    exact hall.finish.pageFrame (pages := noticePages)

/-! ## Records that lapse (R203, R204) -/

/-- A record without a service. -/
def dropService (sid : Nat) (e : Ensemble) : Ensemble := { e with services := e.services.filter (fun x => x.sid != sid) }

theorem serviceLapse_completes {sid : Nat} (he : ensembleOf s block = some e)
    (hl : e.services.any (fun x => x.sid == sid && decide (30000 ≤ x.unseen)) = true) :
    completes (.serviceLapse block sid) s (fun t =>
      ensembleOf t block = some { e with services := e.services.filter (fun x => x.sid != sid) } ∧
      pageFrame ([.ens, .dab, .decoders, .slots] ++ noticeParts) noticePages s t) := by
  have hexec : exec (.serviceLapse block sid) s = commit s (announce s (matchBlock block (withEnsemble block (dropService sid) s))) := by
    show execServiceLapse block sid s = _
    unfold execServiceLapse
    rw [he]
    dsimp only
    rw [if_pos hl]
    rfl
  have hdrop := ensembleOf_withEnsemble (f := dropService sid) (fun _ => rfl) he
  have hpart := (Effect.refl [.ens] [] s).part (frame_withEnsemble (dropService sid) s block) (by simp) (by simp)
  generalize withEnsemble block (dropService sid) s = v at *
  have hmatch := ((Matched.refl v).matchBlock block).effect
  generalize matchBlock block v = u at *
  refine completes_of_commit hexec ⟨?_, ?_⟩
  · rw [ensembleOf_finish, announce_ens, ensembleOf_of_ens (hmatch.frame.1 .ens (by decide))]
    exact hdrop
  · have hall : Effect ([.ens, .dab, .decoders, .slots] ++ noticeParts) dbWords s (announce s u) :=
      ((hpart.mono (by decide) (by simp)).trans (hmatch.mono (by decide) matchWords_db)).trans
        ((announce_touches s u).mono (by decide) noticeRegs_pages)
    exact hall.finish.pageFrame (pages := noticePages)

theorem ensembleDelete_completes (he : ensembleOf s block = some e) (hd : s.get Fld.WFC.DB_HOLD.SECONDS ≤ (s.epoch - e.seenAt) / 1000) :
    completes (.ensembleDelete block) s (fun t =>
      t.ens = s.ens.filter (fun x => x.block != block) ∧
      t.links = (s.links.filter (fun x => x.suppliers.any (fun b => b != block))).map (fun x => { x with suppliers := x.suppliers.filter (fun b => b != block) }) ∧
      pageFrame ([.ens, .links, .dab, .decoders, .slots] ++ noticeParts) noticePages s t) := by
  have hexec : exec (.ensembleDelete block) s = commit s (announce s (matchBlock block (withoutBlock block s))) := by
    show execEnsembleDelete block s = _
    unfold execEnsembleDelete
    rw [he]
    dsimp only
    rw [if_pos hd]
    rfl
  have hmatch := ((Matched.refl (withoutBlock block s)).matchBlock block).effect
  generalize matchBlock block (withoutBlock block s) = u at *
  have hnote := announce_touches s u
  refine completes_of_commit hexec ⟨?_, ?_, ?_⟩
  · rw [finish_ens]
    exact (hnote.frame.1 .ens (by decide)).trans (hmatch.frame.1 .ens (by decide))
  · rw [finish_links]
    exact (hnote.frame.1 .links (by decide)).trans (hmatch.frame.1 .links (by decide))
  · have hall : Effect ([.ens, .links, .dab, .decoders, .slots] ++ noticeParts) dbWords s (announce s u) :=
      (((withoutBlock_leaves block s).mono (by decide) (by simp)).trans (hmatch.mono (by decide) matchWords_db)).trans
        (hnote.mono (by decide) noticeRegs_pages)
    exact hall.finish.pageFrame (pages := noticePages)

theorem linkageLapse_completes {index : Nat} {x : LinkSet} (hx : s.links[index]? = some x) (h : 120000 ≤ x.unseen) :
    completes (.linkageLapse index) s (fun t =>
      t.links = s.links.eraseIdx index ∧ frame ([.links, .slots] ++ noticeParts) noticeRegs s t) := by
  have hexec : exec (.linkageLapse index) s = commit s (announce s { s with links := s.links.eraseIdx index }) := by
    show execLinkageLapse index s = _
    unfold execLinkageLapse
    rw [hx]
    dsimp only
    rw [if_pos h]
    rfl
  have hdrop : frame [.links] [] s { s with links := s.links.eraseIdx index } := frame_links (by simp) (frame_refl _ _ s)
  have hlinks : ({ s with links := s.links.eraseIdx index } : State).links = s.links.eraseIdx index := rfl
  generalize { s with links := s.links.eraseIdx index } = u at *
  have hnote := announce_touches s u
  refine completes_of_commit hexec ⟨?_, frame_finish (frame_trans (frame_mono hdrop (by decide) (by simp)) (frame_mono hnote.frame (by decide) (fun _ h => h)))⟩
  rw [finish_links]
  exact (hnote.frame.1 .links (by decide)).trans hlinks

theorem dabAlarmTimeout_completes (lane : Fin 20) (ha : (s.dabCtx lane.val).alarm = true) (he : (s.dabCtx lane.val).aswEpoch + 2000 ≤ s.epoch) :
    completes (.dabAlarmTimeout lane) s (fun t =>
      t.dabCtx lane.val = { s.dabCtx lane.val with alarm := false, aswFrames := 0, aswHere := false } ∧
      (4 ≤ lane.val → raised t Ev.WFC.CHANGED) ∧ frame [.dab, .twc, .fab] noticeRegs s t) := by
  have hexec : exec (.dabAlarmTimeout lane) s = commit s (announce s (dabAlarmOff lane.val s)) := by
    show execDabAlarmTimeout lane s = _
    unfold execDabAlarmTimeout
    rw [if_pos (by rw [ha, decide_eq_true he]; rfl)]
    rfl
  obtain ⟨hctx, hraised, hframe⟩ := dabAlarmOff_announced lane.isLt ha rfl
  generalize announce s (dabAlarmOff lane.val s) = u at *
  exact completes_of_commit hexec ⟨hctx, fun h => raised_finish (hraised h), frame_finish hframe⟩

/-- Settles O21: FIG by FIG, a FIB keeps the contexts' readings and the record of its block (`FigTaken.takeFig`); pools and matching keep the
configuration in force (`Recorded`), so what the reconfiguration writes stands (`reconfigure_recorded`, `confOf_changed`), and a CHG bit that is set
stays set (`engineReconfig_keeps`). -/
theorem databaseCompletes : Obligations.DatabaseCompletes := by
  unfold Obligations.DatabaseCompletes
  exact ⟨fun lane figs _ hb hl hs => fibReceived_completes lane figs hb hl hs,
    fun lane ecc lto _ _ hl hs hb he => countryReceived_completes lane ecc lto hl hs hb he,
    fun lane figs _ hb h hd => shadowFib_completes lane figs hb h hd,
    fun lane _ ha he => dabAlarmTimeout_completes lane ha he,
    fun _ _ _ he hc => dabReconfig_completes he hc,
    fun _ _ _ _ he hl => serviceLapse_completes he hl,
    fun _ _ _ he hd => ensembleDelete_completes he hd,
    fun _ _ _ hx h => linkageLapse_completes hx h⟩

end Sys2Proof.Machine.Reception

namespace Sys2Proof.Machine.Reception

open Capture Clocking Survey

variable {ps qs : List Part} {as bs pages : List Nat} {s t u : State} {i j l : Nat} {k : SproutKind} {why : PullReason} {r : SproutReq}

/-! ## What pulling a sprout leaves (R119) -/

/-- The registers that show the next frequency epoch (R129). -/
def shownWords : List Nat := [Fld.OFS.EPOCH_PLAN.EPOCH.addr, Fld.OFS.STEP_PPB.PPB.addr]

/-- The registers that the end of a sprout touches. -/
def pullWords : List Nat := ddcRegs ++ [Reg.COX.STAT] ++ shownWords ++ evWords Ev.LNM.SPROUT_PULLED

def pulledParts : List Part := [.mgr, .plan, .aux, .rds, .dab, .twc, .fab]

theorem showFreqPlan_leaves (s : State) : frame [] shownWords s (showFreqPlan s) := by
  unfold showFreqPlan
  split
  · exact frame_seti (f := Fld.OFS.STEP_PPB.PPB) (by simp [shownWords])
      (frame_set (f := Fld.OFS.EPOCH_PLAN.EPOCH) (by simp [shownWords]) (frame_refl _ _ s))
  · exact frame_set (f := Fld.OFS.STEP_PPB.PPB) (by simp [shownWords])
      (frame_set (f := Fld.OFS.EPOCH_PLAN.EPOCH) (by simp [shownWords]) (frame_refl _ _ s))

/-- The cancelling of a root discards no next set. -/
theorem cancelRoot_leaves (i : Nat) (s : State) : frame [.plan] shownWords s (cancelEntries (fun c => c == .root i) s) := by
  have hnone : forEach (s.plan.filter (fun e => e.announced && e.change == .root i)) (fun e u => discardNext e.change u) s = s := by
    refine forEach_same (fun e he u => ?_) s
    have hp := (List.mem_filter.mp he).2
    rw [Bool.and_eq_true, beq_iff_eq] at hp
    rw [hp.2]
    rfl
  unfold cancelEntries
  rw [hnone]
  exact frame_trans (frame_planHeld (by simp) (frame_planWait (by simp) (frame_plan (by simp) (frame_refl _ _ s))))
    (frame_mono (showFreqPlan_leaves _) (by simp) (fun _ h => h))

theorem ddcRegs_offset : ∀ a ∈ ddcRegs, a % 4096 ≠ 16 := by decide +kernel

theorem shownWords_offset : ∀ a ∈ shownWords, a % 4096 ≠ 16 := by decide

/-- Slot `i` ends. -/
def ended (st : SproutState) (why : PullReason) (epoch : Nat) (x : Sprout) : Sprout := { x with state := st, reason := why, endedAt := epoch }

theorem endSprout_leaves (i : Nat) (st : SproutState) (why : PullReason) (s : State) :
    frame [.aux] (ddcRegs ++ [Reg.COX.STAT]) (s.setSprout i (ended st why s.epoch)) (endSprout i st why s) := by
  refine frame_releaseReq (by simp) (by simp) (frame_forEach (fun k u hk hu => ?_) (frame_refl _ _ _))
  split
  · exact frame_clearDdc (List.subset_append_left _ _) (List.mem_range.mp hk) hu
  · exact hu

theorem endSprout_effect (i : Nat) (st : SproutState) (why : PullReason) (s : State) :
    Effect [.aux] (ddcRegs ++ [Reg.COX.STAT]) (s.setSprout i (ended st why s.epoch)) (endSprout i st why s) :=
  ⟨endSprout_leaves i st why s, keepsEvents_of_frame (by simp) (by
    intro a ha
    rcases List.mem_append.mp ha with h | h
    · exact ddcRegs_offset a h
    · rw [List.mem_singleton.mp h]
      decide) (endSprout_leaves i st why s)⟩

theorem cancelRoot_effect (i : Nat) (s : State) : Effect [.plan] shownWords s (cancelEntries (fun c => c == .root i) s) :=
  ⟨cancelRoot_leaves i s, keepsEvents_of_frame (by simp) shownWords_offset (cancelRoot_leaves i s)⟩

/-- The lane of a sprout that migrates is ACTIVE again once it is pulled. -/
def stayed (y : Lane) : Lane := if y.state == .migrating then { y with state := .active } else y

/-- What follows the end of a pulled sprout. -/
def afterPull (x : Sprout) (s : State) : State :=
  if x.kind == some .migrate then s.setLane x.lane stayed else if x.kind == some .join then s else discardShadow x.lane s

theorem pull_eq (h : (s.sprout i).state = .planted) : pull i why s =
    raise Ev.LNM.SPROUT_PULLED (afterPull (s.sprout i) (cancelEntries (fun c => c == .root i) (endSprout i .pulled why s))) := by
  unfold pull
  dsimp only
  rw [if_neg (by rw [h]; decide)]
  rfl

theorem pull_raises (h : (s.sprout i).state = .planted) : raised (pull i why s) Ev.LNM.SPROUT_PULLED := by
  rw [pull_eq h]
  exact raised_raise _ _

theorem discardShadow_leaves (l : Nat) (s : State) : frame [.rds, .dab] [] s (discardShadow l s) :=
  frame_discardShadow (by simp) (by simp) (frame_refl _ _ s)

theorem afterPull_effect (x : Sprout) (s : State) : Effect [.mgr, .rds, .dab] [] s (afterPull x s) :=
  .ite (fun _ => (Effect.refl _ _ s).setLane (by simp)) (fun _ => .ite (fun _ => .refl _ _ _)
    (fun _ => (Effect.refl _ _ s).part (discardShadow_leaves x.lane s) (by simp) (by simp)))

theorem pull_leaves (i : Nat) (why : PullReason) (s : State) : Effect pulledParts pullWords s (pull i why s) := by
  by_cases h : (s.sprout i).state = .planted
  · rw [pull_eq h]
    have hend := (endSprout_effect i .pulled why s).mono (ps := pulledParts) (as := pullWords) (by decide) (by simp [pullWords])
    have hset : Effect pulledParts pullWords s (s.setSprout i (ended .pulled why s.epoch)) := (Effect.refl _ _ s).mgr (by decide) _
    have hcancel := (cancelRoot_effect i (endSprout i .pulled why s)).mono (ps := pulledParts) (as := pullWords) (by decide)
      (fun a ha => by simp [pullWords, ha])
    exact (((hset.trans hend).trans hcancel).trans ((afterPull_effect _ _).mono (by decide) (by simp))).raise (by decide)
      (fun a ha => List.mem_append_right _ ha)
  · unfold pull
    dsimp only
    rw [if_pos (by simpa using h)]
    exact .refl _ _ _

/-- The lanes and slots after the end of a sprout. -/
theorem cancelled_mgr (i : Nat) (why : PullReason) (s : State) : (cancelEntries (fun c => c == .root i) (endSprout i .pulled why s)).mgr =
    (s.setSprout i (ended .pulled why s.epoch)).mgr :=
  ((cancelRoot_leaves i _).1 .mgr (by decide)).trans ((endSprout_leaves i .pulled why s).1 .mgr (by decide))

theorem raise_mgr (g : Nat) (s : State) : (raise g s).mgr = s.mgr := (frame_raised g s).1 .mgr (by decide)

theorem afterPull_sprout (x : Sprout) (s : State) (j : Nat) : (afterPull x s).sprout j = s.sprout j := by
  unfold afterPull
  split
  · rfl
  · split
    · rfl
    · exact sprout_of_mgr ((discardShadow_leaves x.lane s).1 .mgr (by simp)) j

/-- A pulled sprout shows its end. -/
theorem pull_sprout (hi : i < 32) (h : (s.sprout i).state = .planted) : (pull i why s).sprout i = ended .pulled why s.epoch (s.sprout i) := by
  rw [pull_eq h, sprout_of_mgr (raise_mgr _ _), afterPull_sprout, sprout_of_mgr (cancelled_mgr i why s), sprout_setSprout hi]

/-- The end of a sprout touches no other. -/
theorem pull_sprout_ne (h : j ≠ i) : (pull i why s).sprout j = s.sprout j := by
  by_cases hp : (s.sprout i).state = .planted
  · rw [pull_eq hp, sprout_of_mgr (raise_mgr _ _), afterPull_sprout, sprout_of_mgr (cancelled_mgr i why s), sprout_setSprout_ne h]
  · unfold pull
    dsimp only
    rw [if_pos (by simpa using hp)]

/-- The end of a sprout that does not migrate leaves the lanes. -/
theorem pull_lane (hk : (s.sprout i).kind ≠ some .migrate) (l : Nat) : (pull i why s).lane l = s.lane l := by
  by_cases hp : (s.sprout i).state = .planted
  · have hafter : (afterPull (s.sprout i) (cancelEntries (fun c => c == .root i) (endSprout i .pulled why s))).mgr =
        (cancelEntries (fun c => c == .root i) (endSprout i .pulled why s)).mgr := by
      unfold afterPull
      rw [if_neg (by simpa using hk)]
      split
      · rfl
      · exact (discardShadow_leaves _ _).1 .mgr (by simp)
    rw [pull_eq hp, lane_of_mgr (raise_mgr _ _), lane_of_mgr hafter, lane_of_mgr (cancelled_mgr i why s)]
    rfl
  · unfold pull
    dsimp only
    rw [if_pos (by simpa using hp)]

/-! ## What planting a sprout leaves (R114, R116) -/

def plantedParts : List Part := [.mgr, .aux, .twc, .fab]

/-- The registers that planting touches. -/
def plantWords : List Nat :=
  ddcRegs ++ (Reg.COX.STAT :: evWords Ev.COX.LIMITED) ++ evsWords [Ev.LNM.SPROUT_PLANTED, Ev.LNM.SPROUT_WAIT, Ev.CH.DDC_EXHAUSTED 0, Ev.CH.DDC_EXHAUSTED 1,
    Ev.CH.DDC_EXHAUSTED 2]

theorem plantWords_events : ∀ g ∈ [Ev.LNM.SPROUT_PLANTED, Ev.LNM.SPROUT_WAIT, Ev.CH.DDC_EXHAUSTED 0, Ev.CH.DDC_EXHAUSTED 1, Ev.CH.DDC_EXHAUSTED 2],
    evWords g ⊆ plantWords := fun _ hg _ hx => List.mem_append_right _ (List.mem_flatMap.mpr ⟨_, hg, hx⟩)

theorem exhausted_words (p : Path) : evWords (Ev.CH.DDC_EXHAUSTED p.idx) ⊆ plantWords := plantWords_events _ (by cases p <;> decide)

/-- The lane of a sprout that migrates. -/
def moves (y : Lane) : Lane := if y.state == .active then { y with state := .migrating } else y

/-- The slot that a request takes. -/
def taken (x : Lane) (epoch : Nat) (r : SproutReq) (o : Sprout) : Sprout :=
  { kind := some r.kind, state := .planted, lane := r.lane, fromCore := x.core, toCore := r.toCore, pgm := r.pgm, src := r.src,
    plantedAt := epoch, gen := (o.gen + 1) % 256, stream := r.stream, move := r.move, mismatches := r.mismatches }

/-- The slots and lanes of a planting. -/
def slotTaken (i : Nat) (r : SproutReq) (s : State) : State :=
  let t := s.setSprout i (taken (s.lane r.lane) s.epoch r)
  if r.kind == .migrate then t.setLane r.lane moves else t

/-- The spare context of a planting. -/
def spareTaken (i : Nat) (r : SproutReq) (s t : State) : State :=
  if needsSpare s r then
    (match ddcFree t (s.lane r.lane).path with | some k => writeDdc (s.lane r.lane).path k 2 0xFF i (s.lane r.lane).khz t | none => t) else t

theorem plantIn_eq (i : Nat) (r : SproutReq) (s : State) : plantIn i r s =
    raise Ev.LNM.SPROUT_PLANTED (if r.kind.acquires then assertReq (.sprout i) (spareTaken i r s (slotTaken i r s)) else spareTaken i r s (slotTaken i r s)) := rfl

theorem spareTaken_leaves (i : Nat) (r : SproutReq) (s t : State) : frame [] ddcRegs t (spareTaken i r s t) := by
  unfold spareTaken
  split
  · split
    · rename_i k hk
      have hlt : k < ddcTotal (s.lane r.lane).path := List.mem_range.mp (List.mem_of_find?_eq_some hk)
      exact frame_setWord (mem_ddcRegs hlt).2 (frame_set (f := Fld.CH.DDC_W0.NCO (s.lane r.lane).path.idx k) (mem_ddcRegs hlt).1 (frame_refl _ _ t))
    · exact frame_refl _ _ t
  · exact frame_refl _ _ t

theorem assertReq_effect (use : CoexUse) (s : State) : Effect [.aux, .twc, .fab] (Reg.COX.STAT :: evWords Ev.COX.LIMITED) s (assertReq use s) := by
  have base : Effect [.aux, .twc, .fab] (Reg.COX.STAT :: evWords Ev.COX.LIMITED) s s := .refl _ _ _
  unfold assertReq
  dsimp only
  refine .ite (fun _ => base) (fun _ => .ite (fun _ => ?_) (fun _ => .ite (fun _ => ?_) (fun _ => ?_)))
  · exact .ite (fun _ => (base.aux (by simp) _).aux (by simp) _) (fun _ => base.aux (by simp) _)
  · exact base.raise (by decide) (List.subset_cons_self _ _)
  · have hput := fun x => (base.aux (by simp) x).put (f := Fld.COX.STAT.REQ) List.mem_cons_self (by decide) true
    exact .ite (fun _ => (hput _).aux (by simp) _) (fun _ => hput _)

theorem spareTaken_effect (i : Nat) (r : SproutReq) (s t : State) : Effect [] ddcRegs t (spareTaken i r s t) :=
  ⟨spareTaken_leaves i r s t, keepsEvents_of_frame (by simp) ddcRegs_offset (spareTaken_leaves i r s t)⟩

theorem slotTaken_effect (i : Nat) (r : SproutReq) (s : State) : Effect [.mgr] [] s (slotTaken i r s) :=
  .ite (fun _ => ((Effect.refl _ _ s).mgr (by simp) _).setLane (by simp)) (fun _ => (Effect.refl _ _ s).mgr (by simp) _)

/-- The slot and lane of a planting stand once the rest is done. -/
theorem plantIn_follows (i : Nat) (r : SproutReq) (s : State) : Effect [.aux, .twc, .fab] plantWords (slotTaken i r s) (plantIn i r s) := by
  have hspare := (spareTaken_effect i r s (slotTaken i r s)).mono (ps := [.aux, .twc, .fab]) (as := plantWords) (by simp) (by simp [plantWords])
  rw [plantIn_eq]
  refine Effect.raise (.ite (fun _ => hspare.trans ((assertReq_effect _ _).mono (fun _ h => h) ?_)) (fun _ => hspare)) (by decide)
    (plantWords_events _ (by simp))
  exact fun _ h => List.mem_append_left _ (List.mem_append_right _ h)

theorem plantIn_leaves (i : Nat) (r : SproutReq) (s : State) : Effect plantedParts plantWords s (plantIn i r s) :=
  ((slotTaken_effect i r s).mono (by decide) (by simp)).trans ((plantIn_follows i r s).mono (by decide) (fun _ h => h))

theorem waitForSlot_leaves (r : SproutReq) (s : State) : Effect plantedParts plantWords s (waitForSlot r s) := (Effect.refl _ _ s).mgr (by decide) _

theorem plantNow_leaves (r : SproutReq) (s : State) : Effect plantedParts plantWords s (plantNow r s) := by
  unfold plantNow
  refine .ite (fun _ => .refl _ _ _) (fun _ => .ite (fun _ => waitForSlot_leaves r s) (fun _ => ?_))
  split
  · exact (waitForSlot_leaves r s).raise (by decide) (plantWords_events _ (by simp))
  · exact .ite (fun _ => ((Effect.refl _ _ s).raise (by decide) (exhausted_words _)).trans (waitForSlot_leaves r _)) (fun _ => plantIn_leaves _ r s)

theorem plant_leaves (r : SproutReq) (s : State) : Effect plantedParts plantWords s (plant r s) :=
  .ite (fun _ => (waitForSlot_leaves r s).raise (by decide) (plantWords_events _ (by simp))) (fun _ => plantNow_leaves r s)

/-! ## A sprout that is asked for (R114, R116) -/

/-- What a slot shows of the request that it took. -/
def sown (x : Sprout) := (x.state, x.kind, x.lane, x.toCore, x.pgm, x.src, x.stream, x.move, x.mismatches, x.plantedAt)

/-- The request stands in slot `i`. -/
def Stands (epoch : Nat) (r : SproutReq) (x : Sprout) : Prop :=
  sown x = (.planted, some r.kind, r.lane, r.toCore, r.pgm, r.src, r.stream, r.move, r.mismatches, epoch)

theorem sprouts_iff : sprouts s t r ↔ r ∈ t.mgr.waiting ∨ ∃ i < 32, Stands s.epoch r (t.sprout i) := by
  simp only [sprouts, Stands, sown, Prod.mk.injEq]

theorem sprouts_of_epoch (h : u.epoch = s.epoch) (k : sprouts u t r) : sprouts s t r := by
  rw [sprouts_iff] at k ⊢
  rwa [h] at k

theorem sprouts_of_mgr (h : u.mgr = t.mgr) (k : sprouts s t r) : sprouts s u r := by
  rw [sprouts_iff] at k ⊢
  rcases k with k | ⟨i, hi, k⟩
  · exact .inl (by rwa [h])
  · exact .inr ⟨i, hi, by rwa [sprout_of_mgr h]⟩

theorem sprouts_wait (r : SproutReq) (s t : State) : sprouts s (waitForSlot r t) r := .inl (List.mem_append_right _ (List.mem_singleton_self r))

theorem sprouts_plantIn (hi : i < 32) (r : SproutReq) (s : State) : sprouts s (plantIn i r s) r := by
  refine sprouts_of_mgr ((plantIn_follows i r s).frame.1 .mgr (by decide)) (sprouts_iff.mpr (.inr ⟨i, hi, ?_⟩))
  have hslot : (slotTaken i r s).sprout i = taken (s.lane r.lane) s.epoch r (s.sprout i) := by
    unfold slotTaken
    dsimp only
    split <;> exact sprout_setSprout hi _ _
  rw [hslot]
  rfl

theorem freeSlot_lt (h : freeSlot s = some i) : i < 32 := by
  have of_indices {q : Sprout → Bool} (h : i ∈ indices s.mgr.sprouts q) : i < 32 := ((mem_indices {}).mp h).1
  unfold freeSlot at h
  split at h
  · rename_i j l hl
    cases h
    exact of_indices (by rw [hl]; exact List.mem_cons_self)
  · exact of_indices (List.mem_of_find?_eq_some h)

theorem sprouts_plantNow (hr : s.receiving = true) (r : SproutReq) : sprouts s (plantNow r s) r := by
  unfold plantNow
  rw [if_neg (by rw [hr]; decide)]
  split
  · exact sprouts_wait r s s
  · split
    · exact sprouts_of_mgr (raise_mgr _ _) (sprouts_wait r s s)
    · rename_i i hi
      split
      · exact sprouts_wait r s _
      · exact sprouts_plantIn (freeSlot_lt hi) r s

theorem sprouts_plant (hr : s.receiving = true) (r : SproutReq) : sprouts s (plant r s) r := by
  unfold plant
  split
  · exact sprouts_of_mgr (raise_mgr _ _) (sprouts_wait r s s)
  · exact sprouts_plantNow hr r

theorem sprouts_setSprout {f : Sprout → Sprout} (hf : ∀ x, sown (f x) = sown x) (h : sprouts s t r) (i : Nat) : sprouts s (t.setSprout i f) r := by
  rw [sprouts_iff] at h ⊢
  rcases h with h | ⟨j, hj, h⟩
  · exact .inl h
  · refine .inr ⟨j, hj, ?_⟩
    by_cases e : j = i
    · subst e
      rw [sprout_setSprout hj]
      unfold Stands
      rw [hf]
      exact h
    · rwa [sprout_setSprout_ne e]

end Sys2Proof.Machine.Reception

namespace Sys2Proof.Machine.Reception

open Capture Clocking Survey

variable {s t u : State} {i l : Nat} {k : SproutKind} {r : SproutReq}

/-! ## Requests that are served (R110, R116, R117) -/

theorem announce_mgr (s t : State) : (announce s t).mgr = t.mgr := (announce_touches s t).frame.1 .mgr (by decide)

theorem sprouts_finish (h : sprouts s t r) : sprouts s (finish s (announce s t)) r := sprouts_of_mgr (announce_mgr s t) h

theorem sprout_finish (s t : State) (i : Nat) : (finish s (announce s t)).sprout i = t.sprout i := sprout_of_mgr (announce_mgr s t) i

theorem lane_finish (s t : State) (l : Nat) : (finish s (announce s t)).lane l = t.lane l := lane_of_mgr (announce_mgr s t) l

theorem raised_announced {g : Nat} (h : raised t g) : raised (finish s (announce s t)) g :=
  raised_finish (raised_of_keepsEvents (announce_touches s t).events h)

theorem plantWords_pages : plantWords ⊆ wordsOf ([0x00D, 0x010, 0x011, 0x012, 0x018] ++ noticePages) := subset_wordsOf (by decide +kernel)

/-- A planting with its announcement stays on the pages of sprouts. -/
theorem planted_pages (h : Effect plantedParts plantWords s t) :
    pageFrame ([.mgr, .aux] ++ noticeParts) ([0x00D, 0x010, 0x011, 0x012, 0x018] ++ noticePages) s (finish s (announce s t)) := by
  have hnote : noticeRegs ⊆ wordsOf ([0x00D, 0x010, 0x011, 0x012, 0x018] ++ noticePages) :=
    fun _ hx => wordsOf_mono (List.subset_append_right _ _) (noticeRegs_pages hx)
  have hall : Effect ([.mgr, .aux] ++ noticeParts) (wordsOf ([0x00D, 0x010, 0x011, 0x012, 0x018] ++ noticePages)) s (announce s t) :=
    (h.mono (by decide) plantWords_pages).trans ((announce_leaves (h.frame.1 .links (by decide))).mono (by decide) hnote)
  exact hall.finish.pageFrame

/-- Planting leaves when a lane plants anew. -/
theorem replantAt_plant (r : SproutReq) (s : State) (l : Nat) : ((plant r s).lane l).replantAt = (s.lane l).replantAt := by
  have raised (g : Nat) (u : State) : (raise g u).lane l = u.lane l := lane_of_mgr (raise_mgr g u) l
  have taken (i : Nat) : ((plantIn i r s).lane l).replantAt = (s.lane l).replantAt := by
    rw [lane_of_mgr ((plantIn_follows i r s).frame.1 .mgr (by decide))]
    unfold slotTaken
    dsimp only
    split
    · rcases lane_setLane_cases (s.setSprout i (taken (s.lane r.lane) s.epoch r)) r.lane l moves with e | ⟨rfl, e⟩
      · rw [e]
        rfl
      · rw [e]
        unfold moves
        split <;> rfl
    · rfl
  have waits (u : State) : (waitForSlot r u).lane l = u.lane l := rfl
  unfold plant
  split
  · rw [raised, waits]
  · unfold plantNow
    split
    · rfl
    · split
      · rw [waits]
      · split
        · rw [raised, waits]
        · split
          · rw [waits, raised]
          · exact taken _

theorem lane_setLane (h : l < 156) (s : State) (f : Lane → Lane) : (s.setLane l f).lane l = f (s.lane l) := at_upd _ f _ h

theorem sproutReplantTimer_completes (lane : Fin 156) {e : Nat} (he : (s.lane lane.val).replantAt = some e) (hd : e ≤ s.epoch)
    (ha : (s.lane lane.val).state = .acquiring) (hk : acquireKind lane.val = some k) (hr : s.receiving = true) :
    completes (.sproutReplantTimer lane) s (fun t =>
      sprouts s t { kind := k, lane := lane.val } ∧ (t.lane lane.val).replantAt = none ∧
      pageFrame ([.mgr, .aux] ++ noticeParts) ([0x00D, 0x010, 0x011, 0x012, 0x018] ++ noticePages) s t) := by
  have hexec : exec (.sproutReplantTimer lane) s =
      commit s (announce s (plant { kind := k, lane := lane.val } (s.setLane lane.val (fun x => { x with replantAt := none })))) := by
    show execSproutReplantTimer lane s = _
    unfold execSproutReplantTimer plantAcquire
    rw [he, hk]
    dsimp only
    rw [if_pos ⟨hd, .inl ha⟩]
    rfl
  have hset : Effect plantedParts plantWords s (s.setLane lane.val (fun x => { x with replantAt := none })) := (Effect.refl _ _ s).setLane (by decide)
  have hnone := congrArg Lane.replantAt (lane_setLane lane.isLt s (fun x => { x with replantAt := none }))
  refine completes_of_commit hexec ⟨sprouts_finish ?_, ?_, planted_pages (hset.trans (plant_leaves _ _))⟩
  · exact sprouts_of_epoch (hset.epoch (by decide)) (sprouts_plant ((frame_receiving hset.frame (by decide)).trans hr) _)
  · rw [lane_finish, replantAt_plant]
    exact hnone

theorem sproutSlotFreed_completes (hp : s.fab.pause = none) (hf : (freeSlot s).isSome = true) (hn : nextReq s = some r) (hr : s.receiving = true) :
    completes .sproutSlotFreed s (fun t =>
      sprouts s t r ∧ pageFrame ([.mgr, .aux] ++ noticeParts) ([0x00D, 0x010, 0x011, 0x012, 0x018] ++ noticePages) s t) := by
  have hexec : exec .sproutSlotFreed s = commit s (announce s (plantNow r { s with mgr := { s.mgr with waiting := s.mgr.waiting.erase r } })) := by
    show commitLanes s (serveSprouts s) = _
    unfold serveSprouts
    rw [if_neg (by simp [hp, Option.isSome_iff_ne_none.mp hf]), hn]
    rfl
  have hset : Effect plantedParts plantWords s { s with mgr := { s.mgr with waiting := s.mgr.waiting.erase r } } := (Effect.refl _ _ s).mgr (by decide) _
  refine completes_of_commit hexec ⟨sprouts_finish ?_, planted_pages (hset.trans (plantNow_leaves _ _))⟩
  exact sprouts_of_epoch (hset.epoch (by decide)) (sprouts_plantNow ((frame_receiving hset.frame (by decide)).trans hr) _)

theorem coreOverloadMigrate_completes (core : Fin 6) {c : Nat} (ho : 100 ≤ at' s.mgr.overload core.val 0) (hm : migrating s = false)
    (hl : lightestLane s core.val = some l) (hq : quietCore s core.val = some c) (hr : s.receiving = true) :
    completes (.coreOverloadMigrate core) s (fun t =>
      sprouts s t { kind := .migrate, lane := l, toCore := c, move := .load, mismatches := 0 } ∧
      pageFrame ([.mgr, .aux] ++ noticeParts) ([0x00D, 0x010, 0x011, 0x012, 0x018] ++ noticePages) s t) := by
  have hexec : exec (.coreOverloadMigrate core) s =
      commit s (announce s (plant { kind := .migrate, lane := l, toCore := c, move := .load, mismatches := 0 } s)) := by
    show commitLanes s (overloadMigrate core.val s) = _
    unfold overloadMigrate
    rw [if_pos ⟨ho, by rw [hm]; rfl⟩, hl, hq]
    rfl
  exact completes_of_commit hexec ⟨sprouts_finish (sprouts_plant hr _), planted_pages (plant_leaves _ s)⟩

/-! ## Sprouts that time out or are pulled (R117, R120, R125) -/

theorem acquires_kind (h : k.acquires = true) : k ≠ .migrate ∧ k ≠ .join := by
  cases k with
  | dab | drm | rds => exact ⟨by decide, by decide⟩
  | join | migrate => cases h

/-- The end of a sprout's acquisition leaves its slot ended and the lanes as they are. -/
theorem pulled_acquires {why : PullReason} (hi : i < 32) (hp : (s.sprout i).state = .planted) (hk : (s.sprout i).kind = some k) (ha : k.acquires = true) :
    (pull i why s).sprout i = ended .pulled why s.epoch (s.sprout i) ∧ (∀ l, (pull i why s).lane l = s.lane l) ∧
      raised (pull i why s) Ev.LNM.SPROUT_PULLED ∧ (pull i why s).epoch = s.epoch ∧ (pull i why s).receiving = s.receiving := by
  have hpull := pull_leaves i why s
  refine ⟨pull_sprout hi hp, fun l => pull_lane ?_ l, pull_raises hp, hpull.epoch (by decide), frame_receiving hpull.frame (by decide)⟩
  rw [hk]
  exact fun e => (acquires_kind ha).1 (Option.some.inj e)

theorem sproutTimeout_pulls (hp : (s.sprout i).state = .planted) (hm : (s.sprout i).met = false) (hk : (s.sprout i).kind = some k)
    (ha : k.acquires = true) (ht : (s.sprout i).plantedAt + timeoutOf s (s.sprout i) ≤ s.epoch) :
    sproutTimeout i s = replant (s.sprout i) (pull i .timeout s) := by
  unfold sproutTimeout
  dsimp only
  rw [if_neg (by simp [hp, hm]; omega), hk]
  cases k with
  | dab | drm | rds => rfl
  | join | migrate => cases ha

theorem sproutTimeout_waits (slot : Fin 32) (hp : (s.sprout slot.val).state = .planted) (hm : (s.sprout slot.val).met = false)
    (hk : (s.sprout slot.val).kind = some k) (ha : k.acquires = true) (ht : (s.sprout slot.val).plantedAt + timeoutOf s (s.sprout slot.val) ≤ s.epoch)
    (h0 : (s.sprout slot.val).stream = 0) (hh : (isFull (s.sprout slot.val).lane && (s.lane (s.sprout slot.val).lane).host) = false)
    (hl : (s.sprout slot.val).lane < 156) :
    completes (.sproutTimeout slot) s (fun t =>
      (t.sprout slot.val).state = .pulled ∧ (t.sprout slot.val).reason = .timeout ∧ (t.sprout slot.val).endedAt = s.epoch ∧
      (t.lane (s.sprout slot.val).lane).replantAt = some (s.epoch + 10000) ∧ raised t Ev.LNM.SPROUT_PULLED) := by
  have hexec : exec (.sproutTimeout slot) s = commit s (announce s (sproutTimeout slot.val s)) := rfl
  rw [sproutTimeout_pulls hp hm hk ha ht] at hexec
  obtain ⟨hsprout, hlane, hraised, hepoch, -⟩ := pulled_acquires (why := .timeout) slot.isLt hp hk ha
  generalize s.sprout slot.val = x at *
  generalize pull slot.val .timeout s = u at *
  have hre : replant x u = u.setLane x.lane (fun y => { y with replantAt := some (s.epoch + 10000) }) := by
    unfold replant
    rw [if_neg (by simp [h0]), if_neg (by rw [hlane, Bool.and_comm, hh]; decide), hepoch]
  rw [hre] at hexec
  have hx := sprout_finish s (u.setLane x.lane (fun y => { y with replantAt := some (s.epoch + 10000) })) slot.val
  have hset : Effect [.mgr] [] u (u.setLane x.lane (fun y => { y with replantAt := some (s.epoch + 10000) })) := (Effect.refl _ _ u).setLane (by simp)
  have hx' := hx.trans hsprout
  refine completes_of_commit hexec ⟨?_, ?_, ?_, ?_, raised_announced (raised_of_keepsEvents hset.events hraised)⟩
  · rw [hx']
    rfl
  · rw [hx']
    rfl
  · rw [hx']
    rfl
  · rw [lane_finish, lane_setLane hl]

theorem sproutTimeout_replants (slot : Fin 32) (hp : (s.sprout slot.val).state = .planted) (hm : (s.sprout slot.val).met = false)
    (hk : (s.sprout slot.val).kind = some k) (ha : k.acquires = true) (ht : (s.sprout slot.val).plantedAt + timeoutOf s (s.sprout slot.val) ≤ s.epoch)
    (h0 : (s.sprout slot.val).stream = 0) (hh : (isFull (s.sprout slot.val).lane && (s.lane (s.sprout slot.val).lane).host) = true)
    (hr : s.receiving = true) (hq : acquireKind (s.sprout slot.val).lane = some k) :
    completes (.sproutTimeout slot) s (fun t =>
      sprouts s t { kind := k, lane := (s.sprout slot.val).lane } ∧ raised t Ev.LNM.SPROUT_PULLED) := by
  have hexec : exec (.sproutTimeout slot) s = commit s (announce s (sproutTimeout slot.val s)) := rfl
  rw [sproutTimeout_pulls hp hm hk ha ht] at hexec
  obtain ⟨-, hlane, hraised, hepoch, hrec⟩ := pulled_acquires (why := .timeout) slot.isLt hp hk ha
  generalize s.sprout slot.val = x at *
  generalize pull slot.val .timeout s = u at *
  have hre : replant x u = plant { kind := k, lane := x.lane } u := by
    unfold replant plantAcquire
    rw [if_neg (by simp [h0]), if_pos (by rw [hlane, Bool.and_comm, hh]), hq]
  rw [hre] at hexec
  refine completes_of_commit hexec ⟨sprouts_finish (sprouts_of_epoch hepoch (sprouts_plant (hrec.trans hr) _)), raised_announced ?_⟩
  exact raised_of_keepsEvents (plant_leaves _ u).events hraised

theorem sprouts_adoptNew (h : sprouts s t r) (x : Sprout) (metric : Int) : sprouts s (adoptNew x metric t) r :=
  forEach_survives (P := fun u => sprouts s u r) (fun i _ _ hu => sprouts_setSprout (f := fun y => { y with adopted := true, progress := 1, metric := metric })
    (fun _ => rfl) hu i) h

theorem adoptNew_leaves (x : Sprout) (metric : Int) (s : State) : Effect [.mgr] [] s (adoptNew x metric s) :=
  (Effect.refl _ _ s).forEach (fun _ _ _ hu => hu.mgr (by simp) _)

theorem sproutSentinel_completes (slot : Fin 32) (metric : Int) (twice : Bool) (hp : (s.sprout slot.val).state = .planted)
    (hd : (s.sprout slot.val).adopted = true) (ht : twice = true) (hn : rootAnnounced s slot.val = false) (hk : (s.sprout slot.val).kind = some k)
    (ha : k.acquires = true) (hr : s.receiving = true) :
    completes (.sproutSentinel slot metric twice) s (fun t =>
      raised t Ev.LNM.SPROUT_PULLED ∧
      sprouts s t { kind := k, lane := (s.sprout slot.val).lane, stream := (s.sprout slot.val).stream }) := by
  have hexec : exec (.sproutSentinel slot metric twice) s = commit s (announce s (adoptNew (s.sprout slot.val) metric
      (plantNow { kind := k, lane := (s.sprout slot.val).lane, stream := (s.sprout slot.val).stream } (pull slot.val .sentinel s)))) := by
    show commitLanes s (sentinel slot.val metric twice s) = _
    unfold sentinel
    dsimp only
    rw [if_neg (by simp [hp, hd, ht, hn]), hk]
    cases k with
    | dab | drm | rds => rfl
    | join | migrate => cases ha
  obtain ⟨-, -, hraised, hepoch, hrec⟩ := pulled_acquires (why := .sentinel) slot.isLt hp hk ha
  generalize pull slot.val .sentinel s = u at *
  refine completes_of_commit hexec ⟨raised_announced ?_, sprouts_finish (sprouts_adoptNew (sprouts_of_epoch hepoch (sprouts_plantNow (hrec.trans hr) _)) _ _)⟩
  exact raised_of_keepsEvents (adoptNew_leaves _ _ _).events (raised_of_keepsEvents (plantNow_leaves _ u).events hraised)

/-! ## Criteria and comparisons (R118, R123) -/

theorem postRoot_asks (hp : s.fab.pause = none) (i : Nat) : asked s (postRoot i s) (.root i) (s.epoch + 2) := by
  unfold postRoot
  rw [if_neg (by simp [hp])]
  exact asked_post_second rfl rfl _ _

theorem postRoot_leaves (i : Nat) (s : State) : frame [.plan] planWords s (postRoot i s) := by
  unfold postRoot
  split
  · exact frame_refl _ _ s
  · exact frame_posted (by simp) (fun _ h => h) (frame_refl _ _ s)

theorem frame_setSprout (i : Nat) (f : Sprout → Sprout) (s : State) : frame [.mgr] [] s (s.setSprout i f) := frame_mgr (by simp) (frame_refl _ _ s)

theorem criterionMet_completes (slot : Fin 32) (metric : Int) (pi : Nat) (hp : (s.sprout slot.val).state = .planted)
    (hm : (s.sprout slot.val).met = false) (hk : (s.sprout slot.val).kind = some k) (ha : k.acquires = true)
    (hw : waitsForGrant s (.sprout slot.val) = false) (hc : criterionCounts s (s.sprout slot.val) pi = true) :
    completes (.sproutCriterionMet slot metric pi) s (fun t =>
      t.sprout slot.val = { s.sprout slot.val with met := true, adopted := true, metric := metric, pi := pi } ∧
      (s.fab.pause = none → asked s t (.root slot.val) (s.epoch + 2)) ∧ frame [.mgr, .plan] planWords s t) := by
  have hexec : exec (.sproutCriterionMet slot metric pi) s =
      commit s (postRoot slot.val (s.setSprout slot.val (fun y => { y with met := true, adopted := true, metric := metric, pi := pi }))) := by
    show commit s (criterionMet slot.val metric pi s) = _
    unfold criterionMet
    dsimp only
    rw [if_neg (by simp [hp, hm, hw, hc]), hk]
    cases k with
    | dab | drm | rds => rfl
    | join | migrate => cases ha
  have hset := frame_setSprout slot.val (fun y => { y with met := true, adopted := true, metric := metric, pi := pi }) s
  have hx := sprout_setSprout slot.isLt s (fun y => { y with met := true, adopted := true, metric := metric, pi := pi })
  generalize s.setSprout slot.val (fun y => { y with met := true, adopted := true, metric := metric, pi := pi }) = u at *
  have hpost := postRoot_leaves slot.val u
  refine completes_of_commit hexec ⟨?_, fun hn => ?_, frame_finish (frame_trans (frame_mono hset (by simp) (by simp)) (frame_mono hpost (by simp) (fun _ h => h)))⟩
  · exact (sprout_of_mgr (hpost.1 .mgr (by simp)) slot.val).trans hx
  · have hepoch := frame_epoch hset (by simp)
    have k := postRoot_asks (s := u) ((congrArg Fabric.pause (hset.1 .fab (by simp))).trans hn) slot.val
    unfold asked at k ⊢
    rwa [hepoch] at k

/-- A sprout whose count of equal epochs stands at `n` (R123). -/
def compared (epoch : Nat) (n : Int) (x : Sprout) : Sprout := { x with metric := n, progress := n.toNat, comparedAt := epoch, met := decide (8 ≤ n) }

theorem migrateCompare_equal (hp : (s.sprout i).state = .planted) (hk : (s.sprout i).kind = some .migrate) (hm : (s.sprout i).met = false)
    (hd : (s.sprout i).plantedAt + 2 ≤ s.epoch) (hc : (s.sprout i).comparedAt + 1 = s.epoch) : migrateCompare i true s =
      if 8 ≤ (s.sprout i).metric + 1 then postRoot i (s.setSprout i (compared s.epoch ((s.sprout i).metric + 1)))
      else s.setSprout i (compared s.epoch ((s.sprout i).metric + 1)) := by
  unfold migrateCompare
  dsimp only
  rw [if_neg (by simp [hp, hk, hm]; omega), if_pos rfl, if_pos hc]
  rfl

theorem migrateCompare_counts (slot : Fin 32) (hp : (s.sprout slot.val).state = .planted) (hk : (s.sprout slot.val).kind = some .migrate)
    (hm : (s.sprout slot.val).met = false) (hd : (s.sprout slot.val).plantedAt + 2 ≤ s.epoch) (hc : (s.sprout slot.val).comparedAt + 1 = s.epoch) :
    completes (.migrateCompare slot true) s (fun t =>
      (t.sprout slot.val).metric = (s.sprout slot.val).metric + 1 ∧
      (t.sprout slot.val).met = decide (8 ≤ (s.sprout slot.val).metric + 1) ∧
      (8 ≤ (s.sprout slot.val).metric + 1 → s.fab.pause = none → asked s t (.root slot.val) (s.epoch + 2)) ∧
      frame [.mgr, .plan] planWords s t) := by
  have hexec : exec (.migrateCompare slot true) s = commit s (announce s (migrateCompare slot.val true s)) := rfl
  rw [migrateCompare_equal hp hk hm hd hc] at hexec
  have hset := frame_setSprout slot.val (compared s.epoch ((s.sprout slot.val).metric + 1)) s
  have hx := sprout_setSprout slot.isLt s (compared s.epoch ((s.sprout slot.val).metric + 1))
  have hlane (l : Nat) : (s.setSprout slot.val (compared s.epoch ((s.sprout slot.val).metric + 1))).lane l = s.lane l := rfl
  generalize s.setSprout slot.val (compared s.epoch ((s.sprout slot.val).metric + 1)) = u at *
  generalize s.sprout slot.val = x at *
  have hpost : frame [.plan] planWords u (if 8 ≤ x.metric + 1 then postRoot slot.val u else u) := by
    split
    · exact postRoot_leaves slot.val u
    · exact frame_refl _ _ u
  have hask : 8 ≤ x.metric + 1 → s.fab.pause = none →
      asked s (if 8 ≤ x.metric + 1 then postRoot slot.val u else u) (.root slot.val) (s.epoch + 2) := by
    intro h8 hn
    have hepoch := frame_epoch hset (by simp)
    have k := postRoot_asks (s := u) ((congrArg Fabric.pause (hset.1 .fab (by simp))).trans hn) slot.val
    rw [if_pos h8]
    unfold asked at k ⊢
    rwa [hepoch] at k
  generalize (if 8 ≤ x.metric + 1 then postRoot slot.val u else u) = v at *
  have hall : frame [.mgr, .plan] planWords s v :=
    frame_trans (frame_mono hset (by simp) (by simp)) (frame_mono hpost (by simp) (fun _ h => h))
  have hmgr := hpost.1 .mgr (by simp)
  rw [announce_same (unannounced_of_frame hall (by simp) (by decide)
    (fun d => congrArg rdsShown (rdsCtx_of_rds (hall.1 .rds (by simp)) d))
    (fun d => congrArg DabLane.alarm (dabCtx_of_dab (hall.1 .dab (by simp)) d))
    (fun l => congrArg laneShown ((lane_of_mgr hmgr l).trans (hlane l))))] at hexec
  have hvx := (sprout_of_mgr hmgr slot.val).trans hx
  refine completes_of_commit hexec ⟨congrArg Sprout.metric hvx, congrArg Sprout.met hvx, fun h8 hn => ?_, frame_finish hall⟩
  exact hask h8 hn

/-- A migration that is tried again after a mismatch (R125). -/
def movesAgain (x : Sprout) : SproutReq := { kind := .migrate, lane := x.lane, toCore := x.toCore, move := x.move, mismatches := x.mismatches + 1 }

theorem migrateCompare_mismatch (slot : Fin 32) (hp : (s.sprout slot.val).state = .planted) (hk : (s.sprout slot.val).kind = some .migrate)
    (hm : (s.sprout slot.val).met = false) (hd : (s.sprout slot.val).plantedAt + 2 ≤ s.epoch) (hc : (s.sprout slot.val).comparedAt < s.epoch)
    (h2 : (s.sprout slot.val).mismatches < 2) (hr : s.receiving = true) :
    completes (.migrateCompare slot false) s (fun t =>
      raised t Ev.LNM.SPROUT_PULLED ∧
      (let x := s.sprout slot.val
       sprouts s t { kind := .migrate, lane := x.lane, toCore := x.toCore, move := x.move, mismatches := x.mismatches + 1 })) := by
  have hexec : exec (.migrateCompare slot false) s = commit s (announce s (plant (movesAgain (s.sprout slot.val))
      (pull slot.val .mismatch s))) := by
    show commitLanes s (migrateCompare slot.val false s) = _
    unfold migrateCompare
    dsimp only
    rw [if_neg (by simp [hp, hk, hm]; omega), if_neg Bool.false_ne_true, if_neg (by omega)]
    rfl
  have hraised := pull_raises (why := .mismatch) hp
  have hpull := pull_leaves slot.val .mismatch s
  generalize pull slot.val .mismatch s = u at *
  refine completes_of_commit hexec ⟨raised_announced (raised_of_keepsEvents (plant_leaves _ u).events hraised), sprouts_finish ?_⟩
  exact sprouts_of_epoch (hpull.epoch (by decide)) (sprouts_plant ((frame_receiving hpull.frame (by decide)).trans hr) _)

/-- Settles O11: what a sprout's end and a planting leave is said once (`pull_leaves`, `plant_leaves`), and a request that is asked for stands in a slot
or waits (`sprouts_plant`). -/
theorem sproutsComplete : Obligations.SproutsComplete := by
  unfold Obligations.SproutsComplete
  exact ⟨fun slot metric pi _ _ hp hm hk ha hw hc => criterionMet_completes slot metric pi hp hm hk ha hw hc,
    fun slot _ _ hp hm hk ha ht h0 hh hl => sproutTimeout_waits slot hp hm hk ha ht h0 hh hl,
    fun slot _ _ hp hm hk ha ht h0 hh hr hq => sproutTimeout_replants slot hp hm hk ha ht h0 hh hr hq,
    fun lane _ _ _ he hd ha hk hr => sproutReplantTimer_completes lane he hd ha hk hr,
    fun slot metric twice _ _ hp hd ht hn hk ha hr => sproutSentinel_completes slot metric twice hp hd ht hn hk ha hr,
    fun slot _ hp hk hm hd hc => migrateCompare_counts slot hp hk hm hd hc,
    fun slot _ hp hk hm hd hc h2 hr => migrateCompare_mismatch slot hp hk hm hd hc h2 hr,
    fun _ _ hp hf hn hr => sproutSlotFreed_completes hp hf hn hr,
    fun core _ _ _ ho hm hl hq hr => coreOverloadMigrate_completes core ho hm hl hq hr⟩

end Sys2Proof.Machine.Reception

namespace Sys2Proof.Machine.Reception

open Capture Clocking Survey

variable {ps qs : List Part} {as bs : List Nat} {s t u : State} {i l unit inst cause : Nat} {r : FaultRec}

/-! ## Changes of the fault record alone (R397, R400, R403) -/

theorem frame_fltOnly (x : Faults) (s : State) : frame [.flt] [] s { s with flt := x } := frame_flt (by simp) (frame_refl _ _ s)

/-- A change that leaves what a notice reports of lanes, records and contexts is not announced. -/
theorem announce_unseen (h : frame ps as s t) (hp : ∀ p ∈ [Part.am, .ens, .links, .queues, .rds, .dab], p ∉ ps) (ha : ∀ a ∈ as, a / 4096 ∉ announcedPages)
    (hl : ∀ l, laneShown (t.lane l) = laneShown (s.lane l)) : announce s t = t :=
  announce_same (unannounced_of_frame h (fun p hm => hp p (by simp only [List.mem_cons, List.not_mem_nil, or_false] at hm ⊢; tauto)) ha
    (fun d => congrArg rdsShown (rdsCtx_of_rds (h.1 .rds (hp _ (by simp))) d))
    (fun d => congrArg DabLane.alarm (dabCtx_of_dab (h.1 .dab (hp _ (by simp))) d)) hl)

theorem announce_flt (x : Faults) (s : State) : announce s { s with flt := x } = { s with flt := x } :=
  announce_unseen (frame_fltOnly x s) (by decide) (by simp) (fun _ => rfl)

theorem unitResetDone_completes (h : (unit, inst) ∈ s.flt.inReset) :
    completes (.unitResetDone unit inst) s (fun t =>
      (unit, inst) ∉ t.flt.inReset ∧ ((unit, inst), s.epoch + 100) ∈ t.flt.recovering ∧ frame [.flt] [] s t) := by
  have hexec : exec (.unitResetDone unit inst) s = commit s { s with flt := { s.flt with
      inReset := s.flt.inReset.filter (fun x => x != (unit, inst))
      recovering := ((unit, inst), s.epoch + 100) :: s.flt.recovering.filter (fun r => r.1 != (unit, inst)) } } := by
    show commit s (unitSettled (unit, inst) s) = _
    unfold unitSettled
    rw [if_pos (List.contains_iff_mem.mpr h)]
  exact completes_of_commit hexec ⟨fun hm => by simpa using (List.mem_filter.mp hm).2, List.mem_cons_self, frame_finish (frame_fltOnly _ s)⟩

theorem recoveringEnd_completes {e : Nat} (he : e ≤ s.epoch) :
    completes (.recoveringEnd unit inst) s (fun t =>
      ((unit, inst), e) ∉ t.flt.recovering ∧ (∀ r ∈ s.flt.recovering, r.1 ≠ (unit, inst) → r ∈ t.flt.recovering) ∧ frame [.flt] [] s t) := by
  have hexec : exec (.recoveringEnd unit inst) s = commit s { s with flt := { s.flt with
    recovering := s.flt.recovering.filter (fun r => !(r.1 == (unit, inst) && decide (r.2 ≤ s.epoch))) } } := rfl
  refine completes_of_commit hexec ⟨fun hm => ?_, fun r hr hn => ?_, frame_finish (frame_fltOnly _ s)⟩
  · have hp := (List.mem_filter.mp hm).2
    simp [he] at hp
  · exact List.mem_filter.mpr ⟨hr, by simp [hn]⟩

theorem safeEntry_stops {b why : Nat} (hs : s.flt.safeAt = some (b, why)) (hb : onBoundary s = true) (he : b ≤ s.epoch) (hc : controlRuns s = true)
    (hst : stopping s = true) : completes .safeEntry s (fun t => t.flt = { s.flt with safeAt := none } ∧ frame [.flt] [] s t) := by
  have hexec : exec .safeEntry s = commit s { s with flt := { s.flt with safeAt := none } } := by
    show commitLanes s (safeEntry s) = _
    unfold safeEntry
    rw [hs]
    dsimp only
    rw [if_pos (by simp [hb, he, hc]), if_pos hst]
    unfold commitLanes
    rw [announce_flt]
  exact completes_of_commit hexec ⟨rfl, frame_finish (frame_fltOnly _ s)⟩

theorem faultLogClear_completes (port : Port) (v : Word) (h : lets s Reg.FLT.LOG_CLR = true) :
    completes (.faultLogClear port v) s (fun t => t.flt = { s.flt with log := [] } ∧ frame [.flt, .fab] [] s t) := by
  have hbit : (withField v 0 1 1).getLsbD 0 = true := by
    rw [getLsbD_eq_fieldOf, fieldOf_withField_same _ _ (by decide)]
    rfl
  have hexec : exec (.faultLogClear port v) s = commit s (clearLog (withField v 0 1 1) (closeKey (Reg.FLT.LOG_CLR / 4096) s)) :=
    congrArg (commit s) (hostWrite_acts h (by decide))
  unfold clearLog at hexec
  rw [if_pos hbit] at hexec
  have hkey : frame [.flt, .fab] [] s (closeKey (Reg.FLT.LOG_CLR / 4096) s) := frame_closeKey (by simp) (frame_refl _ _ s)
  exact completes_of_commit hexec ⟨rfl, frame_finish (frame_flt (by simp) hkey)⟩

/-! ## The end of a device recovery (R399) -/

theorem muteBoundary_leaves (n : Nat) (s : State) : frame [.slots, .fab, .twc] (Reg.PGM.STAT n :: evWords (Ev.PGM.MUTE n)) s (muteBoundary n s) := by
  have hput {u : State} (f : Field) (hf : f.addr = Reg.PGM.STAT n) (b : Bool) (hu : frame [.slots, .fab, .twc] (Reg.PGM.STAT n :: evWords (Ev.PGM.MUTE n)) s u) :
      frame [.slots, .fab, .twc] (Reg.PGM.STAT n :: evWords (Ev.PGM.MUTE n)) s (u.put f b) := frame_put (by rw [hf]; exact List.mem_cons_self) hu
  have base := hput (Fld.PGM.STAT.SOFT_MUTE n) rfl ((s.slot n).running && (insOf s n).isEmpty) (frame_refl _ _ s)
  have slot {u : State} (f : Slot → Slot) (hu : frame [.slots, .fab, .twc] (Reg.PGM.STAT n :: evWords (Ev.PGM.MUTE n)) s u) :
      frame [.slots, .fab, .twc] (Reg.PGM.STAT n :: evWords (Ev.PGM.MUTE n)) s (u.setSlot n f) := frame_slots (by simp) hu
  unfold muteBoundary
  dsimp only
  split
  · exact base
  · split
    · exact base
    · split
      · exact slot _ base
      · exact slot _ base
  · split
    · exact slot _ base
    · split
      · exact frame_raise (by decide) (List.subset_cons_self _ _) (slot _ (hput _ rfl _ base))
      · exact slot _ base

/-- The registers that the end of a device recovery touches. -/
def mutedWords : List Nat := (List.range 4).map Reg.PGM.STAT ++ evsWords ((List.range 4).map Ev.PGM.MUTE)

theorem mutes_leaves (s : State) : frame [.slots, .fab, .twc] mutedWords s (forEach (List.range 4) muteBoundary s) := by
  refine frame_forEach (fun n u hn hu => frame_trans hu (frame_mono (muteBoundary_leaves n u) (fun _ h => h) ?_)) (frame_refl _ _ s)
  refine List.cons_subset.mpr ⟨List.mem_append_left _ (List.mem_map_of_mem hn), fun a ha => List.mem_append_right _ ?_⟩
  exact List.mem_flatMap.mpr ⟨_, List.mem_map_of_mem hn, ha⟩

theorem recovering_unmuted : Fld.FLT.STAT.RECOVERING.addr ∉ mutedWords := by decide +kernel

/-- The device recovery is over. -/
def recovered (s : State) : State := ({ s with flt := { s.flt with recovery := none } } : State).put Fld.FLT.STAT.RECOVERING false

theorem recovered_leaves (s : State) : frame [.flt] [Reg.FLT.STAT] s (recovered s) :=
  frame_put (f := Fld.FLT.STAT.RECOVERING) List.mem_cons_self (frame_flt (by simp) (frame_refl _ _ s))

theorem recovered_shows (s : State) : (recovered s).flag Fld.FLT.STAT.RECOVERING = false ∧ (recovered s).flt = { s.flt with recovery := none } :=
  ⟨State.flag_put_same _ Fld.FLT.STAT.RECOVERING false (by decide) (by decide), rfl⟩

theorem recoveryDone_eq {us : List UnitId} (hr : s.flt.recovery = some (.resetting, us)) (hb : onBoundary s = true)
    (hu : us.all (fun u => !(s.flt.inReset.contains u)) = true) : recoveryDone s = forEach (List.range 4) muteBoundary (recovered s) := by
  unfold recoveryDone
  rw [hr]
  dsimp only
  rw [if_pos (by rw [hb, hu]; rfl)]
  rfl

theorem deviceRecoveryDone_completes {us : List UnitId} (hr : s.flt.recovery = some (.resetting, us)) (hb : onBoundary s = true)
    (hu : us.all (fun u => !(s.flt.inReset.contains u)) = true) :
    completes .deviceRecoveryDone s (fun t =>
      t.flt = { s.flt with recovery := none } ∧ t.flag Fld.FLT.STAT.RECOVERING = false ∧
      frame [.flt, .slots, .fab, .twc] (Reg.FLT.STAT :: (List.range 4).map Reg.PGM.STAT ++ evsWords ((List.range 4).map Ev.PGM.MUTE)) s t) := by
  have hexec : exec .deviceRecoveryDone s = commit s (recoveryDone s) := rfl
  rw [recoveryDone_eq hr hb hu] at hexec
  obtain ⟨hflag, hflt⟩ := recovered_shows s
  have hput := recovered_leaves s
  generalize recovered s = a at *
  have hmute := mutes_leaves a
  have hun := recovering_unmuted
  rw [List.cons_append]
  generalize forEach (List.range 4) muteBoundary a = b at *
  rw [show (List.range 4).map Reg.PGM.STAT ++ evsWords ((List.range 4).map Ev.PGM.MUTE) = mutedWords from rfl]
  generalize mutedWords = w at *
  refine completes_of_commit hexec ⟨(hmute.1 .flt (by decide)).trans hflt, ?_, frame_finish ?_⟩
  · rw [finish_flag, frame_flag hmute hun, hflag]
  · exact frame_trans (frame_mono hput (by simp) (List.cons_subset.mpr ⟨List.mem_cons_self, by simp⟩)) (frame_mono hmute (by decide) (List.subset_cons_self _ _))

end Sys2Proof.Machine.Reception

namespace Sys2Proof.Machine.Reception

open Capture Clocking Survey

variable {ps qs : List Part} {as bs : List Nat} {s t u : State} {i l unit inst cause : Nat} {r : FaultRec}

/-! ## Users of a unit (R121) -/

/-- Where a lane stands: in use or not, and its core. -/
def placed (x : Lane) : Bool × Nat := (x.inUse, x.core)

theorem placed_stayed (y : Lane) : placed (stayed y) = placed y := by
  unfold stayed
  split
  case isTrue h =>
    rw [beq_iff_eq] at h
    unfold placed Lane.inUse
    rw [h]
    rfl
  case isFalse => rfl

theorem placed_setLane {f : Lane → Lane} (hf : ∀ y, placed (f y) = placed y) (s : State) (l k : Nat) : placed ((s.setLane l f).lane k) = placed (s.lane k) := by
  rcases lane_setLane_cases s l k f with e | ⟨rfl, e⟩
  · rw [e]
  · rw [e, hf]

theorem placed_afterPull (x : Sprout) (s : State) (l : Nat) : placed ((afterPull x s).lane l) = placed (s.lane l) := by
  unfold afterPull
  split
  · exact placed_setLane placed_stayed s x.lane l
  · split
    · rfl
    · rw [lane_of_mgr ((discardShadow_leaves x.lane s).1 .mgr (by simp))]

/-- The end of a sprout leaves the lanes in use and their cores. -/
theorem placed_pull (i : Nat) (why : PullReason) (s : State) (l : Nat) : placed ((pull i why s).lane l) = placed (s.lane l) := by
  by_cases hp : (s.sprout i).state = .planted
  · rw [pull_eq hp, lane_of_mgr (raise_mgr _ _), placed_afterPull, lane_of_mgr (cancelled_mgr i why s)]
    rfl
  · unfold pull
    dsimp only
    rw [if_pos (by simpa using hp)]

theorem servedLanes_of_placed (h : ∀ l, placed (t.lane l) = placed (s.lane l)) (unit inst : Nat) : servedLanes t unit inst = servedLanes s unit inst := by
  have huse (l : Nat) : t.laneInUse l = s.laneInUse l := congrArg Prod.fst (h l)
  have hcore (l : Nat) : (t.lane l).core = (s.lane l).core := congrArg Prod.snd (h l)
  simp only [servedLanes, lanesOnCore, huse, hcore]

/-- A list of slots is pulled, each once. -/
theorem pulls_sprout {js : List Nat} (why : PullReason) (hn : js.Nodup) (hp : ∀ j ∈ js, j < 32 ∧ (s.sprout j).state = .planted) (i : Nat) :
    (forEach js (fun j v => pull j why v) s).sprout i = if i ∈ js then ended .pulled why s.epoch (s.sprout i) else s.sprout i := by
  unfold Machine.forEach
  induction js generalizing s with
  | nil => simp
  | cons j js ih =>
    rw [List.nodup_cons] at hn
    obtain ⟨hj, hjs⟩ := List.forall_mem_cons.mp hp
    have hother : ∀ k ∈ js, k < 32 ∧ ((pull j why s).sprout k).state = .planted := fun k hk => by
      have hne : k ≠ j := fun e => hn.1 (e ▸ hk)
      rw [pull_sprout_ne hne]
      exact hjs k hk
    rw [List.foldl_cons, ih hn.2 hother, (pull_leaves j why s).epoch (by decide)]
    by_cases e : i = j
    · subst e
      rw [if_neg hn.1, if_pos List.mem_cons_self, pull_sprout hj.1 hj.2]
    · rw [pull_sprout_ne e]
      simp [e]

theorem usersOf_planted {unit inst i : Nat} (h : i ∈ usersOf s unit inst) : i < 32 ∧ (s.sprout i).state = .planted :=
  ⟨(mem_plantedSlots.mp h).1, (mem_plantedSlots.mp h).2.1⟩

theorem usersOf_of_mgr (h : t.mgr = s.mgr) (unit inst : Nat) : usersOf t unit inst = usersOf s unit inst := by
  unfold usersOf plantedSlots
  rw [servedLanes_of_placed (fun l => congrArg placed (lane_of_mgr h l)), h]

/-- The requests of migrations to a unit are dropped. -/
def unasked (unit inst : Nat) (s : State) : State :=
  { s with mgr := { s.mgr with waiting := s.mgr.waiting.filter (fun r => !(aimsAt unit inst (some r.kind) r.toCore)) } }

theorem pullUsers_eq (unit inst : Nat) (s : State) : pullUsers unit inst s = forEach (usersOf s unit inst) (fun i v => pull i .fault v) (unasked unit inst s) := rfl

theorem unasked_leaves (unit inst : Nat) (s : State) : Effect [.mgr] [] s (unasked unit inst s) := (Effect.refl _ _ s).mgr (by simp) _

theorem pullUsers_leaves (unit inst : Nat) (s : State) : Effect pulledParts pullWords s (pullUsers unit inst s) := by
  rw [pullUsers_eq]
  exact ((unasked_leaves unit inst s).mono (by decide) (by simp)).trans
    ((Effect.refl _ _ _).forEach (fun i u _ hu => hu.trans (pull_leaves i .fault u)))

theorem pullUsers_none (h : usersOf s unit inst = []) : pullUsers unit inst s = unasked unit inst s := by
  rw [pullUsers_eq, h]
  rfl

theorem pullUsers_sprout (h : i ∈ usersOf s unit inst) :
    ((pullUsers unit inst s).sprout i).state = .pulled ∧ ((pullUsers unit inst s).sprout i).reason = .fault := by
  have hn : (usersOf s unit inst).Nodup := by
    unfold usersOf plantedSlots
    exact indices_nodup _ _
  rw [pullUsers_eq, pulls_sprout .fault hn (s := unasked unit inst s) (fun j hj => usersOf_planted (s := s) hj), if_pos h]
  exact ⟨rfl, rfl⟩

theorem placed_pullUsers (unit inst : Nat) (s : State) (l : Nat) : placed ((pullUsers unit inst s).lane l) = placed (s.lane l) := by
  rw [pullUsers_eq]
  exact forEach_survives (P := fun u => placed (u.lane l) = placed (s.lane l)) (fun i _ u hu => (placed_pull i .fault u l).trans hu) rfl

/-! ## A fault that is counted and recorded (R397, R400, R403) -/

theorem countFault_leaves (s : State) : Effect [.flt] [] s (countFault s) := by
  have hc := (Effect.refl [.flt] [] s).flt (by simp)
  unfold countFault
  dsimp only
  refine .ite (fun _ => ?_) (fun _ => hc _)
  unfold causeSafe
  exact .ite (fun _ => hc _) (fun _ => (hc _).flt (by simp) _)

/-- What counting and recording leave of the fault record. -/
def unitsOf (x : Faults) := (x.retired, x.resets, x.inReset, x.recovering, x.recovery)

theorem causeSafe_units (why : Nat) (s : State) : unitsOf (causeSafe why s).flt = unitsOf s.flt := by
  unfold causeSafe
  split <;> rfl

theorem countFault_units (s : State) : unitsOf (countFault s).flt = unitsOf s.flt := by
  unfold countFault
  dsimp only
  split
  · exact causeSafe_units _ _
  · rfl

theorem logRecord_units (r : FaultRec) (s : State) : unitsOf (logRecord r s).flt = unitsOf s.flt := by
  unfold logRecord
  dsimp only
  rw [raise_flt]
  rfl

theorem logTransient_leaves (h : r.cls ≠ 1) (s : State) : Effect [.flt, .twc, .fab] (Reg.FLT.TRANSIENT_CNT :: evWords Ev.FLT.FAULT) s (logRecord r s) := by
  unfold logRecord
  rw [if_neg h]
  exact (((Effect.refl _ _ s).flt (by simp) _).set (f := Fld.FLT.TRANSIENT_CNT.COUNT) List.mem_cons_self (by decide) _).raise (by decide)
    (List.subset_cons_self _ _)

/-- A fault of a unit is counted, its users are pulled, and it is recorded. -/
def faulted (unit inst : Nat) (r : FaultRec) (s : State) : State := logRecord r (pullUsers unit inst (countFault s))

theorem countFault_mgr (s : State) : (countFault s).mgr = s.mgr := (countFault_leaves s).frame.1 .mgr (by simp)

/-- The parts and registers of a fault that is no permanent one. -/
def transientParts : List Part := .flt :: pulledParts

def transientWords : List Nat := Reg.FLT.TRANSIENT_CNT :: evWords Ev.FLT.FAULT

theorem faulted_leaves (h : r.cls ≠ 1) (unit inst : Nat) (s : State) : Effect transientParts (transientWords ++ pullWords) s (faulted unit inst r s) :=
  (((countFault_leaves s).mono (by decide) (by simp)).trans ((pullUsers_leaves unit inst _).mono (by decide) (List.subset_append_right _ _))).trans
    ((logTransient_leaves h _).mono (by decide) (List.subset_append_left _ _))

/-- Without users only the record changes, and the requests of migrations to the unit. -/
theorem faulted_alone (h : r.cls ≠ 1) (hu : usersOf s unit inst = []) : Effect [.flt, .mgr, .fab, .twc] transientWords s (faulted unit inst r s) := by
  unfold faulted
  rw [pullUsers_none ((usersOf_of_mgr (countFault_mgr s) unit inst).trans hu)]
  exact (((countFault_leaves s).mono (by simp) (by simp)).trans ((unasked_leaves unit inst _).mono (by simp) (by simp))).trans
    ((logTransient_leaves h _).mono (by simp) (fun _ h => h))

theorem faulted_units (unit inst : Nat) (r : FaultRec) (s : State) : unitsOf (faulted unit inst r s).flt = unitsOf s.flt := by
  have hp : (pullUsers unit inst (countFault s)).flt = (countFault s).flt := (pullUsers_leaves unit inst _).frame.1 .flt (by decide)
  unfold faulted
  rw [logRecord_units, hp, countFault_units]

theorem faulted_mgr (unit inst : Nat) (r : FaultRec) (s : State) : (faulted unit inst r s).mgr = (pullUsers unit inst (countFault s)).mgr := by
  unfold faulted logRecord
  dsimp only
  rw [raise_mgr]
  split <;> rfl

theorem faulted_sprout (r : FaultRec) (h : i ∈ usersOf s unit inst) :
    ((faulted unit inst r s).sprout i).state = .pulled ∧ ((faulted unit inst r s).sprout i).reason = .fault := by
  rw [sprout_of_mgr (faulted_mgr unit inst r s)]
  rw [← usersOf_of_mgr (countFault_mgr s)] at h
  exact pullUsers_sprout h

theorem faulted_served (unit inst : Nat) (r : FaultRec) (s : State) : servedLanes (faulted unit inst r s) unit inst = servedLanes s unit inst :=
  servedLanes_of_placed (fun l => by
    rw [lane_of_mgr (faulted_mgr unit inst r s), placed_pullUsers, lane_of_mgr (countFault_mgr s)]) unit inst

theorem faulted_raised (unit inst : Nat) (r : FaultRec) (s : State) : raised (faulted unit inst r s) Ev.FLT.FAULT := raised_raise _ _

/-! ## Lanes that restart (R397) -/

theorem markRestart_leaves (unit inst : Nat) (s : State) : Effect [.mgr] [] s (markRestart unit inst s) :=
  (Effect.refl _ _ s).forEach (fun _ _ _ hu => hu.setLane (by simp))

theorem servedLanes_lt (h : l ∈ servedLanes s unit inst) : l < 156 := by
  unfold servedLanes at h
  split at h
  · exact List.mem_range.mp (List.mem_filter.mp h).1
  · exact List.mem_range.mp (List.mem_filter.mp h).1

theorem markRestart_marks (h : l ∈ servedLanes s unit inst) : ((markRestart unit inst s).lane l).restart = true := by
  refine forEach_reaches (P := fun u => (u.lane l).restart = true) h (fun u => ?_) (fun k _ u hu => ?_) s
  · rw [lane_setLane (servedLanes_lt h)]
  · rcases lane_setLane_cases u k l (fun x => { x with restart := true }) with e | ⟨-, e⟩
    · rw [e]
      exact hu
    · rw [e]

theorem markRestart_sprout (unit inst : Nat) (s : State) (i : Nat) : (markRestart unit inst s).sprout i = s.sprout i :=
  forEach_survives (P := fun u => u.sprout i = s.sprout i) (fun _ _ _ hu => hu) rfl

theorem markRestart_shown (unit inst : Nat) (s : State) (l : Nat) : laneShown ((markRestart unit inst s).lane l) = laneShown (s.lane l) :=
  forEach_survives (P := fun u => laneShown (u.lane l) = laneShown (s.lane l)) (fun k _ u hu => by
    rcases lane_setLane_cases u k l (fun x => { x with restart := true }) with e | ⟨rfl, e⟩
    · rw [e]
      exact hu
    · rw [e]
      exact hu) rfl

end Sys2Proof.Machine.Reception

namespace Sys2Proof.Machine.Reception

open Capture Clocking Survey

variable {ps qs : List Part} {as bs : List Nat} {s t u : State} {i l unit inst cause : Nat} {r : FaultRec}

/-! ## Transient faults (R397, R398) -/

/-- The record of a fault of a unit that has a reset. -/
def faultRecord (s : State) (unit inst cause cls action : Nat) : FaultRec :=
  { unit := unit, inst := inst, cause := cause, cls := cls, action := action, retry := min 4 (recentResets s (unit, inst) + 1), epoch := s.epoch }

/-- A transient fault resets its unit, and the lanes it serves restart. -/
def transient (unit inst cause : Nat) (s : State) : State :=
  markRestart unit inst (startReset unit inst (faulted unit inst (faultRecord s unit inst cause 0 2) s))

theorem unitFault_transient (hu : hasReset unit = true) (hr : s.flt.retired.contains (unit, inst) = false) (ha : isRecovering s (unit, inst) = false)
    (hn : recentResets s (unit, inst) < 3) (hd : s.flt.recovery = none) (hs : (sharedUnit unit && !(recoveringUnits s).isEmpty) = false) :
    unitFault unit inst cause s = transient unit inst cause s := by
  unfold unitFault
  simp only [hr, ha, hu, hd, hs, Bool.false_eq_true, if_false, if_true, Bool.false_or, decide_eq_true_eq]
  rw [if_neg (by omega)]
  rfl

theorem startReset_leaves (unit inst : Nat) (s : State) : Effect [.flt] [] s (startReset unit inst s) := (Effect.refl _ _ s).flt (by simp) _

theorem mem_inReset_startReset (unit inst : Nat) (s : State) : (unit, inst) ∈ (startReset unit inst s).flt.inReset := by
  unfold startReset
  dsimp only
  split
  case isTrue h => exact List.contains_iff_mem.mp h
  case isFalse => exact List.mem_cons_self

theorem mem_resets_startReset (h : hasReset unit = true) (inst : Nat) (s : State) : ((unit, inst), s.epoch) ∈ (startReset unit inst s).flt.resets := by
  unfold startReset
  dsimp only
  rw [if_pos h]
  exact List.mem_cons_self

theorem transient_follows (unit inst : Nat) (s : State) : Effect [.flt, .mgr] [] s (markRestart unit inst (startReset unit inst s)) :=
  ((startReset_leaves unit inst s).mono (by simp) (by simp)).trans ((markRestart_leaves unit inst _).mono (by simp) (by simp))

theorem announce_touched (hl : t.links = s.links) (h : Effect ps as s t) (hp : evParts ⊆ ps) (ha : noticeRegs ⊆ as) : Effect ps as s (announce s t) :=
  h.trans ((announce_leaves hl).mono hp ha)

theorem announce_flt_same (s t : State) : (announce s t).flt = t.flt := (announce_touches s t).frame.1 .flt (by decide)

theorem lastFault_faulted (unit inst : Nat) (r : FaultRec) (s : State) : lastFault (faulted unit inst r s) = some (r.unit, r.inst, r.cause, r.epoch) :=
  lastFault_logRecord r _

theorem faultPages : transientWords ++ pullWords ⊆ wordsOf (0x071 :: pullPages) ∧ noticeRegs ⊆ wordsOf (0x071 :: pullPages) := by
  refine ⟨subset_wordsOf (by decide +kernel), fun _ hx => wordsOf_mono ?_ (noticeRegs_pages hx)⟩
  exact fun _ h => List.mem_cons_of_mem _ (List.mem_append_right _ h)

theorem transient_page : ∀ a ∈ transientWords, a / 4096 ∉ announcedPages := by decide

/-- What a transient fault of a unit leaves. -/
theorem transient_shows (hu : hasReset unit = true) (cause : Nat) (s : State) :
    (unit, inst) ∈ (transient unit inst cause s).flt.inReset ∧ lastFault (transient unit inst cause s) = some (unit, inst, cause, s.epoch) ∧
      raised (transient unit inst cause s) Ev.FLT.FAULT ∧ ((unit, inst), s.epoch) ∈ (transient unit inst cause s).flt.resets ∧
      (∀ l ∈ servedLanes s unit inst, ((transient unit inst cause s).lane l).restart = true) ∧
      (transient unit inst cause s).flt.retired = s.flt.retired ∧
      (∀ i ∈ usersOf s unit inst, ((transient unit inst cause s).sprout i).state = .pulled ∧ ((transient unit inst cause s).sprout i).reason = .fault) := by
  have hlast := lastFault_faulted unit inst (faultRecord s unit inst cause 0 2) s
  have hraised := faulted_raised unit inst (faultRecord s unit inst cause 0 2) s
  have hunits := faulted_units unit inst (faultRecord s unit inst cause 0 2) s
  have hserved := faulted_served unit inst (faultRecord s unit inst cause 0 2) s
  have hsprout := fun i hi => faulted_sprout (i := i) (s := s) (unit := unit) (inst := inst) (faultRecord s unit inst cause 0 2) hi
  have hepoch : (faulted unit inst (faultRecord s unit inst cause 0 2) s).epoch = s.epoch :=
    (faulted_leaves (r := faultRecord s unit inst cause 0 2) (Nat.zero_ne_one) unit inst s).epoch (by decide)
  unfold transient
  generalize faulted unit inst (faultRecord s unit inst cause 0 2) s = a at *
  have hflt : (markRestart unit inst (startReset unit inst a)).flt = (startReset unit inst a).flt :=
    (markRestart_leaves unit inst _).frame.1 .flt (by simp)
  refine ⟨?_, ?_, raised_of_keepsEvents (transient_follows unit inst a).events hraised, ?_, fun l hl => ?_, ?_, fun i hi => ?_⟩
  · rw [hflt]
    exact mem_inReset_startReset unit inst a
  · exact (lastFault_congr (congrArg Faults.log hflt)).trans ((lastFault_congr rfl).trans hlast)
  · rw [hflt, ← hepoch]
    exact mem_resets_startReset hu inst a
  · refine markRestart_marks ?_
    rw [← hserved] at hl
    exact hl
  · rw [hflt]
    exact congrArg Prod.fst hunits
  · rw [markRestart_sprout]
    exact hsprout i hi

theorem transient_leaves (unit inst cause : Nat) (s : State) : Effect transientParts (transientWords ++ pullWords) s (transient unit inst cause s) :=
  (faulted_leaves Nat.zero_ne_one unit inst s).trans ((transient_follows unit inst _).mono (by decide) (by simp))

theorem transient_alone (h : usersOf s unit inst = []) (cause : Nat) : Effect [.flt, .mgr, .fab, .twc] transientWords s (transient unit inst cause s) :=
  (faulted_alone Nat.zero_ne_one h).trans ((transient_follows unit inst _).mono (by simp) (by simp))

/-- Without users a transient fault shows nothing that is announced. -/
theorem transient_shown (h : usersOf s unit inst = []) (cause l : Nat) : laneShown ((transient unit inst cause s).lane l) = laneShown (s.lane l) := by
  have hm : (faulted unit inst (faultRecord s unit inst cause 0 2) s).mgr = (unasked unit inst (countFault s)).mgr := by
    rw [faulted_mgr, pullUsers_none ((usersOf_of_mgr (countFault_mgr s) unit inst).trans h)]
  have hstart (a : State) : (startReset unit inst a).lane l = a.lane l := rfl
  have hask (a : State) : (unasked unit inst a).lane l = a.lane l := rfl
  unfold transient
  rw [markRestart_shown, hstart, lane_of_mgr hm, hask, lane_of_mgr (countFault_mgr s)]

/-- A fault that pulls its unit's users stays on the pages of pulls and of the fault log. -/
theorem pulled_pages (h : Effect transientParts (wordsOf (0x071 :: pullPages)) s t) : pageFrame pullParts (0x071 :: pullPages) s (finish s (announce s t)) :=
  (announce_touched (h.frame.1 .links (by decide)) (h.mono (by decide) (fun _ h => h)) (by decide) faultPages.2).finish.pageFrame

theorem transient_completes {c : Instr} (hc : exec c s = commit s (announce s (transient unit inst cause s))) (hu : hasReset unit = true) :
    completes c s (fun t =>
      (unit, inst) ∈ t.flt.inReset ∧ logged s t unit inst cause ∧ raised t Ev.FLT.FAULT ∧ ((unit, inst), s.epoch) ∈ t.flt.resets ∧
      (∀ l ∈ servedLanes s unit inst, (t.lane l).restart = true) ∧ t.flt.retired = s.flt.retired ∧
      (∀ i ∈ usersOf s unit inst, (t.sprout i).state = .pulled ∧ (t.sprout i).reason = .fault) ∧
      (usersOf s unit inst = [] → frame [.flt, .mgr, .fab, .twc] (Reg.FLT.TRANSIENT_CNT :: evWords Ev.FLT.FAULT) s t) ∧
      pageFrame pullParts (0x071 :: pullPages) s t) := by
  obtain ⟨hin, hlast, hraised, hresets, hrestart, hretired, hsprout⟩ := transient_shows (inst := inst) hu cause s
  have hall := (transient_leaves unit inst cause s).mono (fun _ h => h) faultPages.1
  have halone := fun h => transient_alone (s := s) (unit := unit) (inst := inst) h cause
  have hshown := fun h l => transient_shown (s := s) (unit := unit) (inst := inst) h cause l
  generalize transient unit inst cause s = a at *
  have hflt : (finish s (announce s a)).flt = a.flt := announce_flt_same s a
  refine completes_of_commit hc ⟨?_, ?_, raised_announced hraised, ?_, fun l hl => ?_, ?_, fun i hi => ?_, fun h => ?_, pulled_pages hall⟩
  · rwa [hflt]
  · exact (lastFault_congr (congrArg Faults.log hflt)).trans hlast
  · rwa [hflt]
  · rw [lane_finish]
    exact hrestart l hl
  · rw [hflt, hretired]
  · rw [sprout_finish]
    exact hsprout i hi
  · rw [announce_unseen (halone h).frame (by decide) transient_page (hshown h)]
    exact frame_finish (halone h).frame

theorem coreHang_transient (core : Fin 6) (exception : Bool) (hrx : s.receiving = true) (hr : s.flt.retired.contains (1, core.val) = false)
    (ha : isRecovering s (1, core.val) = false) (hn : recentResets s (1, core.val) < 3) (hd : s.flt.recovery = none)
    (hcause : cause = (if exception then 5 else 4)) :
    exec (.coreHang core exception) s = commit s (announce s (transient 1 core.val cause s)) := by
  show commitLanes s (if s.receiving then unitFault 0x01 core.val (if exception then 5 else 4) s else s) = _
  rw [if_pos hrx, ← hcause, unitFault_transient rfl hr ha hn hd rfl]
  rfl

end Sys2Proof.Machine.Reception

namespace Sys2Proof.Machine.Reception

open Capture Clocking Survey

variable {ps qs : List Part} {as bs : List Nat} {s t u : State} {i l unit inst cause : Nat} {r : FaultRec}

theorem accelFault_faults (hrx : s.receiving = true) (h2 : 2 ≤ unit) (h6 : unit ≤ 6) (hi : inst < unitInstances unit) :
    exec (.accelFault unit inst) s = commit s (announce s (unitFault unit inst 4 s)) := by
  show commitLanes s (if s.receiving && hasReset unit && unit != 0x01 && decide (inst < unitInstances unit) then unitFault unit inst 4 s else s) = _
  rw [if_pos (by simp [hrx, hasReset, hi]; omega)]
  rfl

/-! ## The start of a device recovery (R399) -/

/-- A fault of a shared unit while another recovers starts a device recovery. -/
def recoverySet (unit inst cause : Nat) (s : State) : State := startRecovery unit inst (faulted unit inst (faultRecord s unit inst cause 2 4) s)

theorem unitFault_recovery (hu : hasReset unit = true) (hr : s.flt.retired.contains (unit, inst) = false) (ha : isRecovering s (unit, inst) = false)
    (hn : recentResets s (unit, inst) < 3) (hd : s.flt.recovery = none) (hs : (sharedUnit unit && !(recoveringUnits s).isEmpty) = true) :
    unitFault unit inst cause s = recoverySet unit inst cause s := by
  unfold unitFault
  simp only [hr, ha, hu, hd, hs, Bool.false_eq_true, if_false, if_true, Bool.false_or, decide_eq_true_eq]
  rw [if_neg (by omega)]
  rfl

def recoveryWords : List Nat := [Reg.FLT.STAT, Reg.FLT.ESCALATE_CNT] ++ evWords Ev.FLT.ESCALATE

theorem startRecovery_leaves (unit inst : Nat) (s : State) : Effect [.flt, .twc, .fab] recoveryWords s (startRecovery unit inst s) := by
  have h := ((Effect.refl [.flt, .twc, .fab] recoveryWords s).flt (by simp) { s.flt with
    recovery := some (.ramping (s.epoch + 1), (unit, inst) :: (recoveringUnits s).filter (fun x => x != (unit, inst))) }).put
    (f := Fld.FLT.STAT.RECOVERING) (by decide) (by decide) true
  unfold startRecovery
  exact (h.set (f := Fld.FLT.ESCALATE_CNT.COUNT) (by decide) (by decide) _).raise (by decide) (by decide)

theorem startRecovery_flt (unit inst : Nat) (s : State) : (startRecovery unit inst s).flt =
    { s.flt with recovery := some (.ramping (s.epoch + 1), (unit, inst) :: (recoveringUnits s).filter (fun x => x != (unit, inst))) } := by
  unfold startRecovery
  dsimp only
  rw [raise_flt]
  rfl

theorem startRecovery_shows (unit inst : Nat) (s : State) : (startRecovery unit inst s).flag Fld.FLT.STAT.RECOVERING = true ∧
    (startRecovery unit inst s).get Fld.FLT.ESCALATE_CNT.COUNT = min 65535 (s.get Fld.FLT.ESCALATE_CNT.COUNT + 1) ∧
    raised (startRecovery unit inst s) Ev.FLT.ESCALATE := by
  unfold startRecovery
  dsimp only
  generalize ht : ({ s with flt := { s.flt with
    recovery := some (.ramping (s.epoch + 1), (unit, inst) :: (recoveringUnits s).filter (fun x => x != (unit, inst))) } } : State) = a
  have hget : a.get Fld.FLT.ESCALATE_CNT.COUNT = s.get Fld.FLT.ESCALATE_CNT.COUNT := by
    rw [← ht]
    rfl
  refine ⟨?_, ?_, raised_raise _ _⟩
  · rw [flag_raise _ _ (by decide) (by decide)]
    refine Eq.trans ?_ (State.flag_put_same a Fld.FLT.STAT.RECOVERING true (by decide) (by decide))
    exact frame_flag (ps := []) (as := [Reg.FLT.ESCALATE_CNT]) (frame_set (f := Fld.FLT.ESCALATE_CNT.COUNT) (by decide) (frame_refl _ _ _)) (by decide)
  · rw [get_raise _ _ (by decide) (by decide), get_bumpSat (by decide), get_put_apart (.inl (by decide)), hget]
    rfl

theorem recoveringUnits_of_units (h : unitsOf t.flt = unitsOf s.flt) (he : t.epoch = s.epoch) : recoveringUnits t = recoveringUnits s := by
  simp only [unitsOf, Prod.mk.injEq] at h
  obtain ⟨-, -, hin, hrec, -⟩ := h
  unfold recoveringUnits
  rw [hin, hrec, he]

theorem escalate_quiet : Reg.FLT.ESCALATE_CNT ∉ transientWords ++ pullWords := by decide +kernel

/-- What the start of a device recovery leaves. -/
theorem recoverySet_shows (unit inst cause : Nat) (s : State) :
    (recoverySet unit inst cause s).flt.recovery =
        some (.ramping (s.epoch + 1), (unit, inst) :: (recoveringUnits s).filter (fun x => x != (unit, inst))) ∧
      (recoverySet unit inst cause s).flag Fld.FLT.STAT.RECOVERING = true ∧ raised (recoverySet unit inst cause s) Ev.FLT.ESCALATE ∧
      raised (recoverySet unit inst cause s) Ev.FLT.FAULT ∧ lastFault (recoverySet unit inst cause s) = some (unit, inst, cause, s.epoch) ∧
      (recoverySet unit inst cause s).get Fld.FLT.ESCALATE_CNT.COUNT = min 65535 (s.get Fld.FLT.ESCALATE_CNT.COUNT + 1) ∧
      (∀ i ∈ usersOf s unit inst, ((recoverySet unit inst cause s).sprout i).state = .pulled ∧ ((recoverySet unit inst cause s).sprout i).reason = .fault) := by
  have hlast := lastFault_faulted unit inst (faultRecord s unit inst cause 2 4) s
  have hraised := faulted_raised unit inst (faultRecord s unit inst cause 2 4) s
  have hsprout := fun i hi => faulted_sprout (i := i) (s := s) (unit := unit) (inst := inst) (faultRecord s unit inst cause 2 4) hi
  have hleaves := faulted_leaves (r := faultRecord s unit inst cause 2 4) (by decide : (2 : Nat) ≠ 1) unit inst s
  have hepoch := hleaves.epoch (by decide)
  have hunits := recoveringUnits_of_units (faulted_units unit inst (faultRecord s unit inst cause 2 4) s) hepoch
  have hcount : (faulted unit inst (faultRecord s unit inst cause 2 4) s).get Fld.FLT.ESCALATE_CNT.COUNT = s.get Fld.FLT.ESCALATE_CNT.COUNT :=
    frame_get hleaves.frame escalate_quiet
  unfold recoverySet
  generalize faulted unit inst (faultRecord s unit inst cause 2 4) s = a at *
  obtain ⟨hflag, hget, hesc⟩ := startRecovery_shows unit inst a
  have hflt := startRecovery_flt unit inst a
  have hall := startRecovery_leaves unit inst a
  refine ⟨?_, hflag, hesc, raised_of_keepsEvents hall.events hraised, ?_, hget.trans (by rw [hcount]), fun i hi => ?_⟩
  · rw [hflt, hepoch, hunits]
  · exact (lastFault_congr (by rw [hflt])).trans hlast
  · rw [sprout_of_mgr (hall.frame.1 .mgr (by decide))]
    exact hsprout i hi

theorem recoverySet_leaves (unit inst cause : Nat) (s : State) : Effect transientParts (transientWords ++ pullWords ++ recoveryWords) s (recoverySet unit inst cause s) :=
  ((faulted_leaves (by decide : (2 : Nat) ≠ 1) unit inst s).mono (fun _ h => h) (List.subset_append_left _ _)).trans
    ((startRecovery_leaves unit inst _).mono (by decide) (List.subset_append_right _ _))

theorem recoverySet_alone (h : usersOf s unit inst = []) (cause : Nat) :
    Effect [.flt, .mgr, .fab, .twc] (transientWords ++ recoveryWords) s (recoverySet unit inst cause s) :=
  ((faulted_alone (by decide : (2 : Nat) ≠ 1) h).mono (fun _ h => h) (List.subset_append_left _ _)).trans
    ((startRecovery_leaves unit inst _).mono (by simp) (List.subset_append_right _ _))

theorem recoverySet_shown (h : usersOf s unit inst = []) (cause l : Nat) : laneShown ((recoverySet unit inst cause s).lane l) = laneShown (s.lane l) := by
  have hm : (recoverySet unit inst cause s).mgr = (unasked unit inst (countFault s)).mgr := by
    refine ((startRecovery_leaves unit inst _).frame.1 .mgr (by decide)).trans ?_
    rw [faulted_mgr, pullUsers_none ((usersOf_of_mgr (countFault_mgr s) unit inst).trans h)]
  have hask (a : State) : (unasked unit inst a).lane l = a.lane l := rfl
  rw [lane_of_mgr hm, hask, lane_of_mgr (countFault_mgr s)]

theorem recoveryPages : transientWords ++ pullWords ++ recoveryWords ⊆ wordsOf (0x071 :: pullPages) := subset_wordsOf (by decide +kernel)

theorem recovery_page : ∀ a ∈ transientWords ++ recoveryWords, a / 4096 ∉ announcedPages := by decide

theorem aloneWords : transientWords ++ recoveryWords ⊆
    [Reg.FLT.TRANSIENT_CNT, Reg.FLT.STAT, Reg.FLT.ESCALATE_CNT] ++ evsWords [Ev.FLT.FAULT, Ev.FLT.ESCALATE] := by decide

theorem stat_unnoticed : Fld.FLT.STAT.RECOVERING.addr ∉ noticeRegs ∧ Fld.FLT.ESCALATE_CNT.COUNT.addr ∉ noticeRegs := by decide +kernel

theorem recoverySet_completes {c : Instr} (hc : exec c s = commit s (announce s (recoverySet unit inst cause s))) :
    completes c s (fun t =>
      t.flt.recovery = some (.ramping (s.epoch + 1), (unit, inst) :: (recoveringUnits s).filter (fun x => x != (unit, inst))) ∧
      t.flag Fld.FLT.STAT.RECOVERING = true ∧ raised t Ev.FLT.ESCALATE ∧ raised t Ev.FLT.FAULT ∧ logged s t unit inst cause ∧
      t.get Fld.FLT.ESCALATE_CNT.COUNT = min 65535 (s.get Fld.FLT.ESCALATE_CNT.COUNT + 1) ∧
      (∀ i ∈ usersOf s unit inst, (t.sprout i).state = .pulled ∧ (t.sprout i).reason = .fault) ∧
      (usersOf s unit inst = [] →
        frame [.flt, .mgr, .fab, .twc] ([Reg.FLT.TRANSIENT_CNT, Reg.FLT.STAT, Reg.FLT.ESCALATE_CNT] ++ evsWords [Ev.FLT.FAULT, Ev.FLT.ESCALATE]) s t) ∧
      pageFrame pullParts (0x071 :: pullPages) s t) := by
  obtain ⟨hrec, hflag, hesc, hraised, hlast, hcount, hsprout⟩ := recoverySet_shows unit inst cause s
  have hall := (recoverySet_leaves unit inst cause s).mono (fun _ h => h) recoveryPages
  have halone := fun h => recoverySet_alone (s := s) (unit := unit) (inst := inst) h cause
  have hshown := fun h l => recoverySet_shown (s := s) (unit := unit) (inst := inst) h cause l
  generalize recoverySet unit inst cause s = a at *
  have hflt : (finish s (announce s a)).flt = a.flt := announce_flt_same s a
  have hnote := (announce_leaves (s := s) (t := a) (hall.frame.1 .links (by decide))).frame
  refine completes_of_commit hc ⟨?_, ?_, raised_announced hesc, raised_announced hraised, ?_, ?_, fun i hi => ?_, fun h => ?_, pulled_pages hall⟩
  · rwa [hflt]
  · rw [finish_flag, frame_flag hnote stat_unnoticed.1, hflag]
  · exact (lastFault_congr (congrArg Faults.log hflt)).trans hlast
  · rw [finish_get, frame_get hnote stat_unnoticed.2, hcount]
  · rw [sprout_finish]
    exact hsprout i hi
  · rw [announce_unseen (halone h).frame (by decide) recovery_page (hshown h)]
    exact frame_finish (frame_mono (halone h).frame (fun _ h => h) aloneWords)

end Sys2Proof.Machine.Reception

namespace Sys2Proof.Machine.Reception

open Capture Clocking Survey

variable {ps : List Part} {as : List Nat} {s t u : State} {n k l : Nat} {why : PullReason}

/-! ## What the reception fabric's operations leave of faults, firmware, store and power -/

/-- The fault record, the NV store, the firmware and the power state but its pins. -/
def kept (s : State) : Faults × NvStore × Firmware × Power := (s.flt, s.nv, s.fw, { s.pwr with pins := {} })

theorem kept_of_frame (h : frame ps as s t) (hp : ∀ p ∈ [Part.flt, .nv, .fw, .pwr], p ∉ ps) : kept t = kept s := by
  have h1 : t.flt = s.flt := h.1 .flt (hp _ (by simp))
  have h2 : t.nv = s.nv := h.1 .nv (hp _ (by simp))
  have h3 : t.fw = s.fw := h.1 .fw (hp _ (by simp))
  have h4 : { t.pwr with pins := {} } = { s.pwr with pins := {} } := h.1 .pwr (hp _ (by simp))
  unfold kept
  rw [h1, h2, h3, h4]

/-! ### Single changes -/

@[simp] theorem kept_setWord (s : State) (a : Nat) (w : Word) : kept (s.setWord a w) = kept s := rfl
@[simp] theorem kept_set (s : State) (f : Field) (v : Nat) : kept (s.set f v) = kept s := rfl
@[simp] theorem kept_put (s : State) (f : Field) (b : Bool) : kept (s.put f b) = kept s := rfl
@[simp] theorem kept_bumpSat (s : State) (f : Field) (k : Nat) : kept (s.bumpSat f k) = kept s := rfl
@[simp] theorem kept_setLane (s : State) (l : Nat) (f : Lane → Lane) : kept (s.setLane l f) = kept s := rfl
@[simp] theorem kept_setSlot (s : State) (n : Nat) (f : Slot → Slot) : kept (s.setSlot n f) = kept s := rfl
@[simp] theorem kept_setSrc (s : State) (n k : Nat) (f : Source → Source) : kept (s.setSrc n k f) = kept s := rfl
@[simp] theorem kept_setPort (s : State) (p : Nat) (f : AudioPort → AudioPort) : kept (s.setPort p f) = kept s := rfl
@[simp] theorem kept_setPod (s : State) (m : Nat) (f : PodState → PodState) : kept (s.setPod m f) = kept s := rfl
@[simp] theorem kept_setTwc (s : State) (f : Twc → Twc) : kept (s.setTwc f) = kept s := rfl
@[simp] theorem kept_setLo (s : State) (x : Lo) (f : LoState → LoState) : kept (s.setLo x f) = kept s := rfl
@[simp] theorem kept_setLoop (s : State) (x : Lo) (f : LoopState → LoopState) : kept (s.setLoop x f) = kept s := rfl
@[simp] theorem kept_setPath (s : State) (p : Path) (f : PathState → PathState) : kept (s.setPath p f) = kept s := rfl
@[simp] theorem kept_setDab (s : State) (c : Nat) (f : DabLane → DabLane) : kept (s.setDab c f) = kept s := rfl
@[simp] theorem kept_setRds (s : State) (c : Nat) (f : RdsCtx → RdsCtx) : kept (s.setRds c f) = kept s := rfl
@[simp] theorem kept_mgr (s : State) (x : Manager) : kept { s with mgr := x } = kept s := rfl
@[simp] theorem kept_aux (s : State) (x : Aux) : kept { s with aux := x } = kept s := rfl
@[simp] theorem kept_slots (s : State) (x : Vector Slot 4) : kept { s with slots := x } = kept s := rfl
@[simp] theorem kept_raise (g : Nat) (s : State) : kept (raise g s) = kept s := kept_of_frame (frame_raised g s) (by decide)

theorem kept_ite {c : Prop} [Decidable c] (ht : kept t = kept s) (hu : kept u = kept s) : kept (if c then t else u) = kept s := by
  split
  · exact ht
  · exact hu

@[simp] theorem kept_raiseIf (c : Bool) (g : Nat) (s : State) : kept (raiseIf c g s) = kept s := kept_ite (kept_raise g s) rfl

theorem kept_forEach {α : Type} {xs : List α} {f : α → State → State} (h : ∀ x u, kept (f x u) = kept u) (s : State) : kept (forEach xs f s) = kept s :=
  forEach_survives (P := fun u => kept u = kept s) (fun x _ u hu => (h x u).trans hu) rfl

@[simp] theorem kept_cancelEntries (p : Change → Bool) (s : State) : kept (cancelEntries p s) = kept s :=
  kept_of_frame (frame_cancelEntries (ps := [.plan]) (as := planRegs ++ (nextRegs .lof ++ nextRegs .lob)) (by simp) (List.subset_append_left _ _)
    (List.subset_append_right _ _) (frame_refl _ _ s)) (by decide)

@[simp] theorem kept_releaseReq (use : CoexUse) (s : State) : kept (releaseReq use s) = kept s := kept_of_frame (releaseReq_leaves use s) (by decide)

/-! ### Sprouts and lanes -/

@[simp] theorem kept_pull (i : Nat) (why : PullReason) (s : State) : kept (pull i why s) = kept s := kept_of_frame (pull_leaves i why s).frame (by decide)

@[simp] theorem kept_pulls (is : List Nat) (why : PullReason) (s : State) : kept (forEach is (fun i u => pull i why u) s) = kept s :=
  kept_forEach (fun i u => kept_pull i why u) s

@[simp] theorem kept_plant (r : SproutReq) (s : State) : kept (plant r s) = kept s := kept_of_frame (plant_leaves r s).frame (by decide)

@[simp] theorem kept_plantAcquire (l : Nat) (s : State) : kept (plantAcquire l s) = kept s := by
  unfold plantAcquire
  split
  · exact kept_plant _ s
  · rfl

@[simp] theorem kept_pullLane (l : Nat) (why : PullReason) (s : State) : kept (pullLane l why s) = kept s := by simp [pullLane]

@[simp] theorem kept_rdsOff (l : Nat) (s : State) : kept (rdsOff l s) = kept s := by
  unfold rdsOff setChange
  exact kept_ite (by simp) rfl

@[simp] theorem kept_freeDdc (l : Nat) (s : State) : kept (freeDdc l s) = kept s := by
  refine kept_forEach (fun p u => ?_) s
  split <;> rfl

@[simp] theorem kept_stopBlocks (v : DecUser) (s : State) : kept (stopBlocks v s) = kept s := by
  unfold stopBlocks
  exact kept_forEach (fun _ _ => by simp) s

@[simp] theorem kept_decoders (s : State) (x : Vector (Option DecUser) 8) (y : List DecUser) : kept { s with decoders := x, decWait := y } = kept s := rfl

@[simp] theorem kept_showDecoder (v : DecUser) (b c : Bool) (d : Nat) (s : State) : kept (showDecoder v b c d s) = kept s := rfl

@[simp] theorem kept_releaseDecoder (v : DecUser) (s : State) : kept (releaseDecoder v s) = kept s := by
  unfold releaseDecoder
  exact kept_ite (by simp) rfl

@[simp] theorem kept_clearSelections (drm : Bool) (n : Nat) (s : State) : kept (clearSelections drm n s) = kept s := by
  unfold clearSelections
  exact kept_forEach (fun _ u => by simp) s

@[simp] theorem kept_resets (as : List Nat) (s : State) : kept (forEach as (fun a u => u.setWord a (resetWord a)) s) = kept s := by
  exact kept_forEach (f := fun a u => u.setWord a (resetWord a)) (fun _ _ => rfl) s

theorem kept_rdsFm (s : State) (x : Vector RdsCtx 104) (y : Vector FmLane 8) : kept { s with rds := x, fm := y } = kept s := rfl
theorem kept_am (s : State) (x : Vector AmLane 6) : kept { s with am := x } = kept s := rfl
theorem kept_amWatch (s : State) (x : Vector AmWatch 24) : kept { s with amWatch := x } = kept s := rfl
theorem kept_drm (s : State) (x : Vector DrmEngine 2) : kept { s with drm := x } = kept s := rfl

@[simp] theorem kept_clearLane (l : Nat) (s : State) : kept (clearLane l s) = kept s := by
  unfold clearLane
  cases laneClass l with
  | fm => exact (kept_rdsFm _ _ _).trans (by simp)
  | rds | fic | dab => simp
  | am => exact (kept_am _ _).trans (by simp)
  | amw => exact (kept_amWatch _ _).trans (by simp)
  | drm => exact (kept_drm _ _).trans (by simp)

@[simp] theorem kept_dropLane (l : Nat) (why : PullReason) (st : LaneState) (s : State) : kept (dropLane l why st s) = kept s := by simp [dropLane]

@[simp] theorem kept_restartLane (l : Nat) (s : State) : kept (restartLane l s) = kept s := by simp [restartLane]

@[simp] theorem kept_restartMarked (s : State) : kept (restartMarked s) = kept s := by
  unfold restartMarked
  exact kept_forEach (fun l u => kept_ite (kept_ite (by simp) (by simp)) rfl) s

/-! ### Slots -/

@[simp] theorem kept_markRetry (reason : Nat) (s : State) : kept (markRetry reason s) = kept s := by
  unfold markRetry
  exact kept_forEach (fun _ _ => kept_ite (by simp) rfl) s

@[simp] theorem kept_dropReserve (n : Nat) (s : State) : kept (dropReserve n s) = kept s := by
  unfold dropReserve
  exact kept_ite rfl (kept_ite (by simp) (by simp))

@[simp] theorem kept_holdBlocks (n k b : Nat) (s : State) : kept (holdBlocks n k b s) = kept s := by
  unfold holdBlocks
  dsimp only
  split
  · rw [kept_markRetry, kept_set]
  · rw [kept_set]

@[simp] theorem kept_pullJoin (n k : Nat) (why : PullReason) (s : State) : kept (pullJoin n k why s) = kept s := by
  unfold pullJoin blockOwned
  exact kept_ite rfl (by simp)

@[simp] theorem kept_showSource (n k st why : Nat) (s : State) : kept (showSource n k st why s) = kept s := by simp [showSource]

@[simp] theorem kept_showPool (s : State) : kept (showPool s) = kept s := by
  unfold showPool
  exact kept_forEach (fun _ _ => by simp) s

@[simp] theorem kept_postResult (i : Nat) (words : List (Nat × Word)) (s : State) : kept (postResult i words s) = kept s := by
  refine kept_of_frame (frame_postResult (ps := evParts) (as := windowHeader i :: (words.map (fun c => c.1) ++ evWords Ev.TEL.OVERFLOW)) (fun _ h => h)
    List.mem_cons_self (fun _ h => List.mem_cons_of_mem _ (List.mem_append_left _ h)) (fun _ h => List.mem_cons_of_mem _ (List.mem_append_right _ h))
    (frame_refl _ _ s)) (by decide)

@[simp] theorem kept_postAlign (n : Nat) (s : State) : kept (postAlign n s) = kept s := by simp [postAlign]

@[simp] theorem kept_shrinkBlocks (n : Nat) (s : State) : kept (shrinkBlocks n s) = kept s := by
  unfold shrinkBlocks
  exact kept_forEach (fun _ _ => by simp) s

@[simp] theorem kept_jumpTo (n : Nat) (goal : Int) (s : State) : kept (jumpTo n goal s) = kept s := by
  unfold jumpTo
  exact kept_ite (by simp) (by simp)

@[simp] theorem kept_showSlew (n : Nat) (s : State) : kept (showSlew n s) = kept s := rfl

@[simp] theorem kept_slewTo (n : Nat) (goal : Int) (s : State) : kept (slewTo n goal s) = kept s := by
  unfold slewTo
  exact kept_ite (by simp) (by simp)

@[simp] theorem kept_showRef (n : Nat) (s : State) : kept (showRef n s) = kept s := by
  unfold showRef
  split
  · simp
  · rfl

@[simp] theorem kept_holdTimeline (n k : Nat) (s : State) : kept (holdTimeline n k s) = kept s := by
  unfold holdTimeline
  exact kept_ite rfl (by simp)

@[simp] theorem kept_stopSlew (n : Nat) (s : State) : kept (stopSlew n s) = kept s := by simp [stopSlew]

@[simp] theorem kept_timelineAfter (n k : Nat) (s : State) : kept (timelineAfter n k s) = kept s := by
  unfold timelineAfter
  split
  · simp [unholdTimeline]
  · have slewed (j : Nat) (c d : Prop) [Decidable c] [Decidable d] :
        kept (if c then s else if d then slewTo n (1000 * (s.src n j).arrival) s else holdTimeline n k (stopSlew n s)) = kept s :=
      kept_ite rfl (kept_ite (by simp) (by simp))
    rw [kept_showRef]
    exact kept_ite ((kept_holdTimeline n k _).trans (slewed _ _ _)) (slewed _ _ _)

@[simp] theorem kept_anchorAfter (n k : Nat) (s : State) : kept (anchorAfter n k s) = kept s := by
  unfold anchorAfter
  refine kept_ite rfl ?_
  dsimp only
  split
  · simp
  · rfl

@[simp] theorem kept_sumAfter (n fade : Nat) (s : State) : kept (sumAfter n fade s) = kept s := by
  have out : kept (forEach (sumSet s n) (fun k u => u.put (Fld.PGM.SRC_STAT.IN_SUM n k) false) s) = kept s := kept_forEach (fun _ _ => by simp) s
  unfold sumAfter
  refine kept_ite rfl (kept_ite ?_ ?_)
  · split
    · simp
    · rfl
  · dsimp only
    rw [kept_setSlot]
    split
    · simp [select, out]
    · simp [out]

@[simp] theorem kept_leaveSum (n k fade : Nat) (s : State) : kept (leaveSum n k fade s) = kept s := by
  unfold leaveSum
  refine kept_ite rfl ?_
  rw [kept_sumAfter]
  exact kept_ite (by simp) (by simp)

@[simp] theorem kept_leaveSource (n k st whyShown : Nat) (why : PullReason) (s : State) : kept (leaveSource n k st whyShown why s) = kept s := by
  unfold leaveSource
  exact kept_ite (by simp) (by simp)

@[simp] theorem kept_stopSlot (n whyShown : Nat) (s : State) : kept (stopSlot n whyShown s) = kept s := by
  unfold stopSlot
  rw [kept_setSlot]
  exact kept_forEach (fun k u => kept_ite rfl (by simp)) s

/-! ### Ports and the two-wire controller -/

@[simp] theorem kept_portsAfter (a s : State) : kept (portsAfter a s) = kept s := by
  unfold portsAfter
  exact (kept_forEach (fun _ _ => by simp) _).trans ((kept_forEach (fun _ _ => by simp) _).trans (kept_forEach (fun _ _ => by simp) _))

@[simp] theorem kept_portOff (p : Nat) (s : State) : kept (portOff p s) = kept s := rfl

@[simp] theorem kept_stopPort (p : Nat) (s : State) : kept (stopPort p s) = kept s := by
  unfold stopPort
  exact kept_ite (by simp) (by simp)

@[simp] theorem kept_podStopped (m : Nat) (s : State) : kept (podStopped m s) = kept s := by
  unfold podStopped
  exact kept_ite (by simp) rfl

@[simp] theorem kept_podStop (m : Nat) (s : State) : kept (podStop m s) = kept s := by
  have off (u : State) : kept (forEach (podMembers s m) (fun p u => portOff p u) u) = kept u := kept_forEach (fun _ _ => by simp) u
  have stop (u : State) : kept (forEach (podMembers s m) (fun p u => stopPort p u) u) = kept u := kept_forEach (fun _ _ => by simp) u
  unfold podStop
  dsimp only
  split
  · exact kept_ite (by simp) (by simp [off])
  · simp [stop]
  · rfl

@[simp] theorem kept_stopPorts (s : State) : kept (stopPorts s) = kept s := by
  unfold stopPorts
  rw [kept_portsAfter]
  exact (kept_forEach (fun _ _ => kept_ite rfl (by simp)) _).trans (kept_forEach (fun _ _ => by simp) s)

@[simp] theorem kept_fresh (s : State) (w : Nat) : kept (s.fresh w).2 = kept s := rfl

@[simp] theorem kept_freeBytes (n : Nat) (s : State) : kept (freeBytes n s).2 = kept s := by
  induction n generalizing s with
  | zero => rfl
  | succ n ih => exact (ih _).trans (kept_fresh s 8)

@[simp] theorem kept_endWork (cause : Nat) (rd : List (BitVec 8)) (s : State) : kept (endWork cause rd s) = kept s := by
  unfold endWork
  dsimp only
  split
  · simp
  · simp [twcResult]
  · exact kept_ite (by simp [twcResult]) (by simp)

@[simp] theorem kept_breakOff (cause : Nat) (s : State) : kept (breakOff cause s) = kept s := by
  unfold breakOff
  split
  · simp
  · simp

@[simp] theorem kept_stopTwc (s : State) : kept (stopTwc s) = kept s := by
  unfold stopTwc releaseLines
  simp only [kept_setTwc, kept_bumpSat]
  exact kept_ite rfl (by simp)

end Sys2Proof.Machine.Reception

namespace Sys2Proof.Machine.Reception

open Capture Clocking Survey

variable {ps : List Part} {as : List Nat} {s t u : State} {n k l why : Nat}

/-! ## Entry to SAFE (R400) -/

@[simp] theorem kept_abandonCheck (p : Path) (s : State) : kept (abandonCheck p s) = kept s := kept_of_frame (frame_abandonCheck s) (by decide)

@[simp] theorem kept_injStop (s : State) : kept (injStop s) = kept s := by
  unfold injStop
  rw [kept_raise, kept_setWord, kept_aux]

@[simp] theorem kept_injRefuse (r : Nat) (s : State) : kept (injRefuse r s) = kept s := by
  unfold injRefuse
  rw [kept_raise, kept_set, kept_put, kept_aux]

@[simp] theorem kept_injBoundary (s : State) : kept (injBoundary s) = kept s := by
  unfold injBoundary
  split
  · rfl
  · split
    · exact kept_injStop s
    · split
      · exact kept_injStop s
      · rw [kept_injStop, kept_injRefuse]
      · split
        · rfl
        · exact kept_aux _ _

@[simp] theorem kept_clearNext (l : Lo) (s : State) : kept (clearNext l s) = kept s :=
  kept_of_frame (frame_clearNext (ps := []) (as := nextRegs l) (fun _ h => h) (frame_refl _ _ s)) (by simp)

@[simp] theorem kept_dropLoQueue (l : Lo) (s : State) : kept (dropLoQueue l s) = kept s := by simp [dropLoQueue]

@[simp] theorem kept_unpowerLo (l : Lo) (s : State) : kept (unpowerLo l s) = kept s := by
  unfold unpowerLo
  simp only [kept_setLo, kept_setLoop, kept_setWord, kept_releaseReq, kept_clearNext, kept_dropLoQueue, kept_cancelEntries]

@[simp] theorem kept_dropReq (s : State) : kept (dropReq s) = kept s := kept_of_frame (frame_dropReq s) (by decide)

@[simp] theorem kept_spanNow (p : Path) (s : State) : kept (spanNow p s) = kept s := by
  unfold spanNow
  dsimp only
  split
  · rw [kept_set]
  · rw [kept_set, kept_set]

/-- The paths of a device that leaves reception. -/
def pathsDown (s : State) : State :=
  forEach [Path.lf, Path.fm, Path.b3] (fun p u =>
    (spanNow p ((abandonCheck p u).put (Fld.FE.CTRL.TEST p.idx) false)).setPath p (fun _ => {})) s

@[simp] theorem kept_pathsDown (s : State) : kept (pathsDown s) = kept s := by
  unfold pathsDown
  exact kept_forEach (fun _ _ => by simp) s

/-- The watch entries of a device that leaves reception. -/
def watchDown (s : State) : State :=
  forEach (List.range 136) (fun i u => if (u.lane (20 + i)).state == .retired then u else dropLane (20 + i) .superseded .free u) s

@[simp] theorem kept_watchDown (s : State) : kept (watchDown s) = kept s := by
  unfold watchDown
  exact kept_forEach (fun _ _ => kept_ite rfl (by simp)) s

theorem kept_mgrAux (s : State) (x : Manager) (y : Aux) : kept { s with mgr := x, aux := y } = kept s := rfl

@[simp] theorem kept_powerDown (s : State) : kept (powerDown s) = kept s := by
  have h : kept (watchDown (unpowerLo .lob (unpowerLo .lof (injBoundary ((pathsDown s).put Fld.INJ.CTRL.ENABLE false))))) = kept s := by simp
  refine (kept_mgrAux _ _ _).trans ?_
  rw [kept_dropReq, kept_cancelEntries, kept_pulls]
  exact h

theorem kept_stopFull (l : Nat) (s : State) : kept (stopFull l s) = kept s := by
  unfold stopFull
  exact kept_ite rfl (by rw [kept_dropLane, kept_cancelEntries])

/-- What a change of the operating state leaves: faults, store, firmware, and what waits or is under way. -/
def saved (s : State) := (s.flt, s.nv, s.fw, s.pwr.trans, s.pwr.held)

theorem saved_of_kept (h : kept t = kept s) : saved t = saved s :=
  congrArg (fun x : Faults × NvStore × Firmware × Power => (x.1, x.2.1, x.2.2.1, x.2.2.2.trans, x.2.2.2.held)) h

theorem mode_of_kept (h : kept t = kept s) : t.pwr.mode = s.pwr.mode :=
  congrArg (fun x : Faults × NvStore × Firmware × Power => x.2.2.2.mode) h

theorem saved_suspended (s : State) : saved { s with pwr := { s.pwr with suspended := [] } } = saved s := rfl

theorem saved_leaveFull (s : State) : saved (leaveFull s) = saved s := by
  have hslots : kept (forEach (List.range 4) (fun n u => stopSlot n whyLost u) s) = kept s := kept_forEach (fun _ _ => by simp) s
  have hlanes (u : State) : kept (forEach (List.range 20) stopFull u) = kept u := kept_forEach kept_stopFull u
  refine (saved_suspended _).trans (saved_of_kept ?_)
  rw [hlanes, kept_stopPorts, hslots]

theorem saved_ite {c : Prop} [Decidable c] (ht : saved t = saved s) (hu : saved u = saved s) : saved (if c then t else u) = saved s := by
  split
  · exact ht
  · exact hu

/-- The blocks of a device that goes to SAFE have stopped. -/
def stopped (s : State) : State :=
  let t := if s.pwr.mode == .full then leaveFull s else s
  if s.receiving then powerDown t else t

theorem saved_stopped (s : State) : saved (stopped s) = saved s := by
  have h : saved (if s.pwr.mode == .full then leaveFull s else s) = saved s := saved_ite (saved_leaveFull s) rfl
  exact saved_ite ((saved_of_kept (kept_powerDown _)).trans h) h

/-- The rest of the change to SAFE. -/
def intoSafe (s t : State) : State :=
  let u := if s.running && !t.running then stopTwc t else t
  stateChanged s (if u.running then u else u.put Fld.SYS.WAKE_CFG.ASSERTED false)

theorem kept_intoSafe (s t : State) : kept (intoSafe s t) = kept t := by
  have h : kept (if s.running && !t.running then stopTwc t else t) = kept t := kept_ite (kept_stopTwc t) rfl
  unfold intoSafe stateChanged
  rw [kept_raiseIf]
  exact kept_ite h (by rw [kept_put, h])

/-- `s` in SAFE. -/
def safeMode (s : State) : State := { s with pwr := { s.pwr with mode := .safe, bootShown := false } }

theorem changeMode_safe (peaks : Path → Int) (s : State) : changeMode .safe peaks s = intoSafe s (safeMode (stopped s)) := by
  have h1 : ((Mode.safe == .watch || Mode.safe == .full) && !s.receiving) = false := rfl
  have h2 : (Mode.safe == .full && s.pwr.mode != .full) = false := rfl
  have h3 : (s.receiving && !(Mode.safe == .watch || Mode.safe == .full)) = s.receiving := Bool.and_true _
  have h4 : (s.pwr.mode == .full && Mode.safe != .full) = (s.pwr.mode == .full) := Bool.and_true _
  unfold changeMode intoSafe
  simp only [h1, h2, h3, h4]
  rfl

theorem changeMode_saves (peaks : Path → Int) (s : State) : saved (changeMode .safe peaks s) = saved s ∧ (changeMode .safe peaks s).pwr.mode = .safe := by
  rw [changeMode_safe]
  exact ⟨(saved_of_kept (kept_intoSafe _ _)).trans (saved_stopped s), mode_of_kept (kept_intoSafe _ _)⟩

end Sys2Proof.Machine.Reception

namespace Sys2Proof.Machine.Reception

open Capture Clocking Survey

variable {ps : List Part} {as : List Nat} {s t u : State} {n k l why b : Nat}

/-- What waits for a change of the operating state is discarded, and a device recovery ends. -/
def discarded (s : State) : State :=
  { s with
    pwr := { s.pwr with trans := none, held := none }
    flt := { s.flt with safeAt := none, recovery := none } }

/-- SAFE is shown with its cause. -/
def safeShown (why : Nat) (t : State) : State := raise Ev.FLT.SAFE ((t.put Fld.FLT.STAT.RECOVERING false).set Fld.FLT.STAT.SAFE_WHY why)

theorem enterSafe_eq (why : Nat) (s : State) : enterSafe why s = safeShown why (changeMode .safe (fun _ => 0) (discarded s)) := rfl

theorem kept_safeShown (why : Nat) (s : State) : kept (safeShown why s) = kept s := by
  unfold safeShown
  rw [kept_raise, kept_set, kept_put]

theorem safeShown_shows (why : Nat) (s : State) : (safeShown why s).get Fld.FLT.STAT.SAFE_WHY = why % 8 ∧
    (safeShown why s).flag Fld.FLT.STAT.RECOVERING = false ∧ raised (safeShown why s) Ev.FLT.SAFE := by
  unfold safeShown
  refine ⟨?_, ?_, raised_raise _ _⟩
  · rw [get_raise _ _ (by decide) (by decide)]
    exact State.get_set_same _ Fld.FLT.STAT.SAFE_WHY why (by decide)
  · rw [flag_raise _ _ (by decide) (by decide), flag_set_apart (.inr (by decide))]
    exact State.flag_put_same _ Fld.FLT.STAT.RECOVERING false (by decide) (by decide)

theorem safeWhy_unnoticed : Fld.FLT.STAT.SAFE_WHY.addr ∉ noticeRegs := by decide +kernel

theorem safeEntry_enters (hs : s.flt.safeAt = some (b, why)) (hb : onBoundary s = true) (he : b ≤ s.epoch) (hc : controlRuns s = true)
    (hst : stopping s = false) :
    completes .safeEntry s (fun t =>
      t.pwr.mode = .safe ∧ t.get Fld.FLT.STAT.SAFE_WHY = why % 8 ∧ raised t Ev.FLT.SAFE ∧ t.flt.safeAt = none ∧ t.flt.recovery = none ∧
      t.pwr.trans = none ∧ t.pwr.held = none ∧ t.flag Fld.FLT.STAT.RECOVERING = false ∧ t.flt.log = s.flt.log ∧ t.nv = s.nv ∧ t.fw = s.fw) := by
  have hexec : exec .safeEntry s = commit s (announce s (enterSafe why s)) := by
    show commitLanes s (safeEntry s) = _
    unfold safeEntry
    rw [hs]
    dsimp only
    rw [if_pos (by simp [hb, he, hc]), if_neg (by simp [hst])]
    rfl
  rw [enterSafe_eq] at hexec
  obtain ⟨hsaved, hmode⟩ := changeMode_saves (fun _ => 0) (discarded s)
  generalize changeMode .safe (fun _ => 0) (discarded s) = a at *
  obtain ⟨hwhy, hflag, hraised⟩ := safeShown_shows why a
  have hkept := kept_safeShown why a
  generalize safeShown why a = c at *
  have hnote := announce_touches s c
  have hall : kept (announce s c) = kept a := (kept_of_frame hnote.frame (by decide)).trans hkept
  have hfin : saved (finish s (announce s c)) = saved (discarded s) := (saved_of_kept hall).trans hsaved
  have hwhy' : (announce s c).get Fld.FLT.STAT.SAFE_WHY = why % 8 := (frame_get hnote.frame safeWhy_unnoticed).trans hwhy
  have hflag' : (announce s c).flag Fld.FLT.STAT.RECOVERING = false := (frame_flag hnote.frame stat_unnoticed.1).trans hflag
  have hmode' : (finish s (announce s c)).pwr.mode = .safe := (mode_of_kept hall).trans hmode
  have hraised' := raised_announced (s := s) hraised
  rw [← finish_get s] at hwhy'
  rw [← finish_flag s] at hflag'
  refine completes_of_commit hexec ?_
  generalize finish s (announce s c) = t at *
  simp only [saved, discarded, Prod.mk.injEq] at hfin
  obtain ⟨hflt, hnv, hfw, htrans, hheld⟩ := hfin
  refine ⟨hmode', hwhy', hraised', ?_, ?_, htrans, hheld, hflag', ?_, hnv, hfw⟩
  · rw [hflt]
  · rw [hflt]
  · rw [hflt]

/-! ## The resets of a device recovery (R399) -/

/-- The units of a device recovery that still need a reset. -/
def dueUnits (s : State) (us : List UnitId) : List UnitId :=
  (us.filter (fun u => !(s.flt.retired.contains u) && (sharedUnit u.1 || isRecovering s u))).eraseDups

/-- A unit is reset, and the lanes it serves restart. -/
def resetUnit (u : UnitId) (v : State) : State := markRestart u.1 u.2 (startReset u.1 u.2 v)

/-- The device recovery resets the units of `now`. -/
def resetting (now : List UnitId) (s : State) : State := { s with flt := { s.flt with recovery := some (.resetting, now) } }

theorem recoveryReset_eq {us : List UnitId} (hr : s.flt.recovery = some (.ramping b, us)) (hb : onBoundary s = true) (he : b + 20 ≤ s.epoch) :
    recoveryReset s = restartMarked (forEach (dueUnits s us) resetUnit (resetting (dueUnits s us) s)) := by
  unfold recoveryReset
  rw [hr]
  dsimp only
  rw [if_pos (by rw [hb, decide_eq_true he]; rfl)]
  rfl

theorem resetUnit_flt (u : UnitId) (v : State) : (resetUnit u v).flt = (startReset u.1 u.2 v).flt := (markRestart_leaves _ _ _).frame.1 .flt (by simp)

/-- What resets leave of the fault record. -/
def settled (s : State) := (s.flt.recovery, s.flt.retired, s.flt.log)

theorem settled_resetUnit (u : UnitId) (v : State) : settled (resetUnit u v) = settled v := by
  unfold settled
  rw [resetUnit_flt]
  rfl

theorem mem_inReset_resetUnit {u w : UnitId} {v : State} (h : w ∈ v.flt.inReset) : w ∈ (resetUnit u v).flt.inReset := by
  rw [resetUnit_flt]
  unfold startReset
  dsimp only
  split
  · exact h
  · exact List.mem_cons_of_mem _ h

theorem resetUnits_resets {u : UnitId} {now : List UnitId} (h : u ∈ now) : u ∈ (forEach now resetUnit s).flt.inReset :=
  forEach_reaches (P := fun v => u ∈ v.flt.inReset) h (fun v => by
    rw [resetUnit_flt]
    exact mem_inReset_startReset u.1 u.2 v) (fun _ _ _ hv => mem_inReset_resetUnit hv) s

theorem settled_resetUnits (now : List UnitId) (s : State) : settled (forEach now resetUnit s) = settled s :=
  forEach_survives (P := fun v => settled v = settled s) (fun u _ v hv => (settled_resetUnit u v).trans hv) rfl

theorem deviceRecoveryReset_completes {us : List UnitId} (hr : s.flt.recovery = some (.ramping b, us)) (hb : onBoundary s = true) (he : b + 20 ≤ s.epoch) :
    completes .deviceRecoveryReset s (fun t =>
      (t.flt.recovery.map (fun r => r.1)) = some .resetting ∧
      (∀ u ∈ us, s.flt.retired.contains u = false → sharedUnit u.1 = true ∨ isRecovering s u = true →
        u ∈ (t.flt.recovery.map (fun r => r.2)).getD [] ∧ u ∈ t.flt.inReset) ∧
      t.flt.retired = s.flt.retired ∧ t.flt.log = s.flt.log) := by
  have hexec : exec .deviceRecoveryReset s = commit s (announce s (recoveryReset s)) := rfl
  rw [recoveryReset_eq hr hb he] at hexec
  have hdue : ∀ u ∈ us, s.flt.retired.contains u = false → sharedUnit u.1 = true ∨ isRecovering s u = true → u ∈ dueUnits s us := fun u hu hn hd =>
    List.mem_eraseDups.mpr (List.mem_filter.mpr ⟨hu, by
      rw [Bool.and_eq_true, Bool.or_eq_true, Bool.not_eq_true']
      exact ⟨hn, hd⟩⟩)
  generalize dueUnits s us = now at *
  have hreset := fun u hu => resetUnits_resets (s := resetting now s) (u := u) (now := now) hu
  have hsettled := settled_resetUnits now (resetting now s)
  generalize forEach now resetUnit (resetting now s) = a at *
  have hkept := kept_restartMarked a
  generalize restartMarked a = c at *
  have hflt : (finish s (announce s c)).flt = a.flt := (announce_flt_same s c).trans (congrArg Prod.fst hkept)
  simp only [settled, resetting, Prod.mk.injEq] at hsettled
  obtain ⟨hrec, hretired, hlog⟩ := hsettled
  refine completes_of_commit hexec ?_
  rw [hflt, hrec]
  exact ⟨rfl, fun u hu hn hd => ⟨hdue u hu hn hd, hreset u (hdue u hu hn hd)⟩, hretired, hlog⟩

end Sys2Proof.Machine.Reception

namespace Sys2Proof.Machine.Reception

open Capture Clocking Survey

variable {ps qs : List Part} {as bs : List Nat} {s t u : State} {n k l core : Nat} {why : PullReason}

/-! ## A lane that is retired (R112) -/

/-- The words of a lane's class that clearing it touches. -/
def laneWords (l : Nat) : List Nat :=
  let i := laneInst l
  match laneClass l with
  | .fm => [(Fld.FMF.STAT.STEREO l).addr, (Fld.FMF.STAT.SUSPECT l).addr]
  | .rds => []
  | .am => [(Fld.AMF.STAT.LOCK i).addr, (Fld.AMF.STAT.SYNC_FALLBACK i).addr, Reg.AMF.AMSS_SI i]
  | .amw => [Reg.WAM.A_W0 i, Reg.WAM.A_W1 i, Reg.WAM.A_W2 i, Reg.WAM.A_W3 i]
  | .dab => Reg.DAB.STAT i :: (List.range 6).map (fun k => selStat { drm := false, engine := i, sel := k })
  | .fic => [Reg.WFC.F_W2 i]
  | .drm => (Reg.DRM.STAT i :: (List.range 32).map (fun w => Reg.DRM.SVC_INFO_W0 i 0 + 4 * w)) ++
      (List.range 4).map (fun k => selStat { drm := true, engine := i, sel := k })

/-- The parts of a lane's decoder. -/
def clearParts : List Part := [.rds, .fm, .am, .amWatch, .drm, .dab, .decoders, .slots]

theorem laneWords_offset : ∀ l < 156, ∀ a ∈ laneWords l, a % 4096 ≠ 16 := by decide +kernel

/-- Words and parts change that no event is of. -/
theorem effect_of_frame (h : frame ps as s t) (hf : Part.fab ∉ ps) (ha : ∀ a ∈ as, a % 4096 ≠ 16) : Effect ps as s t :=
  ⟨h, keepsEvents_of_frame hf ha h⟩

theorem frame_decoding {x : Vector (Option DecUser) 8} {y : List DecUser} (hp : Part.decoders ∈ ps) (h : frame ps as s t) :
    frame ps as s { t with decoders := x, decWait := y } := frame_decWait (t := { t with decoders := x }) hp (frame_decoders hp h)

theorem frame_rdsFm {x : Vector RdsCtx 104} {y : Vector FmLane 8} (hp : [Part.rds, .fm] ⊆ ps) (h : frame ps as s t) :
    frame ps as s { t with rds := x, fm := y } := frame_fm (t := { t with rds := x }) (hp (by simp)) (frame_rds (hp (by simp)) h)

theorem releaseDecoder_frame (v : DecUser) (s : State) : frame [.decoders, .slots] [selStat v] s (releaseDecoder v s) := by
  have hstop : frame [.decoders, .slots] [selStat v] s (stopBlocks v s) :=
    frame_forEach (fun _ _ _ hu => frame_slots (by simp) hu) (frame_refl _ _ s)
  unfold releaseDecoder
  split
  · exact frame_set (f := ⟨selStat v, decBit v, 3⟩) (by simp) (frame_put (f := ⟨selStat v, decodingBit v + 1, 1⟩) (by simp)
      (frame_put (f := ⟨selStat v, decodingBit v, 1⟩) (by simp) (frame_decoding (by simp) hstop)))
  · exact frame_refl _ _ s

theorem clearSelections_frame (drm : Bool) (n : Nat) (s : State) : frame [.decoders, .slots]
    ((List.range (if drm then 4 else 6)).map (fun k => selStat { drm := drm, engine := n, sel := k })) s (clearSelections drm n s) := by
  unfold clearSelections
  refine frame_forEach (fun k u hk hu => ?_) (frame_refl _ _ s)
  have hmem : selStat { drm := drm, engine := n, sel := k } ∈
      (List.range (if drm then 4 else 6)).map (fun k => selStat { drm := drm, engine := n, sel := k }) := List.mem_map_of_mem hk
  exact frame_setWord hmem (frame_trans hu (frame_mono (releaseDecoder_frame _ u) (fun _ h => h) (List.cons_subset.mpr ⟨hmem, by simp⟩)))

theorem resets_frame {ws : List Nat} (h : ws ⊆ as) (k : frame ps as s t) : frame ps as s (forEach ws (fun a u => u.setWord a (resetWord a)) t) :=
  frame_forEach (fun _ _ ha hu => frame_setWord (h ha) hu) k

theorem clearLane_frame (l : Nat) (s : State) : frame clearParts (laneWords l) s (clearLane l s) := by
  have sels (drm : Bool) (h : (List.range (if drm then 4 else 6)).map (fun k => selStat { drm := drm, engine := laneInst l, sel := k }) ⊆ laneWords l) :
      frame clearParts (laneWords l) s (clearSelections drm (laneInst l) s) := frame_mono (clearSelections_frame drm (laneInst l) s) (by decide) h
  unfold clearLane
  unfold laneWords at sels ⊢
  cases hc : laneClass l with
  | fm =>
    exact frame_rdsFm (by decide) (frame_put (f := Fld.FMF.STAT.SUSPECT l) (by simp) (frame_put (f := Fld.FMF.STAT.STEREO l) (by simp) (frame_refl _ _ s)))
  | rds => exact frame_rds (by decide) (frame_refl _ _ s)
  | am =>
    exact frame_am (by decide) (frame_setWord (by simp) (frame_put (f := Fld.AMF.STAT.SYNC_FALLBACK (laneInst l)) (by simp)
      (frame_put (f := Fld.AMF.STAT.LOCK (laneInst l)) (by simp) (frame_refl _ _ s))))
  | amw => exact frame_amWatch (by decide) (resets_frame (fun _ h => h) (frame_refl _ _ s))
  | dab =>
    simp only [hc] at sels
    exact frame_dab (by decide) (frame_set (f := Fld.DAB.STAT.CU (laneInst l)) (List.mem_cons_self) (frame_set (f := Fld.DAB.STAT.SUBCH (laneInst l))
      (List.mem_cons_self) (sels false (List.subset_cons_self _ _))))
  | fic => exact frame_dab (by decide) (frame_setWord (by simp) (frame_refl _ _ s))
  | drm =>
    simp only [hc] at sels
    exact frame_drm (by decide) (resets_frame (List.subset_append_left _ _) (sels true (List.subset_append_right _ _)))

theorem clearLane_effect (h : l < 156) (s : State) : Effect clearParts (laneWords l) s (clearLane l s) :=
  effect_of_frame (clearLane_frame l s) (by decide) (laneWords_offset l h)

theorem freeDdc_effect (l : Nat) (s : State) : Effect [] ddcRegs s (freeDdc l s) := by
  refine effect_of_frame (frame_forEach (fun p u _ hu => ?_) (frame_refl _ _ s)) (by simp) ddcRegs_offset
  split
  · rename_i k hk
    exact frame_clearDdc (fun _ h => h) (List.mem_range.mp (List.mem_of_find?_eq_some hk)) hu
  · exact hu

theorem pullLane_effect (l : Nat) (why : PullReason) (s : State) : Effect pulledParts pullWords s (pullLane l why s) :=
  ((Effect.refl _ _ s).mgr (by decide) _).forEach (fun i u _ hu => hu.trans (pull_leaves i why u))

/-- The registers that cancelling plan entries touches. -/
def cancelWords : List Nat := planRegs ++ (nextRegs .lof ++ nextRegs .lob)

/-- The parts that retiring a lane may change. -/
def retireParts : List Part := .plan :: (pulledParts ++ clearParts)

/-- The registers that retiring a lane may change. -/
def retireWords : List Nat :=
  (List.range 156).flatMap laneWords ++ pullWords ++ cancelWords ++ evsWords [Ev.LNM.SHED, Ev.LNM.LANE_RETIRED]

theorem pullWords_retire : pullWords ⊆ retireWords := by simp [retireWords]

theorem laneWords_retire (h : l < 156) : laneWords l ⊆ retireWords := fun a ha => by
  have hm : a ∈ (List.range 156).flatMap laneWords := List.mem_flatMap.mpr ⟨l, List.mem_range.mpr h, ha⟩
  exact List.mem_append_left _ (List.mem_append_left _ (List.mem_append_left _ hm))

theorem cancelWords_offset : ∀ a ∈ cancelWords, a % 4096 ≠ 16 := by decide +kernel

theorem cancelEntries_effect (p : Change → Bool) (s : State) : Effect [.plan] cancelWords s (cancelEntries p s) :=
  effect_of_frame (frame_cancelEntries (by simp) (List.subset_append_left _ _) (List.subset_append_right _ _) (frame_refl _ _ s)) (by simp) cancelWords_offset

theorem dropLane_effect (h : l < 156) (why : PullReason) (st : LaneState) (s : State) : Effect retireParts retireWords s (dropLane l why st s) := by
  have hpull := (pullLane_effect l why s).mono (ps := retireParts) (by decide) pullWords_retire
  have hddc := (freeDdc_effect l (pullLane l why s)).mono (ps := retireParts) (as := retireWords) (by simp)
    (fun _ h => pullWords_retire (by simp [pullWords, h]))
  have hclear := (clearLane_effect h (freeDdc l (pullLane l why s))).mono (ps := retireParts) (by decide) (laneWords_retire h)
  exact ((hpull.trans hddc).trans hclear).setLane (by decide)

theorem retireLane_effect (h : l < 156) (s : State) : Effect retireParts retireWords s (retireLane l s) := by
  have hev {g : Nat} (hg : g ∈ [Ev.LNM.SHED, Ev.LNM.LANE_RETIRED]) : evWords g ⊆ retireWords := fun _ hx =>
    List.mem_append_right _ (List.mem_flatMap.mpr ⟨g, hg, hx⟩)
  have hcancel (p : Change → Bool) (u : State) : Effect retireParts retireWords u (cancelEntries p u) :=
    (cancelEntries_effect p u).mono (by decide) (fun _ ha => List.mem_append_left _ (List.mem_append_right _ ha))
  have hshed (u : State) : Effect retireParts retireWords u (pullShed l u) :=
    ((Effect.refl _ _ u).forEach (fun i v _ hv => hv.trans (pull_leaves i .fault v))).mono (by decide) pullWords_retire |>.trans
      ((pullLane_effect l .superseded _).mono (by decide) pullWords_retire)
  unfold retireLane
  refine .ite (fun _ => .refl _ _ _) (fun _ => ?_)
  exact (((((Effect.refl _ _ s).raiseIf (by decide) (hev (by simp))).trans (hcancel _ _)).trans (hshed _)).trans (dropLane_effect h _ _ _)).setLane (by decide)
    |>.raise (by decide) (hev (by simp))

end Sys2Proof.Machine.Reception

namespace Sys2Proof.Machine.Reception

open Capture Clocking Survey

variable {ps qs : List Part} {as bs : List Nat} {s t u : State} {n k l core : Nat} {why : PullReason}

/-! ## Capacity that falls (R111, R112) -/

theorem mem_sortBy {α : Type} {le : α → α → Bool} {x : α} {l : List α} (h : x ∈ sortBy le l) : x ∈ l := by
  have insert (y : α) (l : List α) (h : x ∈ insertBy le y l) : x = y ∨ x ∈ l := by
    induction l with
    | nil => exact .inl (List.mem_singleton.mp h)
    | cons z l ih =>
      unfold insertBy at h
      split at h
      · exact List.mem_cons.mp h
      · rcases List.mem_cons.mp h with h | h
        · exact .inr (h ▸ List.mem_cons_self)
        · exact (ih h).imp_right (List.mem_cons_of_mem _)
  induction l with
  | nil => exact h
  | cons y l ih =>
    rcases insert y _ h with rfl | h
    · exact List.mem_cons_self
    · exact List.mem_cons_of_mem _ (ih h)

theorem lanes_lt : ∀ c : LaneClass, ∀ l ∈ c.lanes, l < 156 := by
  intro c
  cases c <;> decide +kernel

theorem retireOrder_lt {c : LaneClass} (h : l ∈ retireOrder s c) : l < 156 := by
  have own (p : Nat → Bool) (h : l ∈ (c.lanes.filter p).reverse) : l < 156 := lanes_lt c l (List.mem_filter.mp (List.mem_reverse.mp h)).1
  unfold retireOrder at h
  dsimp only at h
  split at h
  · simp only [List.mem_append] at h
    rcases h with (h | h) | h
    · exact own _ h
    · exact own _ h
    · have hp := (List.mem_filter.mp (List.mem_reverse.mp h)).2
      rw [Bool.and_eq_true] at hp
      exact lanes_lt c l (List.contains_iff_mem.mp hp.1)
  · rcases List.mem_append.mp h with h | h
    · exact own _ h
    · exact own _ (mem_sortBy h)

/-- The lanes that a failure and the capacity left retire. -/
def lanesShed (s : State) : State :=
  forEach allClasses (fun c u =>
    let left := (c.lanes.filter (fun l => (u.lane l).state != .retired)).length
    forEach ((retireOrder u c).take (left - classCapacity u c)) (fun l v => retireLane l v) u)
    (forEach (List.range 156) (fun l u => if accelHealthy u l then u else retireLane l u) s)

/-- The capacity left is shown. -/
def capacityShown (s t : State) : State :=
  raiseIf (allClasses.any (fun c => s.get (Fld.LNM.CAPACITY.COUNT c.idx) != classCapacity t c)) Ev.LNM.CAPACITY (showCapacity t)

theorem recapacity_eq (s : State) : recapacity s =
    if effectiveCores (shedDecoders (capacityShown s (lanesShed s))) ≤ 3 then causeSafe 3 (shedDecoders (capacityShown s (lanesShed s)))
    else shedDecoders (capacityShown s (lanesShed s)) := rfl

theorem lanesShed_effect (s : State) : Effect retireParts retireWords s (lanesShed s) := by
  have accel : Effect retireParts retireWords s (forEach (List.range 156) (fun l u => if accelHealthy u l then u else retireLane l u) s) :=
    (Effect.refl _ _ s).forEach (fun l u hl hu => by
      split
      · exact hu
      · exact hu.trans (retireLane_effect (List.mem_range.mp hl) u))
  exact accel.forEach (fun c u _ hu => hu.forEach (fun l v hl hv => hv.trans (retireLane_effect (retireOrder_lt (List.mem_of_mem_take hl)) v)))

/-- The registers that show the capacity. -/
def capacityWords : List Nat := (List.range 8).map (fun k => (Fld.LNM.CAPACITY.COUNT k).addr) ++ evWords Ev.LNM.CAPACITY

theorem capacityShown_effect (s t : State) : Effect evParts capacityWords t (capacityShown s t) := by
  have addr : ∀ k < 8, (Fld.LNM.CAPACITY.COUNT k).addr ∈ capacityWords ∧ (Fld.LNM.CAPACITY.COUNT k).addr % 4096 ≠ 16 := by decide +kernel
  have idx : ∀ c : LaneClass, c.idx < 8 := by intro c; cases c <;> decide
  unfold capacityShown showCapacity
  refine Effect.raiseIf (Effect.set (f := Fld.LNM.CAPACITY.COUNT 7) ?_ (addr 7 (by decide)).1 (addr 7 (by decide)).2 _) (fun _ h => h)
    (List.subset_append_right _ _)
  exact (Effect.refl _ _ t).forEach (fun c _ _ hu => hu.set (f := Fld.LNM.CAPACITY.COUNT c.idx) (addr _ (idx c)).1 (addr _ (idx c)).2 _)

/-! ### Contexts that are shed -/

/-- A field that shedding a decoder touches for no selection. -/
def OffDecoder (f : Field) : Prop :=
  ∀ v : DecUser, Apart ⟨selStat v, decodingBit v, 1⟩ f ∧ Apart ⟨selStat v, decodingBit v + 1, 1⟩ f ∧ Apart ⟨selStat v, decBit v, 3⟩ f

theorem offDecoder_low {f : Field} (h : f.addr < 0x030000) : OffDecoder f := fun v => by
  have low : f.addr ≠ selStat v := by
    unfold selStat Reg.DRM.SVC_STAT Reg.DAB.SEL_STAT
    split <;> omega
  exact ⟨.inl low, .inl low, .inl low⟩

theorem permanentBit : (evRaw Ev.FLT.PERMANENT).lo + (evRaw Ev.FLT.PERMANENT).width ≤ 4 := by decide

theorem offDecoder_permanent : OffDecoder (evRaw Ev.FLT.PERMANENT) := by
  have above {a lo width : Nat} (h4 : 4 ≤ lo) (h : lo + width ≤ 32) : Apart ⟨a, lo, width⟩ (evRaw Ev.FLT.PERMANENT) :=
    .inr ⟨h, .inl (permanentBit.trans h4)⟩
  intro v
  unfold decodingBit decBit
  split <;> exact ⟨above (by decide) (by decide), above (by decide) (by decide), above (by decide) (by decide)⟩

theorem shedDecoders_flag {f : Field} (h : OffDecoder f) (s : State) : (shedDecoders s).flag f = s.flag f := by
  unfold shedDecoders
  refine forEach_survives (P := fun u => u.flag f = s.flag f) (fun c _ u hu => ?_) rfl
  split
  · rename_i v _
    obtain ⟨h1, h2, h3⟩ := h v
    unfold showDecoder
    rw [flag_set_apart h3, flag_put_apart h2, flag_put_apart h1]
    exact hu
  · exact hu

theorem shedDecoders_parts (s : State) : ∃ as, frame [.decoders] as s (shedDecoders s) := by
  unfold shedDecoders
  refine forEach_survives (P := fun u => ∃ as, frame [.decoders] as s u) (fun c _ u hu => ?_) ⟨[], frame_refl _ _ s⟩
  obtain ⟨as, hu⟩ := hu
  split
  · rename_i v _
    refine ⟨selStat v :: as, frame_set (f := ⟨selStat v, decBit v, 3⟩) List.mem_cons_self (frame_put (f := ⟨selStat v, decodingBit v + 1, 1⟩)
      List.mem_cons_self (frame_put (f := ⟨selStat v, decodingBit v, 1⟩) List.mem_cons_self (frame_decoding (by simp) ?_)))⟩
    exact frame_mono hu (fun _ h => h) (List.subset_cons_self _ _)
  · exact ⟨as, hu⟩

theorem shedDecoders_raised (h : raised s Ev.FLT.PERMANENT) : raised (shedDecoders s) Ev.FLT.PERMANENT := by
  obtain ⟨_, hp⟩ := shedDecoders_parts s
  have hfab : (shedDecoders s).fab = s.fab := hp.1 .fab (by decide)
  unfold raised at h ⊢
  rwa [hfab, shedDecoders_flag offDecoder_permanent]

/-! ### What capacity that falls leaves -/

/-- The parts that falling capacity may change. -/
def shedParts : List Part := .decoders :: (evParts ++ retireParts)

theorem capacity_effect (s : State) : Effect shedParts (retireWords ++ capacityWords) s (capacityShown s (lanesShed s)) :=
  ((lanesShed_effect s).mono (by decide) (List.subset_append_left _ _)).trans
    ((capacityShown_effect s _).mono (by decide) (List.subset_append_right _ _))

theorem shed_parts (s : State) : ∃ as, frame shedParts as s (shedDecoders (capacityShown s (lanesShed s))) := by
  obtain ⟨as, h⟩ := shedDecoders_parts (capacityShown s (lanesShed s))
  exact ⟨retireWords ++ capacityWords ++ as, frame_trans (frame_mono (capacity_effect s).frame (fun _ h => h) (List.subset_append_left _ _))
    (frame_mono h (by decide) (List.subset_append_right _ _))⟩

theorem causeSafe_flag (why : Nat) (s : State) (f : Field) : (causeSafe why s).flag f = s.flag f := by
  unfold causeSafe
  split <;> rfl

theorem causeSafe_frame (why : Nat) (s : State) : frame [.flt] [] s (causeSafe why s) := by
  unfold causeSafe
  split
  · exact frame_refl _ _ s
  · exact frame_fltOnly _ s

/-- Capacity that falls may lead to SAFE, and leaves the rest of the fault record. -/
theorem recapacity_cases (s : State) : recapacity s = shedDecoders (capacityShown s (lanesShed s)) ∨
    recapacity s = causeSafe 3 (shedDecoders (capacityShown s (lanesShed s))) := by
  rw [recapacity_eq]
  split
  · exact .inr rfl
  · exact .inl rfl

theorem recapacity_flag {f : Field} (h : OffDecoder f) (hf : f.addr ∉ retireWords ++ capacityWords) (s : State) : (recapacity s).flag f = s.flag f := by
  have hshed : (shedDecoders (capacityShown s (lanesShed s))).flag f = s.flag f :=
    (shedDecoders_flag h _).trans (frame_flag (capacity_effect s).frame hf)
  rcases recapacity_cases s with e | e
  · rw [e, hshed]
  · rw [e, causeSafe_flag, hshed]

theorem causeSafe_raised {g : Nat} (why : Nat) (h : raised s g) : raised (causeSafe why s) g := by
  unfold causeSafe
  split
  · exact h
  · exact h

theorem recapacity_raised (h : raised s Ev.FLT.PERMANENT) : raised (recapacity s) Ev.FLT.PERMANENT := by
  have hshed := shedDecoders_raised (raised_of_keepsEvents (capacity_effect s).events h)
  rcases recapacity_cases s with e | e
  · rwa [e]
  · rw [e]
    exact causeSafe_raised 3 hshed

theorem recapacity_parts (s : State) : ∃ as, frame (.flt :: shedParts) as s (recapacity s) := by
  obtain ⟨as, h⟩ := shed_parts s
  have h' : frame (.flt :: shedParts) as s (shedDecoders (capacityShown s (lanesShed s))) := frame_mono h (List.subset_cons_self _ _) (fun _ h => h)
  rcases recapacity_cases s with e | e
  · exact ⟨as, e ▸ h'⟩
  · rw [e]
    exact ⟨as, frame_trans h' (frame_mono (causeSafe_frame 3 _) (by decide) (by simp))⟩

theorem recapacity_flt (s : State) : unitsOf (recapacity s).flt = unitsOf s.flt ∧ lastFault (recapacity s) = lastFault s := by
  obtain ⟨_, h⟩ := shed_parts s
  have hflt : (shedDecoders (capacityShown s (lanesShed s))).flt = s.flt := h.1 .flt (by decide)
  rcases recapacity_cases s with e | e
  · rw [e, hflt]
    exact ⟨rfl, lastFault_congr (by rw [hflt])⟩
  · rw [e, causeSafe_units, hflt, lastFault_causeSafe]
    exact ⟨rfl, lastFault_congr (by rw [hflt])⟩

end Sys2Proof.Machine.Reception

namespace Sys2Proof.Machine.Reception

open Capture Clocking Survey

variable {ps qs : List Part} {as bs : List Nat} {s t u : State} {unit inst cause : Nat} {r : FaultRec}

/-! ## A core that is retired (R398) -/

/-- The fault of a unit that is still recovering, or the fourth reset within 60 s, is permanent. -/
theorem unitFault_permanent (hu : hasReset unit = true) (hr : s.flt.retired.contains (unit, inst) = false)
    (h : isRecovering s (unit, inst) = true ∨ 3 ≤ recentResets s (unit, inst)) :
    unitFault unit inst cause s = permanentFault unit inst cause (recentResets s (unit, inst) + 1) (pullUsers unit inst (countFault s)) := by
  unfold unitFault
  simp only [hr, hu, Bool.false_eq_true, if_false, if_true]
  rw [if_pos]
  rw [Bool.or_eq_true, decide_eq_true_eq]
  exact h.imp_right (fun h => by omega)

/-- A fault is recorded as permanent. -/
def recorded (r : FaultRec) (s : State) : State := raise Ev.FLT.PERMANENT (logRecord r s)

/-- A unit is neither in reset nor recovering. -/
def forgotten (u : UnitId) (s : State) : State :=
  { s with flt := { s.flt with
    inReset := s.flt.inReset.filter (fun x => x != u)
    recovering := s.flt.recovering.filter (fun r => r.1 != u) } }

/-- A lane core is out of service, and its lanes restart on others. -/
def coreOut (core : Nat) (s : State) : State :=
  markRestart 1 core ((s.put (Fld.LNM.CORE_STAT.HEALTHY core) false).put (Fld.LNM.CORE_STAT.RETIRED core) true)

def retireUnit (u : UnitId) (s : State) : State := { s with flt := { s.flt with retired := u :: s.flt.retired } }

/-- The record of a permanent fault of a lane core. -/
def coreRecord (core cause retry epoch : Nat) : FaultRec :=
  { unit := 1, inst := core, cause := cause, cls := 1, action := 3, retry := min 4 retry, epoch := epoch }

/-- A lane core is recorded as permanently faulty, and is out of service. -/
def coreRetired (core : Nat) (r : FaultRec) (s : State) : State :=
  retireUnit (1, core) (coreOut core (pullUsers 1 core (forgotten (1, core) (recorded r s))))

theorem permanentFault_core (core cause retry : Nat) (s : State) :
    permanentFault 1 core cause retry s = recapacity (coreRetired core (coreRecord core cause retry s.epoch) s) := by
  unfold permanentFault takeOut
  simp only [show safeUnit 1 = false from rfl, show hasReset 1 = true from rfl, Bool.false_eq_true, if_false, if_true,
    coreRetired, retireUnit, coreOut, forgotten, recorded, coreRecord]

/-- The parts that the fault of a core may change. -/
def coreParts : List Part := .flt :: shedParts

def coreWords : List Nat := pullWords ++ (faultWords ++ evWords Ev.FLT.PERMANENT)

theorem recorded_effect (r : FaultRec) (s : State) : Effect coreParts coreWords s (recorded r s) :=
  ((Effect.refl _ _ s).logRecord (r := r) ⟨by decide, by decide⟩ (fun _ h => List.mem_append_right _ (List.mem_append_left _ h))).raise (by decide)
    (fun _ h => List.mem_append_right _ (List.mem_append_right _ h))

theorem pullUsers_core (unit inst : Nat) (s : State) : Effect coreParts coreWords s (pullUsers unit inst s) :=
  (pullUsers_leaves unit inst s).mono (by decide) (List.subset_append_left _ _)

theorem forgotten_effect (u : UnitId) (s : State) : Effect coreParts coreWords s (forgotten u s) := (Effect.refl _ _ s).flt (by decide) _

theorem retireUnit_effect (u : UnitId) (s : State) : Effect coreParts coreWords s (retireUnit u s) := (Effect.refl _ _ s).flt (by decide) _

theorem coreStat_words : ∀ c < 6, (Fld.LNM.CORE_STAT.HEALTHY c).addr = Reg.LNM.CORE_STAT c ∧ (Fld.LNM.CORE_STAT.RETIRED c).addr = Reg.LNM.CORE_STAT c ∧
    Reg.LNM.CORE_STAT c % 4096 ≠ 16 ∧ Reg.LNM.CORE_STAT c < 0x030000 ∧ Reg.LNM.CORE_STAT c ∉ retireWords ++ capacityWords ∧
    Reg.LNM.CORE_STAT c ∉ noticeRegs := by
  decide +kernel

theorem coreOut_effect {core : Nat} (h : core < 6) (s : State) : Effect [.mgr] [Reg.LNM.CORE_STAT core] s (coreOut core s) := by
  obtain ⟨h1, h2, h3, -⟩ := coreStat_words core h
  have hput := ((Effect.refl [.mgr] [Reg.LNM.CORE_STAT core] s).put (f := Fld.LNM.CORE_STAT.HEALTHY core) (by rw [h1]; exact List.mem_cons_self) h3 false).put
    (f := Fld.LNM.CORE_STAT.RETIRED core) (by rw [h2]; exact List.mem_cons_self) h3 true
  exact hput.trans ((markRestart_leaves 1 core _).mono (fun _ h => h) (by simp))

theorem coreOut_shows (core : Nat) (s : State) : (coreOut core s).flag (Fld.LNM.CORE_STAT.HEALTHY core) = false ∧
    (coreOut core s).flag (Fld.LNM.CORE_STAT.RETIRED core) = true := by
  have hleaves (f : Field) (u : State) : (markRestart 1 core u).flag f = u.flag f := frame_flag (markRestart_leaves 1 core u).frame (by simp)
  unfold coreOut
  rw [hleaves, hleaves]
  refine ⟨?_, State.flag_put_same _ (Fld.LNM.CORE_STAT.RETIRED core) true (Nat.le_of_ble_eq_true rfl) Nat.one_pos⟩
  rw [flag_put_apart (.inr ⟨Nat.le_of_ble_eq_true rfl, .inl (Nat.le_of_ble_eq_true rfl)⟩)]
  exact State.flag_put_same _ (Fld.LNM.CORE_STAT.HEALTHY core) false (Nat.le_of_ble_eq_true rfl) Nat.one_pos

/-- What a core's retirement leaves before the capacity falls. -/
theorem coreRetired_shows {core : Nat} (h : core < 6) (r : FaultRec) (s : State) :
    (coreRetired core r s).flt.retired = (1, core) :: s.flt.retired ∧ lastFault (coreRetired core r s) = some (r.unit, r.inst, r.cause, r.epoch) ∧
      raised (coreRetired core r s) Ev.FLT.PERMANENT ∧ (coreRetired core r s).flag (Fld.LNM.CORE_STAT.HEALTHY core) = false ∧
      (coreRetired core r s).flag (Fld.LNM.CORE_STAT.RETIRED core) = true ∧
      frame coreParts (Reg.LNM.CORE_STAT core :: coreWords) s (coreRetired core r s) := by
  have hlast : lastFault (recorded r s) = some (r.unit, r.inst, r.cause, r.epoch) := (lastFault_raise _ _).trans (lastFault_logRecord r s)
  have hunits : unitsOf (recorded r s).flt = unitsOf s.flt := (congrArg unitsOf (raise_flt _ _)).trans (logRecord_units r s)
  have hraised : raised (recorded r s) Ev.FLT.PERMANENT := raised_raise _ _
  have hrec := recorded_effect r s
  unfold coreRetired
  generalize recorded r s = a at *
  have hforget := forgotten_effect (1, core) a
  have hforget1 : (forgotten (1, core) a).flt.retired = a.flt.retired := rfl
  have hforget2 : (forgotten (1, core) a).flt.log = a.flt.log := rfl
  generalize forgotten (1, core) a = b at *
  have hpull := pullUsers_core 1 core b
  have hpullFlt : (pullUsers 1 core b).flt = b.flt := (pullUsers_leaves 1 core b).frame.1 .flt (by decide)
  generalize pullUsers 1 core b = c at *
  have hout := coreOut_effect h c
  obtain ⟨hhealthy, hretired⟩ := coreOut_shows core c
  have houtFlt : (coreOut core c).flt = c.flt := hout.frame.1 .flt (by decide)
  generalize coreOut core c = d at *
  have hall : Effect coreParts (Reg.LNM.CORE_STAT core :: coreWords) s d :=
    (((hrec.trans hforget).trans hpull).mono (fun _ h => h) (List.subset_cons_self _ _)).trans
      (hout.mono (by decide) (List.cons_subset.mpr ⟨List.mem_cons_self, by simp⟩))
  have hretire := (retireUnit_effect (1, core) d).mono (fun _ h => h) (List.subset_cons_self (Reg.LNM.CORE_STAT core) coreWords)
  have hlog : d.flt.log = a.flt.log := by rw [houtFlt, hpullFlt, hforget2]
  have hold : d.flt.retired = s.flt.retired := by
    rw [houtFlt, hpullFlt, hforget1]
    exact congrArg Prod.fst hunits
  refine ⟨congrArg (List.cons (1, core)) hold, (lastFault_congr (s := a) hlog).trans hlast, ?_, hhealthy, hretired, (hall.trans hretire).frame⟩
  have hevents := keepsEvents_trans hforget.events (keepsEvents_trans hpull.events hout.events)
  exact raised_of_keepsEvents (keepsEvents_trans hevents hretire.events) hraised

theorem frame_exists {a : State} (h : frame ps as s a) (k : ∃ as, frame ps as a t) : ∃ as, frame ps as s t := by
  obtain ⟨bs, k⟩ := k
  exact ⟨as ++ bs, frame_trans (frame_mono h (fun _ h => h) (List.subset_append_left _ _)) (frame_mono k (fun _ h => h) (List.subset_append_right _ _))⟩

theorem coreHang_permanent (core : Fin 6) (exception : Bool) (hrx : s.receiving = true) (hr : s.flt.retired.contains (1, core.val) = false)
    (h : isRecovering s (1, core.val) = true ∨ 3 ≤ recentResets s (1, core.val)) :
    completes (.coreHang core exception) s (fun t =>
      t.flt.retired = (1, core.val) :: s.flt.retired ∧ logged s t 1 core.val (if exception then 5 else 4) ∧ raised t Ev.FLT.PERMANENT ∧
      t.flag (Fld.LNM.CORE_STAT.HEALTHY core.val) = false ∧ t.flag (Fld.LNM.CORE_STAT.RETIRED core.val) = true ∧
      ∀ p ∈ ([.time, .paths, .loops, .maps, .ens, .links, .queues, .audio, .fw, .nv, .nvJob, .host, .free] : List Part), p.same s t) := by
  have hexec : exec (.coreHang core exception) s = commit s (announce s (unitFault 1 core.val (if exception then 5 else 4) s)) := by
    show commitLanes s (if s.receiving then unitFault 0x01 core.val (if exception then 5 else 4) s else s) = _
    rw [if_pos hrx]
    rfl
  generalize (if exception then 5 else 4) = cause at *
  rw [unitFault_permanent rfl hr h, permanentFault_core] at hexec
  have hlt := core.isLt
  generalize core.val = c at *
  obtain ⟨h1, h2, -, hlow, hshed, hnote⟩ := coreStat_words c hlt
  have hcount := countFault_leaves s
  have hpull := pullUsers_core 1 c (countFault s)
  have hpullFlt : (pullUsers 1 c (countFault s)).flt = (countFault s).flt := (pullUsers_leaves 1 c _).frame.1 .flt (by decide)
  have hbefore : Effect coreParts coreWords s (pullUsers 1 c (countFault s)) := (hcount.mono (by decide) (by simp)).trans hpull
  have hepoch := hbefore.epoch (by decide)
  have hretired : (pullUsers 1 c (countFault s)).flt.retired = s.flt.retired := by
    rw [hpullFlt]
    exact congrArg Prod.fst (countFault_units s)
  generalize pullUsers 1 c (countFault s) = a at *
  rw [hepoch] at hexec
  obtain ⟨g1, g2, g3, g4, g5, g6⟩ := coreRetired_shows hlt (coreRecord c cause (recentResets s (1, c) + 1) s.epoch) a
  generalize coreRetired c (coreRecord c cause (recentResets s (1, c) + 1) s.epoch) a = b at *
  obtain ⟨k1, k2⟩ := recapacity_flt b
  have k3 := recapacity_raised g3
  have k4 := recapacity_flag (f := Fld.LNM.CORE_STAT.HEALTHY c) (offDecoder_low (by rw [h1]; exact hlow)) (by rw [h1]; exact hshed) b
  have k5 := recapacity_flag (f := Fld.LNM.CORE_STAT.RETIRED c) (offDecoder_low (by rw [h2]; exact hlow)) (by rw [h2]; exact hshed) b
  obtain ⟨_, k6⟩ := frame_exists (frame_trans (frame_mono hbefore.frame (fun _ h => h) (List.subset_cons_self _ _)) g6) (recapacity_parts b)
  generalize recapacity b = d at *
  have hannounce := announce_leaves (s := s) (t := d) (k6.1 .links (by decide))
  obtain ⟨_, hparts⟩ := frame_exists k6 ⟨noticeRegs, frame_mono hannounce.frame (qs := coreParts) (by decide) (fun _ h => h)⟩
  have hflt : (finish s (announce s d)).flt = d.flt := announce_flt_same s d
  refine completes_of_commit hexec ⟨?_, ?_, raised_announced k3, ?_, ?_, fun p hp => (frame_finish hparts).1 p (?_)⟩
  · rw [hflt, ← hretired, ← g1]
    exact congrArg Prod.fst k1
  · exact (lastFault_congr (congrArg Faults.log hflt)).trans (k2.trans g2)
  · rw [finish_flag, frame_flag hannounce.frame (by rw [h1]; exact hnote), k4, g4]
  · rw [finish_flag, frame_flag hannounce.frame (by rw [h2]; exact hnote), k5, g5]
  · revert p
    decide

end Sys2Proof.Machine.Reception

namespace Sys2Proof.Machine.Reception

open Capture Clocking Survey

variable {s : State} {unit inst : Nat}

theorem hasReset_accel (h2 : 2 ≤ unit) (h6 : unit ≤ 6) : hasReset unit = true := by
  simp only [hasReset, Bool.and_eq_true, decide_eq_true_eq]
  omega

theorem sharedUnit_accel (h3 : 3 ≤ unit) (h5 : unit ≤ 5) : sharedUnit unit = true := by
  obtain rfl | rfl | rfl : unit = 3 ∨ unit = 4 ∨ unit = 5 := by omega
  all_goals rfl

theorem coreHang_completes (core : Fin 6) (exception : Bool) (cause : Nat) (hrx : s.receiving = true) (hr : s.flt.retired.contains (1, core.val) = false)
    (ha : isRecovering s (1, core.val) = false) (hn : recentResets s (1, core.val) < 3) (hd : s.flt.recovery = none)
    (hcause : cause = (if exception then 5 else 4)) :
    completes (.coreHang core exception) s (fun t =>
      (1, core.val) ∈ t.flt.inReset ∧ logged s t 1 core.val cause ∧ raised t Ev.FLT.FAULT ∧ ((1, core.val), s.epoch) ∈ t.flt.resets ∧
      (∀ l ∈ lanesOnCore s core.val, (t.lane l).restart = true) ∧ t.flt.retired = s.flt.retired ∧
      (∀ i ∈ usersOf s 1 core.val, (t.sprout i).state = .pulled ∧ (t.sprout i).reason = .fault) ∧
      (usersOf s 1 core.val = [] → frame [.flt, .mgr, .fab, .twc] (Reg.FLT.TRANSIENT_CNT :: evWords Ev.FLT.FAULT) s t) ∧
      pageFrame pullParts (0x071 :: pullPages) s t) := by
  have hserved : servedLanes s 1 core.val = lanesOnCore s core.val := if_pos rfl
  have h := transient_completes (coreHang_transient core exception hrx hr ha hn hd hcause) rfl
  rw [hserved] at h
  exact h

theorem accelFault_transient (hrx : s.receiving = true) (h2 : 2 ≤ unit) (h6 : unit ≤ 6) (hi : inst < unitInstances unit)
    (hr : s.flt.retired.contains (unit, inst) = false) (hrec : recoveringUnits s = []) (ha : isRecovering s (unit, inst) = false)
    (hn : recentResets s (unit, inst) < 3) (hd : s.flt.recovery = none) :
    completes (.accelFault unit inst) s (fun t =>
      (unit, inst) ∈ t.flt.inReset ∧ logged s t unit inst 4 ∧ raised t Ev.FLT.FAULT ∧
      (∀ l ∈ servedLanes s unit inst, (t.lane l).restart = true) ∧
      (∀ i ∈ usersOf s unit inst, (t.sprout i).state = .pulled ∧ (t.sprout i).reason = .fault) ∧
      (usersOf s unit inst = [] → frame [.flt, .mgr, .fab, .twc] (Reg.FLT.TRANSIENT_CNT :: evWords Ev.FLT.FAULT) s t) ∧
      pageFrame pullParts (0x071 :: pullPages) s t) := by
  have hexec := accelFault_faults (s := s) hrx h2 h6 hi
  rw [unitFault_transient (hasReset_accel h2 h6) hr ha hn hd (by rw [hrec]; exact Bool.and_false _)] at hexec
  obtain ⟨t, he, hin, hlog, hraised, -, hrestart, -, husers, halone, hpages⟩ := transient_completes hexec (hasReset_accel h2 h6)
  exact ⟨t, he, hin, hlog, hraised, hrestart, husers, halone, hpages⟩

theorem accelFault_recovery (hrx : s.receiving = true) (h3 : 3 ≤ unit) (h5 : unit ≤ 5) (hi : inst < unitInstances unit)
    (hr : s.flt.retired.contains (unit, inst) = false) (hrec : recoveringUnits s ≠ []) (ha : isRecovering s (unit, inst) = false)
    (hn : recentResets s (unit, inst) < 3) (hd : s.flt.recovery = none) :
    exec (.accelFault unit inst) s = commit s (announce s (recoverySet unit inst 4 s)) := by
  have hexec := accelFault_faults (s := s) hrx (by omega) (by omega) hi
  rwa [unitFault_recovery (hasReset_accel (by omega) (by omega)) hr ha hn hd
    (by rw [sharedUnit_accel h3 h5, List.isEmpty_eq_false_iff.mpr hrec]; rfl)] at hexec

/-- Settles O51: a fault that pulls its unit's users (`faulted_leaves`, `pullUsers_sprout`) leaves what its reset, its device recovery or its retirement
then adds (`transient_shows`, `recoverySet_shows`, `coreRetired_shows`); what capacity that falls and the change to SAFE leave is said once
(`recapacity_parts`, `changeMode_saves`). -/
theorem faultsComplete : Obligations.FaultsComplete := by
  unfold Obligations.FaultsComplete
  exact ⟨fun core exception _ cause hrx hr ha hn hd hc => coreHang_completes core exception cause hrx hr ha hn hd hc,
    fun core exception _ hrx hr h => coreHang_permanent core exception hrx hr h,
    fun _ _ _ hrx h2 h6 hi hr hrec ha hn hd => accelFault_transient hrx h2 h6 hi hr hrec ha hn hd,
    fun _ _ _ hrx h3 h5 hi hr hrec ha hn hd => recoverySet_completes (accelFault_recovery hrx h3 h5 hi hr hrec ha hn hd),
    fun _ _ _ h => unitResetDone_completes h,
    fun _ _ _ _ _ he => recoveringEnd_completes he,
    fun _ _ _ hr hb he => deviceRecoveryReset_completes hr hb he,
    fun _ _ hr hb hu => deviceRecoveryDone_completes hr hb hu,
    fun _ _ _ hs hb he hc hst => safeEntry_enters hs hb he hc hst,
    fun _ _ _ hs hb he hc hst => safeEntry_stops hs hb he hc hst,
    fun port v _ h => faultLogClear_completes port v h⟩

end Sys2Proof.Machine.Reception
